-- ==== Sys2Proof/Word.lean ====
section
/-! DEFINITION. The words the hardware is built from: bytes, 48-bit native words and 96-bit values (R8, R9). -/

namespace Sys2Proof

/-- One byte. -/
abbrev Byte := BitVec 8

/-- The native word, 48 bits (R8). -/
abbrev Word := BitVec 48

/-- A parameter value as held: one native word in bits 47:0, or the two words of a counter (R8, R579). -/
abbrev Wide := BitVec 96

end Sys2Proof
end

