-- ==== Sys2Proof/Args.lean ====
section
/-! DEFINITION. What commands carry: numbers of units, registers and loops, and the measured quantities of an event. -/

namespace Sys2Proof

/-- Logical ports LP000 to LP255, cages, lanes, pools, rings, channels and the like, numbered from 0. -/
abbrev LpNo := Fin 256
abbrev CageNo := Fin 64
abbrev LaneNo := Fin 512
abbrev BundleNo := Fin 256
/-- Chiplet links, numbered 2c + h. -/
abbrev LinkNo := Fin 16
abbrev PoolNo := Fin 4
abbrev RingNo := Fin 64
abbrev ChanNo := Fin 64
abbrev SlotNo := Fin 16
abbrev BankNo := Fin 2
abbrev TrunkNo := Fin 2
/-- EMU channels, reference candidates less one, clock domains, queues of class 0x0F. -/
abbrev EmuNo := Fin 16
abbrev CandNo := Fin 15
abbrev DomainNo := Fin 8
abbrev QueueNo := Fin 2336
abbrev StreamNo := Fin 4096
/-- Sensors and replicas less one. -/
abbrev SensorNo := Fin 16
abbrev ReplicaNo := Fin 9
/-- A function of the host link: PF0, PF1, PF2. -/
abbrev FnNo := Fin 3
/-- Links of Cresor: the logical ports, then the trunks. -/
abbrev CrsNo := Fin 258

/-- The Pistes. -/
inductive PisteNo where
  | A | B
deriving DecidableEq, Repr

/-- The instance of a Piste in class 0x05. -/
def PisteNo.inst : PisteNo → Nat
  | .A => 1
  | .B => 2

/-- The two register BARs of a function (R614). -/
inductive Bar where
  | bar0 | bar2
deriving DecidableEq, Repr

def Bar.num : Bar → Nat
  | .bar0 => 0
  | .bar2 => 2

/-- A clock port of a Piste: a logical port or a trunk. -/
inductive ClkPortNo where
  | port (n : LpNo)
  | trunk (t : TrunkNo)
deriving DecidableEq, Repr

/-- Its instance in class 0x05. -/
def ClkPortNo.inst : ClkPortNo → Nat
  | .port n => 0x100 + n.val
  | .trunk t => 0x300 + t.val

/-- What a REGISTER_WRITE names: a register of a function's BAR, or a parameter item. -/
inductive WriteTo where
  | reg (fn : FnNo) (bar : Bar) (off : BitVec 24) (v : BitVec 32)
  | item (id : BitVec 32) (v : Word)
deriving DecidableEq, Repr

/-- The adaptive loops (R54): a Piste's bandwidth, an equaliser stage of a lane, the core voltage. -/
inductive LoopNo where
  | servo (k : PisteNo)
  | lane (l : LaneNo) (stage : Fin 6)
  | vcore
deriving DecidableEq, Repr

/-- The kinds of shadow set (R517): a shaper, a block of 16 policers, a gate list. -/
inductive ShadowNo where
  | shp (i : Fin 2560)
  | pol (i : Fin 4096)
  | slw (i : LpNo)
deriving DecidableEq, Repr

/-- What may be tested: a port lane, or a pair of a trunk (R558). -/
inductive TestUnit where
  | lane (l : LaneNo)
  | trunk (t : TrunkNo) (pair : Fin 4)
deriving DecidableEq, Repr

namespace Machine

/-- The operands of an ingress stamp: lane, D, P and A, and G_rx in 2^-16 ns (R110). -/
structure RxTerms where
  lane : Nat
  dsk : Nat
  pos : Nat
  am : Nat
  g : Nat
deriving DecidableEq, Repr

/-- The ranges of the receive terms (R109). -/
def RxTerms.ok (t : RxTerms) : Bool := decide (t.lane ≤ 7 ∧ t.dsk ≤ 6800 ∧ t.pos ≤ 5439 ∧ t.am ≤ 3 ∧ t.g ≤ 65536)

/-- The operands of a commitment: the lane of the stamped bit, O and A, and G_tx in 2^-16 ns (R111). -/
structure TxTerms where
  lane : Nat
  o : Nat
  a : Nat
  g : Nat
deriving DecidableEq, Repr

/-- The ranges of the transmit terms (R109). -/
def TxTerms.ok (t : TxTerms) : Bool := decide (t.lane ≤ 7 ∧ t.o ≤ 5439 ∧ t.a ≤ 3 ∧ t.g ≤ 65536)

/-- A MAC control frame as it is received: the terms of its stamp, and its bytes without the FCS (R107, R375). -/
structure ControlFrame where
  terms : RxTerms
  bytes : List Byte
deriving DecidableEq, Repr

/-- What may break a link: its lanes or PCS, whose alignment is then unknown (R117), or a fault received (R365, R396). -/
inductive Break where
  | lanes | pcs | localFault | remoteFault
deriving DecidableEq, Repr

/-- A training set as it arrives (R553): whether K28.5 stood in the same slot on every pair, and per receive pair symbol 1 as received
and symbols 2 and 3 after the pair's inversion is corrected; pair `k` stands in bits 24k + 23 down to 24k, symbol 1 lowest. -/
structure TrainSet where
  aligned : Bool
  syms : BitVec 96
deriving DecidableEq, Repr

/-- A plugged optic (R739, R775): its advertised maximum power in 0.25 W, and the power it draws in low-power and in high-power mode in
10 mW. -/
structure Optic where
  max : Nat
  low : Nat
  high : Nat
deriving DecidableEq, Repr

end Machine

end Sys2Proof
end

