-- ==== Sys2Proof/Syntax.lean ====
section
/-! DEFINITION. The commands of the block: one constructor for each row of the table of commands, with what the command carries. -/

namespace Sys2Proof

/-- A command (what the manual's table of commands lists), or an event that stands as one. -/
inductive Instr where
  /-- BAR_WRONG_WIDTH_ACCESS (R10): A BAR access that is not a naturally aligned 32-bit access reads 0xFF in every byte or is discarded. -/
  | barWrongWidthAccess (off : BitVec 24) (bytes : Fin 4097) (write : Bool)
  /-- SPLIT_LOW_REGISTER_READ (R11): A read of the lower register of a 48- or 64-bit value latches the upper part for the next read of the higher register. -/
  | splitLowRegisterRead (fn : FnNo) (bar : Bar) (off : BitVec 24)
  /-- SPLIT_LOW_REGISTER_WRITE (R11): A write to the lower register of a split value is held until the higher register is written. -/
  | splitLowRegisterWrite (fn : FnNo) (off : BitVec 24) (v : BitVec 32)
  /-- SPLIT_HIGH_REGISTER_WRITE (R11): A write to the higher register makes the whole held split value take effect at once. -/
  | splitHighRegisterWrite (fn : FnNo) (off : BitVec 24) (v : BitVec 32)
  /-- REGISTER_WRITE (R13): A write of a register or parameter field with no row of its own, applied under its access code. -/
  | registerWrite (w : WriteTo)
  /-- COMMAND_FETCH (R627): The module fetches the next command of a ring once the fetch conditions hold, reserving its completion slot. -/
  | commandFetch (entry : BitVec 512)
  /-- PARAM_READ (R639): Reads up to 64 consecutive items of one instance captured in one cycle. -/
  | paramRead (r : RingNo) (tag : Byte)
  /-- PARAM_WRITE (R640): Writes up to 4 consecutive items of one instance, all together or none. -/
  | paramWrite (r : RingNo) (tag : Byte)
  /-- TABLE_WRITE (R435): Loads node, transition, profile, key definition, action, exact or ternary records into a rule-set bank. -/
  | tableWrite (r : RingNo) (tag : Byte) (recs : List Byte)
  /-- SEAL (R436): Checks a LOADABLE bank and starts its sealing and measurement. -/
  | sealBank (r : RingNo) (tag : Byte)
  /-- SEAL_COMPLETE (R436): The bank's check and measurement end, and it becomes SEALED or returns to LOADABLE. -/
  | sealComplete (k : BankNo)
  /-- OPEN (R435): Returns a SEALED bank to LOADABLE. -/
  | openBank (r : RingNo) (tag : Byte)
  /-- CLONE (R437): Starts copying the active bank's programs and exact-match visibility into the named bank. -/
  | cloneBank (r : RingNo) (tag : Byte)
  /-- CLONE_COMPLETE (R437): The clone ends and the bank returns to LOADABLE. -/
  | cloneComplete (k : BankNo)
  /-- TABLE_LOAD_BLOCK (R648): A TABLE_WRITE block and its records taken whole from a bulk table-load DMA channel is checked and applied. -/
  | tableLoadBlock (ch : Fin 8) (addr : BitVec 64) (last : Bool) (irq : Bool) (next : BitVec 64) (data : List Byte) (again : Bool)
  /-- EPOCH_ARM (R438): Arms an EPOCH_SWAP for a SEALED bank and makes it ARMED. -/
  | epochArm (r : RingNo) (tag : Byte)
  /-- TIMELINE_ADD (R85): Checks an action block and arms the action in its trigger store. -/
  | timelineAdd (r : RingNo) (tag : Byte)
  /-- TIMELINE_CANCEL (R95): Disarms an armed action by handle, or reports that it has already fired. -/
  | timelineCancel (r : RingNo) (tag : Byte)
  /-- COUNTER_READ (R583): Reads one RS item and writes its stamped 40-byte record to host memory. -/
  | counterRead (r : RingNo) (tag : Byte)
  /-- SWEEP_DEFINE (R589): COUNTER_SWEEP DEFINE copies a list of IDs and a destination for a sweep. -/
  | sweepDefine (r : RingNo) (tag : Byte) (ids : List (BitVec 32))
  /-- SWEEP_START (R591): COUNTER_SWEEP START queues a defined sweep to run. -/
  | sweepStart (r : RingNo) (tag : Byte)
  /-- SWEEP_ABORT (R593): COUNTER_SWEEP ABORT stops a sweep after the record in progress and writes its trailer. -/
  | sweepAbort (r : RingNo) (tag : Byte)
  /-- ATTEST_REPORT (R687): ATTEST REPORT writes a signed report of the measurement registers and programs. -/
  | attestReport (r : RingNo) (tag : Byte)
  /-- ATTEST_CERTIFICATE (R686): ATTEST CERTIFICATE writes the factory certificate of the attestation key. -/
  | attestCertificate (r : RingNo) (tag : Byte)
  /-- ATTEST_LOG (R686): ATTEST LOG writes up to 30 measurement log entries from LOG_START. -/
  | attestLog (r : RingNo) (tag : Byte)
  /-- IMAGE_STAGE (R696): Writes one image chunk into the bank Eodin is not running from. -/
  | imageStage (r : RingNo) (tag : Byte) (data : List Byte)
  /-- VERIFY (R697): IMAGE_COMMIT VERIFY checks the staged image and writes a boot pointer naming it. -/
  | verify (r : RingNo) (tag : Byte)
  /-- ACTIVATE (R697): IMAGE_COMMIT ACTIVATE ends Keep commits, checkpoints and enters the warm path into the new image. -/
  | activate (r : RingNo) (tag : Byte)
  /-- STORE_STATUS (R693): Reports the commit count and remaining endurance of a Keep item, copy or the whole store. -/
  | storeStatus (r : RingNo) (tag : Byte)
  /-- PORT_ADMIN (R368): Sets or clears ADMIN of a logical port by command. -/
  | portAdmin (r : RingNo) (tag : Byte)
  /-- CAL_RUN (R349): Checks and accepts a calibration run against a user reference. -/
  | calRun (r : RingNo) (tag : Byte)
  /-- CRESOR_SEND_REQUEST (R673): CRESOR_SEND REQUEST carries a command entry to one node or floods it to all nodes. -/
  | cresorSendRequest (r : RingNo) (tag : Byte) (entry : BitVec 512)
  /-- KEY_LOAD (R670): CRESOR_SEND KEY_LOAD commits a key with its KEY_ID, permissions and flags to a key slot. -/
  | keyLoad (r : RingNo) (tag : Byte) (key : BitVec 384)
  /-- KEY_CLEAR (R670): CRESOR_SEND KEY_CLEAR empties a key slot. -/
  | keyClear (r : RingNo) (tag : Byte)
  /-- POWER_STATE (R712): Requests a move to a power state, with the removal hand-off for S4. -/
  | powerState (r : RingNo) (tag : Byte)
  /-- MBX_ENABLE_SET (R626): Setting ENABLE of a ring zeroes its four indices and starts fetching. -/
  | mbxEnableSet (r : RingNo) (v : BitVec 32)
  /-- MBX_ENABLE_CLEAR (R629): Clearing ENABLE stops fetching; the ring becomes QUIESCED when in-flight commands complete. -/
  | mbxEnableClear (r : RingNo) (v : BitVec 32)
  /-- MBX_CMD_TAIL_WRITE (R626): The host advances the command tail, or the write is discarded with CFG_STICKY. -/
  | mbxCmdTailWrite (r : RingNo) (v : BitVec 32)
  /-- MBX_CPL_HEAD_WRITE (R626): The host consumes completions, or the write is discarded with CFG_STICKY. -/
  | mbxCplHeadWrite (r : RingNo) (v : BitVec 32)
  /-- FUNCTION_LEVEL_RESET (R617): An FLR disables rings on PF0 or returns the function's DMA channels to IDLE. -/
  | functionLevelReset (fn : FnNo)
  /-- BUS_MASTER_DISABLE (R618): Bus Master Enable going to 0 stops the function's DMA channels and holds mailbox fetch and posting. -/
  | busMasterDisable (fn : FnNo)
  /-- BUS_MASTER_ENABLE (R618): Bus Master Enable returning to 1 lets held completions post and fetching resume. -/
  | busMasterEnable (fn : FnNo)
  /-- DMA_RUN_SET (R652): Setting RUN starts a channel from IDLE or resumes it from STOPPED or ERROR. -/
  | dmaRunSet (ch : ChanNo) (roData : Bool) (again : Bool) (next : BitVec 64)
  /-- DMA_RUN_CLEAR (R652): Clearing RUN takes a channel to STOPPING or, when PARKED, to STOPPED. -/
  | dmaRunClear (ch : ChanNo) (roData : Bool)
  /-- DMA_RESET (R652): RESET returns a STOPPED or ERROR channel to IDLE. -/
  | dmaReset (ch : ChanNo) (roData : Bool)
  /-- DMA_KICK (R651): A kick makes a parked engine re-read the tail's CTRL or sets PENDING. -/
  | dmaKick (ch : ChanNo) (again : Bool) (next : BitVec 64)
  /-- DESCRIPTOR_COMPLETE (R650): The engine finishes a descriptor, writes its STATUS, increments DMA_DONE and parks at END. -/
  | descriptorComplete (ch : ChanNo) (addr : BitVec 64) (ctrl : BitVec 32) (next : BitVec 64) (data : List Byte) (again : Bool)
  /-- HOLDOFF_EXPIRY (R653): HOLDOFF µs after the first completion since the last event, an end-of-count event occurs. -/
  | holdoffExpiry (ch : ChanNo)
  /-- PUNT_TRUNC_TIMEOUT (R649): A punted frame cut by the end of the chain is truncated after 1 ms without a kick. -/
  | puntTruncTimeout (ch : Fin 32)
  /-- INJECT_FRAME (R647): A frame with its inject header taken whole from an inject channel enters the Core die or is refused. -/
  | injectFrame (ch : SlotNo) (addr : BitVec 64) (last : Bool) (irq : Bool) (next : BitVec 64) (data : List Byte) (again : Bool)
  /-- TK_FREQ_ADJ_WRITE (R62): A host write of TK_FREQ_ADJ, refused while the servo steers. -/
  | tkFreqAdjWrite (v : Word)
  /-- TK_PHASE_ADJ_WRITE (R66): A host phase adjustment is checked and sent to the Timing die for decision. -/
  | tkPhaseAdjWrite (v : Word)
  /-- TK_SET_WRITE (R67): An absolute time written to TK_SET is decided as a step on arrival. -/
  | tkSetWrite (w0 : Word) (w1 : Word)
  /-- TK_CTRL_WRITE (R177): A write of STEER and STEP_EN; returning STEER to servo performs a switch-over to ACTIVE. -/
  | tkCtrlWrite (v : Word)
  /-- TKW_NS_READ (R72): A read of TKW_NS captures network time into its latch slot. -/
  | tkwNsRead (k : SlotNo)
  /-- REPLICA_CHECK (R75): At a replica's 100 µs marker the EMU measures its offset and slews the correction. -/
  | replicaCheck (m : BitVec 24)
  /-- TIME_BUS_LOST (R41): A replica that loses the time bus continues at its last rate under REPLICA_FAULT. -/
  | timeBusLost (k : ReplicaNo)
  /-- TIME_BUS_RETURN (R77): A replica whose time bus returns reloads from the next tick word. -/
  | timeBusReturn (k : ReplicaNo)
  /-- EPOCH_SWAP (R439): The armed bank becomes ACTIVE and the old one DRAINING at the trigger. -/
  | epochSwap (lag : BitVec 64)
  /-- SHADOW_HANDOVER (R522): At its effect time the action hands over its captured shadow sets, or is MISSED. -/
  | shadowHandover (lag : BitVec 64)
  /-- PORT_ADMIN_ACTION (R98): A Timeline PORT_ADMIN sets or clears ADMIN of its ports. -/
  | portAdminAction (lag : BitVec 64)
  /-- TIME_OUTPUT_PROGRAM (R186): The pending program of TOA or TOB becomes active. -/
  | timeOutputProgram (lag : BitVec 64)
  /-- COUNTER_SWEEP_START (R591): A Timeline action queues a sweep as a START. -/
  | counterSweepStart (lag : BitVec 64)
  /-- CAL_WINDOW (R350): A Timeline action opens the window of a waiting SCHEDULED calibration run. -/
  | calWindow (lag : BitVec 64)
  /-- FRAME_HEAD_RX (R110): A frame's first word is detected and its ingress stamp computed with its flags. -/
  | frameHeadRx (n : LpNo) (t : Machine.RxTerms) (head : List Byte)
  /-- CLASSIFY_PASS (R403): A pass parses, looks up and runs action programs, then admits copies or recirculates. -/
  | classifyPass (frame : Nat)
  /-- PASS_LATE (R405): A pass not complete 2 µs after its start drops the frame with PASS_LATE. -/
  | passLate (frame : Nat)
  /-- BUFFER_REQUEST (R462): The pool allocator serves a frame's buffer request in its rotation. -/
  | bufferRequest (pool : PoolNo) (start : Fin 17)
  /-- SPILL (R463): An unserved request moves to the next larger pool's next cycle, or drops with POOL_EMPTY. -/
  | spill (pool : PoolNo)
  /-- FRAME_TAIL_RX (R370): At a frame's tail the MAC checks it, fixes its outcome and stomps or drops a bad frame. -/
  | frameTailRx (n : LpNo) (rest : List Byte) (fcs : BitVec 32) (err : Option Nat)
  /-- LAUNCH_COMMITMENT (R118): The egress MAC commits a frame, fixes its egress time, charges shapers and rewrites it. -/
  | launchCommitment (n : LpNo) (t : Machine.TxTerms)
  /-- LAST_BYTE_SENT (R466): A copy's last byte is sent, releasing its buffer at reference count 0. -/
  | lastByteSent (n : LpNo)
  /-- VAR_UNKNOWN_END (R117): After two alignment-marker periods on every lane a port's stamps lose VAR_UNKNOWN. -/
  | varUnknownEnd (n : LpNo)
  /-- SERVO_UPDATE (R148): At each 62.5 ms a servo updates its Piste's loop, state and steering. -/
  | servoUpdate (k : PisteNo)
  /-- PISTE_LOCKED (R149): After 16 consecutive non-empty updates within threshold the Piste becomes LOCKED. -/
  | pisteLocked (k : PisteNo)
  /-- PISTE_LOST (R149): After 16 consecutive empty updates the Piste becomes LOST. -/
  | pisteLost (k : PisteNo)
  /-- PTE_PISTE_CTRL_WRITE (R147): A Piste configuration write, refused while enabled for profile or source changes. -/
  | ptePisteCtrlWrite (k : PisteNo) (v : Word)
  /-- SERVO_BW_UPDATE (R170): Once per second a Piste's bandwidth loop moves toward its demand within its bounds. -/
  | servoBwUpdate (k : PisteNo) (demand : BitVec 24)
  /-- BOUNDS_WRITE (R48): A BOUNDS write of an adaptive loop, applying from the next update. -/
  | boundsWrite (loop : LoopNo) (v : Word)
  /-- BEST_MASTER_SELECTION (R162): Eodin reruns selection at least once per announce interval and loads the result. -/
  | bestMasterSelection (k : PisteNo)
  /-- ANNOUNCE_RECEIPT_TIMEOUT (R163): The engine takes a SLAVE port to LISTENING when announceReceiptTimeout expires. -/
  | announceReceiptTimeout (p : ClkPortNo) (k : PisteNo)
  /-- SYNC_TX (R152): The engine originates a one-step Sync at its configured rate. -/
  | syncTx (n : LpNo) (k : PisteNo)
  /-- ANNOUNCE_TX (R162): The engine originates an Announce at its configured rate. -/
  | announceTx (n : LpNo) (k : PisteNo)
  /-- DELAY_REQ_TX (R158): The engine originates a Delay_Req with RETURN at its configured rate. -/
  | delayReqTx (n : LpNo) (k : PisteNo)
  /-- PDELAY_REQ_TX (R158): The engine originates a Pdelay_Req with RETURN at its configured rate. -/
  | pdelayReqTx (n : LpNo) (k : PisteNo)
  /-- TRUNK_MARKER_TX (R181): At each 1 ms a trunk sends a marker followed by its time word. -/
  | trunkMarkerTx (t : TrunkNo)
  /-- TRUNK_MARKER_RX (R182): A received marker is stamped on CH6 or CH7 and its cycle count reported. -/
  | trunkMarkerRx (t : TrunkNo) (bin : Fin 512) (cycles : BitVec 32)
  /-- TIME_WORD_RX (R181): A time word taken whole is checked and completes a trunk exchange. -/
  | timeWordRx (t : TrunkNo) (w : List Byte)
  /-- TRUNK_MARKERS_STOPPED (R184): A trunk whose markers stop for 16 servo updates goes FAULTY. -/
  | trunkMarkersStopped (t : TrunkNo)
  /-- ANNOUNCE_RECORD_TX (R183): Every 125 ms a trunk sends an Announce record for each enabled Piste. -/
  | announceRecordTx (t : TrunkNo)
  /-- ANNOUNCE_RECORD_RX (R183): A trunk Announce record takes part in selection. -/
  | announceRecordRx (t : TrunkNo)
  /-- QL_RECORD_TX (R255): Once per second a trunk sends its QL record. -/
  | qlRecordTx (t : TrunkNo)
  /-- QL_RECORD_RX (R255): A trunk QL record sets the trunk candidate's level. -/
  | qlRecordRx (t : TrunkNo)
  /-- QL_RECORD_TIMEOUT (R255): A trunk with no valid QL record for 5 s takes QL-FAILED. -/
  | qlRecordTimeout (t : TrunkNo)
  /-- TOD_SENTENCE_RX (R192): A received sentence is accepted, qualifying the source, or refused. -/
  | todSentenceRx (text : List Byte)
  /-- EMU_EDGE (R224): A qualified edge is counted, stamped if possible and used by consumers and the mode. -/
  | emuEdge (c : EmuNo) (bin : Fin 512) (rise : Bool)
  /-- INTERPOLATOR_EXCHANGE (R222): At each whole second the interpolators exchange roles and the new bin table is used or rejected. -/
  | interpolatorExchange (c : EmuNo) (hits : List Nat)
  /-- INTERVAL_TIMEOUT (R232): An interval with no stop within EMU_TIMEOUT writes a TIMEOUT entry and re-arms. -/
  | intervalTimeout (c : EmuNo)
  /-- GATE_END (R233): At each gate end a frequency entry is written. -/
  | gateEnd (c : EmuNo)
  /-- NO_EDGE_TIMEOUT (R218): No qualified edge for 1.1 s sets NOEDGE_LIVE. -/
  | noEdgeTimeout (c : EmuNo)
  /-- EMUH_RD_WRITE (R237): The host consumes entries of an EMU stream head. -/
  | emuhRdWrite (c : EmuNo) (v : BitVec 32)
  /-- EMU_FLUSH_EXPIRY (R238): An entry waiting EMU_FLUSH closes its telemetry buffer. -/
  | emuFlushExpiry (c : EmuNo)
  /-- EMU_CTRL_WRITE (R239): A write of a channel's mode and queue control, refused BUSY under R239 or R215. -/
  | emuCtrlWrite (c : EmuNo) (v : Word)
  /-- MONITOR_SECOND (R250): At each whole second the monitors sample every candidate, judge drift and vote. -/
  | monitorSecond (theta : BitVec 24)
  /-- SUSPECT_CLEAR (R260): After 1,000 clean seconds SUSPECT_LIVE returns to 0. -/
  | suspectClear (i : CandNo)
  /-- CANDIDATE_WTR_END (R258): REFC_WTR elapses and a QUALIFYING candidate becomes QUALIFIED. -/
  | candidateWtrEnd (i : CandNo)
  /-- CANDIDATE_FAIL (R247): A candidate's failure condition begins and it becomes FAILED. -/
  | candidateFail (i : CandNo)
  /-- CANDIDATE_FAIL_END (R258): A FAILED candidate's conditions end and it enters QUALIFYING. -/
  | candidateFailEnd (i : CandNo)
  /-- ESMC_TIMEOUT (R253): A port with no valid PDU for 5 s takes QL-FAILED. -/
  | esmcTimeout (n : LpNo)
  /-- ESMC_INFO_TX (R254): Once per second each enabled port sends an information PDU. -/
  | esmcInfoTx (n : LpNo)
  /-- ESMC_EVENT_TX (R254): Within 10 ms of a change of output level an event PDU is sent. -/
  | esmcEventTx (n : LpNo)
  /-- REFC_CTRL_WRITE (R248): A candidate write; enabling sets OWNER and starts qualification. -/
  | refcCtrlWrite (i : CandNo) (v : Word)
  /-- REFC_GLB_CTRL_WRITE (R273): A write of the selector MODE, option and manual candidate. -/
  | refcGlbCtrlWrite (v : Word)
  /-- CD_PLL_DIV_WRITE (R306): An accepted divider word moves the domain to bypass and starts re-locking. -/
  | cdPllDivWrite (i : DomainNo) (v : Word)
  /-- RETURN_FROM_BYPASS (R306): After 4,096 in-lock comparisons the domain returns to its PLL. -/
  | returnFromBypass (i : DomainNo)
  /-- LOCKFAIL_TIMEOUT (R308): No lock within 10 ms sets LOCKFAIL. -/
  | lockfailTimeout (i : DomainNo)
  /-- PLL_RELOCK_RETRY (R308): Every 100 ms a failing PLL is reset and starts locking again. -/
  | pllRelockRetry (i : DomainNo)
  /-- LOSS_OF_LOCK (R318): After 8 out-of-lock comparisons a connected PLL's domain moves to bypass. -/
  | lossOfLock (i : DomainNo)
  /-- TWIN_MEASUREMENT (R333): Each second a Twin lane loop is measured and Δa moves toward its demand. -/
  | twinMeasurement (g : CageNo) (tau : Word) (back : BitVec 16) (rms : BitVec 32) (stepped : Bool)
  /-- TWIN_STALE (R335): A group without a valid measurement for TWIN_STALE becomes stale. -/
  | twinStale (g : CageNo)
  /-- CAL_WINDOW_CLOSE (R353): A run's window closes and its result decides a user record write. -/
  | calWindowClose (lanes : List (List (Int × Bool)))
  /-- MAC_CAGE_CTRL_WRITE (R363): A cage mode write, refused unless all ports are down, restarts bring-up. -/
  | macCageCtrlWrite (c : CageNo) (v : Word)
  /-- ADMIN_WRITE (R364): A write of ADMIN in MAC_CTRL takes a port up to DOWN or to ADMIN_DOWN. -/
  | adminWrite (n : LpNo) (up : Bool)
  /-- LINK_GOOD (R365): A port's link becomes good, moving it to FLUSHING or HOLD. -/
  | linkGood (n : LpNo)
  /-- LINK_BREAK (R365): A condition breaking the link begins, failing it at once in FLUSHING. -/
  | linkBreak (n : LpNo) (by_ : Machine.Break)
  /-- DOWN_DEBOUNCE_EXPIRY (R365): A break lasting DOWN_DEBOUNCE fails the link and takes the port to DOWN. -/
  | downDebounceExpiry (n : LpNo)
  /-- FLUSH_COMPLETE (R477): A port's flush ends, moving it to HOLD if its link is good. -/
  | flushComplete (n : LpNo)
  /-- UP_HOLD_EXPIRY (R364): A link good for UP_HOLD takes the port to UP. -/
  | upHoldExpiry (n : LpNo)
  /-- MAC_CONTROL_FRAME_RX (R375): A received MAC control frame is consumed and acts as PAUSE or PFC or is dropped. -/
  | macControlFrameRx (n : LpNo) (frame : Machine.ControlFrame) (fcs : BitVec 32) (err : Bool)
  /-- PAUSE_EXPIRY (R376): A class's pause time runs out. -/
  | pauseExpiry (n : LpNo) (p : Fin 8)
  /-- PAUSE_WATCHDOG (R378): A class paused for PAUSE_WD is overridden. -/
  | pauseWatchdog (n : LpNo) (p : Fin 8)
  /-- WD_RELEASE (R378): WD_RELEASE without pause naming the class ends its override. -/
  | wdRelease (n : LpNo) (p : Fin 8)
  /-- PFC_REPEAT (R379): A standing PFC request is repeated after 32,768 quanta. -/
  | pfcRepeat (n : LpNo) (p : Fin 8)
  /-- FRER_RECOVERY_RESET (R389): No frame for RESET_MS resets a stream's recovery. -/
  | frerRecoveryReset (stream : StreamNo)
  /-- FRER_CTRL_WRITE (R401): A stream control write; changing ALG, HISTORY or RECOVER resets recovery. -/
  | frerCtrlWrite (stream : StreamNo) (v : Word)
  /-- BANK_DRAINED (R440): A DRAINING bank's in-flight count reaches 0 and it becomes LOADABLE. -/
  | bankDrained (k : BankNo)
  /-- CLS_PUNT_CTRL_WRITE (R443): A punt reason write clips the limiter's credit to the new BURST. -/
  | clsPuntCtrlWrite (reason : BitVec 8) (v : Word)
  /-- RINK_POOL_LIM_WRITE (R468): A RESERVE or REOPEN write judges EXH_LIVE at once. -/
  | rinkPoolLimWrite (pool : PoolNo) (v : Word)
  /-- AGEING_EXAMINATION (R473): The ageing engine drops a head copy older than AGE. -/
  | ageingExamination (q : QueueNo)
  /-- SHADOW_SEAL (R519): SEAL checks an OPEN shadow set and seals it, capturing it for a tick with AT_TICK. -/
  | shadowSeal (set : ShadowNo) (atTick : Bool)
  /-- SHADOW_OPEN (R520): OPEN returns a SEALED shadow set to OPEN. -/
  | shadowOpen (set : ShadowNo)
  /-- SHP_RESET_BUCKET (R528): Sets each bucket to its depth and removes the wheel entry at the next tick. -/
  | shpResetBucket (shp : Fin 2560)
  /-- SIGNAL_DETECT (R541): Signal detected for 1 ms moves a lane to CDR. -/
  | signalDetect (l : LaneNo)
  /-- CDR_LOCK (R541): Clock recovery locks, moving the lane to TRAIN or ADAPT. -/
  | cdrLock (l : LaneNo)
  /-- LINK_TRAINING_DONE (R541): Both ends report receiver ready and the lane enters ADAPT. -/
  | linkTrainingDone (l : LaneNo) (ffe : BitVec 32)
  /-- ADAPT_CONVERGED (R545): The equaliser converges and the lane becomes READY. -/
  | adaptConverged (l : LaneNo)
  /-- LANE_EQ_UPDATE (R545): Each equaliser stage updates within its bounds. -/
  | laneEqUpdate (l : LaneNo) (demand : List Int)
  /-- LANE_LIMIT_EXPIRY (R542): A lane passing its state limit returns to SIGNAL_WAIT. -/
  | laneLimitExpiry (l : LaneNo)
  /-- SIGNAL_LOSS (R542): Loss of signal for 10 µs or of clock recovery returns a lane to SIGNAL_WAIT. -/
  | signalLoss (l : LaneNo)
  /-- LANE_RESTART (R542): RESTART returns a lane to SIGNAL_WAIT. -/
  | laneRestart (l : LaneNo)
  /-- BUNDLE_FAIL (R548): A failed bundle takes down its chiplet link and its cages. -/
  | bundleFail (b : BundleNo) (crc : BitVec 16)
  /-- BUNDLE_RETRAIN (R548): A failed link is retrained once every 1 s. -/
  | bundleRetrain (k : LinkNo)
  /-- MARGIN_SCAN (R549): Every 10 s a bundle scans its lanes' margins. -/
  | marginScan (b : BundleNo) (left : BitVec 8) (right : BitVec 8) (top : BitVec 8) (bottom : BitVec 8)
  /-- TRUNK_CLOCK_QUALIFIED (R552): The forwarded clock qualifies and the trunk enters CLOCK. -/
  | trunkClockQualified (t : TrunkNo)
  /-- TRUNK_CLOCK_LOST (R552): A lost forwarded clock takes the trunk to DOWN. -/
  | trunkClockLost (t : TrunkNo)
  /-- TRUNK_ALIGNMENT_DONE (R552): Phase training and comma alignment complete and the trunk enters TRAIN. -/
  | trunkAlignmentDone (t : TrunkNo)
  /-- TRAINING_SET_RX (R553): A training set is checked, correcting the lane map, and may bring the trunk UP. -/
  | trainingSetRx (t : TrunkNo) (set : Machine.TrainSet)
  /-- TRUNK_TRAIN_TIMEOUT (R552): A trunk not UP within 10 ms restarts training. -/
  | trunkTrainTimeout (t : TrunkNo)
  /-- CODE_ERROR_BURST (R557): More than 64 code errors in 1 ms return an UP trunk to TRAIN. -/
  | codeErrorBurst (t : TrunkNo) (errors : BitVec 16)
  /-- MESSAGE_FRAME_RX (R555): A trunk message frame taken whole is kept or discarded. -/
  | messageFrameRx (t : TrunkNo) (frame : List Byte)
  /-- TRUNK_RESTART (R575): RESTART returns the trunk to CLOCK and retrains it. -/
  | trunkRestart (t : TrunkNo)
  /-- PRBS_CHECKER_LOCK (R562): 256 matching bits lock the checker. -/
  | prbsCheckerLock (u : TestUnit)
  /-- PRBS_LOCK_LOSS (R562): More than 64 mismatches in 1,024 bits unlock the checker, which relocks. -/
  | prbsLockLoss (u : TestUnit) (bits : Word) (errors : Word)
  /-- INJ_ONE (R563): Inverts one transmitted bit. -/
  | injOne (u : TestUnit)
  /-- EYE_SCAN_START (R564): START places the offset sampler and starts a scan. -/
  | eyeScanStart (u : TestUnit) (v : Word)
  /-- EYE_SCAN_DONE (R564): The scan's dwell ends and DONE is set. -/
  | eyeScanDone (u : TestUnit) (errors : Word)
  /-- CNTW_ID_WRITE (R586): A write of CNTW_ID starts a counter capture in its slot. -/
  | cntwIdWrite (k : SlotNo) (id : BitVec 32)
  /-- COUNTER_CAPTURE_DONE (R586): The slot's capture completes and DONE is set. -/
  | counterCaptureDone (k : SlotNo)
  /-- DEAD_MS_EXPIRY (R663): No HELLO for DEAD_MS returns the adjacency to DOWN. -/
  | deadMsExpiry (k : CrsNo)
  /-- LSR_MAXAGE_EXPIRY (R667): An LSR not refreshed within LSR_MAXAGE is removed. -/
  | lsrMaxageExpiry (node : BitVec 16)
  /-- CRESOR_REQUEST_TIMEOUT (R674): A REQUEST without a whole response within TIMEOUT_MS completes DEGRADED. -/
  | cresorRequestTimeout (corr : BitVec 32)
  /-- KEEP_COMMIT_DONE (R689): A Keep commit is read back and its value takes effect. -/
  | keepCommitDone (id : BitVec 32)
  /-- SPARE_TEST_END (R699): The spare's self-test ends, passing or setting SPARE_LIVE. -/
  | spareTestEnd (pass : Bool)
  /-- FAIL_OVER (R701): A watchdog or core-check failure fences the core and starts Eodin on the spare. -/
  | failOver (core : Option (Fin 5))
  /-- MODULE_RESET (R720): A MODULE reset clears the core package and Patrol die. -/
  | moduleReset (cause : Fin 7) (src : BitVec 16)
  /-- DATA_PLANE_RESET (R720): A DATA_PLANE reset clears the core package, which Eodin restores. -/
  | dataPlaneReset (cause : Fin 7) (src : BitVec 16)
  /-- PATROL_RESET (R720): A PATROL reset clears the Patrol die, keeping the PCIe link. -/
  | patrolReset (cause : Fin 7) (src : BitVec 16)
  /-- STANDBY_START (R728): Power contacts mate, the bulk charges and the standby converter starts. -/
  | standbyStart (slot : CageNo)
  /-- FEED_OUT_OF_RANGE (R729): A feed outside 40 V to 60 V sets its FEED LIVE bit. -/
  | feedOutOfRange (feedB : Bool) (v : BitVec 16)
  /-- UNDERVOLT (R729): Both feeds below 39 V for 10 ms put the module in S4. -/
  | undervolt (a : BitVec 16) (b : BitVec 16)
  /-- VCORE_LOOP_UPDATE (R718): Every 1 ms in S0 the core voltage loop moves toward its demand within bounds. -/
  | vcoreLoopUpdate (demand : BitVec 24)
  /-- SENSORS (R755): SMBus SENSORS returns temperatures, feeds and power. -/
  | sensors (a : BitVec 16) (b : BitVec 16) (power : BitVec 16)
  /-- OPTIC_INSERTION (R739): A plugged optic is powered in low-power mode and admitted to high power within BUDGET. -/
  | opticInsertion (c : CageNo) (o : Machine.Optic)
  /-- OPTIC_REMOVAL (R739): An optic is unplugged and a FAULT switch is released. -/
  | opticRemoval (c : CageNo)
  /-- OPTIC_OVERCURRENT (R739): Overcurrent turns the cage switch off and enters FAULT. -/
  | opticOvercurrent (c : CageNo)
  /-- POWER_EN_WRITE (R774): Setting POWER_EN re-powers a cage and applies a new BUDGET. -/
  | powerEnWrite (c : CageNo) (budget : BitVec 8)
  /-- SENSOR_COMPARE (R763): Each millisecond a sensor compares its reading with WARN. -/
  | sensorCompare (i : SensorNo) (t : BitVec 24)
  /-- THERMAL_TRIP (R763): A reading at TRIP for 1 ms records the trip and enters S4. -/
  | thermalTrip (i : SensorNo)
  /-- FEED_RETURN (R736): A feed that was outside 40 V to 60 V returns into range and its FEEDA_LIVE or FEEDB_LIVE goes to 0. -/
  | feedReturn (feedB : Bool) (v : BitVec 16)
  /-- CHIPLET_LINK_TRAINED (R547): A chiplet link's bundle training completes and the link's bundles become READY, carrying their cages again. -/
  | chipletLinkTrained (k : LinkNo) (maps : List Nat)
  /-- TRUNK_ALIGNMENT_TIMEOUT (R552): A trunk in CLOCK that has not completed phase training and comma alignment within 50 µs restarts its training. -/
  | trunkAlignmentTimeout (t : TrunkNo)
  /-- READ_FAULT (R645): A descriptor or buffer read that ends with an error, or a misaligned or zero-length descriptor, takes the DMA channel to ERROR without writing STATUS. -/
  | readFault (ch : ChanNo)
  /-- SWEEP_READ (R591): The running sweep reads its next ID and delivers a stamped record. -/
  | sweepRead
  /-- STAGE_ERASE_COMPLETE (R696): The bank erase started by a FIRST chunk ends and the chunk is written. -/
  | stageEraseComplete
  /-- STATE_TRANSITION_DONE (R713): The power-state transition reaches its target state. -/
  | stateTransitionDone
  /-- REFILL_TICK (R78): At each multiple of 1,024 ns of network time, rates, slews, steps and every bucket are updated. -/
  | refillTick
  /-- SLOT_BOUNDARY (R79): At each 10 ns slot boundary wheel entries are released and gates may change. -/
  | slotBoundary
  /-- FAR_RING_MOVE (R501): A far-ring bucket's entries move into the wheel before their revolution begins. -/
  | farRingMove
  /-- HANDOVER_CAPTURE (R522): At T − 4 µs the action captures all its targets if every one is SEALED and free. -/
  | handoverCapture
  /-- WAIT_TO_RESTORE_END (R175): The wait-to-restore period ends and the module reverts to the preferred Piste. -/
  | waitToRestoreEnd
  /-- ANNOUNCE_RX (R162): A terminated Announce updates its dataset and may rerun best-master selection. -/
  | announceRx
  /-- SYNC_RX (R168): A terminated Sync at a slave port gives t1 and t2 to the servo. -/
  | syncRx
  /-- FOLLOW_UP_RX (R168): A Follow_Up from a two-step master completes t1. -/
  | followUpRx
  /-- DELAY_REQ_RX (R157): A terminated Delay_Req at a MASTER port is answered by Delay_Resp. -/
  | delayReqRx
  /-- DELAY_RESP_RX (R168): A Delay_Resp completes an end-to-end exchange and gives an offset. -/
  | delayRespRx
  /-- PDELAY_REQ_RX (R169): A terminated Pdelay_Req is answered by a one-step Pdelay_Resp under TURNAROUND. -/
  | pdelayReqRx
  /-- PDELAY_RESP_RX (R159): A Pdelay_Resp completes a link delay exchange and updates the mean. -/
  | pdelayRespRx
  /-- PDELAY_RESP_FOLLOW_UP_RX (R157): A Pdelay_Resp_Follow_Up is terminated at a peer-to-peer port. -/
  | pdelayRespFollowUpRx
  /-- SIGNALING_RX (R155): A unicast negotiation request or grant is served or denied. -/
  | signalingRx
  /-- GRANT_EXPIRY (R155): A unicast grant reaches the end of its duration. -/
  | grantExpiry
  /-- TOD_SENTENCE_TX (R191): Each second the module sends a TOD sentence OUT_DELAY ms after the PPS edge. -/
  | todSentenceTx
  /-- LEAP_FLAG_CLEAR (R194): A held leap flag is cleared at the end of the UTC day it names. -/
  | leapFlagClear
  /-- DELAY_LINE_LOCK (R221): The EMU delay line reaches lock. -/
  | delayLineLock
  /-- DELAY_LINE_LOCK_LOSS (R221): The EMU delay line loses lock, making stamps COARSE. -/
  | delayLineLockLoss
  /-- RAW_COUNTER_WRAP (R226): The cycle counter wraps while SET_LIVE is 0. -/
  | rawCounterWrap
  /-- SELECTOR_LOCKED (R275): After 16 seconds of tracking within threshold the selector becomes LOCKED. -/
  | selectorLocked
  /-- SELECTOR_SWITCH (R272): Within 1 ms of a change the selector chooses a candidate, Glide or free run. -/
  | selectorSwitch
  /-- HO_MAX_EXPIRY (R275): Glide reaching HO_MAX takes the selector to FREE_RUN. -/
  | hoMaxExpiry
  /-- LEARNING_POINT (R264): Every 1,000 s a learning point is added and the oscillator model refitted. -/
  | learningPoint
  /-- ESMC_PDU_RX (R253): A received ESMC PDU sets the port's quality level. -/
  | esmcPduRx
  /-- MODEL_CLEAR (R266): CLEAR empties the oscillator model and its points. -/
  | modelClear
  /-- PLL_T_SLEW_UPDATE (R312): At each 1 ms PLL-T's offset moves toward its target, compensated in TK_FREQ_ADJ. -/
  | pllTSlewUpdate
  /-- CD_SYNC_EMUDIV (R316): An EMUDIV request asks for the EMU dividers to restart at the next second. -/
  | cdSyncEmudiv
  /-- CD_SYNC_PORTDIV (R316): A PORTDIV request asks for the CD1 and CD5 dividers to restart, refused under traffic. -/
  | cdSyncPortdiv
  /-- DIVIDER_SYNC (R316): Requested dividers restart at the first CD2 edge after the next whole second. -/
  | dividerSync
  /-- OSC_FAIL (R323): No oscillator edge for 10 µs reports OSC_FAIL and asserts ALERT_N. -/
  | oscFail
  /-- CAL_WINDOW_OPEN (R351): An OPTIC run's window opens once its loop link gives unflagged stamps. -/
  | calWindowOpen
  /-- CAL_LINK_TIMEOUT (R351): An OPTIC loop not up within 2 s ends the run with LINK. -/
  | calLinkTimeout
  /-- USER_CLEAR (R344): Writes a user record with no entries. -/
  | userClear
  /-- REPARTITION (R460): Applies pending pool counts and rebuilds every free list. -/
  | repartition
  /-- IPFIX_TEMPLATE_REFRESH (R604): Every REFRESH seconds Eodin sends its templates. -/
  | ipfixTemplateRefresh
  /-- HELLO_TX (R663): Every HELLO_MS a node sends a HELLO on each link. -/
  | helloTx
  /-- HELLO_RX (R663): A HELLO moves the adjacency and may reveal an ID collision. -/
  | helloRx
  /-- LSR_REFRESH (R666): A node floods its LSR every LSR_REFRESH or on an adjacency change. -/
  | lsrRefresh
  /-- LSR_RX (R667): A newer LSR is stored and flooded on. -/
  | lsrRx
  /-- ROUTE_COMPUTATION (R668): Within 100 ms of a database change Eodin recomputes shortest paths. -/
  | routeComputation
  /-- CRESOR_MESSAGE_RX (R669): A received message is authenticated, checked for replay and consumed or forwarded. -/
  | cresorMessageRx
  /-- REQUEST_RX (R672): A carried command is checked for permission and executed, with a RESPONSE. -/
  | requestRx
  /-- RESPONSE_RX (R674): A whole RESPONSE completes the originator's REQUEST. -/
  | responseRx
  /-- RESET_MESSAGE_RX (R723): A Cresor RESET is accepted to act 10 ms later, or discarded. -/
  | resetMessageRx
  /-- CRESOR_RESET_ACT (R723): 10 ms after a RESET message the target performs the named reset. -/
  | cresorResetAct
  /-- READY_TIMEOUT (R695): An image not READY within 30 s is restarted, falling back after three failures. -/
  | readyTimeout
  /-- SPARE_SELF_TEST (R699): Every TEST_PERIOD the spare core's island is powered for self-test. -/
  | spareSelfTest
  /-- CHECKPOINT (R700): Every 100 ms Eodin writes a checkpoint. -/
  | checkpoint
  /-- RESTORE_DONE (R723): Eodin finishes restoring the core package after a data-plane reset. -/
  | restoreDone
  /-- WATCHDOG_RESET (R724): 10 s after a failure with no spare, a WATCHDOG reset is performed. -/
  | watchdogReset
  /-- PERST_ASSERT (R720): PERST_N low clears the PCIe core, rings and DMA channels. -/
  | perstAssert
  /-- PERST_RELEASE (R717): PERST_N rising trains the link, and wakes a module in S3. -/
  | perstRelease
  /-- MOD_RST_ASSERT (R720): MOD_RST_N low for 1 µs holds the core package and Patrol in reset. -/
  | modRstAssert
  /-- MOD_RST_RELEASE (R720): MOD_RST_N rising starts the restart. -/
  | modRstRelease
  /-- COLD_START (R726): After INTLK and a feed hold 100 ms, or POWER_ON, the module starts from its first step. -/
  | coldStart
  /-- OVEN_SETTLED (R726): The oven holds within ±0.1 K for 60 s and WARM_LIVE goes to 0. -/
  | ovenSettled
  /-- SURPRISE_REMOVAL (R733): INTLK breaking for 2 µs squelches transmitters and powers off all but the store controller. -/
  | surpriseRemoval
  /-- REMOVE_PRESS (R730): A 0.5 s press of REMOVE raises or cancels a removal request. -/
  | removePress
  /-- REMOVE_TIMEOUT (R731): REMOVE_TIMEOUT passing performs the hand-off or cancels the request. -/
  | removeTimeout
  /-- IDENTITY (R756): SMBus IDENTITY returns the 32-byte identity block. -/
  | identity
  /-- STATUS (R757): SMBus STATUS returns the status word. -/
  | status
  /-- LAST_RESET (R755): SMBus LAST_RESET returns PWR_LAST_RESET. -/
  | lastReset
  /-- POWER_ON (R755): SMBus POWER_ON leaves S3 or S4 for S0 or starts a waiting cold start. -/
  | powerOn
  /-- REMOVE_REQ (R755): SMBus REMOVE_REQ raises a removal request. -/
  | removeReq
  /-- REMOVE_CANCEL (R755): SMBus REMOVE_CANCEL cancels a standing request. -/
  | removeCancel
  /-- ALERT_RESPONSE (R758): A read of the Alert Response Address returns 0xB4 and releases ALERT_N. -/
  | alertResponse
  /-- TRIP_RESTART (R764): After 60 s at 10 °C below WARN a tripped module cold-starts. -/
  | tripRestart
  /-- HLT_TRIP_READ (R772): A read of HLT_TRIP clears TRIPPED_LIVE. -/
  | hltTripRead
  /-- EODIN_READY (R635): Eodin completes its start after a reset, fail-over or activation, sets READY, clears GAP_LIVE and posts the completions of commands fetched before the gap. -/
  | eodinReady
  /-- TOD_SENTENCE_MISSING (R165): An expected TOD sentence that does not arrive disqualifies a SOURCE 1 Piste's external source and sets TOD_LIVE. -/
  | todSentenceMissing
deriving DecidableEq, Repr

end Sys2Proof
end

