-- ==== Sys2Proof/Decode.lean ====
section
/-! DEFINITION. The decoder of the table of commands. -/

namespace Sys2Proof

/-- The command that a word spells by the bits that the table gives its row. The table of commands gives no row any bits: its rows are register
accesses, entries of a ring, frames and events, each of which comes to the module whole. So no word spells a command (assumption 9). -/
def decodeTableWord (_nbits _w : Nat) : Option Instr := none

end Sys2Proof
end

