-- ==== Sys2Proof/Machine/Items.lean ====
section
/-! DEFINITION. The parameter space: every item of every class with its instances, access code and reset value
(R13, R19, the tables of items and the field maps of chapters 2 to 19), and a name for each item and field. -/

namespace Sys2Proof.Machine

/-- A parameter ID: class[31:24], instance[23:12], item[11:0] (R19). An instance or an item number is cut to its field, so that no number
reaches into another class. -/
abbrev pid (cls inst item : Nat) : Nat := cls * 0x1000000 + inst % 0x1000 * 0x1000 + item % 0x1000

/-- A field of a word: its lowest bit and its width. -/
structure Fld where
  lo : Nat
  w : Nat
deriving DecidableEq, Repr

/-- How an item may be accessed as a whole. `ro`: a write is NOT_PERMITTED (R640). `ctr`: a 96-bit counter, RS (R578).
`rs`: another RS item, of one word. `rw`: it holds writable fields. `keep`: RWK, committed to the store (R13). -/
inductive ItemKind where
  | ro | ctr | rs | rw | keep
deriving DecidableEq, Repr

/-- A range a written field must lie in; outside it the write is refused with BAD_PARAM. -/
structure FldRange where
  lo : Nat
  w : Nat
  signed : Bool
  min : Int
  max : Int
deriving DecidableEq, Repr

/-- One row of an item table: items `n0` to `n1` of instances `i0` to `i1`, with the masks of the RW (or SH, RWK), W1C
and WO bits of a word and its reset value. -/
structure ItemDef where
  i0 : Nat
  i1 : Nat
  n0 : Nat
  n1 : Nat
  kind : ItemKind
  rw : Nat
  w1c : Nat
  wo : Nat
  rst : Nat
  rng : List FldRange
deriving DecidableEq, Repr

/-- The items of class 0x01. -/
def itemsOf01 : List ItemDef :=
  [
   ⟨0, 0, 0, 0, .ro, 0, 0, 0, 0x6480, []⟩,  -- ID_PART (R619)
   ⟨0, 0, 1, 1, .ro, 0, 0, 0, 0, []⟩,  -- ID_VARIANT (R619)
   ⟨0, 0, 2, 2, .ro, 0, 0, 0, 0, []⟩,  -- ID_EODIN_LEVEL (R619)
   ⟨0, 0, 3, 3, .ro, 0, 0, 0, 0, []⟩,  -- ID_VENDOR (R619)
   ⟨0, 0, 4, 4, .ro, 0, 0, 0, 0, []⟩,  -- ID_SERIAL (R619)
   ⟨0, 0, 5, 5, .ro, 0, 0, 0, 0, []⟩,  -- ID_MAC (R619)
   ⟨0, 0, 6, 6, .ro, 0, 0, 0, 0, []⟩,  -- ID_CLOCK (R619)
   ⟨0, 0, 7, 7, .ro, 0, 0, 0, 0, []⟩,  -- ID_ENTERPRISE (R619)
   ⟨0, 0, 8, 8, .ro, 0, 0, 0, 0, []⟩,  -- ID_NODE (R619)
   ⟨0, 0, 9, 9, .rw, 4, 2, 0, 1, []⟩,  -- GLB_STATE (R620)
   ⟨0, 0, 0xA, 0xA, .ro, 0, 0, 0, 0, []⟩]  -- GLB_HEARTBEAT (R619)

/-- The items of class 0x02. -/
def itemsOf02 : List ItemDef :=
  [
   ⟨0, 0, 0, 0, .rw, 7, 0, 0, 4, [⟨0, 2, false, 0, 1⟩]⟩,  -- TK_CTRL (R61)
   ⟨0, 0, 1, 1, .rw, 0x4924, 0x2492, 0, 0, []⟩,  -- TK_STATUS (R63)
   ⟨0, 0, 2, 2, .rw, 0xFFFFFFFFFFFF, 0, 0, 0, [⟨0, 48, true, -65536000000, 65536000000⟩]⟩,  -- TK_FREQ_ADJ (R60)
   ⟨0, 0, 3, 3, .rw, 0, 0, 0xFFFFFFFFFFFF, 0, []⟩,  -- TK_PHASE_ADJ (R60)
   ⟨0, 0, 4, 4, .rw, 0xFFFFFFFFFFFF, 0, 0, 0xC3500000, [⟨0, 48, true, 65536, 32768000000⟩]⟩,  -- TK_SLEW_RATE (R60)
   ⟨0, 0, 5, 5, .rw, 0xFFFFFFFFFFFF, 0, 0, 0x3B9ACA00, []⟩,  -- TK_STEP_THRESHOLD (R60)
   ⟨0, 0, 6, 7, .rw, 0, 0, 0xFFFFFFFFFFFF, 0, []⟩,  -- TK_SET (R60)
   ⟨0, 0, 8, 8, .ro, 0, 0, 0, 0, []⟩,  -- TK_SLEW_REMAIN (R60)
   ⟨0, 0, 9, 9, .ctr, 0, 0, 0, 0, []⟩,  -- TK_STEP_COUNT (R60)
   ⟨0, 0, 0xA, 0xA, .ro, 0, 0, 0, 0, []⟩,  -- TK_LAST_STEP (R60)
   ⟨1, 9, 0x20, 0x20, .rw, 4, 2, 0, 0, []⟩,  -- TK_REP_STATUS (R60)
   ⟨1, 9, 0x21, 0x21, .ro, 0, 0, 0, 0, []⟩,  -- TK_REP_OFFSET (R60)
   ⟨1, 9, 0x22, 0x22, .ctr, 0, 0, 0, 0, []⟩,  -- TK_REP_CHECKS (R60)
   ⟨1, 9, 0x23, 0x23, .ctr, 0, 0, 0, 0, []⟩]  -- TK_REP_FAULTS (R60)

/-- The items of class 0x03. -/
def itemsOf03 : List ItemDef :=
  [
   ⟨0, 0, 1, 1, .rw, 0x24, 0x12, 0, 0, []⟩,  -- TL_STATUS (R93)
   ⟨0, 0, 2, 2, .ro, 0, 0, 0, 0, []⟩,  -- TL_FIRE_HEAD (R92)
   ⟨0, 0, 3, 3, .rw, 0xFFFF, 0, 0, 0xFFFF, []⟩,  -- TL_FIRE_ACK (R92)
   ⟨0, 0x3FF, 0x40, 0x43, .ro, 0, 0, 0, 0, []⟩]  -- TL_FIRE_REC (R91)

/-- The items of class 0x04. -/
def itemsOf04 : List ItemDef :=
  [
   ⟨0, 0xFF, 0, 0, .rw, 0x7F, 0, 0, 7, [⟨5, 2, false, 0, 2⟩]⟩,  -- TSU_CTRL (R141)
   ⟨0, 0xFF, 1, 1, .rw, 0x924, 0x492, 0, 1, []⟩,  -- TSU_STATUS (R142)
   ⟨0, 0xFF, 2, 2, .ro, 0, 0, 0, 0, []⟩,  -- TSU_RX_ADD (R139)
   ⟨0, 0xFF, 0x10, 0x17, .ro, 0, 0, 0, 0, []⟩,  -- TSU_RX_FIXED (R139)
   ⟨0, 0xFF, 0x18, 0x1F, .ro, 0, 0, 0, 0, []⟩,  -- TSU_TX_FIXED (R139)
   ⟨0, 0xFF, 0x20, 0x21, .ro, 0, 0, 0, 0, []⟩,  -- TSU_LAST_RX (R139)
   ⟨0, 0xFF, 0x22, 0x22, .ro, 0, 0, 0, 0, []⟩,  -- TSU_LAST_RX_TERMS (R143)
   ⟨0, 0xFF, 0x24, 0x25, .ro, 0, 0, 0, 0, []⟩,  -- TSU_LAST_TX (R139)
   ⟨0, 0xFF, 0x26, 0x26, .ro, 0, 0, 0, 0, []⟩,  -- TSU_LAST_TX_TERMS (R143)
   ⟨0, 0xFF, 0x40, 0x40, .ctr, 0, 0, 0, 0, []⟩,  -- TSU_EVT_RX (R139)
   ⟨0, 0xFF, 0x41, 0x41, .ctr, 0, 0, 0, 0, []⟩,  -- TSU_EVT_TX (R139)
   ⟨0, 0xFF, 0x42, 0x42, .ctr, 0, 0, 0, 0, []⟩,  -- TSU_CORR_DONE (R139)
   ⟨0, 0xFF, 0x43, 0x43, .ctr, 0, 0, 0, 0, []⟩,  -- TSU_CORR_SAT (R139)
   ⟨0, 0xFF, 0x44, 0x44, .ctr, 0, 0, 0, 0, []⟩,  -- TSU_SF_FORCED (R139)
   ⟨0, 0xFF, 0x45, 0x45, .ctr, 0, 0, 0, 0, []⟩,  -- TSU_UNCERT (R139)
   ⟨0, 0xFF, 0x46, 0x46, .ctr, 0, 0, 0, 0, []⟩,  -- TSU_CKSUM_FIX (R139)
   ⟨0, 0xFF, 0x47, 0x47, .ctr, 0, 0, 0, 0, []⟩]  -- TSU_TRAILER_FIX (R139)

/-- The items of class 0x05. -/
def itemsOf05 : List ItemDef :=
  [
   ⟨0, 0, 0, 0, .rw, 0x3F, 0, 0, 8, []⟩,  -- PTE_CTRL (R198)
   ⟨0, 0, 1, 1, .rw, 0x924, 0x492, 0, 0x20040, []⟩,  -- PTE_STATUS (R199)
   ⟨0, 0, 2, 2, .rw, 0xFFFFFFFFFFFF, 0, 0, 0x3E8, [⟨0, 48, false, 0, 1000000⟩]⟩,  -- PTE_SW_ALIGN (R197)
   ⟨0, 0, 3, 3, .rw, 0xFFFFFFFFFFFF, 0, 0, 0xF4240, [⟨0, 48, false, 1000, 1000000000⟩]⟩,  -- PTE_SW_SLEW_LIMIT (R197)
   ⟨0, 0, 4, 4, .rw, 0xFFFFFFFFFFFF, 0, 0, 0x640000, [⟨0, 48, true, 65536, 655360000⟩]⟩,  -- PTE_SW_SLEW_RATE (R197)
   ⟨0, 0, 5, 5, .rw, 0xFFFFFFFFFFFF, 0, 0, 0x20000, [⟨0, 48, true, 6554, 65536000⟩]⟩,  -- PTE_SW_FREQ_RATE (R197)
   ⟨0, 0, 6, 6, .rw, 0xFFFFFFFFFFFF, 0, 0, 0x12C, [⟨0, 48, false, 0, 3600⟩]⟩,  -- PTE_WTR (R197)
   ⟨0, 0, 7, 7, .ctr, 0, 0, 0, 0, []⟩,  -- PTE_SWITCH_COUNT (R197)
   ⟨0, 0, 8, 8, .ro, 0, 0, 0, 0, []⟩,  -- PTE_SW_LAST (R197)
   ⟨0, 0, 0x10, 0x10, .rw, 0xFFFF3FFF, 0, 0, 0x47501F0A, [⟨12, 2, false, 0, 2⟩, ⟨0, 8, false, 1, 200⟩]⟩,  -- PTE_TOD_CTRL (R211)
   ⟨0, 0, 0x11, 0x11, .rw, 0xFFFF, 0, 0, 0x25, []⟩,  -- PTE_TOD_UTC_OFFSET (R197)
   ⟨0, 0, 0x12, 0x12, .ctr, 0, 0, 0, 0, []⟩,  -- PTE_TOD_RX_COUNT (R197)
   ⟨0, 0, 0x13, 0x13, .ctr, 0, 0, 0, 0, []⟩,  -- PTE_TOD_RX_BAD (R197)
   ⟨1, 1, 0, 0, .rw, 0x7FFFFF1, 0, 0, 0xFF1830, []⟩,  -- PTE_PISTE_CTRL (R200)
   ⟨2, 2, 0, 0, .rw, 0x7FFFFF1, 0, 0, 0xFF1930, []⟩,  -- PTE_PISTE_CTRL (R200)
   ⟨1, 2, 1, 1, .rw, 0x24, 0x12, 0, 0, []⟩,  -- PTE_PISTE_STATUS (R201)
   ⟨1, 2, 2, 2, .ro, 0, 0, 0, 0, []⟩,  -- PTE_PISTE_OFFSET (R197)
   ⟨1, 2, 3, 3, .ro, 0, 0, 0, 0, []⟩,  -- PTE_PISTE_FREQ (R197)
   ⟨1, 2, 4, 5, .ro, 0, 0, 0, 0, []⟩,  -- PTE_GM_IDENTITY (R197)
   ⟨1, 2, 6, 6, .ro, 0, 0, 0, 0, []⟩,  -- PTE_GM_QUALITY (R202)
   ⟨1, 2, 7, 7, .rw, 0xFFFFFF, 0, 0, 0xF80706, []⟩,  -- PTE_GM_CLASS (R203)
   ⟨1, 2, 0x10, 0x10, .rw, 0xFFFFFFFFFFFF, 0, 0, 0x6400000A, []⟩,  -- PTE_SERVO_BW_BOUNDS (R46)
   ⟨1, 2, 0x11, 0x11, .rw, 4, 2, 0, 0, []⟩,  -- PTE_SERVO_BW_HELD (R51)
   ⟨1, 2, 0x12, 0x12, .ctr, 0, 0, 0, 0, []⟩]  -- PTE_SERVO_BW_HELD_TIME (R52)
  ++ [
   ⟨1, 2, 0x13, 0x13, .ro, 0, 0, 0, 0xA, []⟩,  -- PTE_SERVO_BW (R170)
   ⟨1, 2, 0x14, 0x14, .rw, 0xFFFFFFFFFFFF, 0, 0, 0x186A0, [⟨0, 48, false, 1000, 1000000000⟩]⟩,  -- PTE_LOCK_THRESHOLD (R197)
   ⟨1, 2, 0x20, 0x20, .rw, 0xFF03, 0, 0, 0, []⟩,  -- PTE_UMT word 0 (R204)
   ⟨1, 2, 0x24, 0x24, .rw, 0xFF03, 0, 0, 0, []⟩,  -- PTE_UMT word 0 (R204)
   ⟨1, 2, 0x28, 0x28, .rw, 0xFF03, 0, 0, 0, []⟩,  -- PTE_UMT word 0 (R204)
   ⟨1, 2, 0x2C, 0x2C, .rw, 0xFF03, 0, 0, 0, []⟩,  -- PTE_UMT word 0 (R204)
   ⟨1, 2, 0x30, 0x30, .rw, 0xFF03, 0, 0, 0, []⟩,  -- PTE_UMT word 0 (R204)
   ⟨1, 2, 0x34, 0x34, .rw, 0xFF03, 0, 0, 0, []⟩,  -- PTE_UMT word 0 (R204)
   ⟨1, 2, 0x38, 0x38, .rw, 0xFF03, 0, 0, 0, []⟩,  -- PTE_UMT word 0 (R204)
   ⟨1, 2, 0x3C, 0x3C, .rw, 0xFF03, 0, 0, 0, []⟩,  -- PTE_UMT word 0 (R204)
   ⟨1, 2, 0x40, 0x40, .rw, 0xFF03, 0, 0, 0, []⟩,  -- PTE_UMT word 0 (R204)
   ⟨1, 2, 0x44, 0x44, .rw, 0xFF03, 0, 0, 0, []⟩,  -- PTE_UMT word 0 (R204)
   ⟨1, 2, 0x48, 0x48, .rw, 0xFF03, 0, 0, 0, []⟩,  -- PTE_UMT word 0 (R204)
   ⟨1, 2, 0x4C, 0x4C, .rw, 0xFF03, 0, 0, 0, []⟩,  -- PTE_UMT word 0 (R204)
   ⟨1, 2, 0x50, 0x50, .rw, 0xFF03, 0, 0, 0, []⟩,  -- PTE_UMT word 0 (R204)
   ⟨1, 2, 0x54, 0x54, .rw, 0xFF03, 0, 0, 0, []⟩,  -- PTE_UMT word 0 (R204)
   ⟨1, 2, 0x58, 0x58, .rw, 0xFF03, 0, 0, 0, []⟩,  -- PTE_UMT word 0 (R204)
   ⟨1, 2, 0x5C, 0x5C, .rw, 0xFF03, 0, 0, 0, []⟩,  -- PTE_UMT word 0 (R204)
   ⟨1, 2, 0x20, 0x5F, .rw, 0xFFFFFFFFFFFF, 0, 0, 0, []⟩,  -- PTE_UMT (R204)
   ⟨0x100, 0x1FF, 0, 0, .rw, 0xFFFF7F3F, 0, 0, 0x80800000, []⟩,  -- PTE_PORT_ROLE (R205)
   ⟨0x100, 0x1FF, 1, 1, .ro, 0, 0, 0, 0, []⟩,  -- PTE_PORT_STATE (R206)
   ⟨0x100, 0x1FF, 2, 2, .keep, 0xFFFFFFFFFFFF, 0, 0, 0, []⟩,  -- PTE_ASYM (R167)
   ⟨0x100, 0x1FF, 5, 5, .ro, 0, 0, 0, 0, []⟩,  -- PTE_MEAN_DELAY_A (R197)
   ⟨0x100, 0x1FF, 6, 6, .ro, 0, 0, 0, 0, []⟩,  -- PTE_MEAN_DELAY_B (R197)
   ⟨0x100, 0x1FF, 3, 3, .rw, 0xFFFFFF, 0, 0, 0x30DCC, []⟩,  -- PTE_PORT_RATES_A (R207)
   ⟨0x100, 0x1FF, 4, 4, .rw, 0xFFFFFF, 0, 0, 0x30DCC, []⟩,  -- PTE_PORT_RATES_B (R207)
   ⟨0x100, 0x1FF, 7, 7, .rw, 0xFFFFFFFF, 0, 0, 0, []⟩,  -- PTE_PORT_IP4 (R197)
   ⟨0x100, 0x1FF, 8, 0xA, .rw, 0xFFFFFFFFFFFF, 0, 0, 0, []⟩,  -- PTE_PORT_IP6 (R197)
   ⟨0x300, 0x301, 0, 0, .rw, 0xFFFF7F3F, 0, 0, 0x80800000, []⟩,  -- PTE_PORT_ROLE (R205)
   ⟨0x300, 0x301, 1, 1, .ro, 0, 0, 0, 0, []⟩,  -- PTE_PORT_STATE (R206)
   ⟨0x300, 0x301, 2, 2, .keep, 0xFFFFFFFFFFFF, 0, 0, 0, []⟩,  -- PTE_ASYM (R167)
   ⟨0x300, 0x301, 5, 5, .ro, 0, 0, 0, 0, []⟩,  -- PTE_MEAN_DELAY_A (R197)
   ⟨0x300, 0x301, 6, 6, .ro, 0, 0, 0, 0, []⟩,  -- PTE_MEAN_DELAY_B (R197)
   ⟨0x200, 0x201, 0, 0, .rw, 0x1FFFFFFF, 0, 0, 0x8000000, []⟩,  -- PTE_OUT_PEND0 (R208)
   ⟨0x200, 0x201, 1, 1, .rw, 0xFFFFFFFFFFFF, 0, 0, 0xF4240, []⟩,  -- PTE_OUT_PEND1 (R209)
   ⟨0x200, 0x201, 2, 2, .ro, 0, 0, 0, 0x8000000, []⟩,  -- PTE_OUT_ACTIVE0 (R208)
   ⟨0x200, 0x201, 3, 3, .ro, 0, 0, 0, 0xF4240, []⟩,  -- PTE_OUT_ACTIVE1 (R209)
   ⟨0x200, 0x201, 4, 4, .rw, 0x24, 0x12, 0, 8, []⟩]  -- PTE_OUT_STATUS (R210)

/-- The items of class 0x06. -/
def itemsOf06 : List ItemDef :=
  [
   ⟨0, 0xF, 0, 0, .rw, 0xFF0F1, 0, 0, 0x10, [⟨6, 2, false, 0, 2⟩]⟩,  -- EMU_CTRL (R240)
   ⟨0, 0xF, 1, 1, .rw, 0x124, 0x92, 0, 8, []⟩,  -- EMU_STATUS (R243)
   ⟨0, 0xF, 2, 2, .rw, 0xF1FF, 0, 0, 0, []⟩,  -- EMU_SRC (R241)
   ⟨0, 0xF, 3, 3, .rw, 0xFF9FFF, 0, 0, 0x1484E2, []⟩,  -- EMU_INPUT (R242)
   ⟨0, 0xF, 4, 4, .rw, 0x1FFFFFF, 0, 0, 1, [⟨0, 25, false, 1, 16777216⟩]⟩,  -- EMU_DECIM (R239)
   ⟨0, 0xF, 5, 5, .rw, 0x3FF, 0, 0, 0x3E8, [⟨0, 10, false, 1, 1000⟩]⟩,  -- EMU_GATE (R239)
   ⟨0, 0xF, 6, 6, .rw, 0x3FFFFF, 0, 0, 0x1E8480, [⟨0, 22, false, 1, 3000000⟩]⟩,  -- EMU_TIMEOUT (R239)
   ⟨0, 0xF, 7, 7, .ro, 0, 0, 0, 0, []⟩,  -- EMU_IN_DELAY (R239)
   ⟨0, 0xF, 8, 8, .rw, 0x1FFFF, 0, 0, 0x3E8, [⟨0, 17, false, 10, 100000⟩]⟩,  -- EMU_FLUSH (R239)
   ⟨0, 0xF, 0x40, 0x40, .ctr, 0, 0, 0, 0, []⟩,  -- EMU_STAMPS (R239)
   ⟨0, 0xF, 0x41, 0x41, .ctr, 0, 0, 0, 0, []⟩,  -- EMU_LOST (R239)
   ⟨0, 0xF, 0x42, 0x42, .ctr, 0, 0, 0, 0, []⟩,  -- EMU_DEAD (R239)
   ⟨0, 0xF, 0x43, 0x43, .ctr, 0, 0, 0, 0, []⟩,  -- EMU_TIMEOUTS (R239)
   ⟨0, 0xF, 0x200, 0x3FF, .ro, 0, 0, 0, 0, []⟩,  -- EMU_BIN_POS (R239)
   ⟨0x10, 0x10, 0, 0, .rw, 0x924, 0x492, 0, 8, []⟩,  -- EMU_GLB_STATUS (R244)
   ⟨0x10, 0x10, 1, 1, .ro, 0, 0, 0, 0, []⟩,  -- EMU_RAW_COUNT (R239)
   ⟨0x10, 0x10, 2, 2, .ctr, 0, 0, 0, 0, []⟩]  -- EMU_BINCAL_REJ (R239)

/-- The items of class 0x07. -/
def itemsOf07 : List ItemDef :=
  [
   ⟨0, 0, 0, 0, .rw, 0xF0C7, 0, 0, 0x40, []⟩,  -- REFC_GLB_CTRL (R284)
   ⟨0, 0, 1, 1, .rw, 0x4924, 0x2492, 0, 0x40, []⟩,  -- REFC_GLB_STATUS (R285)
   ⟨0, 0, 2, 2, .rw, 0xFFFFFF, 0, 0, 0x500, []⟩,  -- REFC_DISAGREE (R282)
   ⟨0, 0, 3, 3, .rw, 0xFFFFFF, 0, 0, 0x100, []⟩,  -- REFC_LOCK_THR (R282)
   ⟨0, 0, 4, 4, .rw, 0xFFFFFFFFFFFF, 0, 0, 0x12C02000258, [⟨32, 16, false, 10, 3600⟩, ⟨24, 8, false, 0, 60⟩, ⟨0, 24, false, 0, 8640000⟩]⟩,  -- REFC_HO_CTRL (R286)
   ⟨0, 0, 5, 5, .rw, 0xFFFFFFFF, 0, 0, 0x15180, [⟨0, 32, false, 60, 2592000⟩]⟩,  -- REFC_HO_MAX (R282)
   ⟨0, 0, 6, 6, .ro, 0, 0, 0, 0, []⟩,  -- REFC_HO_FREQ (R282)
   ⟨0, 0, 7, 7, .ro, 0, 0, 0, 0, []⟩,  -- REFC_HO_ELAPSED (R282)
   ⟨0, 0, 8, 8, .rw, 0xFFFFFF, 0, 0, 0x22B22B22B, []⟩,  -- REFC_OUT_QL (R287)
   ⟨0, 0, 9, 9, .ro, 0, 0, 0, 0, []⟩,  -- REFC_HO_HIST (R282)
   ⟨0, 0, 0x10, 0x10, .rw, 0x7FFFFFFFFFFF, 0, 0x800000000000, 0x5000A80A8, [⟨12, 12, false, 1, 2160⟩, ⟨0, 12, false, 24, 2160⟩]⟩,  -- REFC_MODEL_CTRL (R288)
   ⟨0, 0, 0x11, 0x11, .ro, 0, 0, 0, 0, []⟩,  -- REFC_MODEL_Y0 (R282)
   ⟨0, 0, 0x12, 0x12, .ro, 0, 0, 0, 0, []⟩,  -- REFC_MODEL_AGE (R282)
   ⟨0, 0, 0x13, 0x13, .ro, 0, 0, 0, 0, []⟩,  -- REFC_MODEL_TEMP (R282)
   ⟨0, 0, 0x14, 0x14, .ro, 0, 0, 0, 0, []⟩,  -- REFC_MODEL_T0 (R282)
   ⟨0, 0, 0x15, 0x15, .ro, 0, 0, 0, 0, []⟩,  -- REFC_MODEL_FIT (R289)
   ⟨0, 0, 0x20, 0x20, .rw, 0x1FF0FFF, 0, 0, 0x1060202, []⟩,  -- REFC_CLASS_MAP (R290)
   ⟨0, 0, 0x21, 0x21, .rw, 0x1FF0FFF, 0, 0, 0x1070FF2, []⟩,  -- REFC_CLASS_MAP (R290)
   ⟨0, 0, 0x22, 0x22, .rw, 0x1FF0FFF, 0, 0, 0x1870FF2, []⟩,  -- REFC_CLASS_MAP (R290)
   ⟨0, 0, 0x23, 0x23, .rw, 0x1FF0FFF, 0, 0, 0x18C0FF4, []⟩,  -- REFC_CLASS_MAP (R290)
   ⟨0, 0, 0x24, 0x24, .rw, 0x1FF0FFF, 0, 0, 0x1960FF8, []⟩,  -- REFC_CLASS_MAP (R290)
   ⟨0, 0, 0x25, 0x25, .rw, 0x1FF0FFF, 0, 0, 0x1A00FFB, []⟩,  -- REFC_CLASS_MAP (R290)
   ⟨0, 0, 0x26, 0x26, .rw, 0x1FF0FFF, 0, 0, 0x1F80FFB, []⟩,  -- REFC_CLASS_MAP (R290)
   ⟨0, 0, 0x27, 0x27, .rw, 0x1FF0FFF, 0, 0, 0x1FF0FFF, []⟩]  -- REFC_CLASS_MAP (R290)
  ++ [
   ⟨0, 0, 0x40, 0x40, .ctr, 0, 0, 0, 0, []⟩,  -- REFC_SWITCH_COUNT (R282)
   ⟨0, 0, 0x41, 0x41, .ctr, 0, 0, 0, 0, []⟩,  -- REFC_GLIDE_COUNT (R282)
   ⟨1, 0xF, 0, 0, .rw, 0xFFFFF01, 0, 0, 0xFFF8000, []⟩,  -- REFC_CTRL (R291)
   ⟨1, 0xF, 1, 1, .rw, 0x924, 0x492, 0, 0, []⟩,  -- REFC_STATUS (R292)
   ⟨1, 2, 2, 2, .rw, 0x7FFFFFF, 0, 0, 0x989680, [⟨0, 27, false, 1, 125000000⟩]⟩,  -- REFC_FREQ (R282)
   ⟨1, 0xF, 3, 3, .rw, 0xFFFF, 0, 0, 0x12C, [⟨0, 16, false, 0, 43200⟩]⟩,  -- REFC_WTR (R282)
   ⟨1, 0xF, 4, 4, .ro, 0, 0, 0, 0xF0FFF, []⟩,  -- REFC_QL (R293)
   ⟨1, 0xF, 5, 5, .rw, 0xFFFFFFFFFFFF, 0, 0, 0x11F80003E800, []⟩,  -- REFC_LIM_OFF1 (R294)
   ⟨1, 0xF, 6, 6, .rw, 0xFFFFFFFFFFFF, 0, 0, 0x3E800006400, []⟩,  -- REFC_LIM_OFF100 (R294)
   ⟨1, 0xF, 7, 7, .rw, 0xFFFFFFFFFFFF, 0, 0, 0xC800001400, []⟩,  -- REFC_LIM_OFF1000 (R294)
   ⟨1, 0xF, 8, 8, .rw, 0xFFFFFFFFFFFF, 0, 0, 0x27100003E800, []⟩,  -- REFC_LIM_DRIFT100 (R294)
   ⟨1, 0xF, 9, 9, .rw, 0xFFFFFFFFFFFF, 0, 0, 0x1F400003200, []⟩,  -- REFC_LIM_DRIFT1000 (R294)
   ⟨1, 0xF, 0x10, 0x10, .ro, 0, 0, 0, 0, []⟩,  -- REFC_Y1 (R282)
   ⟨1, 0xF, 0x11, 0x11, .ro, 0, 0, 0, 0, []⟩,  -- REFC_Y100 (R282)
   ⟨1, 0xF, 0x12, 0x12, .ro, 0, 0, 0, 0, []⟩,  -- REFC_Y1000 (R282)
   ⟨1, 0xF, 0x13, 0x13, .ro, 0, 0, 0, 0, []⟩,  -- REFC_D100 (R282)
   ⟨1, 0xF, 0x14, 0x14, .ro, 0, 0, 0, 0, []⟩,  -- REFC_D1000 (R282)
   ⟨1, 0xF, 0x40, 0x40, .ctr, 0, 0, 0, 0, []⟩,  -- REFC_FAILS (R282)
   ⟨1, 0xF, 0x41, 0x41, .ctr, 0, 0, 0, 0, []⟩,  -- REFC_DISQS (R282)
   ⟨0x100, 0x1FF, 0, 0, .rw, 3, 0, 0, 2, []⟩,  -- REFC_ESMC_CTRL (R295)
   ⟨0x100, 0x1FF, 1, 1, .ro, 0, 0, 0, 0xFF0FFF, []⟩]  -- REFC_ESMC_RX (R296)

/-- The items of class 0x08. -/
def itemsOf08 : List ItemDef :=
  [
   ⟨0, 0, 0, 0, .rw, 0x3FFFFFFFFFF, 0, 0, 0x280000000, []⟩,  -- CD_PLL_DIV (R325)
   ⟨3, 3, 0, 0, .rw, 0x3FFFFFFFFFF, 0, 0, 0x2A0000000, []⟩,  -- CD_PLL_DIV (R325)
   ⟨4, 4, 0, 0, .rw, 0x3FFFFFFFFFF, 0, 0, 0x428000000, []⟩,  -- CD_PLL_DIV (R325)
   ⟨6, 6, 0, 0, .rw, 0x3FFFFFFFFFF, 0, 0, 0x14A0000000, []⟩,  -- CD_PLL_DIV (R325)
   ⟨0, 1, 1, 1, .rw, 0x904, 0x482, 0, 0, []⟩,  -- CD_STATUS (R326)
   ⟨2, 2, 1, 1, .rw, 0x4924, 0x2492, 0, 0, []⟩,  -- CD_STATUS (R326)
   ⟨3, 4, 1, 1, .rw, 0x904, 0x482, 0, 0, []⟩,  -- CD_STATUS (R326)
   ⟨6, 6, 1, 1, .rw, 0x904, 0x482, 0, 0, []⟩,  -- CD_STATUS (R326)
   ⟨0, 0, 2, 2, .ro, 0, 0, 0, 0x5F5E1000, []⟩,  -- CD_FREQ (R324)
   ⟨1, 1, 2, 2, .ro, 0, 0, 0, 0x9502F90, []⟩,  -- CD_FREQ (R324)
   ⟨2, 2, 2, 2, .ro, 0, 0, 0, 0x4A817C80, []⟩,  -- CD_FREQ (R324)
   ⟨3, 3, 2, 2, .ro, 0, 0, 0, 0x77359400, []⟩,  -- CD_FREQ (R324)
   ⟨4, 4, 2, 2, .ro, 0, 0, 0, 0x3B9ACA00, []⟩,  -- CD_FREQ (R324)
   ⟨5, 5, 2, 2, .ro, 0, 0, 0, 0x4A817C80, []⟩,  -- CD_FREQ (R324)
   ⟨6, 6, 2, 2, .ro, 0, 0, 0, 0xBEBC200, []⟩,  -- CD_FREQ (R324)
   ⟨7, 7, 2, 2, .ro, 0, 0, 0, 0x17D7840, []⟩,  -- CD_FREQ (R324)
   ⟨2, 2, 0x10, 0x10, .ro, 0, 0, 0, 0, []⟩,  -- CD_T_APPLIED (R324)
   ⟨2, 2, 0x11, 0x11, .ro, 0, 0, 0, 0, []⟩,  -- CD_T_TARGET (R324)
   ⟨2, 2, 0x12, 0x12, .rw, 0xFFFFFFFFFFFF, 0, 0, 0x20000, [⟨0, 48, true, 656, 3276800000⟩]⟩,  -- CD_SLEW_RATE (R324)
   ⟨2, 2, 0x13, 0x13, .rw, 0xFFFFFFFFFFFF, 0, 0, 0x27100000, [⟨0, 48, true, 0, 3276800000⟩]⟩,  -- CD_ACQ_RATE (R324)
   ⟨2, 2, 0x14, 0x14, .rw, 0xFFFFFFFFFFFF, 0, 0, 0x3E80000, [⟨0, 48, true, 0, 13107200000⟩]⟩,  -- CD_ACQ_THR (R324)
   ⟨2, 2, 0x15, 0x15, .rw, 0, 0, 3, 0, []⟩,  -- CD_SYNC_CTRL (R327)
   ⟨2, 2, 0x16, 0x16, .ro, 0, 0, 0, 0, []⟩,  -- CD_SYNC_PHASE (R324)
   ⟨0, 4, 0x40, 0x40, .ctr, 0, 0, 0, 0, []⟩,  -- CD_LOL_COUNT (R324)
   ⟨0, 4, 0x41, 0x41, .ctr, 0, 0, 0, 0, []⟩,  -- CD_BYPASS_TIME (R324)
   ⟨6, 6, 0x40, 0x40, .ctr, 0, 0, 0, 0, []⟩]  -- CD_LOL_COUNT (R324)
  ++ [
   ⟨6, 6, 0x41, 0x41, .ctr, 0, 0, 0, 0, []⟩]  -- CD_BYPASS_TIME (R324)

/-- The items of class 0x09. -/
def itemsOf09 : List ItemDef :=
  [
   ⟨0, 0, 0, 0, .rw, 0xFFFFFF01, 0, 0x100000000, 0x3C1001, [⟨16, 16, false, 1, 3600⟩, ⟨8, 8, false, 1, 255⟩]⟩,  -- CAL_CTRL (R355)
   ⟨0, 0, 1, 1, .rw, 0x4924, 0x2492, 0, 0, []⟩,  -- CAL_STATUS (R356)
   ⟨0, 0, 2, 2, .ro, 0, 0, 0, 0, []⟩,  -- CAL_RECORDS (R357)
   ⟨0, 0, 3, 3, .ro, 0, 0, 0, 0, []⟩,  -- CAL_LAST_RUN (R358)
   ⟨0, 0, 4, 4, .ro, 0, 0, 0, 0, []⟩,  -- CAL_LAST_RMS (R354)
   ⟨0, 0, 8, 0xF, .ro, 0, 0, 0, 0, []⟩,  -- CAL_LAST_ERR (R354)
   ⟨0, 0, 0x10, 0x14, .ro, 0, 0, 0, 0, []⟩,  -- CAL_OUT_DELAY (R354)
   ⟨0, 0, 0x40, 0x40, .ctr, 0, 0, 0, 0, []⟩,  -- CAL_REPAIRS (R354)
   ⟨1, 0x40, 0, 0, .ro, 0, 0, 0, 0, []⟩,  -- CAL_TWIN_TAU (R354)
   ⟨1, 0x40, 1, 1, .ro, 0, 0, 0, 0, []⟩,  -- CAL_TWIN_DELTA (R354)
   ⟨1, 0x40, 2, 2, .rw, 0x24, 0x12, 0, 0, []⟩,  -- CAL_TWIN_STATUS (R359)
   ⟨1, 0x40, 0x40, 0x40, .ctr, 0, 0, 0, 0, []⟩,  -- CAL_TWIN_MEAS (R354)
   ⟨1, 0x40, 0x41, 0x41, .ctr, 0, 0, 0, 0, []⟩,  -- CAL_TWIN_BAD (R354)
   ⟨0x100, 0x1FF, 0, 0, .ro, 0, 0, 0, 0, []⟩,  -- CAL_OPTIC_RX (R354)
   ⟨0x100, 0x1FF, 1, 1, .ro, 0, 0, 0, 0, []⟩]  -- CAL_OPTIC_TX (R354)

/-- The items of class 0x0A. -/
def itemsOf0A : List ItemDef :=
  [
   ⟨0x100, 0x13F, 0, 0, .rw, 0xF7, 0, 0, 0, [⟨0, 3, false, 0, 4⟩, ⟨4, 2, false, 0, 2⟩, ⟨6, 2, false, 0, 2⟩]⟩,  -- MAC_CAGE_CTRL (R394)
   ⟨0, 0xFF, 0, 0, .rw, 0xFFF, 0, 0, 2, []⟩,  -- MAC_CTRL (R395)
   ⟨0, 0xFF, 1, 1, .rw, 0x4924, 0x2492, 0, 0, []⟩,  -- MAC_STATUS (R396)
   ⟨0, 0xFF, 2, 2, .rw, 0x3FFFFFFFFFF, 0, 0, 0x641900000A, [⟨32, 10, false, 1, 1000⟩, ⟨22, 10, false, 1, 1000⟩, ⟨12, 10, false, 0, 1000⟩, ⟨0, 12, false, 1, 4000⟩]⟩,  -- MAC_TIMERS (R397)
   ⟨0, 0xFF, 3, 3, .ro, 0, 0, 0, 0, []⟩,  -- MAC_LAST_STOMP (R398)
   ⟨0, 0xFF, 4, 4, .rw, 0xFFFFC7000FFF, 0, 0, 0x88A800000001, [⟨32, 16, false, 1536, 65535⟩, ⟨30, 2, false, 0, 2⟩, ⟨0, 12, false, 1, 4094⟩]⟩,  -- MAC_TAG (R399)
   ⟨0, 0xFF, 5, 5, .rw, 0x3FFF, 0, 0, 0x2710, [⟨0, 14, false, 1518, 10000⟩]⟩,  -- MAC_MAX_LEN (R393)
   ⟨0, 0xFF, 0x40, 0x40, .ctr, 0, 0, 0, 0, []⟩,  -- MAC_RX_FRAMES (R393)
   ⟨0, 0xFF, 0x41, 0x41, .ctr, 0, 0, 0, 0, []⟩,  -- MAC_RX_OCTETS (R393)
   ⟨0, 0xFF, 0x42, 0x42, .ctr, 0, 0, 0, 0, []⟩,  -- MAC_TX_FRAMES (R393)
   ⟨0, 0xFF, 0x43, 0x43, .ctr, 0, 0, 0, 0, []⟩,  -- MAC_TX_OCTETS (R393)
   ⟨0, 0xFF, 0x44, 0x44, .ctr, 0, 0, 0, 0, []⟩,  -- MAC_RX_FCS_BAD (R393)
   ⟨0, 0xFF, 0x45, 0x45, .ctr, 0, 0, 0, 0, []⟩,  -- MAC_RX_ERROR (R393)
   ⟨0, 0xFF, 0x46, 0x46, .ctr, 0, 0, 0, 0, []⟩,  -- MAC_RX_RUNT (R393)
   ⟨0, 0xFF, 0x47, 0x47, .ctr, 0, 0, 0, 0, []⟩,  -- MAC_RX_OVERSIZE (R393)
   ⟨0, 0xFF, 0x48, 0x48, .ctr, 0, 0, 0, 0, []⟩,  -- MAC_TX_OVERSIZE (R393)
   ⟨0, 0xFF, 0x49, 0x49, .ctr, 0, 0, 0, 0, []⟩,  -- MAC_RX_STOMP_SEEN (R393)
   ⟨0, 0xFF, 0x4A, 0x4A, .ctr, 0, 0, 0, 0, []⟩,  -- MAC_TX_STOMP (R393)
   ⟨0, 0xFF, 0x4B, 0x4B, .ctr, 0, 0, 0, 0, []⟩,  -- MAC_RX_STOMP_SRC (R393)
   ⟨0, 0xFF, 0x4C, 0x4C, .ctr, 0, 0, 0, 0, []⟩,  -- MAC_TX_CARVE (R393)
   ⟨0, 0xFF, 0x4D, 0x4D, .ctr, 0, 0, 0, 0, []⟩,  -- MAC_RX_PAUSE (R393)
   ⟨0, 0xFF, 0x4E, 0x4E, .ctr, 0, 0, 0, 0, []⟩,  -- MAC_RX_PFC (R393)
   ⟨0, 0xFF, 0x4F, 0x4F, .ctr, 0, 0, 0, 0, []⟩,  -- MAC_TX_PFC (R393)
   ⟨0, 0xFF, 0x50, 0x50, .ctr, 0, 0, 0, 0, []⟩]  -- MAC_WD_TRIPS (R393)
  ++ [
   ⟨0, 0xFF, 0x51, 0x51, .ctr, 0, 0, 0, 0, []⟩,  -- MAC_PAUSED_TIME (R393)
   ⟨0, 0xFF, 0x52, 0x52, .ctr, 0, 0, 0, 0, []⟩]  -- MAC_LINK_DOWNS (R393)

/-- The items of class 0x0B. -/
def itemsOf0B : List ItemDef :=
  [
   ⟨0, 0xFFF, 0, 0, .rw, 0xFFFFFFE00FC, 0, 0, 0x7D00040010, [⟨28, 16, false, 1, 65535⟩, ⟨17, 11, false, 2, 1024⟩]⟩,  -- FRER_CTRL (R401)
   ⟨0, 0xFFF, 1, 1, .rw, 0x24, 0x12, 0, 1, []⟩,  -- FRER_STATUS (R402)
   ⟨0, 0xFFF, 2, 2, .ro, 0, 0, 0, 0, []⟩,  -- FRER_SEQ (R400)
   ⟨0, 0xFFF, 0x40, 0x40, .ctr, 0, 0, 0, 0, []⟩,  -- FRER_GENERATED (R400)
   ⟨0, 0xFFF, 0x41, 0x41, .ctr, 0, 0, 0, 0, []⟩,  -- FRER_PASSED (R400)
   ⟨0, 0xFFF, 0x42, 0x42, .ctr, 0, 0, 0, 0, []⟩,  -- FRER_DISCARDED (R400)
   ⟨0, 0xFFF, 0x43, 0x43, .ctr, 0, 0, 0, 0, []⟩,  -- FRER_OOO (R400)
   ⟨0, 0xFFF, 0x44, 0x44, .ctr, 0, 0, 0, 0, []⟩,  -- FRER_ROGUE (R400)
   ⟨0, 0xFFF, 0x45, 0x45, .ctr, 0, 0, 0, 0, []⟩,  -- FRER_LOST (R400)
   ⟨0, 0xFFF, 0x46, 0x46, .ctr, 0, 0, 0, 0, []⟩,  -- FRER_TAGLESS (R400)
   ⟨0, 0xFFF, 0x47, 0x47, .ctr, 0, 0, 0, 0, []⟩,  -- FRER_RESETS (R400)
   ⟨0, 0xFFF, 0x48, 0x48, .ctr, 0, 0, 0, 0, []⟩]  -- FRER_STOMP_LOST (R400)

/-- The items of class 0x0C. -/
def itemsOf0C : List ItemDef :=
  [
   ⟨0, 0, 0, 0, .rw, 0xCF, 0, 0, 0xC0, [⟨0, 2, false, 0, 2⟩, ⟨2, 2, false, 0, 2⟩]⟩,  -- PRS_CTRL (R445)
   ⟨0, 0, 1, 1, .rw, 0x24, 0x12, 0, 0, []⟩,  -- PRS_STATUS (R446)
   ⟨1, 0x10, 0x40, 0x40, .ctr, 0, 0, 0, 0, []⟩,  -- PRS_FRAMES (R444)
   ⟨1, 0x10, 0x41, 0x41, .ctr, 0, 0, 0, 0, []⟩,  -- PRS_DEPTH (R444)
   ⟨1, 0x10, 0x42, 0x42, .ctr, 0, 0, 0, 0, []⟩,  -- PRS_LEN_CONFLICT (R444)
   ⟨1, 0x10, 0x43, 0x43, .ctr, 0, 0, 0, 0, []⟩]  -- PRS_LATE_SHORT (R444)

/-- The items of class 0x0D. -/
def itemsOf0D : List ItemDef :=
  [
   ⟨0, 0, 0, 0, .ro, 0, 0, 0, 0, []⟩,  -- CLS_BANK_STATUS (R448)
   ⟨0, 0, 1, 1, .rw, 0x124, 0x92, 0, 0, []⟩,  -- CLS_STATUS (R449)
   ⟨0, 0, 2, 2, .rw, 0xFFFFFFFF007F, 0, 0, 0x5D, []⟩,  -- CLS_HASH_CTRL (R450)
   ⟨0, 0, 3, 3, .ro, 0, 0, 0, 0, []⟩,  -- CLS_BANK_ID0 (R447)
   ⟨0, 0, 4, 4, .ro, 0, 0, 0, 0, []⟩,  -- CLS_BANK_ID1 (R447)
   ⟨0, 0, 5, 5, .ro, 0, 0, 0, 0, []⟩,  -- CLS_EXACT_USED (R447)
   ⟨0, 0, 0x40, 0x40, .ctr, 0, 0, 0, 0, []⟩,  -- CLS_RECIRC (R447)
   ⟨0, 0, 0x41, 0x41, .ctr, 0, 0, 0, 0, []⟩,  -- CLS_RECIRC_LIMIT (R447)
   ⟨0, 0, 0x42, 0x42, .ctr, 0, 0, 0, 0, []⟩,  -- CLS_PASS_LATE (R447)
   ⟨0, 0, 0x43, 0x43, .ctr, 0, 0, 0, 0, []⟩,  -- CLS_ACT_FAULT (R447)
   ⟨0, 0, 0x44, 0x44, .ctr, 0, 0, 0, 0, []⟩,  -- CLS_ACT_EXCESS (R447)
   ⟨0, 0, 0x45, 0x45, .ctr, 0, 0, 0, 0, []⟩,  -- CLS_NO_DEST (R447)
   ⟨0, 0, 0x46, 0x46, .ctr, 0, 0, 0, 0, []⟩,  -- CLS_RULE_DROP (R447)
   ⟨0x100, 0x13F, 0, 0, .rw, 0x1FFFFF3FFFFF, 0, 0, 0x100003E8, [⟨24, 16, false, 1, 65535⟩, ⟨0, 22, false, 0, 4000000⟩]⟩,  -- CLS_PUNT_CTRL (R451)
   ⟨0x100, 0x13F, 0x40, 0x40, .ctr, 0, 0, 0, 0, []⟩,  -- CLS_PUNT_SENT (R447)
   ⟨0x100, 0x13F, 0x41, 0x41, .ctr, 0, 0, 0, 0, []⟩]  -- CLS_PUNT_LIMITED (R447)

/-- The items of class 0x0E. -/
def itemsOf0E : List ItemDef :=
  [
   ⟨0, 0, 0, 0, .rw, 0, 0, 1, 0, []⟩,  -- RINK_CTRL (R487)
   ⟨0, 0, 1, 1, .rw, 0x924, 0x492, 0, 0, []⟩,  -- RINK_STATUS (R488)
   ⟨0, 0, 0x40, 0x40, .ctr, 0, 0, 0, 0, []⟩,  -- RINK_DOUBLE_FREE (R486)
   ⟨0, 0, 0x41, 0x41, .ctr, 0, 0, 0, 0, []⟩,  -- RINK_LIST_FAULT (R486)
   ⟨0, 0, 0x42, 0x42, .ctr, 0, 0, 0, 0, []⟩,  -- RINK_SPILLS (R486)
   ⟨1, 1, 0, 0, .rw, 0x1FF, 0, 0, 0xC0, [⟨0, 8, false, 1, 255⟩]⟩,  -- RINK_POOL_CTRL (R489)
   ⟨1, 1, 1, 1, .rw, 0x3FFFF03FFFF, 0, 0, 0x400002000, []⟩,  -- RINK_POOL_LIM (R490)
   ⟨2, 2, 0, 0, .rw, 0x1FF, 0, 0, 0x140, [⟨0, 8, false, 1, 255⟩]⟩,  -- RINK_POOL_CTRL (R489)
   ⟨2, 2, 1, 1, .rw, 0x3FFFF03FFFF, 0, 0, 0x100000800, []⟩,  -- RINK_POOL_LIM (R490)
   ⟨3, 3, 0, 0, .rw, 0x1FF, 0, 0, 0x130, [⟨0, 8, false, 1, 255⟩]⟩,  -- RINK_POOL_CTRL (R489)
   ⟨3, 3, 1, 1, .rw, 0x3FFFF03FFFF, 0, 0, 0x100000800, []⟩,  -- RINK_POOL_LIM (R490)
   ⟨4, 4, 0, 0, .rw, 0x1FF, 0, 0, 0x108, [⟨0, 8, false, 1, 255⟩]⟩,  -- RINK_POOL_CTRL (R489)
   ⟨4, 4, 1, 1, .rw, 0x3FFFF03FFFF, 0, 0, 0x20000100, []⟩,  -- RINK_POOL_LIM (R490)
   ⟨1, 4, 2, 2, .rw, 4, 2, 0, 0, []⟩,  -- RINK_POOL_STATUS (R491)
   ⟨0x100, 0x1FF, 0, 0, .rw, 0xFFFFFFFFFFF, 0, 0, 0x190200180, []⟩,  -- RINK_PFC (R492)
   ⟨0x100, 0x1FF, 1, 1, .ro, 0, 0, 0, 0, []⟩,  -- RINK_PFC_STATE (R486)
   ⟨0, 0, 0x101, 0x115, .ctr, 0, 0, 0, 0, []⟩,  -- RINK_DROP (R486)
   ⟨0, 0, 0x120, 0x12B, .ctr, 0, 0, 0, 0, []⟩]  -- RINK_DROP (R486)

/-- The items of class 0x0F. -/
def itemsOf0F : List ItemDef :=
  [
   ⟨0, 0x91F, 0, 0, .rw, 0xFFFF0F0003FF, 0, 0, 0x1408000064, [⟨0, 10, false, 1, 1000⟩]⟩,  -- Q_CTRL (R494)
   ⟨0, 0x91F, 1, 1, .rw, 0x24, 0x12, 0, 0, []⟩,  -- Q_STATUS (R495)
   ⟨0, 0x91F, 2, 2, .rs, 0, 0, 0, 0, []⟩,  -- Q_OCC (R496)
   ⟨0, 0x91F, 3, 3, .ro, 0, 0, 0, 0, []⟩,  -- Q_HEAD_AGE (R493)
   ⟨0, 0x91F, 0x40, 0x40, .ctr, 0, 0, 0, 0, []⟩,  -- Q_ENQ_FRAMES (R493)
   ⟨0, 0x91F, 0x41, 0x41, .ctr, 0, 0, 0, 0, []⟩,  -- Q_ENQ_OCTETS (R493)
   ⟨0, 0x91F, 0x42, 0x42, .ctr, 0, 0, 0, 0, []⟩,  -- Q_DEQ_FRAMES (R493)
   ⟨0, 0x91F, 0x43, 0x43, .ctr, 0, 0, 0, 0, []⟩,  -- Q_DEQ_OCTETS (R493)
   ⟨0, 0x91F, 0x44, 0x44, .ctr, 0, 0, 0, 0, []⟩,  -- Q_DROPPED (R493)
   ⟨0, 0x91F, 0x45, 0x45, .ctr, 0, 0, 0, 0, []⟩,  -- Q_AGED (R493)
   ⟨0, 0x91F, 0x46, 0x46, .ctr, 0, 0, 0, 0, []⟩]  -- Q_FLUSHED (R493)

/-- The items of class 0x10. -/
def itemsOf10 : List ItemDef :=
  [
   ⟨0, 0x9FF, 0, 0, .rw, 0, 0, 7, 0, []⟩,  -- SHP_SHADOW (R532)
   ⟨0, 0x9FF, 1, 1, .rw, 0x24, 0x12, 0, 0, []⟩,  -- SHP_STATUS (R533)
   ⟨0, 0x9FF, 2, 2, .rw, 0x3FFFFFFF, 0, 0, 0x2FAF0800, [⟨0, 30, false, 8, 800000000⟩]⟩,  -- SHP_CIR (R531)
   ⟨0, 0x9FF, 3, 3, .rw, 0x3FFFFFFF, 0, 0, 0, [⟨0, 30, false, 0, 800000000⟩]⟩,  -- SHP_PIR (R531)
   ⟨0, 0x9FF, 4, 4, .rw, 0xFFFFFFFFFFFF, 0, 0, 0x800004000, [⟨0, 24, false, 64, 16777215⟩]⟩,  -- SHP_BURST (R534)
   ⟨0, 0x9FF, 5, 5, .rw, 0xFF05, 0, 0, 0x1400, [⟨8, 8, true, -64, 63⟩]⟩,  -- SHP_MODE (R535)
   ⟨0, 0x9FF, 0x12, 0x12, .ro, 0, 0, 0, 0x2FAF0800, []⟩,  -- SHP_CIR_ACT (R531)
   ⟨0, 0x9FF, 0x13, 0x13, .ro, 0, 0, 0, 0, []⟩,  -- SHP_PIR_ACT (R531)
   ⟨0, 0x9FF, 0x14, 0x14, .ro, 0, 0, 0, 0x800004000, []⟩,  -- SHP_BURST_ACT (R531)
   ⟨0, 0x9FF, 0x15, 0x15, .ro, 0, 0, 0, 0x1400, []⟩,  -- SHP_MODE_ACT (R531)
   ⟨0, 0x9FF, 0x20, 0x20, .rw, 0, 0, 1, 0, []⟩,  -- SHP_RESET_BUCKET (R531)
   ⟨0, 0x9FF, 0x21, 0x21, .rs, 0, 0, 0, 0, []⟩,  -- SHP_C_CREDIT (R531)
   ⟨0, 0x9FF, 0x22, 0x22, .rs, 0, 0, 0, 0, []⟩,  -- SHP_P_CREDIT (R531)
   ⟨0, 0x9FF, 0x23, 0x24, .ro, 0, 0, 0, 0, []⟩,  -- SHP_ELIG (R531)
   ⟨0, 0x9FF, 0x40, 0x40, .ctr, 0, 0, 0, 0, []⟩,  -- SHP_HANDOVERS (R531)
   ⟨0, 0x9FF, 0x41, 0x41, .ctr, 0, 0, 0, 0, []⟩,  -- SHP_MISSED (R531)
   ⟨0, 0x9FF, 0x42, 0x42, .ctr, 0, 0, 0, 0, []⟩]  -- SHP_WAIT_TIME (R531)

/-- The items of class 0x11. -/
def itemsOf11 : List ItemDef :=
  [
   ⟨0, 0xFFF, 0, 0, .rw, 0, 0, 7, 0, []⟩,  -- POL_SHADOW (R532)
   ⟨0, 0xFFF, 1, 1, .rw, 0x24, 0x12, 0, 0, []⟩]  -- POL_STATUS (R533)

/-- The items of class 0x12. -/
def itemsOf12 : List ItemDef :=
  [
   ⟨0, 0xFF, 0, 0, .rw, 0, 0, 7, 0, []⟩,  -- SLW_SHADOW (R532)
   ⟨0, 0xFF, 1, 1, .rw, 0x24, 0x12, 0, 0, []⟩,  -- SLW_STATUS (R533)
   ⟨0, 0xFF, 2, 2, .rw, 0x1FFF, 0, 0, 1, [⟨0, 11, false, 1, 1024⟩]⟩,  -- SLW_CTRL (R539)
   ⟨0, 0xFF, 3, 3, .rw, 0x7FFFFFF, 0, 0, 0x186A0, [⟨0, 27, false, 100, 100000000⟩]⟩,  -- SLW_CYCLE (R538)
   ⟨0, 0xFF, 4, 5, .rw, 0xFFFFFFFFFFFF, 0, 0, 0, []⟩,  -- SLW_BASE (R538)
   ⟨0, 0xFF, 6, 6, .ro, 0, 0, 0, 1, []⟩,  -- SLW_CTRL_ACT (R538)
   ⟨0, 0xFF, 7, 7, .ro, 0, 0, 0, 0x186A0, []⟩,  -- SLW_CYCLE_ACT (R538)
   ⟨0, 0xFF, 8, 9, .ro, 0, 0, 0, 0, []⟩,  -- SLW_BASE_ACT (R538)
   ⟨0, 0xFF, 0xA, 0xA, .ro, 0, 0, 0, 0, []⟩,  -- SLW_CUR (R538)
   ⟨0, 0xFF, 0x40, 0x40, .ctr, 0, 0, 0, 0, []⟩,  -- SLW_HANDOVERS (R538)
   ⟨0, 0xFF, 0x41, 0x41, .ctr, 0, 0, 0, 0, []⟩,  -- SLW_MISSED (R538)
   ⟨0, 0xFF, 0x42, 0x42, .ctr, 0, 0, 0, 0, []⟩,  -- SLW_LOOKAHEAD_HELD (R538)
   ⟨0, 0xFF, 0x400, 0x7FF, .rw, 0xFFFFFFFFF, 0, 0, 1, [⟨0, 27, false, 0, 100000000⟩]⟩,  -- SLW_ENTRY (R540)
   ⟨0, 0xFF, 0x800, 0xBFF, .ro, 0, 0, 0, 1, []⟩]  -- SLW_ENTRY_ACT (R540)

/-- The items of class 0x13. -/
def itemsOf13 : List ItemDef :=
  [
   ⟨0, 0x1FF, 0, 0, .rw, 0xF8, 0, 1, 0, []⟩,  -- LANE_CTRL (R567)
   ⟨0, 0x23F, 1, 1, .rw, 0x124, 0x92, 0, 0, []⟩,  -- LANE_STATUS (R568)
   ⟨0x300, 0x3FF, 1, 1, .rw, 0x124, 0x92, 0, 0, []⟩,  -- LANE_STATUS (R568)
   ⟨0, 0x1FF, 2, 2, .rw, 0xFFFFFFFF, 0, 0, 0xF834FC, []⟩,  -- LANE_TX_FFE (R569)
   ⟨0, 0x1FF, 3, 3, .rw, 0xF0FF03, 0, 0x80000, 0x2200, []⟩,  -- LANE_PRBS_CTRL (R570)
   ⟨0, 0x1FF, 4, 4, .rw, 0x3FFFFF06, 0, 1, 0x1E000002, []⟩,  -- LANE_EYE_CTRL (R571)
   ⟨0, 0x1FF, 5, 5, .ro, 0, 0, 0, 0, []⟩,  -- LANE_EYE_RESULT (R572)
   ⟨0, 0x1FF, 0x10, 0x10, .rw, 0xFFFFFFFFFFFF, 0, 0, 0x1F000000, []⟩,  -- LANE_EQ_BOUNDS (R544)
   ⟨0, 0x1FF, 0x11, 0x11, .rw, 0xFFFFFFFFFFFF, 0, 0, 0xF000000, []⟩,  -- LANE_EQ_BOUNDS (R544)
   ⟨0, 0x1FF, 0x12, 0x12, .rw, 0xFFFFFFFFFFFF, 0, 0, 0x3F000000, []⟩,  -- LANE_EQ_BOUNDS (R544)
   ⟨0, 0x1FF, 0x13, 0x13, .rw, 0xFFFFFFFFFFFF, 0, 0, 0x1FFFFFE0, []⟩,  -- LANE_EQ_BOUNDS (R544)
   ⟨0, 0x1FF, 0x14, 0x14, .rw, 0xFFFFFFFFFFFF, 0, 0, 0x3FFFFFC0, []⟩,  -- LANE_EQ_BOUNDS (R544)
   ⟨0, 0x1FF, 0x15, 0x15, .rw, 0xFFFFFFFFFFFF, 0, 0, 0x1FFFFFE0, []⟩,  -- LANE_EQ_BOUNDS (R544)
   ⟨0, 0x1FF, 0x18, 0x1D, .rw, 4, 2, 0, 0, []⟩,  -- LANE_EQ_HELD (R51)
   ⟨0, 0x1FF, 0x20, 0x25, .ctr, 0, 0, 0, 0, []⟩,  -- LANE_EQ_HELD_TIME (R52)
   ⟨0, 0x1FF, 0x28, 0x2D, .ro, 0, 0, 0, 0, []⟩,  -- LANE_EQ_VALUE (R544)
   ⟨0, 0x1FF, 0x40, 0x40, .ctr, 0, 0, 0, 0, []⟩,  -- LANE_RESTARTS (R566)
   ⟨0x300, 0x3FF, 0x40, 0x40, .ctr, 0, 0, 0, 0, []⟩,  -- LANE_RESTARTS (R566)
   ⟨0, 0x1FF, 0x41, 0x41, .ctr, 0, 0, 0, 0, []⟩,  -- LANE_PRBS_BITS (R566)
   ⟨0, 0x1FF, 0x42, 0x42, .ctr, 0, 0, 0, 0, []⟩,  -- LANE_PRBS_ERR (R566)
   ⟨0, 0x1FF, 0x43, 0x43, .ctr, 0, 0, 0, 0, []⟩,  -- LANE_PRBS_INJ (R566)
   ⟨0, 0x1FF, 0x44, 0x44, .ctr, 0, 0, 0, 0, []⟩,  -- LANE_PRBS_RELOCK (R566)
   ⟨0x300, 0x3FF, 6, 6, .ro, 0, 0, 0, 0, []⟩,  -- LANE_CL_MAP (R566)
   ⟨0x300, 0x3FF, 7, 7, .ro, 0, 0, 0, 0, []⟩]  -- LANE_CL_MARGIN (R573)
  ++ [
   ⟨0x300, 0x3FF, 0x45, 0x45, .ctr, 0, 0, 0, 0, []⟩]  -- LANE_CL_CRC_ERR (R566)

/-- The items of class 0x14. -/
def itemsOf14 : List ItemDef :=
  [
   ⟨0, 1, 0, 0, .rw, 0xC1, 0, 2, 1, []⟩,  -- TRK_CTRL (R575)
   ⟨0, 1, 1, 1, .rw, 0x244, 0x122, 0, 1, []⟩,  -- TRK_STATUS (R576)
   ⟨0, 1, 2, 2, .ro, 0, 0, 0, 0, []⟩,  -- TRK_MAP (R577)
   ⟨0, 1, 3, 3, .rw, 0xF0FF03, 0, 0x80000, 0, []⟩,  -- TRK_PRBS_CTRL (R570)
   ⟨0, 1, 4, 4, .rw, 0xFFFFFF06, 0, 1, 0x1E000002, []⟩,  -- TRK_EYE_CTRL (R571)
   ⟨0, 1, 5, 5, .ro, 0, 0, 0, 0, []⟩,  -- TRK_EYE_RESULT (R572)
   ⟨0, 1, 0x40, 0x40, .ctr, 0, 0, 0, 0, []⟩,  -- TRK_MARKERS_RX (R574)
   ⟨0, 1, 0x41, 0x41, .ctr, 0, 0, 0, 0, []⟩,  -- TRK_TW_BAD (R574)
   ⟨0, 1, 0x42, 0x42, .ctr, 0, 0, 0, 0, []⟩,  -- TRK_MSG_RX (R574)
   ⟨0, 1, 0x43, 0x43, .ctr, 0, 0, 0, 0, []⟩,  -- TRK_MSG_BAD (R574)
   ⟨0, 1, 0x44, 0x44, .ctr, 0, 0, 0, 0, []⟩,  -- TRK_CODE_ERR (R574)
   ⟨0, 1, 0x45, 0x45, .ctr, 0, 0, 0, 0, []⟩,  -- TRK_TRAINS (R574)
   ⟨0, 1, 0x46, 0x46, .ctr, 0, 0, 0, 0, []⟩,  -- TRK_MARKER_MISS (R574)
   ⟨0, 1, 0x48, 0x4B, .ctr, 0, 0, 0, 0, []⟩,  -- TRK_PRBS_ERR (R574)
   ⟨0, 1, 0x4C, 0x4F, .ctr, 0, 0, 0, 0, []⟩]  -- TRK_PRBS_BITS (R574)

/-- The items of class 0x15. -/
def itemsOf15 : List ItemDef :=
  [
   ⟨0, 0, 0, 0, .rw, 0xFFFF003F009F, 0, 0, 0x3E80008001F, []⟩,  -- CNT_PC_CTRL (R607)
   ⟨0, 0, 1, 1, .rw, 0x924, 0x492, 0, 0, []⟩,  -- CNT_STATUS (R608)
   ⟨0, 0, 2, 2, .rw, 0xFFFFFFFFFF1F, 0, 0, 0x128302580000, [⟨16, 16, false, 10, 3600⟩]⟩,  -- CNT_IPFIX_CTRL (R610)
   ⟨0, 0, 3, 5, .rw, 0xFFFFFFFFFFFF, 0, 0, 0, []⟩,  -- CNT_IPFIX_SRC (R606)
   ⟨0, 0, 6, 8, .rw, 0xFFFFFFFFFFFF, 0, 0, 0, []⟩,  -- CNT_IPFIX_DST (R606)
   ⟨0, 0, 0x40, 0x40, .ctr, 0, 0, 0, 0, []⟩,  -- CNT_PC_EMITTED (R606)
   ⟨0, 0, 0x41, 0x41, .ctr, 0, 0, 0, 0, []⟩,  -- CNT_PC_LOST (R606)
   ⟨0, 0, 0x42, 0x42, .ctr, 0, 0, 0, 0, []⟩,  -- CNT_SWEEP_LOST (R606)
   ⟨0, 0, 0x43, 0x43, .ctr, 0, 0, 0, 0, []⟩,  -- CNT_IPFIX_SENT (R606)
   ⟨0, 0, 0x44, 0x44, .ctr, 0, 0, 0, 0, []⟩,  -- CNT_IPFIX_LOST (R606)
   ⟨0, 0, 0x80, 0xBF, .ro, 0, 0, 0, 0, []⟩,  -- CNT_SWEEP_LAST (R609)
   ⟨1, 0x400, 0x100, 0x1FF, .ctr, 0, 0, 0, 0, []⟩,  -- CNT_RULE (R606)
   ⟨0x600, 0xF1F, 0, 0, .rw, 0x1F, 0, 0, 8, [⟨0, 5, false, 4, 20⟩]⟩,  -- CNT_HIST_CTRL (R606)
   ⟨0x600, 0xF1F, 0x40, 0x4F, .ctr, 0, 0, 0, 0, []⟩,  -- CNT_HIST_BIN (R594)
   ⟨0x600, 0xF1F, 0x50, 0x50, .ctr, 0, 0, 0, 0, []⟩]  -- CNT_HIST_SUM (R594)

/-- The items of class 0x16. -/
def itemsOf16 : List ItemDef :=
  [
   ⟨0, 0xF, 0, 0, .rw, 0xFFFCFFFF0001, 0, 0, 0, [⟨16, 2, false, 0, 2⟩]⟩,  -- MIR_CTRL (R612)
   ⟨0, 0xF, 1, 1, .rw, 0xFFFFFFFFFFFF, 0, 0, 0, []⟩,  -- MIR_DROP_MASK (R611)
   ⟨0, 0xF, 2, 2, .rw, 0xFFFFFFFFFFFF, 0, 0, 0, []⟩,  -- MIR_OUTER_MAC (R611)
   ⟨0, 0xF, 3, 3, .rw, 0x1FFFF, 0, 0, 0, []⟩,  -- MIR_OUTER_TAG (R611)
   ⟨0, 0xF, 4, 6, .rw, 0xFFFFFFFFFFFF, 0, 0, 0, []⟩,  -- MIR_OUTER_SRC (R611)
   ⟨0, 0xF, 7, 9, .rw, 0xFFFFFFFFFFFF, 0, 0, 0, []⟩,  -- MIR_OUTER_DST (R611)
   ⟨0, 0xF, 0x10, 0x14, .rw, 0xFFFFFFFFFFFF, 0, 0, 0, []⟩,  -- MIR_SRC_RX (R611)
   ⟨0, 0xF, 0x15, 0x15, .rw, 0xFFFF, 0, 0, 0, []⟩,  -- MIR_SRC_RX (R611)
   ⟨0, 0xF, 0x18, 0x1C, .rw, 0xFFFFFFFFFFFF, 0, 0, 0, []⟩,  -- MIR_SRC_TX (R611)
   ⟨0, 0xF, 0x1D, 0x1D, .rw, 0xFFFF, 0, 0, 0, []⟩,  -- MIR_SRC_TX (R611)
   ⟨0, 0xF, 0x40, 0x40, .ctr, 0, 0, 0, 0, []⟩,  -- MIR_COPIES (R611)
   ⟨0, 0xF, 0x41, 0x41, .ctr, 0, 0, 0, 0, []⟩,  -- MIR_OCTETS (R611)
   ⟨0, 0xF, 0x42, 0x42, .ctr, 0, 0, 0, 0, []⟩,  -- MIR_TRUNCATED (R611)
   ⟨0, 0xF, 0x43, 0x43, .ctr, 0, 0, 0, 0, []⟩]  -- MIR_DROPPED (R611)

/-- The items of class 0x17. -/
def itemsOf17 : List ItemDef :=
  [
   ⟨0, 0x3F, 0, 0, .ro, 0, 0, 0, 0, []⟩,  -- DMA_STATE (R655)
   ⟨0, 0x3F, 0x40, 0x40, .ctr, 0, 0, 0, 0, []⟩,  -- DMA_DESC_DONE (R655)
   ⟨0, 0x3F, 0x41, 0x41, .ctr, 0, 0, 0, 0, []⟩,  -- DMA_BYTES (R655)
   ⟨0, 0x3F, 0x42, 0x42, .ctr, 0, 0, 0, 0, []⟩,  -- DMA_FRAMES (R655)
   ⟨0, 0x3F, 0x43, 0x43, .ctr, 0, 0, 0, 0, []⟩,  -- DMA_ERRORS (R655)
   ⟨0, 0x3F, 0x44, 0x44, .ctr, 0, 0, 0, 0, []⟩,  -- DMA_TRUNC (R655)
   ⟨0, 0x3F, 0x45, 0x45, .ctr, 0, 0, 0, 0, []⟩,  -- DMA_INJ_DROPPED (R655)
   ⟨0, 0x3F, 0x46, 0x46, .ctr, 0, 0, 0, 0, []⟩]  -- DMA_PARKED_TIME (R655)

/-- The items of class 0x18. -/
def itemsOf18 : List ItemDef :=
  [
   ⟨0, 0, 0, 0, .rw, 0xFF0033, 0, 0, 0x400000, [⟨16, 8, false, 1, 255⟩]⟩,  -- CRS_CTRL (R679)
   ⟨0, 0, 1, 1, .rw, 0x924, 0x492, 0, 8, []⟩,  -- CRS_STATUS (R680)
   ⟨0, 0, 2, 2, .keep, 0xFFFF, 0, 0, 0, []⟩,  -- CRS_NODE_ID (R678)
   ⟨0, 0, 3, 3, .keep, 0xFFFF, 0, 0, 0, []⟩,  -- CRS_AUTO_BASE (R678)
   ⟨0, 0, 4, 4, .rw, 0xFFFFFFFFFF, 0, 0, 0xFA0FA0781E, [⟨32, 8, false, 10, 255⟩, ⟨16, 16, false, 40, 60000⟩, ⟨8, 8, false, 20, 255⟩, ⟨0, 8, false, 5, 127⟩]⟩,  -- CRS_TIMERS (R681)
   ⟨0, 0, 5, 5, .ro, 0, 0, 0, 0, []⟩,  -- CRS_DB (R678)
   ⟨0, 0, 6, 6, .rw, 0x1F, 0, 0, 0x1F, []⟩,  -- CRS_PERM (R678)
   ⟨0, 0, 7, 7, .ro, 0, 0, 0, 0, []⟩,  -- CRS_ID_STATE (R678)
   ⟨0, 0, 0x10, 0x13, .ro, 0, 0, 0, 0, []⟩,  -- CRS_KEY_INFO (R678)
   ⟨0, 0, 0x40, 0x40, .ctr, 0, 0, 0, 0, []⟩,  -- CRS_TX (R678)
   ⟨0, 0, 0x41, 0x41, .ctr, 0, 0, 0, 0, []⟩,  -- CRS_RX (R678)
   ⟨0, 0, 0x42, 0x42, .ctr, 0, 0, 0, 0, []⟩,  -- CRS_AUTH_FAIL (R678)
   ⟨0, 0, 0x43, 0x43, .ctr, 0, 0, 0, 0, []⟩,  -- CRS_REPLAY (R678)
   ⟨0, 0, 0x44, 0x44, .ctr, 0, 0, 0, 0, []⟩,  -- CRS_DUP (R678)
   ⟨0, 0, 0x45, 0x45, .ctr, 0, 0, 0, 0, []⟩,  -- CRS_BAD (R678)
   ⟨0, 0, 0x46, 0x46, .ctr, 0, 0, 0, 0, []⟩,  -- CRS_HOPS_OUT (R678)
   ⟨0, 0, 0x47, 0x47, .ctr, 0, 0, 0, 0, []⟩,  -- CRS_NO_ROUTE (R678)
   ⟨0, 0, 0x48, 0x48, .ctr, 0, 0, 0, 0, []⟩,  -- CRS_DROP (R678)
   ⟨0, 0, 0x49, 0x49, .ctr, 0, 0, 0, 0, []⟩,  -- CRS_RX_OFF (R678)
   ⟨0x100, 0x1FF, 0, 0, .rw, 0x10007FFFF, 0, 0, 0x7000A, [⟨0, 16, false, 1, 65535⟩]⟩,  -- CRS_LINK_CTRL (R682)
   ⟨0x300, 0x301, 0, 0, .rw, 0x10007FFFF, 0, 0, 0x10001000A, [⟨0, 16, false, 1, 65535⟩]⟩,  -- CRS_LINK_CTRL (R682)
   ⟨0x100, 0x1FF, 1, 1, .ro, 0, 0, 0, 0, []⟩,  -- CRS_LINK_STATE (R678)
   ⟨0x100, 0x1FF, 0x40, 0x40, .ctr, 0, 0, 0, 0, []⟩,  -- CRS_LINK_TX (R678)
   ⟨0x100, 0x1FF, 0x41, 0x41, .ctr, 0, 0, 0, 0, []⟩]  -- CRS_LINK_RX (R678)
  ++ [
   ⟨0x300, 0x301, 1, 1, .ro, 0, 0, 0, 0, []⟩,  -- CRS_LINK_STATE (R678)
   ⟨0x300, 0x301, 0x40, 0x40, .ctr, 0, 0, 0, 0, []⟩,  -- CRS_LINK_TX (R678)
   ⟨0x300, 0x301, 0x41, 0x41, .ctr, 0, 0, 0, 0, []⟩]  -- CRS_LINK_RX (R678)

/-- The items of class 0x19. -/
def itemsOf19 : List ItemDef :=
  [
   ⟨0, 0, 0, 0, .rw, 0x3FF, 0, 0, 0x18, [⟨0, 10, false, 1, 720⟩]⟩,  -- TRUST_CTRL (R703)
   ⟨0, 0, 1, 1, .rw, 0x4924, 0x2492, 0, 0, []⟩,  -- TRUST_STATUS (R704)
   ⟨0, 0, 2, 2, .ro, 0, 0, 0, 0, []⟩,  -- TRUST_IMAGE (R705)
   ⟨0, 0, 3, 3, .ro, 0, 0, 0, 0, []⟩,  -- TRUST_PATROL (R706)
   ⟨0, 0, 4, 4, .ro, 0, 0, 0, 0, []⟩,  -- TRUST_BOOT (R702)
   ⟨0, 0, 0x10, 0x2F, .ro, 0, 0, 0, 0, []⟩,  -- TRUST_MEAS (R702)
   ⟨0, 0, 0x40, 0x40, .ctr, 0, 0, 0, 0, []⟩,  -- TRUST_KEEP_COMMITS (R702)
   ⟨0, 0, 0x41, 0x41, .ctr, 0, 0, 0, 0, []⟩,  -- TRUST_KEEP_REFUSED (R702)
   ⟨0, 0, 0x42, 0x42, .ctr, 0, 0, 0, 0, []⟩,  -- TRUST_FAILOVERS (R702)
   ⟨0, 0, 0x43, 0x43, .ctr, 0, 0, 0, 0, []⟩,  -- TRUST_SPARE_TESTS (R702)
   ⟨0, 0, 0x44, 0x44, .ctr, 0, 0, 0, 0, []⟩]  -- TRUST_INSTALLS (R702)

/-- The items of class 0x1A. -/
def itemsOf1A : List ItemDef :=
  [
   ⟨0, 0, 0, 0, .rw, 0xFFFF0003, 0, 0, 0x3C0002, [⟨16, 16, false, 0, 3600⟩]⟩,  -- PWR_CTRL (R735)
   ⟨0, 0, 1, 1, .rw, 0x4924, 0x2492, 0, 0x200, []⟩,  -- PWR_STATUS (R736)
   ⟨0, 0, 2, 2, .rw, 0, 0, 0xF, 0, []⟩,  -- PWR_RESET (R734)
   ⟨0, 0, 3, 3, .ro, 0, 0, 0, 0x1000000, []⟩,  -- PWR_LAST_RESET (R737)
   ⟨0, 0, 4, 4, .keep, 1, 0, 0, 1, []⟩,  -- PWR_KEEP_CTRL (R734)
   ⟨0, 0, 5, 5, .ro, 0, 0, 0, 0, []⟩,  -- PWR_FEED (R734)
   ⟨0, 0, 0x10, 0x10, .rw, 0xFFFFFFFFFFFF, 0, 0, 0x3520002BC, []⟩,  -- PWR_VCORE_BOUNDS (R46)
   ⟨0, 0, 0x11, 0x11, .rw, 4, 2, 0, 0, []⟩,  -- PWR_VCORE_HELD (R51)
   ⟨0, 0, 0x12, 0x12, .ctr, 0, 0, 0, 0, []⟩,  -- PWR_VCORE_HELD_TIME (R52)
   ⟨0, 0, 0x13, 0x13, .ro, 0, 0, 0, 0, []⟩,  -- PWR_VCORE (R734)
   ⟨0, 0, 0x40, 0x40, .ctr, 0, 0, 0, 0, []⟩,  -- PWR_RESETS (R734)
   ⟨0, 0, 0x41, 0x41, .ctr, 0, 0, 0, 0, []⟩,  -- PWR_FEED_DROPS (R734)
   ⟨0, 0, 0x42, 0x42, .ctr, 0, 0, 0, 0, []⟩]  -- PWR_REMOVE_REQS (R734)

/-- The items of class 0x1B. -/
def itemsOf1B : List ItemDef :=
  [
   ⟨0, 0, 0, 0, .rw, 0x24, 0x12, 0, 0, []⟩,  -- HLT_STATUS (R772)
   ⟨0, 0, 1, 1, .ro, 0, 0, 0, 0, []⟩,  -- HLT_TRIP (R773)
   ⟨0, 0, 0x40, 0x40, .ctr, 0, 0, 0, 0, []⟩,  -- HLT_TRIPS (R769)
   ⟨1, 0x10, 0, 0, .ro, 0, 0, 0, 0, []⟩,  -- HLT_TEMP (R769)
   ⟨1, 0xB, 1, 1, .rw, 0xFFFFFFFF, 0, 0, 0x9B007D, []⟩,  -- HLT_LIM (R770)
   ⟨0xC, 0xC, 1, 1, .rw, 0xFFFFFFFF, 0, 0, 0x460037, []⟩,  -- HLT_LIM (R770)
   ⟨0xD, 0xD, 1, 1, .rw, 0xFFFFFFFF, 0, 0, 0x5F0050, []⟩,  -- HLT_LIM (R770)
   ⟨0xE, 0xE, 1, 1, .rw, 0xFFFFFFFF, 0, 0, 0x7FFF005F, []⟩,  -- HLT_LIM (R770)
   ⟨0xF, 0xF, 1, 1, .rw, 0xFFFFFFFF, 0, 0, 0x82006E, []⟩,  -- HLT_LIM (R770)
   ⟨0x10, 0x10, 1, 1, .rw, 0xFFFFFFFF, 0, 0, 0x780064, []⟩,  -- HLT_LIM (R770)
   ⟨1, 0x10, 2, 2, .rw, 0x24, 0x12, 0, 0, []⟩,  -- HLT_SENSOR_STATUS (R771)
   ⟨1, 0x10, 3, 3, .ro, 0, 0, 0, 0, []⟩,  -- HLT_TEMP_MAX (R769)
   ⟨1, 0x10, 0x40, 0x40, .ctr, 0, 0, 0, 0, []⟩,  -- HLT_WARNS (R769)
   ⟨0x100, 0x13F, 0, 0, .rw, 0xFF0001, 0, 0, 0x480001, [⟨16, 8, false, 4, 72⟩]⟩,  -- HLT_OPT_CTRL (R774)
   ⟨0x100, 0x13F, 1, 1, .rw, 4, 2, 0, 0, []⟩,  -- HLT_OPTIC (R775)
   ⟨0x100, 0x13F, 0x40, 0x40, .ctr, 0, 0, 0, 0, []⟩]  -- HLT_OPT_FAULTS (R769)

/-- The items of policer 16 × g + j of class 0x11, at offset k from 0x100 + 0x40 × j (R536). -/
def polItems : List ItemDef :=
  [⟨0, 0xFFF, 0, 0, .rw, 0x3FFFFFFF, 0, 0, 0x2FAF0800, [⟨0, 30, false, 8, 800000000⟩]⟩,
   ⟨0, 0xFFF, 1, 1, .rw, 0x3FFFFFFF, 0, 0, 0x2FAF0800, [⟨0, 30, false, 8, 800000000⟩]⟩,
   ⟨0, 0xFFF, 2, 2, .rw, 0xFFFFFFFFFFFF, 0, 0, 0x2800002800, [⟨0, 24, false, 64, 16777215⟩, ⟨24, 24, false, 64, 16777215⟩]⟩,
   ⟨0, 0xFFF, 3, 3, .rw, 0xFFFD, 0, 0, 0xF8, [⟨8, 8, true, -64, 63⟩]⟩,
   ⟨0, 0xFFF, 8, 8, .ro, 0, 0, 0, 0x2FAF0800, []⟩,
   ⟨0, 0xFFF, 9, 9, .ro, 0, 0, 0, 0x2FAF0800, []⟩,
   ⟨0, 0xFFF, 0xA, 0xA, .ro, 0, 0, 0, 0x2800002800, []⟩,
   ⟨0, 0xFFF, 0xB, 0xB, .ro, 0, 0, 0, 0xF8, []⟩,
   ⟨0, 0xFFF, 0x10, 0x10, .rs, 0, 0, 0, 0, []⟩,
   ⟨0, 0xFFF, 0x11, 0x11, .rs, 0, 0, 0, 0, []⟩,
   ⟨0, 0xFFF, 0x20, 0x20, .ctr, 0, 0, 0, 0, []⟩,
   ⟨0, 0xFFF, 0x21, 0x21, .ctr, 0, 0, 0, 0, []⟩,
   ⟨0, 0xFFF, 0x22, 0x22, .ctr, 0, 0, 0, 0, []⟩,
   ⟨0, 0xFFF, 0x23, 0x23, .ctr, 0, 0, 0, 0, []⟩,
   ⟨0, 0xFFF, 0x24, 0x24, .ctr, 0, 0, 0, 0, []⟩,
   ⟨0, 0xFFF, 0x25, 0x25, .ctr, 0, 0, 0, 0, []⟩]

/-- The items of class `c`. -/
def itemsOf (c : Nat) : List ItemDef :=
  match c with
  | 0x01 => itemsOf01
  | 0x02 => itemsOf02
  | 0x03 => itemsOf03
  | 0x04 => itemsOf04
  | 0x05 => itemsOf05
  | 0x06 => itemsOf06
  | 0x07 => itemsOf07
  | 0x08 => itemsOf08
  | 0x09 => itemsOf09
  | 0x0A => itemsOf0A
  | 0x0B => itemsOf0B
  | 0x0C => itemsOf0C
  | 0x0D => itemsOf0D
  | 0x0E => itemsOf0E
  | 0x0F => itemsOf0F
  | 0x10 => itemsOf10
  | 0x11 => itemsOf11
  | 0x12 => itemsOf12
  | 0x13 => itemsOf13
  | 0x14 => itemsOf14
  | 0x15 => itemsOf15
  | 0x16 => itemsOf16
  | 0x17 => itemsOf17
  | 0x18 => itemsOf18
  | 0x19 => itemsOf19
  | 0x1A => itemsOf1A
  | 0x1B => itemsOf1B
  | _ => []

/-- The row of an item table that a parameter ID falls under, or none when the class, the instance or the item does
not exist (R19). -/
def itemDef (p : Nat) : Option ItemDef :=
  let c := p / 0x1000000
  let i := p / 0x1000 % 0x1000
  let n := p % 0x1000
  if c = 0x11 ∧ 0x100 ≤ n ∧ n < 0x500 then
    if i ≤ 4095 then polItems.find? (fun d => decide (d.n0 = n % 0x40)) else none
  else
    (itemsOf c).find? (fun d => decide (d.i0 ≤ i ∧ i ≤ d.i1 ∧ d.n0 ≤ n ∧ n ≤ d.n1))

/-- The reset value of a parameter: the value of its table. MAC_STATUS reads STATE 1 on LP(4n) and 0 on the others
(R393); an item that does not exist has no value and is given 0. -/
def itemReset (p : Nat) : BitVec 96 :=
  if p / 0x1000000 = 0x0A ∧ p % 0x1000 = 1 then
    if p / 0x1000 % 0x1000 % 4 = 0 then 0x100000000#96 else 0#96
  else
    match itemDef p with
    | some d => BitVec.ofNat 96 d.rst
    | none => 0#96

/-! Names of the items (the rule of each table in brackets). An index `i` is the instance, counted from the first
instance that has the item where that lies at 0x100 or above; `k` counts the items of a range. -/

abbrev ID_PART : Nat := pid 0x01 0 0
abbrev ID_VARIANT : Nat := pid 0x01 0 1
abbrev ID_EODIN_LEVEL : Nat := pid 0x01 0 2
abbrev ID_VENDOR : Nat := pid 0x01 0 3
abbrev ID_SERIAL : Nat := pid 0x01 0 4
abbrev ID_MAC : Nat := pid 0x01 0 5
abbrev ID_CLOCK : Nat := pid 0x01 0 6
abbrev ID_ENTERPRISE : Nat := pid 0x01 0 7
abbrev ID_NODE : Nat := pid 0x01 0 8
abbrev GLB_STATE : Nat := pid 0x01 0 9
abbrev GLB_HEARTBEAT : Nat := pid 0x01 0 0xA
abbrev TK_CTRL : Nat := pid 0x02 0 0
abbrev TK_STATUS : Nat := pid 0x02 0 1
abbrev TK_FREQ_ADJ : Nat := pid 0x02 0 2
abbrev TK_PHASE_ADJ : Nat := pid 0x02 0 3
abbrev TK_SLEW_RATE : Nat := pid 0x02 0 4
abbrev TK_STEP_THRESHOLD : Nat := pid 0x02 0 5
abbrev TK_SET (k : Nat) : Nat := pid 0x02 0 (6 + k)
abbrev TK_SLEW_REMAIN : Nat := pid 0x02 0 8
abbrev TK_STEP_COUNT : Nat := pid 0x02 0 9
abbrev TK_LAST_STEP : Nat := pid 0x02 0 0xA
abbrev TK_REP_STATUS (i : Nat) : Nat := pid 0x02 i 0x20
abbrev TK_REP_OFFSET (i : Nat) : Nat := pid 0x02 i 0x21
abbrev TK_REP_CHECKS (i : Nat) : Nat := pid 0x02 i 0x22
abbrev TK_REP_FAULTS (i : Nat) : Nat := pid 0x02 i 0x23
abbrev TL_STATUS : Nat := pid 0x03 0 1
abbrev TL_FIRE_HEAD : Nat := pid 0x03 0 2
abbrev TL_FIRE_ACK : Nat := pid 0x03 0 3
abbrev TL_FIRE_REC (i : Nat) (k : Nat) : Nat := pid 0x03 i (0x40 + k)
abbrev TSU_CTRL (i : Nat) : Nat := pid 0x04 i 0
abbrev TSU_STATUS (i : Nat) : Nat := pid 0x04 i 1
abbrev TSU_RX_ADD (i : Nat) : Nat := pid 0x04 i 2
abbrev TSU_RX_FIXED (i : Nat) (k : Nat) : Nat := pid 0x04 i (0x10 + k)
abbrev TSU_TX_FIXED (i : Nat) (k : Nat) : Nat := pid 0x04 i (0x18 + k)
abbrev TSU_LAST_RX (i : Nat) (k : Nat) : Nat := pid 0x04 i (0x20 + k)
abbrev TSU_LAST_RX_TERMS (i : Nat) : Nat := pid 0x04 i 0x22
abbrev TSU_LAST_TX (i : Nat) (k : Nat) : Nat := pid 0x04 i (0x24 + k)
abbrev TSU_LAST_TX_TERMS (i : Nat) : Nat := pid 0x04 i 0x26
abbrev TSU_EVT_RX (i : Nat) : Nat := pid 0x04 i 0x40
abbrev TSU_EVT_TX (i : Nat) : Nat := pid 0x04 i 0x41
abbrev TSU_CORR_DONE (i : Nat) : Nat := pid 0x04 i 0x42
abbrev TSU_CORR_SAT (i : Nat) : Nat := pid 0x04 i 0x43
abbrev TSU_SF_FORCED (i : Nat) : Nat := pid 0x04 i 0x44
abbrev TSU_UNCERT (i : Nat) : Nat := pid 0x04 i 0x45
abbrev TSU_CKSUM_FIX (i : Nat) : Nat := pid 0x04 i 0x46
abbrev TSU_TRAILER_FIX (i : Nat) : Nat := pid 0x04 i 0x47
abbrev PTE_CTRL : Nat := pid 0x05 0 0
abbrev PTE_STATUS : Nat := pid 0x05 0 1
abbrev PTE_SW_ALIGN : Nat := pid 0x05 0 2
abbrev PTE_SW_SLEW_LIMIT : Nat := pid 0x05 0 3
abbrev PTE_SW_SLEW_RATE : Nat := pid 0x05 0 4
abbrev PTE_SW_FREQ_RATE : Nat := pid 0x05 0 5
abbrev PTE_WTR : Nat := pid 0x05 0 6
abbrev PTE_SWITCH_COUNT : Nat := pid 0x05 0 7
abbrev PTE_SW_LAST : Nat := pid 0x05 0 8
abbrev PTE_TOD_CTRL : Nat := pid 0x05 0 0x10
abbrev PTE_TOD_UTC_OFFSET : Nat := pid 0x05 0 0x11
abbrev PTE_TOD_RX_COUNT : Nat := pid 0x05 0 0x12
abbrev PTE_TOD_RX_BAD : Nat := pid 0x05 0 0x13
abbrev PTE_PISTE_CTRL (i : Nat) : Nat := pid 0x05 i 0
abbrev PTE_PISTE_STATUS (i : Nat) : Nat := pid 0x05 i 1
abbrev PTE_PISTE_OFFSET (i : Nat) : Nat := pid 0x05 i 2
abbrev PTE_PISTE_FREQ (i : Nat) : Nat := pid 0x05 i 3
abbrev PTE_GM_IDENTITY (i : Nat) (k : Nat) : Nat := pid 0x05 i (4 + k)
abbrev PTE_GM_QUALITY (i : Nat) : Nat := pid 0x05 i 6
abbrev PTE_GM_CLASS (i : Nat) : Nat := pid 0x05 i 7
abbrev PTE_SERVO_BW_BOUNDS (i : Nat) : Nat := pid 0x05 i 0x10
abbrev PTE_SERVO_BW_HELD (i : Nat) : Nat := pid 0x05 i 0x11
abbrev PTE_SERVO_BW_HELD_TIME (i : Nat) : Nat := pid 0x05 i 0x12
abbrev PTE_SERVO_BW (i : Nat) : Nat := pid 0x05 i 0x13
abbrev PTE_LOCK_THRESHOLD (i : Nat) : Nat := pid 0x05 i 0x14
abbrev PTE_UMT (i : Nat) (k : Nat) : Nat := pid 0x05 i (0x20 + k)
abbrev PTE_PORT_ROLE (i : Nat) : Nat := pid 0x05 i 0
abbrev PTE_PORT_STATE (i : Nat) : Nat := pid 0x05 i 1
abbrev PTE_ASYM (i : Nat) : Nat := pid 0x05 i 2
abbrev PTE_MEAN_DELAY_A (i : Nat) : Nat := pid 0x05 i 5
abbrev PTE_MEAN_DELAY_B (i : Nat) : Nat := pid 0x05 i 6
abbrev PTE_PORT_RATES_A (i : Nat) : Nat := pid 0x05 (0x100 + i) 3
abbrev PTE_PORT_RATES_B (i : Nat) : Nat := pid 0x05 (0x100 + i) 4
abbrev PTE_PORT_IP4 (i : Nat) : Nat := pid 0x05 (0x100 + i) 7
abbrev PTE_PORT_IP6 (i : Nat) (k : Nat) : Nat := pid 0x05 (0x100 + i) (8 + k)
abbrev PTE_OUT_PEND0 (i : Nat) : Nat := pid 0x05 (0x200 + i) 0
abbrev PTE_OUT_PEND1 (i : Nat) : Nat := pid 0x05 (0x200 + i) 1
abbrev PTE_OUT_ACTIVE0 (i : Nat) : Nat := pid 0x05 (0x200 + i) 2
abbrev PTE_OUT_ACTIVE1 (i : Nat) : Nat := pid 0x05 (0x200 + i) 3
abbrev PTE_OUT_STATUS (i : Nat) : Nat := pid 0x05 (0x200 + i) 4
abbrev EMU_CTRL (i : Nat) : Nat := pid 0x06 i 0
abbrev EMU_STATUS (i : Nat) : Nat := pid 0x06 i 1
abbrev EMU_SRC (i : Nat) : Nat := pid 0x06 i 2
abbrev EMU_INPUT (i : Nat) : Nat := pid 0x06 i 3
abbrev EMU_DECIM (i : Nat) : Nat := pid 0x06 i 4
abbrev EMU_GATE (i : Nat) : Nat := pid 0x06 i 5
abbrev EMU_TIMEOUT (i : Nat) : Nat := pid 0x06 i 6
abbrev EMU_IN_DELAY (i : Nat) : Nat := pid 0x06 i 7
abbrev EMU_FLUSH (i : Nat) : Nat := pid 0x06 i 8
abbrev EMU_STAMPS (i : Nat) : Nat := pid 0x06 i 0x40
abbrev EMU_LOST (i : Nat) : Nat := pid 0x06 i 0x41
abbrev EMU_DEAD (i : Nat) : Nat := pid 0x06 i 0x42
abbrev EMU_TIMEOUTS (i : Nat) : Nat := pid 0x06 i 0x43
abbrev EMU_BIN_POS (i : Nat) (k : Nat) : Nat := pid 0x06 i (0x200 + k)
abbrev EMU_GLB_STATUS : Nat := pid 0x06 0x10 0
abbrev EMU_RAW_COUNT : Nat := pid 0x06 0x10 1
abbrev EMU_BINCAL_REJ : Nat := pid 0x06 0x10 2
abbrev REFC_GLB_CTRL : Nat := pid 0x07 0 0
abbrev REFC_GLB_STATUS : Nat := pid 0x07 0 1
abbrev REFC_DISAGREE : Nat := pid 0x07 0 2
abbrev REFC_LOCK_THR : Nat := pid 0x07 0 3
abbrev REFC_HO_CTRL : Nat := pid 0x07 0 4
abbrev REFC_HO_MAX : Nat := pid 0x07 0 5
abbrev REFC_HO_FREQ : Nat := pid 0x07 0 6
abbrev REFC_HO_ELAPSED : Nat := pid 0x07 0 7
abbrev REFC_OUT_QL : Nat := pid 0x07 0 8
abbrev REFC_HO_HIST : Nat := pid 0x07 0 9
abbrev REFC_MODEL_CTRL : Nat := pid 0x07 0 0x10
abbrev REFC_MODEL_Y0 : Nat := pid 0x07 0 0x11
abbrev REFC_MODEL_AGE : Nat := pid 0x07 0 0x12
abbrev REFC_MODEL_TEMP : Nat := pid 0x07 0 0x13
abbrev REFC_MODEL_T0 : Nat := pid 0x07 0 0x14
abbrev REFC_MODEL_FIT : Nat := pid 0x07 0 0x15
abbrev REFC_CLASS_MAP (k : Nat) : Nat := pid 0x07 0 (0x20 + k)
abbrev REFC_SWITCH_COUNT : Nat := pid 0x07 0 0x40
abbrev REFC_GLIDE_COUNT : Nat := pid 0x07 0 0x41
abbrev REFC_CTRL (i : Nat) : Nat := pid 0x07 i 0
abbrev REFC_STATUS (i : Nat) : Nat := pid 0x07 i 1
abbrev REFC_FREQ (i : Nat) : Nat := pid 0x07 i 2
abbrev REFC_WTR (i : Nat) : Nat := pid 0x07 i 3
abbrev REFC_QL (i : Nat) : Nat := pid 0x07 i 4
abbrev REFC_LIM_OFF1 (i : Nat) : Nat := pid 0x07 i 5
abbrev REFC_LIM_OFF100 (i : Nat) : Nat := pid 0x07 i 6
abbrev REFC_LIM_OFF1000 (i : Nat) : Nat := pid 0x07 i 7
abbrev REFC_LIM_DRIFT100 (i : Nat) : Nat := pid 0x07 i 8
abbrev REFC_LIM_DRIFT1000 (i : Nat) : Nat := pid 0x07 i 9
abbrev REFC_Y1 (i : Nat) : Nat := pid 0x07 i 0x10
abbrev REFC_Y100 (i : Nat) : Nat := pid 0x07 i 0x11
abbrev REFC_Y1000 (i : Nat) : Nat := pid 0x07 i 0x12
abbrev REFC_D100 (i : Nat) : Nat := pid 0x07 i 0x13
abbrev REFC_D1000 (i : Nat) : Nat := pid 0x07 i 0x14
abbrev REFC_FAILS (i : Nat) : Nat := pid 0x07 i 0x40
abbrev REFC_DISQS (i : Nat) : Nat := pid 0x07 i 0x41
abbrev REFC_ESMC_CTRL (i : Nat) : Nat := pid 0x07 (0x100 + i) 0
abbrev REFC_ESMC_RX (i : Nat) : Nat := pid 0x07 (0x100 + i) 1
abbrev CD_PLL_DIV (i : Nat) : Nat := pid 0x08 i 0
abbrev CD_STATUS (i : Nat) : Nat := pid 0x08 i 1
abbrev CD_FREQ (i : Nat) : Nat := pid 0x08 i 2
abbrev CD_T_APPLIED : Nat := pid 0x08 2 0x10
abbrev CD_T_TARGET : Nat := pid 0x08 2 0x11
abbrev CD_SLEW_RATE : Nat := pid 0x08 2 0x12
abbrev CD_ACQ_RATE : Nat := pid 0x08 2 0x13
abbrev CD_ACQ_THR : Nat := pid 0x08 2 0x14
abbrev CD_SYNC_CTRL : Nat := pid 0x08 2 0x15
abbrev CD_SYNC_PHASE : Nat := pid 0x08 2 0x16
abbrev CD_LOL_COUNT (i : Nat) : Nat := pid 0x08 i 0x40
abbrev CD_BYPASS_TIME (i : Nat) : Nat := pid 0x08 i 0x41
abbrev CAL_CTRL : Nat := pid 0x09 0 0
abbrev CAL_STATUS : Nat := pid 0x09 0 1
abbrev CAL_RECORDS : Nat := pid 0x09 0 2
abbrev CAL_LAST_RUN : Nat := pid 0x09 0 3
abbrev CAL_LAST_RMS : Nat := pid 0x09 0 4
abbrev CAL_LAST_ERR (k : Nat) : Nat := pid 0x09 0 (8 + k)
abbrev CAL_OUT_DELAY (k : Nat) : Nat := pid 0x09 0 (0x10 + k)
abbrev CAL_REPAIRS : Nat := pid 0x09 0 0x40
abbrev CAL_TWIN_TAU (i : Nat) : Nat := pid 0x09 (1 + i) 0
abbrev CAL_TWIN_DELTA (i : Nat) : Nat := pid 0x09 (1 + i) 1
abbrev CAL_TWIN_STATUS (i : Nat) : Nat := pid 0x09 (1 + i) 2
abbrev CAL_TWIN_MEAS (i : Nat) : Nat := pid 0x09 (1 + i) 0x40
abbrev CAL_TWIN_BAD (i : Nat) : Nat := pid 0x09 (1 + i) 0x41
abbrev CAL_OPTIC_RX (i : Nat) : Nat := pid 0x09 (0x100 + i) 0
abbrev CAL_OPTIC_TX (i : Nat) : Nat := pid 0x09 (0x100 + i) 1
abbrev MAC_CAGE_CTRL (i : Nat) : Nat := pid 0x0A (0x100 + i) 0
abbrev MAC_CTRL (i : Nat) : Nat := pid 0x0A i 0
abbrev MAC_STATUS (i : Nat) : Nat := pid 0x0A i 1
abbrev MAC_TIMERS (i : Nat) : Nat := pid 0x0A i 2
abbrev MAC_LAST_STOMP (i : Nat) : Nat := pid 0x0A i 3
abbrev MAC_TAG (i : Nat) : Nat := pid 0x0A i 4
abbrev MAC_MAX_LEN (i : Nat) : Nat := pid 0x0A i 5
abbrev MAC_RX_FRAMES (i : Nat) : Nat := pid 0x0A i 0x40
abbrev MAC_RX_OCTETS (i : Nat) : Nat := pid 0x0A i 0x41
abbrev MAC_TX_FRAMES (i : Nat) : Nat := pid 0x0A i 0x42
abbrev MAC_TX_OCTETS (i : Nat) : Nat := pid 0x0A i 0x43
abbrev MAC_RX_FCS_BAD (i : Nat) : Nat := pid 0x0A i 0x44
abbrev MAC_RX_ERROR (i : Nat) : Nat := pid 0x0A i 0x45
abbrev MAC_RX_RUNT (i : Nat) : Nat := pid 0x0A i 0x46
abbrev MAC_RX_OVERSIZE (i : Nat) : Nat := pid 0x0A i 0x47
abbrev MAC_TX_OVERSIZE (i : Nat) : Nat := pid 0x0A i 0x48
abbrev MAC_RX_STOMP_SEEN (i : Nat) : Nat := pid 0x0A i 0x49
abbrev MAC_TX_STOMP (i : Nat) : Nat := pid 0x0A i 0x4A
abbrev MAC_RX_STOMP_SRC (i : Nat) : Nat := pid 0x0A i 0x4B
abbrev MAC_TX_CARVE (i : Nat) : Nat := pid 0x0A i 0x4C
abbrev MAC_RX_PAUSE (i : Nat) : Nat := pid 0x0A i 0x4D
abbrev MAC_RX_PFC (i : Nat) : Nat := pid 0x0A i 0x4E
abbrev MAC_TX_PFC (i : Nat) : Nat := pid 0x0A i 0x4F
abbrev MAC_WD_TRIPS (i : Nat) : Nat := pid 0x0A i 0x50
abbrev MAC_PAUSED_TIME (i : Nat) : Nat := pid 0x0A i 0x51
abbrev MAC_LINK_DOWNS (i : Nat) : Nat := pid 0x0A i 0x52
abbrev FRER_CTRL (i : Nat) : Nat := pid 0x0B i 0
abbrev FRER_STATUS (i : Nat) : Nat := pid 0x0B i 1
abbrev FRER_SEQ (i : Nat) : Nat := pid 0x0B i 2
abbrev FRER_GENERATED (i : Nat) : Nat := pid 0x0B i 0x40
abbrev FRER_PASSED (i : Nat) : Nat := pid 0x0B i 0x41
abbrev FRER_DISCARDED (i : Nat) : Nat := pid 0x0B i 0x42
abbrev FRER_OOO (i : Nat) : Nat := pid 0x0B i 0x43
abbrev FRER_ROGUE (i : Nat) : Nat := pid 0x0B i 0x44
abbrev FRER_LOST (i : Nat) : Nat := pid 0x0B i 0x45
abbrev FRER_TAGLESS (i : Nat) : Nat := pid 0x0B i 0x46
abbrev FRER_RESETS (i : Nat) : Nat := pid 0x0B i 0x47
abbrev FRER_STOMP_LOST (i : Nat) : Nat := pid 0x0B i 0x48
abbrev PRS_CTRL : Nat := pid 0x0C 0 0
abbrev PRS_STATUS : Nat := pid 0x0C 0 1
abbrev PRS_FRAMES (i : Nat) : Nat := pid 0x0C (1 + i) 0x40
abbrev PRS_DEPTH (i : Nat) : Nat := pid 0x0C (1 + i) 0x41
abbrev PRS_LEN_CONFLICT (i : Nat) : Nat := pid 0x0C (1 + i) 0x42
abbrev PRS_LATE_SHORT (i : Nat) : Nat := pid 0x0C (1 + i) 0x43
abbrev CLS_BANK_STATUS : Nat := pid 0x0D 0 0
abbrev CLS_STATUS : Nat := pid 0x0D 0 1
abbrev CLS_HASH_CTRL : Nat := pid 0x0D 0 2
abbrev CLS_BANK_ID0 : Nat := pid 0x0D 0 3
abbrev CLS_BANK_ID1 : Nat := pid 0x0D 0 4
abbrev CLS_EXACT_USED : Nat := pid 0x0D 0 5
abbrev CLS_RECIRC : Nat := pid 0x0D 0 0x40
abbrev CLS_RECIRC_LIMIT : Nat := pid 0x0D 0 0x41
abbrev CLS_PASS_LATE : Nat := pid 0x0D 0 0x42
abbrev CLS_ACT_FAULT : Nat := pid 0x0D 0 0x43
abbrev CLS_ACT_EXCESS : Nat := pid 0x0D 0 0x44
abbrev CLS_NO_DEST : Nat := pid 0x0D 0 0x45
abbrev CLS_RULE_DROP : Nat := pid 0x0D 0 0x46
abbrev CLS_PUNT_CTRL (i : Nat) : Nat := pid 0x0D (0x100 + i) 0
abbrev CLS_PUNT_SENT (i : Nat) : Nat := pid 0x0D (0x100 + i) 0x40
abbrev CLS_PUNT_LIMITED (i : Nat) : Nat := pid 0x0D (0x100 + i) 0x41
abbrev RINK_CTRL : Nat := pid 0x0E 0 0
abbrev RINK_STATUS : Nat := pid 0x0E 0 1
abbrev RINK_DOUBLE_FREE : Nat := pid 0x0E 0 0x40
abbrev RINK_LIST_FAULT : Nat := pid 0x0E 0 0x41
abbrev RINK_SPILLS : Nat := pid 0x0E 0 0x42
abbrev RINK_POOL_CTRL (i : Nat) : Nat := pid 0x0E i 0
abbrev RINK_POOL_LIM (i : Nat) : Nat := pid 0x0E i 1
abbrev RINK_POOL_STATUS (i : Nat) : Nat := pid 0x0E i 2
abbrev RINK_PFC (i : Nat) : Nat := pid 0x0E (0x100 + i) 0
abbrev RINK_PFC_STATE (i : Nat) : Nat := pid 0x0E (0x100 + i) 1
abbrev Q_CTRL (i : Nat) : Nat := pid 0x0F i 0
abbrev Q_STATUS (i : Nat) : Nat := pid 0x0F i 1
abbrev Q_OCC (i : Nat) : Nat := pid 0x0F i 2
abbrev Q_HEAD_AGE (i : Nat) : Nat := pid 0x0F i 3
abbrev Q_ENQ_FRAMES (i : Nat) : Nat := pid 0x0F i 0x40
abbrev Q_ENQ_OCTETS (i : Nat) : Nat := pid 0x0F i 0x41
abbrev Q_DEQ_FRAMES (i : Nat) : Nat := pid 0x0F i 0x42
abbrev Q_DEQ_OCTETS (i : Nat) : Nat := pid 0x0F i 0x43
abbrev Q_DROPPED (i : Nat) : Nat := pid 0x0F i 0x44
abbrev Q_AGED (i : Nat) : Nat := pid 0x0F i 0x45
abbrev Q_FLUSHED (i : Nat) : Nat := pid 0x0F i 0x46
abbrev SHP_SHADOW (i : Nat) : Nat := pid 0x10 i 0
abbrev SHP_STATUS (i : Nat) : Nat := pid 0x10 i 1
abbrev SHP_CIR (i : Nat) : Nat := pid 0x10 i 2
abbrev SHP_PIR (i : Nat) : Nat := pid 0x10 i 3
abbrev SHP_BURST (i : Nat) : Nat := pid 0x10 i 4
abbrev SHP_MODE (i : Nat) : Nat := pid 0x10 i 5
abbrev SHP_CIR_ACT (i : Nat) : Nat := pid 0x10 i 0x12
abbrev SHP_PIR_ACT (i : Nat) : Nat := pid 0x10 i 0x13
abbrev SHP_BURST_ACT (i : Nat) : Nat := pid 0x10 i 0x14
abbrev SHP_MODE_ACT (i : Nat) : Nat := pid 0x10 i 0x15
abbrev SHP_RESET_BUCKET (i : Nat) : Nat := pid 0x10 i 0x20
abbrev SHP_C_CREDIT (i : Nat) : Nat := pid 0x10 i 0x21
abbrev SHP_P_CREDIT (i : Nat) : Nat := pid 0x10 i 0x22
abbrev SHP_ELIG (i : Nat) (k : Nat) : Nat := pid 0x10 i (0x23 + k)
abbrev SHP_HANDOVERS (i : Nat) : Nat := pid 0x10 i 0x40
abbrev SHP_MISSED (i : Nat) : Nat := pid 0x10 i 0x41
abbrev SHP_WAIT_TIME (i : Nat) : Nat := pid 0x10 i 0x42
abbrev POL_SHADOW (i : Nat) : Nat := pid 0x11 i 0
abbrev POL_STATUS (i : Nat) : Nat := pid 0x11 i 1
abbrev SLW_SHADOW (i : Nat) : Nat := pid 0x12 i 0
abbrev SLW_STATUS (i : Nat) : Nat := pid 0x12 i 1
abbrev SLW_CTRL (i : Nat) : Nat := pid 0x12 i 2
abbrev SLW_CYCLE (i : Nat) : Nat := pid 0x12 i 3
abbrev SLW_BASE (i : Nat) (k : Nat) : Nat := pid 0x12 i (4 + k)
abbrev SLW_CTRL_ACT (i : Nat) : Nat := pid 0x12 i 6
abbrev SLW_CYCLE_ACT (i : Nat) : Nat := pid 0x12 i 7
abbrev SLW_BASE_ACT (i : Nat) (k : Nat) : Nat := pid 0x12 i (8 + k)
abbrev SLW_CUR (i : Nat) : Nat := pid 0x12 i 0xA
abbrev SLW_HANDOVERS (i : Nat) : Nat := pid 0x12 i 0x40
abbrev SLW_MISSED (i : Nat) : Nat := pid 0x12 i 0x41
abbrev SLW_LOOKAHEAD_HELD (i : Nat) : Nat := pid 0x12 i 0x42
abbrev SLW_ENTRY (i : Nat) (k : Nat) : Nat := pid 0x12 i (0x400 + k)
abbrev SLW_ENTRY_ACT (i : Nat) (k : Nat) : Nat := pid 0x12 i (0x800 + k)
abbrev LANE_CTRL (i : Nat) : Nat := pid 0x13 i 0
abbrev LANE_STATUS (i : Nat) : Nat := pid 0x13 i 1
abbrev LANE_TX_FFE (i : Nat) : Nat := pid 0x13 i 2
abbrev LANE_PRBS_CTRL (i : Nat) : Nat := pid 0x13 i 3
abbrev LANE_EYE_CTRL (i : Nat) : Nat := pid 0x13 i 4
abbrev LANE_EYE_RESULT (i : Nat) : Nat := pid 0x13 i 5
abbrev LANE_EQ_BOUNDS (i : Nat) (k : Nat) : Nat := pid 0x13 i (0x10 + k)
abbrev LANE_EQ_HELD (i : Nat) (k : Nat) : Nat := pid 0x13 i (0x18 + k)
abbrev LANE_EQ_HELD_TIME (i : Nat) (k : Nat) : Nat := pid 0x13 i (0x20 + k)
abbrev LANE_EQ_VALUE (i : Nat) (k : Nat) : Nat := pid 0x13 i (0x28 + k)
abbrev LANE_RESTARTS (i : Nat) : Nat := pid 0x13 i 0x40
abbrev LANE_PRBS_BITS (i : Nat) : Nat := pid 0x13 i 0x41
abbrev LANE_PRBS_ERR (i : Nat) : Nat := pid 0x13 i 0x42
abbrev LANE_PRBS_INJ (i : Nat) : Nat := pid 0x13 i 0x43
abbrev LANE_PRBS_RELOCK (i : Nat) : Nat := pid 0x13 i 0x44
abbrev LANE_CL_MAP (i : Nat) : Nat := pid 0x13 (0x300 + i) 6
abbrev LANE_CL_MARGIN (i : Nat) : Nat := pid 0x13 (0x300 + i) 7
abbrev LANE_CL_CRC_ERR (i : Nat) : Nat := pid 0x13 (0x300 + i) 0x45
abbrev TRK_CTRL (i : Nat) : Nat := pid 0x14 i 0
abbrev TRK_STATUS (i : Nat) : Nat := pid 0x14 i 1
abbrev TRK_MAP (i : Nat) : Nat := pid 0x14 i 2
abbrev TRK_PRBS_CTRL (i : Nat) : Nat := pid 0x14 i 3
abbrev TRK_EYE_CTRL (i : Nat) : Nat := pid 0x14 i 4
abbrev TRK_EYE_RESULT (i : Nat) : Nat := pid 0x14 i 5
abbrev TRK_MARKERS_RX (i : Nat) : Nat := pid 0x14 i 0x40
abbrev TRK_TW_BAD (i : Nat) : Nat := pid 0x14 i 0x41
abbrev TRK_MSG_RX (i : Nat) : Nat := pid 0x14 i 0x42
abbrev TRK_MSG_BAD (i : Nat) : Nat := pid 0x14 i 0x43
abbrev TRK_CODE_ERR (i : Nat) : Nat := pid 0x14 i 0x44
abbrev TRK_TRAINS (i : Nat) : Nat := pid 0x14 i 0x45
abbrev TRK_MARKER_MISS (i : Nat) : Nat := pid 0x14 i 0x46
abbrev TRK_PRBS_ERR (i : Nat) (k : Nat) : Nat := pid 0x14 i (0x48 + k)
abbrev TRK_PRBS_BITS (i : Nat) (k : Nat) : Nat := pid 0x14 i (0x4C + k)
abbrev CNT_PC_CTRL : Nat := pid 0x15 0 0
abbrev CNT_STATUS : Nat := pid 0x15 0 1
abbrev CNT_IPFIX_CTRL : Nat := pid 0x15 0 2
abbrev CNT_IPFIX_SRC (k : Nat) : Nat := pid 0x15 0 (3 + k)
abbrev CNT_IPFIX_DST (k : Nat) : Nat := pid 0x15 0 (6 + k)
abbrev CNT_PC_EMITTED : Nat := pid 0x15 0 0x40
abbrev CNT_PC_LOST : Nat := pid 0x15 0 0x41
abbrev CNT_SWEEP_LOST : Nat := pid 0x15 0 0x42
abbrev CNT_IPFIX_SENT : Nat := pid 0x15 0 0x43
abbrev CNT_IPFIX_LOST : Nat := pid 0x15 0 0x44
abbrev CNT_SWEEP_LAST (k : Nat) : Nat := pid 0x15 0 (0x80 + k)
abbrev CNT_RULE (i : Nat) (k : Nat) : Nat := pid 0x15 i (0x100 + k)
abbrev CNT_HIST_CTRL (i : Nat) : Nat := pid 0x15 (0x600 + i) 0
abbrev CNT_HIST_BIN (i : Nat) (k : Nat) : Nat := pid 0x15 (0x600 + i) (0x40 + k)
abbrev CNT_HIST_SUM (i : Nat) : Nat := pid 0x15 (0x600 + i) 0x50
abbrev MIR_CTRL (i : Nat) : Nat := pid 0x16 i 0
abbrev MIR_DROP_MASK (i : Nat) : Nat := pid 0x16 i 1
abbrev MIR_OUTER_MAC (i : Nat) : Nat := pid 0x16 i 2
abbrev MIR_OUTER_TAG (i : Nat) : Nat := pid 0x16 i 3
abbrev MIR_OUTER_SRC (i : Nat) (k : Nat) : Nat := pid 0x16 i (4 + k)
abbrev MIR_OUTER_DST (i : Nat) (k : Nat) : Nat := pid 0x16 i (7 + k)
abbrev MIR_SRC_RX (i : Nat) (k : Nat) : Nat := pid 0x16 i (0x10 + k)
abbrev MIR_SRC_TX (i : Nat) (k : Nat) : Nat := pid 0x16 i (0x18 + k)
abbrev MIR_COPIES (i : Nat) : Nat := pid 0x16 i 0x40
abbrev MIR_OCTETS (i : Nat) : Nat := pid 0x16 i 0x41
abbrev MIR_TRUNCATED (i : Nat) : Nat := pid 0x16 i 0x42
abbrev MIR_DROPPED (i : Nat) : Nat := pid 0x16 i 0x43
abbrev DMA_STATE (i : Nat) : Nat := pid 0x17 i 0
abbrev DMA_DESC_DONE (i : Nat) : Nat := pid 0x17 i 0x40
abbrev DMA_BYTES (i : Nat) : Nat := pid 0x17 i 0x41
abbrev DMA_FRAMES (i : Nat) : Nat := pid 0x17 i 0x42
abbrev DMA_ERRORS (i : Nat) : Nat := pid 0x17 i 0x43
abbrev DMA_TRUNC (i : Nat) : Nat := pid 0x17 i 0x44
abbrev DMA_INJ_DROPPED (i : Nat) : Nat := pid 0x17 i 0x45
abbrev DMA_PARKED_TIME (i : Nat) : Nat := pid 0x17 i 0x46
abbrev CRS_CTRL : Nat := pid 0x18 0 0
abbrev CRS_STATUS : Nat := pid 0x18 0 1
abbrev CRS_NODE_ID : Nat := pid 0x18 0 2
abbrev CRS_AUTO_BASE : Nat := pid 0x18 0 3
abbrev CRS_TIMERS : Nat := pid 0x18 0 4
abbrev CRS_DB : Nat := pid 0x18 0 5
abbrev CRS_PERM : Nat := pid 0x18 0 6
abbrev CRS_ID_STATE : Nat := pid 0x18 0 7
abbrev CRS_KEY_INFO (k : Nat) : Nat := pid 0x18 0 (0x10 + k)
abbrev CRS_TX : Nat := pid 0x18 0 0x40
abbrev CRS_RX : Nat := pid 0x18 0 0x41
abbrev CRS_AUTH_FAIL : Nat := pid 0x18 0 0x42
abbrev CRS_REPLAY : Nat := pid 0x18 0 0x43
abbrev CRS_DUP : Nat := pid 0x18 0 0x44
abbrev CRS_BAD : Nat := pid 0x18 0 0x45
abbrev CRS_HOPS_OUT : Nat := pid 0x18 0 0x46
abbrev CRS_NO_ROUTE : Nat := pid 0x18 0 0x47
abbrev CRS_DROP : Nat := pid 0x18 0 0x48
abbrev CRS_RX_OFF : Nat := pid 0x18 0 0x49
abbrev CRS_LINK_CTRL (i : Nat) : Nat := pid 0x18 i 0
abbrev CRS_LINK_STATE (i : Nat) : Nat := pid 0x18 i 1
abbrev CRS_LINK_TX (i : Nat) : Nat := pid 0x18 i 0x40
abbrev CRS_LINK_RX (i : Nat) : Nat := pid 0x18 i 0x41
abbrev TRUST_CTRL : Nat := pid 0x19 0 0
abbrev TRUST_STATUS : Nat := pid 0x19 0 1
abbrev TRUST_IMAGE : Nat := pid 0x19 0 2
abbrev TRUST_PATROL : Nat := pid 0x19 0 3
abbrev TRUST_BOOT : Nat := pid 0x19 0 4
abbrev TRUST_MEAS (k : Nat) : Nat := pid 0x19 0 (0x10 + k)
abbrev TRUST_KEEP_COMMITS : Nat := pid 0x19 0 0x40
abbrev TRUST_KEEP_REFUSED : Nat := pid 0x19 0 0x41
abbrev TRUST_FAILOVERS : Nat := pid 0x19 0 0x42
abbrev TRUST_SPARE_TESTS : Nat := pid 0x19 0 0x43
abbrev TRUST_INSTALLS : Nat := pid 0x19 0 0x44
abbrev PWR_CTRL : Nat := pid 0x1A 0 0
abbrev PWR_STATUS : Nat := pid 0x1A 0 1
abbrev PWR_RESET : Nat := pid 0x1A 0 2
abbrev PWR_LAST_RESET : Nat := pid 0x1A 0 3
abbrev PWR_KEEP_CTRL : Nat := pid 0x1A 0 4
abbrev PWR_FEED : Nat := pid 0x1A 0 5
abbrev PWR_VCORE_BOUNDS : Nat := pid 0x1A 0 0x10
abbrev PWR_VCORE_HELD : Nat := pid 0x1A 0 0x11
abbrev PWR_VCORE_HELD_TIME : Nat := pid 0x1A 0 0x12
abbrev PWR_VCORE : Nat := pid 0x1A 0 0x13
abbrev PWR_RESETS : Nat := pid 0x1A 0 0x40
abbrev PWR_FEED_DROPS : Nat := pid 0x1A 0 0x41
abbrev PWR_REMOVE_REQS : Nat := pid 0x1A 0 0x42
abbrev HLT_STATUS : Nat := pid 0x1B 0 0
abbrev HLT_TRIP : Nat := pid 0x1B 0 1
abbrev HLT_TRIPS : Nat := pid 0x1B 0 0x40
abbrev HLT_TEMP (i : Nat) : Nat := pid 0x1B i 0
abbrev HLT_LIM (i : Nat) : Nat := pid 0x1B i 1
abbrev HLT_SENSOR_STATUS (i : Nat) : Nat := pid 0x1B i 2
abbrev HLT_TEMP_MAX (i : Nat) : Nat := pid 0x1B i 3
abbrev HLT_WARNS (i : Nat) : Nat := pid 0x1B i 0x40
abbrev HLT_OPT_CTRL (i : Nat) : Nat := pid 0x1B (0x100 + i) 0
abbrev HLT_OPTIC (i : Nat) : Nat := pid 0x1B (0x100 + i) 1
abbrev HLT_OPT_FAULTS (i : Nat) : Nat := pid 0x1B (0x100 + i) 0x40
abbrev RINK_DROP (k : Nat) : Nat := pid 0x0E 0 (0x100 + k)
abbrev POL_CIR (p : Nat) : Nat := pid 0x11 (p / 16) (0x100 + 0x40 * (p % 16) + 0)
abbrev POL_PIR (p : Nat) : Nat := pid 0x11 (p / 16) (0x100 + 0x40 * (p % 16) + 1)
abbrev POL_BURST (p : Nat) : Nat := pid 0x11 (p / 16) (0x100 + 0x40 * (p % 16) + 2)
abbrev POL_MODE (p : Nat) : Nat := pid 0x11 (p / 16) (0x100 + 0x40 * (p % 16) + 3)
abbrev POL_CIR_ACT (p : Nat) : Nat := pid 0x11 (p / 16) (0x100 + 0x40 * (p % 16) + 8)
abbrev POL_PIR_ACT (p : Nat) : Nat := pid 0x11 (p / 16) (0x100 + 0x40 * (p % 16) + 9)
abbrev POL_BURST_ACT (p : Nat) : Nat := pid 0x11 (p / 16) (0x100 + 0x40 * (p % 16) + 0xA)
abbrev POL_MODE_ACT (p : Nat) : Nat := pid 0x11 (p / 16) (0x100 + 0x40 * (p % 16) + 0xB)
abbrev POL_C_CREDIT (p : Nat) : Nat := pid 0x11 (p / 16) (0x100 + 0x40 * (p % 16) + 0x10)
abbrev POL_P_CREDIT (p : Nat) : Nat := pid 0x11 (p / 16) (0x100 + 0x40 * (p % 16) + 0x11)
abbrev POL_GREEN (p : Nat) : Nat := pid 0x11 (p / 16) (0x100 + 0x40 * (p % 16) + 0x20)
abbrev POL_YELLOW (p : Nat) : Nat := pid 0x11 (p / 16) (0x100 + 0x40 * (p % 16) + 0x21)
abbrev POL_RED (p : Nat) : Nat := pid 0x11 (p / 16) (0x100 + 0x40 * (p % 16) + 0x22)
abbrev POL_GREEN_OCT (p : Nat) : Nat := pid 0x11 (p / 16) (0x100 + 0x40 * (p % 16) + 0x23)
abbrev POL_YELLOW_OCT (p : Nat) : Nat := pid 0x11 (p / 16) (0x100 + 0x40 * (p % 16) + 0x24)
abbrev POL_RED_OCT (p : Nat) : Nat := pid 0x11 (p / 16) (0x100 + 0x40 * (p % 16) + 0x25)

/-! Names of the fields. A triplet LIVE, STICKY, ENABLE (R16) is named by the bit of its LIVE. -/

abbrev BOUNDS_HI : Fld := ⟨24, 24⟩
abbrev BOUNDS_LO : Fld := ⟨0, 24⟩
abbrev HELD_SIDE : Fld := ⟨5, 2⟩
abbrev HELD_LAST_SIDE : Fld := ⟨3, 2⟩
abbrev HELD_HELD : Nat := 0
abbrev TK_CTRL_STEP_EN : Fld := ⟨2, 1⟩
abbrev TK_CTRL_STEER : Fld := ⟨0, 2⟩
abbrev TK_STATUS_REPLICA : Nat := 12
abbrev TK_STATUS_SLEW : Nat := 9
abbrev TK_STATUS_STEP : Nat := 6
abbrev TK_STATUS_NUMERIC : Nat := 3
abbrev TK_STATUS_SET : Nat := 0
abbrev TKW_SEC_HI_FRAC : Fld := ⟨16, 16⟩
abbrev TKW_SEC_HI_SEC_HI : Fld := ⟨0, 16⟩
abbrev TKW_INFO_CAPTURE_SEQ : Fld := ⟨24, 8⟩
abbrev TKW_INFO_SET : Fld := ⟨3, 1⟩
abbrev TKW_INFO_NUMERIC : Fld := ⟨2, 1⟩
abbrev TKW_INFO_SLEW : Fld := ⟨1, 1⟩
abbrev TKW_INFO_STEP : Fld := ⟨0, 1⟩
abbrev TL_STATUS_ARMED : Fld := ⟨16, 13⟩
abbrev TL_STATUS_OVF : Nat := 3
abbrev TL_STATUS_FIRE : Nat := 0
abbrev TSU_CTRL_CAPTURE : Fld := ⟨5, 2⟩
abbrev TSU_CTRL_UNCERT_ACT : Fld := ⟨4, 1⟩
abbrev TSU_CTRL_EVENT_SF : Fld := ⟨3, 1⟩
abbrev TSU_CTRL_V6_TRAILER : Fld := ⟨2, 1⟩
abbrev TSU_CTRL_V4_CKSUM : Fld := ⟨1, 1⟩
abbrev TSU_CTRL_OPS_EN : Fld := ⟨0, 1⟩
abbrev TSU_STATUS_SAT : Nat := 9
abbrev TSU_STATUS_UNCERT : Nat := 6
abbrev TSU_STATUS_CALFB : Nat := 3
abbrev TSU_STATUS_VAR : Nat := 0
abbrev TSU_LAST_RX_TERMS_FLAGS : Fld := ⟨45, 3⟩
abbrev TSU_LAST_RX_TERMS_LANE : Fld := ⟨42, 3⟩
abbrev TSU_LAST_RX_TERMS_DESKEW : Fld := ⟨29, 13⟩
abbrev TSU_LAST_RX_TERMS_POS : Fld := ⟨16, 13⟩
abbrev TSU_LAST_RX_TERMS_AM : Fld := ⟨14, 2⟩
abbrev TSU_LAST_RX_TERMS_GBX : Fld := ⟨0, 14⟩
abbrev TSU_LAST_TX_TERMS_FLAGS : Fld := ⟨45, 3⟩
abbrev TSU_LAST_TX_TERMS_LANE : Fld := ⟨42, 3⟩
abbrev TSU_LAST_TX_TERMS_DESKEW : Fld := ⟨29, 13⟩
abbrev TSU_LAST_TX_TERMS_POS : Fld := ⟨16, 13⟩
abbrev TSU_LAST_TX_TERMS_AM : Fld := ⟨14, 2⟩
abbrev TSU_LAST_TX_TERMS_GBX : Fld := ⟨0, 14⟩
abbrev PTE_CTRL_REVERTIVE : Fld := ⟨5, 1⟩
abbrev PTE_CTRL_PREFER : Fld := ⟨4, 1⟩
abbrev PTE_CTRL_SW_STEP_EN : Fld := ⟨3, 1⟩
abbrev PTE_CTRL_STEER_MODE : Fld := ⟨0, 3⟩
abbrev PTE_STATUS_ACTIVE : Fld := ⟨16, 2⟩
abbrev PTE_STATUS_TOD : Nat := 9
abbrev PTE_STATUS_NONE : Nat := 6
abbrev PTE_STATUS_SWITCH : Nat := 3
abbrev PTE_STATUS_WTR : Nat := 0
abbrev PTE_PISTE_CTRL_EXT_CH : Fld := ⟨25, 2⟩
abbrev PTE_PISTE_CTRL_SOURCE : Fld := ⟨24, 1⟩
abbrev PTE_PISTE_CTRL_CLASS_MAX : Fld := ⟨16, 8⟩
abbrev PTE_PISTE_CTRL_DOMAIN : Fld := ⟨8, 8⟩
abbrev PTE_PISTE_CTRL_PROFILE : Fld := ⟨4, 4⟩
abbrev PTE_PISTE_CTRL_ENABLE : Fld := ⟨0, 1⟩
abbrev PTE_PISTE_STATUS_STATE : Fld := ⟨8, 3⟩
abbrev PTE_PISTE_STATUS_LOST : Nat := 3
abbrev PTE_PISTE_STATUS_LOCK : Nat := 0
abbrev PTE_GM_QUALITY_PRIORITY1 : Fld := ⟨40, 8⟩
abbrev PTE_GM_QUALITY_CLASS : Fld := ⟨32, 8⟩
abbrev PTE_GM_QUALITY_ACCURACY : Fld := ⟨24, 8⟩
abbrev PTE_GM_QUALITY_VARIANCE : Fld := ⟨8, 16⟩
abbrev PTE_GM_QUALITY_PRIORITY2 : Fld := ⟨0, 8⟩
abbrev PTE_GM_CLASS_CLASS_FREE : Fld := ⟨16, 8⟩
abbrev PTE_GM_CLASS_CLASS_HOLD : Fld := ⟨8, 8⟩
abbrev PTE_GM_CLASS_CLASS_LOCKED : Fld := ⟨0, 8⟩
abbrev PTE_PORT_ROLE_LPRIO_B : Fld := ⟨24, 8⟩
abbrev PTE_PORT_ROLE_LPRIO_A : Fld := ⟨16, 8⟩
abbrev PTE_PORT_ROLE_TC_OTHER : Fld := ⟨14, 1⟩
abbrev PTE_PORT_ROLE_TRANS_B : Fld := ⟨12, 2⟩
abbrev PTE_PORT_ROLE_TRANS_A : Fld := ⟨10, 2⟩
abbrev PTE_PORT_ROLE_MAC_B : Fld := ⟨9, 1⟩
abbrev PTE_PORT_ROLE_MAC_A : Fld := ⟨8, 1⟩
abbrev PTE_PORT_ROLE_ROLE_B : Fld := ⟨3, 3⟩
abbrev PTE_PORT_ROLE_ROLE_A : Fld := ⟨0, 3⟩
abbrev PTE_PORT_STATE_STATE_B : Fld := ⟨4, 4⟩
abbrev PTE_PORT_STATE_STATE_A : Fld := ⟨0, 4⟩
abbrev PTE_PORT_RATES_A_ANN_TIMEOUT : Fld := ⟨16, 8⟩
abbrev PTE_PORT_RATES_A_LOG_PDELAY : Fld := ⟨12, 4⟩
abbrev PTE_PORT_RATES_A_LOG_ANNOUNCE : Fld := ⟨8, 4⟩
abbrev PTE_PORT_RATES_A_LOG_DELAY : Fld := ⟨4, 4⟩
abbrev PTE_PORT_RATES_A_LOG_SYNC : Fld := ⟨0, 4⟩
abbrev PTE_PORT_RATES_B_ANN_TIMEOUT : Fld := ⟨16, 8⟩
abbrev PTE_PORT_RATES_B_LOG_PDELAY : Fld := ⟨12, 4⟩
abbrev PTE_PORT_RATES_B_LOG_ANNOUNCE : Fld := ⟨8, 4⟩
abbrev PTE_PORT_RATES_B_LOG_DELAY : Fld := ⟨4, 4⟩
abbrev PTE_PORT_RATES_B_LOG_SYNC : Fld := ⟨0, 4⟩
abbrev PTE_OUT_PEND0_MODE : Fld := ⟨27, 2⟩
abbrev PTE_OUT_PEND0_FREQ : Fld := ⟨0, 27⟩
abbrev PTE_OUT_ACTIVE0_MODE : Fld := ⟨27, 2⟩
abbrev PTE_OUT_ACTIVE0_FREQ : Fld := ⟨0, 27⟩
abbrev PTE_OUT_PEND1_PHASE : Fld := ⟨24, 24⟩
abbrev PTE_OUT_PEND1_WIDTH : Fld := ⟨0, 24⟩
abbrev PTE_OUT_ACTIVE1_PHASE : Fld := ⟨24, 24⟩
abbrev PTE_OUT_ACTIVE1_WIDTH : Fld := ⟨0, 24⟩
abbrev PTE_OUT_STATUS_DEG : Nat := 3
abbrev PTE_OUT_STATUS_PROG : Nat := 0
abbrev PTE_TOD_CTRL_TALKER : Fld := ⟨16, 16⟩
abbrev PTE_TOD_CTRL_OUT_FMT : Fld := ⟨12, 2⟩
abbrev PTE_TOD_CTRL_IN_FMT : Fld := ⟨10, 2⟩
abbrev PTE_TOD_CTRL_BAUD : Fld := ⟨8, 2⟩
abbrev PTE_TOD_CTRL_OUT_DELAY : Fld := ⟨0, 8⟩
abbrev EMU_CTRL_STOP_CH : Fld := ⟨16, 4⟩
abbrev EMU_CTRL_DMA_SEL : Fld := ⟨12, 4⟩
abbrev EMU_CTRL_OWNER : Fld := ⟨8, 4⟩
abbrev EMU_CTRL_MODE : Fld := ⟨6, 2⟩
abbrev EMU_CTRL_EDGE : Fld := ⟨4, 2⟩
abbrev EMU_CTRL_QEN : Fld := ⟨0, 1⟩
abbrev EMU_SRC_TYPE : Fld := ⟨12, 4⟩
abbrev EMU_SRC_INDEX : Fld := ⟨0, 9⟩
abbrev EMU_INPUT_HYST : Fld := ⟨16, 8⟩
abbrev EMU_INPUT_TERM : Fld := ⟨15, 1⟩
abbrev EMU_INPUT_THRESH : Fld := ⟨0, 13⟩
abbrev EMU_STATUS_TMO : Nat := 6
abbrev EMU_STATUS_NOEDGE : Nat := 3
abbrev EMU_STATUS_OVF : Nat := 0
abbrev EMU_GLB_STATUS_RAWOVF : Nat := 9
abbrev EMU_GLB_STATUS_BINCAL : Nat := 6
abbrev EMU_GLB_STATUS_COARSE : Nat := 3
abbrev EMU_GLB_STATUS_LOCK : Nat := 0
abbrev REFC_GLB_CTRL_MAN_CAND : Fld := ⟨12, 4⟩
abbrev REFC_GLB_CTRL_OPTION : Fld := ⟨7, 1⟩
abbrev REFC_GLB_CTRL_QL_EN : Fld := ⟨6, 1⟩
abbrev REFC_GLB_CTRL_MODE : Fld := ⟨0, 3⟩
abbrev REFC_GLB_STATUS_SELECTED : Fld := ⟨20, 4⟩
abbrev REFC_GLB_STATUS_SEL_STATE : Fld := ⟨16, 3⟩
abbrev REFC_GLB_STATUS_DIS : Nat := 12
abbrev REFC_GLB_STATUS_MODEL : Nat := 9
abbrev REFC_GLB_STATUS_FREE : Nat := 6
abbrev REFC_GLB_STATUS_GLIDE : Nat := 3
abbrev REFC_GLB_STATUS_SEL : Nat := 0
abbrev REFC_HO_CTRL_HO_AVG : Fld := ⟨32, 16⟩
abbrev REFC_HO_CTRL_HO_GUARD : Fld := ⟨24, 8⟩
abbrev REFC_HO_CTRL_HO_MIN : Fld := ⟨0, 24⟩
abbrev REFC_OUT_QL_OUT : Fld := ⟨24, 12⟩
abbrev REFC_OUT_QL_HOLD_QL : Fld := ⟨12, 12⟩
abbrev REFC_OUT_QL_FREE_QL : Fld := ⟨0, 12⟩
abbrev REFC_MODEL_CTRL_CLEAR : Fld := ⟨47, 1⟩
abbrev REFC_MODEL_CTRL_AGE_MAX : Fld := ⟨24, 23⟩
abbrev REFC_MODEL_CTRL_MODEL_MIN : Fld := ⟨12, 12⟩
abbrev REFC_MODEL_CTRL_LEARN_WIN : Fld := ⟨0, 12⟩
abbrev REFC_MODEL_FIT_SPAN : Fld := ⟨24, 24⟩
abbrev REFC_MODEL_FIT_THETA0 : Fld := ⟨0, 24⟩
abbrev REFC_CLASS_MAP_VALID : Fld := ⟨24, 1⟩
abbrev REFC_CLASS_MAP_CLASS : Fld := ⟨16, 8⟩
abbrev REFC_CLASS_MAP_QL : Fld := ⟨0, 12⟩
abbrev REFC_CTRL_QL_CFG : Fld := ⟨16, 12⟩
abbrev REFC_CTRL_PRIORITY : Fld := ⟨8, 8⟩
abbrev REFC_CTRL_ENABLE : Fld := ⟨0, 1⟩
abbrev REFC_STATUS_FULL : Fld := ⟨24, 5⟩
abbrev REFC_STATUS_FAIL_REASON : Fld := ⟨20, 4⟩
abbrev REFC_STATUS_LAST_JUDGE : Fld := ⟨16, 4⟩
abbrev REFC_STATUS_STATE : Fld := ⟨13, 3⟩
abbrev REFC_STATUS_SELECTED : Fld := ⟨12, 1⟩
abbrev REFC_STATUS_QL : Nat := 9
abbrev REFC_STATUS_DISQ : Nat := 6
abbrev REFC_STATUS_SUSPECT : Nat := 3
abbrev REFC_STATUS_FAIL : Nat := 0
abbrev REFC_QL_RANK : Fld := ⟨16, 4⟩
abbrev REFC_QL_QL : Fld := ⟨0, 12⟩
abbrev REFC_LIM_HARD : Fld := ⟨24, 24⟩
abbrev REFC_LIM_SOFT : Fld := ⟨0, 24⟩
abbrev REFC_ESMC_CTRL_RX_EN : Fld := ⟨1, 1⟩
abbrev REFC_ESMC_CTRL_TX_EN : Fld := ⟨0, 1⟩
abbrev REFC_ESMC_RX_AGE : Fld := ⟨16, 8⟩
abbrev REFC_ESMC_RX_QL : Fld := ⟨0, 12⟩
abbrev CD_PLL_DIV_MOD : Fld := ⟨40, 2⟩
abbrev CD_PLL_DIV_DITHER : Fld := ⟨39, 1⟩
abbrev CD_PLL_DIV_OUTDIV : Fld := ⟨32, 7⟩
abbrev CD_PLL_DIV_INT : Fld := ⟨24, 8⟩
abbrev CD_PLL_DIV_FRAC : Fld := ⟨0, 24⟩
abbrev CD_STATUS_LIMIT : Nat := 12
abbrev CD_STATUS_LOCKFAIL : Nat := 9
abbrev CD_STATUS_BYPASS : Nat := 6
abbrev CD_STATUS_SLEW : Nat := 3
abbrev CD_STATUS_LOL : Nat := 0
abbrev CD_SYNC_CTRL_EMUDIV : Fld := ⟨1, 1⟩
abbrev CD_SYNC_CTRL_PORTDIV : Fld := ⟨0, 1⟩
abbrev CAL_CTRL_USER_CLEAR : Fld := ⟨32, 1⟩
abbrev CAL_CTRL_TWIN_STALE : Fld := ⟨16, 16⟩
abbrev CAL_CTRL_TWIN_STEP_MAX : Fld := ⟨8, 8⟩
abbrev CAL_CTRL_TWIN_EN : Fld := ⟨0, 1⟩
abbrev CAL_STATUS_RUN : Nat := 12
abbrev CAL_STATUS_STALE : Nat := 9
abbrev CAL_STATUS_REPAIR : Nat := 6
abbrev CAL_STATUS_USER : Nat := 3
abbrev CAL_STATUS_FACT : Nat := 0
abbrev CAL_RECORDS_USER_GEN : Fld := ⟨32, 16⟩
abbrev CAL_RECORDS_FACT_GEN : Fld := ⟨16, 16⟩
abbrev CAL_RECORDS_USER_USED : Fld := ⟨10, 2⟩
abbrev CAL_RECORDS_USER_VALID : Fld := ⟨8, 2⟩
abbrev CAL_RECORDS_FACT_USED : Fld := ⟨2, 2⟩
abbrev CAL_RECORDS_FACT_VALID : Fld := ⟨0, 2⟩
abbrev CAL_LAST_RUN_RUN_ID : Fld := ⟨32, 16⟩
abbrev CAL_LAST_RUN_KIND : Fld := ⟨28, 4⟩
abbrev CAL_LAST_RUN_RESULT : Fld := ⟨24, 4⟩
abbrev CAL_LAST_RUN_SAMPLES : Fld := ⟨0, 24⟩
abbrev CAL_TWIN_STATUS_RANGE : Nat := 3
abbrev CAL_TWIN_STATUS_STALE : Nat := 0
abbrev MAC_CAGE_CTRL_LEG_B : Fld := ⟨6, 2⟩
abbrev MAC_CAGE_CTRL_LEG_A : Fld := ⟨4, 2⟩
abbrev MAC_CAGE_CTRL_MODE : Fld := ⟨0, 3⟩
abbrev MAC_CTRL_RX_PFC_EN : Fld := ⟨4, 8⟩
abbrev MAC_CTRL_TX_PFC_EN : Fld := ⟨3, 1⟩
abbrev MAC_CTRL_RX_PAUSE_EN : Fld := ⟨2, 1⟩
abbrev MAC_CTRL_CARVE_EN : Fld := ⟨1, 1⟩
abbrev MAC_CTRL_ADMIN : Fld := ⟨0, 1⟩
abbrev MAC_STATUS_STATE : Fld := ⟨32, 3⟩
abbrev MAC_STATUS_WD_CLASS : Fld := ⟨24, 8⟩
abbrev MAC_STATUS_PAUSED : Fld := ⟨16, 8⟩
abbrev MAC_STATUS_WD : Nat := 12
abbrev MAC_STATUS_STOMP : Nat := 9
abbrev MAC_STATUS_RF : Nat := 6
abbrev MAC_STATUS_DOWN : Nat := 3
abbrev MAC_STATUS_UP : Nat := 0
abbrev MAC_TIMERS_WD_RELEASE : Fld := ⟨32, 10⟩
abbrev MAC_TIMERS_PAUSE_WD : Fld := ⟨22, 10⟩
abbrev MAC_TIMERS_DOWN_DEBOUNCE : Fld := ⟨12, 10⟩
abbrev MAC_TIMERS_UP_HOLD : Fld := ⟨0, 12⟩
abbrev MAC_LAST_STOMP_CAUSE : Fld := ⟨16, 4⟩
abbrev MAC_LAST_STOMP_INGRESS_LP : Fld := ⟨0, 8⟩
abbrev MAC_TAG_S_TPID : Fld := ⟨32, 16⟩
abbrev MAC_TAG_TAG_MODE : Fld := ⟨30, 2⟩
abbrev MAC_TAG_PCP : Fld := ⟨24, 3⟩
abbrev MAC_TAG_PVID : Fld := ⟨0, 12⟩
abbrev FRER_CTRL_RESET_MS : Fld := ⟨28, 16⟩
abbrev FRER_CTRL_HISTORY : Fld := ⟨17, 11⟩
abbrev FRER_CTRL_RCVY_CARVE : Fld := ⟨7, 1⟩
abbrev FRER_CTRL_TAGLESS_ACT : Fld := ⟨6, 1⟩
abbrev FRER_CTRL_ALG : Fld := ⟨5, 1⟩
abbrev FRER_CTRL_POP_RTAG : Fld := ⟨4, 1⟩
abbrev FRER_CTRL_RECOVER : Fld := ⟨3, 1⟩
abbrev FRER_CTRL_SEQ_GEN : Fld := ⟨2, 1⟩
abbrev FRER_STATUS_ROGUE : Nat := 3
abbrev FRER_STATUS_RESET : Nat := 0
abbrev PRS_CTRL_SLOW_EN : Fld := ⟨7, 1⟩
abbrev PRS_CTRL_LLDP_EN : Fld := ⟨6, 1⟩
abbrev PRS_CTRL_LEN_ACT : Fld := ⟨2, 2⟩
abbrev PRS_CTRL_DEPTH_ACT : Fld := ⟨0, 2⟩
abbrev PRS_STATUS_LEN : Nat := 3
abbrev PRS_STATUS_DEPTH : Nat := 0
abbrev CLS_BANK_STATUS_INFLIGHT1 : Fld := ⟨28, 20⟩
abbrev CLS_BANK_STATUS_INFLIGHT0 : Fld := ⟨8, 20⟩
abbrev CLS_BANK_STATUS_ACTIVE : Fld := ⟨7, 1⟩
abbrev CLS_BANK_STATUS_STATE1 : Fld := ⟨4, 3⟩
abbrev CLS_BANK_STATUS_STATE0 : Fld := ⟨0, 3⟩
abbrev CLS_STATUS_FAULT : Nat := 6
abbrev CLS_STATUS_FULL : Nat := 3
abbrev CLS_STATUS_DRAIN : Nat := 0
abbrev CLS_HASH_CTRL_SEED : Fld := ⟨16, 32⟩
abbrev CLS_HASH_CTRL_SYM : Fld := ⟨6, 1⟩
abbrev CLS_HASH_CTRL_INNER : Fld := ⟨5, 1⟩
abbrev CLS_HASH_CTRL_L4 : Fld := ⟨4, 1⟩
abbrev CLS_HASH_CTRL_IP : Fld := ⟨3, 1⟩
abbrev CLS_HASH_CTRL_ETYPE : Fld := ⟨2, 1⟩
abbrev CLS_HASH_CTRL_VLAN : Fld := ⟨1, 1⟩
abbrev CLS_HASH_CTRL_MAC : Fld := ⟨0, 1⟩
abbrev CLS_PUNT_CTRL_PQ : Fld := ⟨40, 5⟩
abbrev CLS_PUNT_CTRL_BURST : Fld := ⟨24, 16⟩
abbrev CLS_PUNT_CTRL_RATE : Fld := ⟨0, 22⟩
abbrev RINK_CTRL_REPARTITION : Fld := ⟨0, 1⟩
abbrev RINK_STATUS_LIST : Nat := 9
abbrev RINK_STATUS_DFREE : Nat := 6
abbrev RINK_STATUS_SNOW : Nat := 3
abbrev RINK_STATUS_FLUSH : Nat := 0
abbrev RINK_POOL_CTRL_SPILL : Fld := ⟨8, 1⟩
abbrev RINK_POOL_CTRL_COUNT_K : Fld := ⟨0, 8⟩
abbrev RINK_POOL_LIM_REOPEN : Fld := ⟨24, 18⟩
abbrev RINK_POOL_LIM_RESERVE : Fld := ⟨0, 18⟩
abbrev RINK_POOL_STATUS_COUNT_K : Fld := ⟨40, 8⟩
abbrev RINK_POOL_STATUS_FREE : Fld := ⟨20, 18⟩
abbrev RINK_POOL_STATUS_EXH : Nat := 0
abbrev RINK_PFC_CLASS_EN : Fld := ⟨36, 8⟩
abbrev RINK_PFC_HEADROOM : Fld := ⟨24, 12⟩
abbrev RINK_PFC_XOFF : Fld := ⟨12, 12⟩
abbrev RINK_PFC_XON : Fld := ⟨0, 12⟩
abbrev Q_CTRL_Q_MIN : Fld := ⟨32, 16⟩
abbrev Q_CTRL_ALPHA : Fld := ⟨24, 4⟩
abbrev Q_CTRL_AGE : Fld := ⟨0, 10⟩
abbrev Q_STATUS_LIMIT : Nat := 3
abbrev Q_STATUS_AGE : Nat := 0
abbrev Q_OCC_ENTRIES : Fld := ⟨24, 20⟩
abbrev Q_OCC_OCC : Fld := ⟨0, 23⟩
abbrev SHP_SHADOW_STATE : Fld := ⟨6, 2⟩
abbrev SHP_SHADOW_TICK_PENDING : Fld := ⟨5, 1⟩
abbrev SHP_SHADOW_AT_TICK : Fld := ⟨2, 1⟩
abbrev SHP_SHADOW_OPEN : Fld := ⟨1, 1⟩
abbrev SHP_SHADOW_SEAL : Fld := ⟨0, 1⟩
abbrev POL_SHADOW_STATE : Fld := ⟨6, 2⟩
abbrev POL_SHADOW_TICK_PENDING : Fld := ⟨5, 1⟩
abbrev POL_SHADOW_AT_TICK : Fld := ⟨2, 1⟩
abbrev POL_SHADOW_OPEN : Fld := ⟨1, 1⟩
abbrev POL_SHADOW_SEAL : Fld := ⟨0, 1⟩
abbrev SLW_SHADOW_STATE : Fld := ⟨6, 2⟩
abbrev SLW_SHADOW_TICK_PENDING : Fld := ⟨5, 1⟩
abbrev SLW_SHADOW_AT_TICK : Fld := ⟨2, 1⟩
abbrev SLW_SHADOW_OPEN : Fld := ⟨1, 1⟩
abbrev SLW_SHADOW_SEAL : Fld := ⟨0, 1⟩
abbrev SHP_STATUS_HO : Nat := 3
abbrev SHP_STATUS_MISSED : Nat := 0
abbrev POL_STATUS_HO : Nat := 3
abbrev POL_STATUS_MISSED : Nat := 0
abbrev SLW_STATUS_HO : Nat := 3
abbrev SLW_STATUS_MISSED : Nat := 0
abbrev SHP_BURST_PBS : Fld := ⟨24, 24⟩
abbrev SHP_BURST_CBS : Fld := ⟨0, 24⟩
abbrev POL_BURST_PBS : Fld := ⟨24, 24⟩
abbrev POL_BURST_CBS : Fld := ⟨0, 24⟩
abbrev SHP_MODE_OVERHEAD : Fld := ⟨8, 8⟩
abbrev SHP_MODE_KEEP_CREDIT : Fld := ⟨2, 1⟩
abbrev SHP_MODE_ENABLE : Fld := ⟨0, 1⟩
abbrev POL_MODE_OVERHEAD : Fld := ⟨8, 8⟩
abbrev POL_MODE_YELLOW_Q : Fld := ⟨4, 4⟩
abbrev POL_MODE_YELLOW_DEI : Fld := ⟨3, 1⟩
abbrev POL_MODE_AWARE : Fld := ⟨2, 1⟩
abbrev POL_MODE_ENABLE : Fld := ⟨0, 1⟩
abbrev SLW_CTRL_ENABLE : Fld := ⟨12, 1⟩
abbrev SLW_CTRL_LOOKAHEAD : Fld := ⟨11, 1⟩
abbrev SLW_CTRL_COUNT : Fld := ⟨0, 11⟩
abbrev SLW_ENTRY_GATES : Fld := ⟨27, 9⟩
abbrev SLW_ENTRY_INTERVAL : Fld := ⟨0, 27⟩
abbrev SLW_ENTRY_ACT_GATES : Fld := ⟨27, 9⟩
abbrev SLW_ENTRY_ACT_INTERVAL : Fld := ⟨0, 27⟩
abbrev LANE_CTRL_LOOPBACK : Fld := ⟨6, 2⟩
abbrev LANE_CTRL_TRAIN_EN : Fld := ⟨5, 1⟩
abbrev LANE_CTRL_RX_INV : Fld := ⟨4, 1⟩
abbrev LANE_CTRL_TX_INV : Fld := ⟨3, 1⟩
abbrev LANE_CTRL_RESTART : Fld := ⟨0, 1⟩
abbrev LANE_STATUS_STATE : Fld := ⟨9, 3⟩
abbrev LANE_STATUS_MARGIN : Nat := 6
abbrev LANE_STATUS_RESTART : Nat := 3
abbrev LANE_STATUS_LOSS : Nat := 0
abbrev LANE_TX_FFE_PRE2 : Fld := ⟨24, 8⟩
abbrev LANE_TX_FFE_PRE1 : Fld := ⟨16, 8⟩
abbrev LANE_TX_FFE_MAIN : Fld := ⟨8, 8⟩
abbrev LANE_TX_FFE_POST1 : Fld := ⟨0, 8⟩
abbrev LANE_PRBS_CTRL_CHK_LOCK : Fld := ⟨31, 1⟩
abbrev LANE_PRBS_CTRL_INJ_RATE : Fld := ⟨20, 4⟩
abbrev LANE_PRBS_CTRL_INJ_ONE : Fld := ⟨19, 1⟩
abbrev LANE_PRBS_CTRL_CHK_PAT : Fld := ⟨12, 4⟩
abbrev LANE_PRBS_CTRL_GEN_PAT : Fld := ⟨8, 4⟩
abbrev LANE_PRBS_CTRL_CHK_EN : Fld := ⟨1, 1⟩
abbrev LANE_PRBS_CTRL_GEN_EN : Fld := ⟨0, 1⟩
abbrev TRK_PRBS_CTRL_CHK_LOCK : Fld := ⟨31, 1⟩
abbrev TRK_PRBS_CTRL_INJ_RATE : Fld := ⟨20, 4⟩
abbrev TRK_PRBS_CTRL_INJ_ONE : Fld := ⟨19, 1⟩
abbrev TRK_PRBS_CTRL_CHK_PAT : Fld := ⟨12, 4⟩
abbrev TRK_PRBS_CTRL_GEN_PAT : Fld := ⟨8, 4⟩
abbrev TRK_PRBS_CTRL_CHK_EN : Fld := ⟨1, 1⟩
abbrev TRK_PRBS_CTRL_GEN_EN : Fld := ⟨0, 1⟩
abbrev LANE_EYE_CTRL_TRK_LANE : Fld := ⟨30, 2⟩
abbrev LANE_EYE_CTRL_DWELL : Fld := ⟨24, 6⟩
abbrev LANE_EYE_CTRL_VOLT : Fld := ⟨16, 8⟩
abbrev LANE_EYE_CTRL_PHASE : Fld := ⟨8, 8⟩
abbrev LANE_EYE_CTRL_EYE : Fld := ⟨1, 2⟩
abbrev LANE_EYE_CTRL_START : Fld := ⟨0, 1⟩
abbrev TRK_EYE_CTRL_TRK_LANE : Fld := ⟨30, 2⟩
abbrev TRK_EYE_CTRL_DWELL : Fld := ⟨24, 6⟩
abbrev TRK_EYE_CTRL_VOLT : Fld := ⟨16, 8⟩
abbrev TRK_EYE_CTRL_PHASE : Fld := ⟨8, 8⟩
abbrev TRK_EYE_CTRL_EYE : Fld := ⟨1, 2⟩
abbrev TRK_EYE_CTRL_START : Fld := ⟨0, 1⟩
abbrev LANE_EYE_RESULT_DONE : Fld := ⟨47, 1⟩
abbrev LANE_EYE_RESULT_ABORTED : Fld := ⟨46, 1⟩
abbrev LANE_EYE_RESULT_ERRORS : Fld := ⟨0, 40⟩
abbrev TRK_EYE_RESULT_DONE : Fld := ⟨47, 1⟩
abbrev TRK_EYE_RESULT_ABORTED : Fld := ⟨46, 1⟩
abbrev TRK_EYE_RESULT_ERRORS : Fld := ⟨0, 40⟩
abbrev LANE_CL_MARGIN_LEFT : Fld := ⟨40, 8⟩
abbrev LANE_CL_MARGIN_RIGHT : Fld := ⟨32, 8⟩
abbrev LANE_CL_MARGIN_TOP : Fld := ⟨8, 8⟩
abbrev LANE_CL_MARGIN_BOTTOM : Fld := ⟨0, 8⟩
abbrev TRK_CTRL_LOOPBACK : Fld := ⟨6, 2⟩
abbrev TRK_CTRL_RESTART : Fld := ⟨1, 1⟩
abbrev TRK_CTRL_ENABLE : Fld := ⟨0, 1⟩
abbrev TRK_STATUS_STATE : Fld := ⟨11, 2⟩
abbrev TRK_STATUS_MAP : Nat := 7
abbrev TRK_STATUS_ERR : Nat := 4
abbrev TRK_STATUS_DOWN : Nat := 0
abbrev TRK_MAP_REVERSED : Fld := ⟨8, 1⟩
abbrev TRK_MAP_INVERTED : Fld := ⟨0, 4⟩
abbrev CNTW_INFO_CAPTURE_SEQ : Fld := ⟨24, 8⟩
abbrev CNTW_INFO_GEN : Fld := ⟨16, 8⟩
abbrev CNTW_INFO_DONE : Fld := ⟨8, 1⟩
abbrev CNTW_INFO_FLAGS : Fld := ⟨0, 5⟩
abbrev CNT_PC_CTRL_DROP_RATE : Fld := ⟨32, 16⟩
abbrev CNT_PC_CTRL_PC_DEST : Fld := ⟨20, 2⟩
abbrev CNT_PC_CTRL_PC_DMA : Fld := ⟨16, 4⟩
abbrev CNT_PC_CTRL_DROP_PC : Fld := ⟨7, 1⟩
abbrev CNT_PC_CTRL_SAMPLE_LOG2 : Fld := ⟨0, 5⟩
abbrev CNT_STATUS_IPFIX : Nat := 9
abbrev CNT_STATUS_SWLOST : Nat := 6
abbrev CNT_STATUS_PCLOST : Nat := 3
abbrev CNT_STATUS_SWEEP : Nat := 0
abbrev CNT_SWEEP_LAST_RESULT : Fld := ⟨44, 4⟩
abbrev CNT_SWEEP_LAST_LOST : Fld := ⟨21, 21⟩
abbrev CNT_SWEEP_LAST_WRITTEN : Fld := ⟨0, 21⟩
abbrev CNT_IPFIX_CTRL_DST_PORT : Fld := ⟨32, 16⟩
abbrev CNT_IPFIX_CTRL_REFRESH : Fld := ⟨16, 16⟩
abbrev CNT_IPFIX_CTRL_LP : Fld := ⟨8, 8⟩
abbrev CNT_IPFIX_CTRL_Q : Fld := ⟨2, 3⟩
abbrev CNT_IPFIX_CTRL_IPV6 : Fld := ⟨1, 1⟩
abbrev CNT_IPFIX_CTRL_ENABLE : Fld := ⟨0, 1⟩
abbrev MIR_CTRL_TRUNC : Fld := ⟨34, 14⟩
abbrev MIR_CTRL_DEST_LP : Fld := ⟨24, 8⟩
abbrev MIR_CTRL_DSCP : Fld := ⟨18, 6⟩
abbrev MIR_CTRL_WRAP : Fld := ⟨16, 2⟩
abbrev MIR_CTRL_ENABLE : Fld := ⟨0, 1⟩
abbrev GLB_STATE_EODIN_CORE : Fld := ⟨16, 3⟩
abbrev GLB_STATE_POWER : Fld := ⟨8, 4⟩
abbrev GLB_STATE_SET : Fld := ⟨4, 1⟩
abbrev GLB_STATE_READY : Fld := ⟨3, 1⟩
abbrev GLB_STATE_GAP : Nat := 0
abbrev MBX_CTRL_CPL_LOG2 : Fld := ⟨12, 4⟩
abbrev MBX_CTRL_CMD_LOG2 : Fld := ⟨8, 4⟩
abbrev MBX_CTRL_ENABLE : Fld := ⟨0, 1⟩
abbrev MBX_STATUS_INFLIGHT : Fld := ⟨16, 9⟩
abbrev MBX_STATUS_QUIESCED : Fld := ⟨8, 1⟩
abbrev MBX_STATUS_CFG : Nat := 3
abbrev MBX_STATUS_CPL : Nat := 0
abbrev DMA_CTRL_RO_DATA : Fld := ⟨2, 1⟩
abbrev DMA_CTRL_RESET : Fld := ⟨1, 1⟩
abbrev DMA_CTRL_RUN : Fld := ⟨0, 1⟩
abbrev DMA_STATUS_PENDING : Fld := ⟨11, 1⟩
abbrev DMA_STATUS_STATE : Fld := ⟨8, 3⟩
abbrev DMA_STATUS_ERR : Nat := 3
abbrev DMA_STATUS_COMP : Nat := 0
abbrev CRS_CTRL_HOPS : Fld := ⟨16, 8⟩
abbrev CRS_CTRL_TX_SLOT : Fld := ⟨4, 2⟩
abbrev CRS_CTRL_ID_MODE : Fld := ⟨1, 1⟩
abbrev CRS_CTRL_ENABLE : Fld := ⟨0, 1⟩
abbrev CRS_STATUS_DEEP : Nat := 9
abbrev CRS_STATUS_AUTH : Nat := 6
abbrev CRS_STATUS_NOKEY : Nat := 3
abbrev CRS_STATUS_COLLIDE : Nat := 0
abbrev CRS_TIMERS_HELLO_MS : Fld := ⟨32, 8⟩
abbrev CRS_TIMERS_DEAD_MS : Fld := ⟨16, 16⟩
abbrev CRS_TIMERS_LSR_MAXAGE : Fld := ⟨8, 8⟩
abbrev CRS_TIMERS_LSR_REFRESH : Fld := ⟨0, 8⟩
abbrev CRS_LINK_CTRL_LINK_EN : Fld := ⟨32, 1⟩
abbrev CRS_LINK_CTRL_Q : Fld := ⟨16, 3⟩
abbrev CRS_LINK_CTRL_COST : Fld := ⟨0, 16⟩
abbrev TRUST_CTRL_TEST_PERIOD : Fld := ⟨0, 10⟩
abbrev TRUST_STATUS_WEAR : Nat := 12
abbrev TRUST_STATUS_FALLBACK : Nat := 9
abbrev TRUST_STATUS_SPARE : Nat := 6
abbrev TRUST_STATUS_FAILOVER : Nat := 3
abbrev TRUST_STATUS_LOGOVF : Nat := 0
abbrev TRUST_IMAGE_PTR_LEVEL : Fld := ⟨32, 16⟩
abbrev TRUST_IMAGE_STAGED : Fld := ⟨7, 25⟩
abbrev TRUST_IMAGE_STAGE : Fld := ⟨4, 3⟩
abbrev TRUST_IMAGE_PTR_BANK : Fld := ⟨1, 1⟩
abbrev TRUST_IMAGE_RUN_BANK : Fld := ⟨0, 1⟩
abbrev TRUST_PATROL_TEST_AGE : Fld := ⟨32, 16⟩
abbrev TRUST_PATROL_LAST_CAUSE : Fld := ⟨24, 3⟩
abbrev TRUST_PATROL_FENCED : Fld := ⟨8, 5⟩
abbrev TRUST_PATROL_SPARE : Fld := ⟨4, 2⟩
abbrev PWR_CTRL_REMOVE_TIMEOUT : Fld := ⟨16, 16⟩
abbrev PWR_CTRL_AUTO_RESET : Fld := ⟨1, 1⟩
abbrev PWR_CTRL_REMOVE_AUTO : Fld := ⟨0, 1⟩
abbrev PWR_STATUS_STATE : Fld := ⟨16, 4⟩
abbrev PWR_STATUS_STATE_T : Nat := 12
abbrev PWR_STATUS_WARM : Nat := 9
abbrev PWR_STATUS_REMOVE : Nat := 6
abbrev PWR_STATUS_FEEDB : Nat := 3
abbrev PWR_STATUS_FEEDA : Nat := 0
abbrev PWR_LAST_RESET_SRC : Fld := ⟨32, 16⟩
abbrev PWR_LAST_RESET_KIND : Fld := ⟨24, 4⟩
abbrev PWR_LAST_RESET_CAUSE : Fld := ⟨20, 4⟩
abbrev HLT_LIM_TRIP : Fld := ⟨16, 16⟩
abbrev HLT_LIM_WARN : Fld := ⟨0, 16⟩
abbrev HLT_SENSOR_STATUS_TRIP : Nat := 3
abbrev HLT_SENSOR_STATUS_WARN : Nat := 0
abbrev HLT_STATUS_OPT : Nat := 3
abbrev HLT_STATUS_TRIPPED : Nat := 0
abbrev HLT_TRIP_TEMP : Fld := ⟨8, 24⟩
abbrev HLT_TRIP_SENSOR : Fld := ⟨0, 8⟩
abbrev HLT_OPT_CTRL_BUDGET : Fld := ⟨16, 8⟩
abbrev HLT_OPT_CTRL_POWER_EN : Fld := ⟨0, 1⟩
abbrev HLT_OPTIC_POWER : Fld := ⟨16, 16⟩
abbrev HLT_OPTIC_STATE : Fld := ⟨4, 3⟩
abbrev HLT_OPTIC_PRESENT : Fld := ⟨3, 1⟩
abbrev HLT_OPTIC_FAULT : Nat := 0

end Sys2Proof.Machine
end

