-- ==== Sys2Proof/Config.lean ====
section
/-! DEFINITION. What an implementation fixes and what the manual leaves open. Every name here is opaque: no proof can see
its value, so a claim that holds of the model holds whatever the value is. -/

namespace Sys2Proof.Config

/-- The free values: where the manual states that a result exists but not which, a step takes `freeNat n` for the present
count `n` of the state's counter `freeCtr` and advances the counter (assumption 1). -/
opaque freeNat : Nat → Nat

/-- Whether the module is a GX6480-TH rather than a GX6480-TS (R4, R619). -/
opaque variantTH : Bool
/-- The PCI-SIG vendor identifier of ID_VENDOR (R614, R619). -/
opaque vendor : BitVec 16
/-- The module serial number (R619). -/
opaque serial : BitVec 64
/-- The module address, first wire octet in bits 47:40 (R619). -/
opaque mac : BitVec 48
/-- The PTP clockIdentity, identity byte 0 in bits 63:56 (R619). -/
opaque clockIdentity : BitVec 64
/-- The IPFIX private enterprise number (R619, R605). -/
opaque enterprise : BitVec 32
/-- The Eodin build number (R619). -/
opaque eodinBuild : BitVec 16

/-- What the module announces of its own clock beside its class: grandmasterPriority1 in bits 47:40, clockAccuracy in 39:32,
offsetScaledLogVariance in 31:16, grandmasterPriority2 in 15:8 and timeSource in 7:0 (no rule states them). -/
opaque ownQuality : BitVec 48

/-- What the factory record holds for each ITEM, held to the range of its kind where it is used (R339). -/
opaque factoryValue : Nat → Nat

/-- SHA-384 of a byte string; the manual names the function and does not define it (R34). -/
opaque sha384 : List Byte → BitVec 384
/-- HMAC-SHA-384 of a message under a key (R660). -/
opaque hmacSha384 : List Byte → List Byte → BitVec 384
/-- The signature over a digest that the attestation key, held in the module, makes (R687). -/
opaque attestSign : BitVec 384 → BitVec 768
/-- Whether a 96-byte signature over a digest verifies under the image signing key (R695). -/
opaque imageSigned : BitVec 384 → List (BitVec 8) → Bool
/-- The factory certificate of the attestation key, as bytes (R686). -/
opaque certificate : List Byte
/-- The measurement of a program that an Eodin build holds, by 4 × build: plus 0 Eodin of the factory image, plus 1 and 2 the servo programs of
Pistes A and B (R34). -/
opaque programDigest : Nat → BitVec 384

end Sys2Proof.Config
end

