-- ==== Sys2Proof/Machine/Bits.lean ====
section
/-! DEFINITION. Fields of words, sign, rounding, byte order and the two cyclic redundancy checks. -/

namespace Sys2Proof.Machine

/-- The field of width `w` whose lowest bit is `lo`, as a number. -/
def bitsAt (v lo w : Nat) : Nat := (v >>> lo) % 2 ^ w

/-- The field `f` of a value. -/
def Fld.of (f : Fld) (v : Wide) : Nat := bitsAt v.toNat f.lo f.w

/-- The value with field `lo`, `w` replaced by the low `w` bits of `n`. -/
def withBits (v lo w n : Nat) : Nat :=
  v - (bitsAt v lo w) <<< lo + (n % 2 ^ w) <<< lo

/-- The value with field `f` replaced. -/
def Fld.into (f : Fld) (v : Wide) (n : Nat) : Wide := BitVec.ofNat 96 (withBits v.toNat f.lo f.w n)

/-- A `w`-bit number read as two's complement. -/
def signedOf (w n : Nat) : Int := if n % 2 ^ w < 2 ^ (w - 1) then ((n % 2 ^ w : Nat) : Int) else ((n % 2 ^ w : Nat) : Int) - (2 ^ w : Nat)

/-- The low `w` bits of an integer, two's complement. -/
def unsignedOf (w : Nat) (x : Int) : Nat := (x % ((2 ^ w : Nat) : Int)).toNat

/-- An integer held to the range of a signed `w`-bit field. -/
def clampS (w : Nat) (x : Int) : Int :=
  if x < -((2 ^ (w - 1) : Nat) : Int) then -((2 ^ (w - 1) : Nat) : Int)
  else if x > ((2 ^ (w - 1) : Nat) : Int) - 1 then ((2 ^ (w - 1) : Nat) : Int) - 1 else x

/-- Division rounded to the nearest integer, ties to even (`q` positive). -/
def roundDiv (p q : Int) : Int :=
  let f := p.fdiv q
  let r := p - f * q
  if 2 * r < q then f
  else if 2 * r > q then f + 1
  else if f % 2 = 0 then f else f + 1

/-- `n` bytes of a number, the least significant first (R9). -/
def leBytes : Nat → Nat → List Byte
  | 0, _ => []
  | n + 1, v => BitVec.ofNat 8 v :: leBytes n (v / 256)

/-- `n` bytes of a number, the most significant first (network order). -/
def beBytes (n v : Nat) : List Byte := (leBytes n v).reverse

/-- The number that bytes spell, the least significant first. -/
def leNat : List Byte → Nat
  | [] => 0
  | b :: r => b.toNat + 256 * leNat r

/-- The number that bytes spell, the most significant first. -/
def beNat (l : List Byte) : Nat := l.foldl (fun a b => a * 256 + b.toNat) 0

/-- `n` bytes from offset `o`; bytes past the end read as 0. -/
def slice (l : List Byte) (o n : Nat) : List Byte :=
  let m := (l.drop o).take n
  m ++ List.replicate (n - m.length) 0

/-- The bytes with those from offset `o` replaced by `r`, as far as the bytes reach. -/
def patch (l : List Byte) (o : Nat) (r : List Byte) : List Byte :=
  if o < l.length then (l.take o ++ r.take (l.length - o)) ++ l.drop (o + (r.take (l.length - o)).length) else l

/-- One byte folded into a reflected CRC-32 of polynomial `p`. -/
def crcByte (p : Nat) (c : Nat) (b : Byte) : Nat :=
  let step (x : Nat) : Nat := if x % 2 = 1 then (x / 2) ^^^ p else x / 2
  step (step (step (step (step (step (step (step (c ^^^ b.toNat))))))))

/-- CRC-32C of a byte string, initial value and final exclusive-or all ones, bits reflected. -/
def crc32c (l : List Byte) : Nat := (l.foldl (crcByte 0x82F63B78) 0xFFFFFFFF) ^^^ 0xFFFFFFFF

/-- The Ethernet frame check sequence of a byte string (IEEE 802.3). -/
def crc32 (l : List Byte) : Nat := (l.foldl (crcByte 0xEDB88320) 0xFFFFFFFF) ^^^ 0xFFFFFFFF

end Sys2Proof.Machine
end

