-- ==== Sys2Proof/Machine/Tbl.lean ====
section
/-! DEFINITION. Sparse tables: a list of entries with rising keys in which no entry equals what an unlisted key reads as.
Host memory, the parameter space and every array of like units are held in this one form, so that equal contents are
equal lists. -/

namespace Sys2Proof.Machine

/-- A sparse table. -/
abbrev Tbl (α : Type) := List (Nat × α)

/-- What key `k` holds; `d` is what an unlisted key reads as. -/
def Tbl.get {α : Type} (t : Tbl α) (d : α) (k : Nat) : α :=
  match t with
  | [] => d
  | (j, v) :: r => if j = k then v else Tbl.get r d k

/-- The table without the entry of key `k`. -/
def Tbl.erase {α : Type} (t : Tbl α) (k : Nat) : Tbl α := t.filter (fun e => !(e.1 == k))

/-- The table with key `k` holding `v`, in rising order of keys. -/
def Tbl.insert {α : Type} (t : Tbl α) (k : Nat) (v : α) : Tbl α :=
  match t with
  | [] => [(k, v)]
  | (j, u) :: r => if k < j then (k, v) :: (j, u) :: r else if j = k then (k, v) :: r else (j, u) :: Tbl.insert r k v

/-- The table after a write of `v` to key `k`; writing what an unlisted key reads as removes the entry. -/
def Tbl.set {α : Type} [DecidableEq α] (t : Tbl α) (d : α) (k : Nat) (v : α) : Tbl α :=
  if v = d then Tbl.erase t k else Tbl.insert t k v

/-- The keys rise strictly from above `b`, and no entry holds what its key would read as unlisted. -/
def Tbl.wfFrom {α : Type} [DecidableEq α] (d : Nat → α) : Option Nat → Tbl α → Bool
  | _, [] => true
  | b, (k, v) :: r =>
    (match b with
     | none => true
     | some j => decide (j < k)) && decide (v ≠ d k) && Tbl.wfFrom d (some k) r

/-- The canonical form of a sparse table. -/
def Tbl.wf {α : Type} [DecidableEq α] (d : Nat → α) (t : Tbl α) : Bool := Tbl.wfFrom d none t

end Sys2Proof.Machine
end

