-- ==== Sys2Proof/Machine/Record.lean ====
section
/-! DEFINITION. Calibration records: their fields, bytes and entries, and what makes a copy valid (R337 to R340). -/

namespace Sys2Proof.Machine

/-- A value of 2^-16 ns from ns. -/
abbrev nsU (n : Nat) : Int := n * 65536

/-- A record (R338): the fields of its header, its entries as ITEM and VALUE, and CHECK. WRITTEN_AT is held as its 12 bytes. -/
structure CalRec where
  format : Nat
  typ : Nat
  length : Nat
  gen : Nat
  writtenAt : List Byte
  moduleId : Nat
  count : Nat
  entries : List (Nat × Int)
  check : Nat
deriving DecidableEq, Repr

/-- One of the two copies of a record as its region of the store holds it: never written, cut by the end of a write that did not complete, or a
record. -/
inductive CalCopy where
  | blank
  | cut
  | held (r : CalRec)
deriving DecidableEq, Repr

/-- TYPE of a factory and of a user record. -/
abbrev ctFACTORY : Nat := 1
abbrev ctUSER : Nat := 2

/-- The bytes of a record before CHECK (R338, R339). -/
def CalRec.body (r : CalRec) : List Byte :=
  leBytes 2 r.format ++ leBytes 1 r.typ ++ [0] ++ leBytes 4 r.length ++ leBytes 4 r.gen ++ slice r.writtenAt 0 12 ++ leBytes 4 r.moduleId ++
    leBytes 4 r.count ++ r.entries.flatMap (fun e => leBytes 2 e.1 ++ leBytes 6 (unsignedOf 48 e.2))

/-- Every byte of a record (R338). -/
def CalRec.bytes (r : CalRec) : List Byte := r.body ++ leBytes 4 r.check

/-- MODULE_ID of the module: the lower 32 bits of its serial number (R338). -/
def ownId : Nat := Config.serial.toNat % 2 ^ 32

/-- A record of the module as it is written (R338). -/
def calRecord (typ gen : Nat) (writtenAt : List Byte) (entries : List (Nat × Int)) : CalRec :=
  let r : CalRec := ⟨3, typ, 36 + 8 * entries.length, gen, writtenAt, ownId, entries.length, entries, 0⟩
  { r with check := crc32c r.body }

/-- The range of an entry of a user record, by kind (R339); none where the user may not hold it. -/
def userRange (item : Nat) : Option (Int × Int) :=
  let k := item / 0x1000
  let i := item % 0x1000
  if k = 1 ∨ k = 2 then (if i < 512 then some (-32768, 32768) else none)
  else if k = 5 then (if i = 0 ∨ i = 1 ∨ i = 5 then some (-131072, 131072) else none)
  else if k = 6 then (if i < 2 then some (-131072, 131072) else none)
  else if k = 7 ∨ k = 8 then (if i < 256 then some (0, nsU 100) else none)
  else none

/-- The range of an entry of a factory record, by kind (R339); none where the factory does not hold it. -/
def factRange (item : Nat) : Option (Int × Int) :=
  let k := item / 0x1000
  let i := item % 0x1000
  if k = 1 ∨ k = 2 then (if i < 512 then some (nsU 3, nsU 11) else none)
  else if k = 3 then (if i < 64 then some (nsU 5, nsU 40) else none)
  else if k = 4 then (if i < 64 then some (0x4000, 0xC000) else none)
  else if k = 5 then (if i < 8 then some (0, nsU 20) else none)
  else if k = 6 then (if i < 5 then some (0, nsU 20) else none)
  else none

/-- The ITEMs that a factory record holds, in order (R339): 1,165 of them. -/
def factItems : List Nat :=
  [(1, 512), (2, 512), (3, 64), (4, 64), (5, 8), (6, 5)].flatMap (fun (k : Nat × Nat) => (List.range k.2).map (fun i => 0x1000 * k.1 + i))

/-- The value that the factory measured for an ITEM: an open constant held to the range of its kind (R339). -/
def factVal (item : Nat) : Int :=
  match factRange item with
  | some r => r.1 + (Config.factoryValue item : Int) % (r.2 - r.1 + 1)
  | none => 0

/-- The factory record as the factory wrote it, in both copies (R337, R339; assumption 46). -/
def factRecord : CalRec := calRecord ctFACTORY 1 (List.replicate 12 0) (factItems.map (fun i => (i, factVal i)))

/-- Whether ITEMs rise strictly. -/
def rising : List (Nat × Int) → Bool
  | a :: b :: r => decide (a.1 < b.1) && rising (b :: r)
  | _ => true

/-- Whether a record in the region of `typ` is valid (R340). -/
def CalRec.valid (typ : Nat) (r : CalRec) : Bool :=
  let inRange (e : Nat × Int) : Bool :=
    match (if typ = ctFACTORY then factRange e.1 else userRange e.1) with
    | some x => decide (x.1 ≤ e.2 ∧ e.2 ≤ x.2)
    | none => false
  crc32c r.body == r.check && r.format == 3 && r.typ == typ && r.length == 36 + 8 * r.count && r.count == r.entries.length &&
    r.moduleId == ownId && rising r.entries && r.entries.all inRange && (typ != ctFACTORY || r.entries.map (·.1) == factItems)

/-- The record of a copy in the region of `typ`, where it is valid (R340). -/
def CalCopy.ok? (c : CalCopy) (typ : Nat) : Option CalRec :=
  match c with
  | .held r => if r.valid typ then some r else none
  | _ => none

/-- Whether a copy has been written, whole or not. -/
def CalCopy.written (c : CalCopy) : Bool := c != .blank

/-- The copy in use of two, given by the generations of those that are valid: the later in modulo-2^32 order, A where they are equal (R341):
1 A, 2 B, 0 none. -/
def usedCopy (a b : Option Nat) : Nat :=
  match a, b with
  | some x, some y => if x = y ∨ (x + 2 ^ 32 - y) % 2 ^ 32 < 2 ^ 31 then 1 else 2
  | some _, none => 1
  | none, some _ => 2
  | none, none => 0

/-- The value of an ITEM in a record; 0 where it has none. -/
def CalRec.entry (r : CalRec) (item : Nat) : Int := Tbl.get r.entries 0 item

/-! ### Samples and outcomes of a run (R351, R353) -/

/-- Samples kept: their number, the sum of their errors and the sum of the squares, in 2^-16 ns. -/
structure CalSum where
  n : Nat := 0
  s : Int := 0
  q : Int := 0
deriving DecidableEq, Repr

/-- One more kept sample. -/
def CalSum.add (x : CalSum) (e : Int) : CalSum := ⟨x.n + 1, x.s + e, x.q + e * e⟩

/-- The mean error, rounded to the nearest, ties to even (assumption 81). -/
def CalSum.mean (x : CalSum) : Int := if x.n = 0 then 0 else roundDiv x.s x.n

/-- n² times the square of the rms of e about its mean (R353, assumption 81). -/
def CalSum.var (x : CalSum) : Nat := ((x.n : Int) * x.q - x.s * x.s).toNat

/-- The whole part of a square root, found bit by bit from bit `k` − 1. -/
def isqrt (v : Nat) : Nat → Nat → Nat
  | 0, r => r
  | k + 1, r => isqrt v k (if (r + 2 ^ k) * (r + 2 ^ k) ≤ v then r + 2 ^ k else r)

/-- The rms of e, its fraction dropped (assumption 81). -/
def CalSum.rms (x : CalSum) : Nat := if x.n = 0 then 0 else isqrt (x.var / (x.n * x.n)) 48 0

/-- Whether the rms of e is above `ps` picoseconds. -/
def CalSum.above (x : CalSum) (ps : Nat) : Bool := decide ((ps * 65536 * x.n) ^ 2 < x.var * 1000 ^ 2)

/-- A stamp that a run has not paired yet (R351): its time with steps excluded in 2^-16 ns, the step era, and whether it is COARSE or RAW. -/
structure CalEdge where
  at_ : Int
  era : Nat
  bad : Bool
deriving DecidableEq, Repr

/-- A run's outcome (R353): its result, how many samples were kept, the mean errors, and their rms. -/
structure CalOut where
  result : Nat
  samples : Nat := 0
  errs : List Int := []
  rms : Nat := 0
deriving DecidableEq, Repr

/-- A user record that is to be written (R343 to R345): the new entries, and whether they are merged into the record in use; the outcome of the
run that asked for it, until the run has ended, and who waits for the write; its step (0 not begun, 1 the first copy being written, 2 the second,
3 done) and the copy being written (2 A, 3 B) with what is written. -/
structure CalWrite where
  new : Tbl Int
  merge : Bool
  out : Option CalOut := none
  owner : Option (Nat × Nat) := none
  stage : Nat := 0
  copy : Nat := 0
  what : Option CalRec := none
deriving DecidableEq, Repr

end Sys2Proof.Machine
end

