-- ==== Sys2Proof/Machine/Dev.lean ====
section
/-! DEFINITION. The state of the module: every register, table, queue and unit that the manual gives it, in plain data; an
array of like units is a sparse table whose unlisted entries are the unit after reset. -/

namespace Sys2Proof.Machine

/-- What leaves the module, newest first in `Dev.out`. -/
inductive Out where
  /-- An MSI-X message of a function's vector (R621). -/
  | msix (fn vec : Nat)
  /-- A frame sent whole on a logical port, from its destination address, without the FCS. -/
  | frame (lp : Nat) (bytes : List Byte)
  /-- A frame sent with a stomped FCS, and whether the block of its terminate goes as an error control block (R383). -/
  | stomp (lp : Nat) (bytes : List Byte) (fcs : Nat) (errorBlock : Bool)
  /-- The MAC of a port starts or ends sending remote fault (R365). -/
  | remoteFault (lp : Nat) (on : Bool)
  /-- A marker (0, with its TX_SEQ) or a time word (1) on a trunk (R181). -/
  | trunk (trk kind : Nat) (bytes : List Byte)
  /-- A message frame on a trunk, from TYPE to CHECK, and the network time of the slot of its K27.7 (R555, R556). -/
  | message (trk at_ : Nat) (frame : List Byte)
  /-- A time-of-day sentence on the TOD output (R191). -/
  | tod (bytes : List Byte)
  /-- A pulse of TOA (0), TOB (1) or the PPS output of the TOD port (2): the network time of its rising edge and how long it is high
  (R187, R190). -/
  | pulse (output rise high : Nat)
  /-- An edge or marker launched toward TOA (0), TOB (1), the PPS output of the TOD port (2), TU (3) or TD (4): the network time at which it
  leaves the module's launch point, the output delay ahead of the instant it is named for (R331). -/
  | launch (output at_ : Nat)
  /-- A pulse in progress on an output ended at a network time (R188). -/
  | fall (output at_ : Nat)
  /-- A pulse or a level change of ALERT_N: true while asserted (R758). -/
  | alert (on : Bool)
deriving DecidableEq, Repr

/-- The answer of the last command, as its sender sees it: a status code of R637, the RESULT and VALUE of R631, the
time carried, and bytes returned. A field of the model that shows what a command answers; it feeds nothing back. -/
structure Reply where
  status : Nat := 0
  result : Nat := 0
  value : Nat := 0
  time : Option Nat := none
  data : List Byte := []
deriving DecidableEq, Repr

/-- One entry of a function's MSI-X table (R614, R622). -/
structure MsixEntry where
  addr : Nat := 0
  data : Nat := 0
  masked : Bool := true
  pending : Bool := false
deriving DecidableEq, Repr

/-- A command entry in flight (R630): its fields, whether a reserved field is set, and how far it has gone. -/
structure Cmd where
  op : Nat := 0
  fence : Bool := false
  quiet : Bool := false
  tag : Nat := 0
  ctx : Nat := 0
  par : List Byte := []
  started : Bool := false
  noPost : Bool := false
  gap : Bool := false
  /-- Whether its effect is found complete in hardware after a gap (R635). -/
  doneInHw : Bool := false
deriving DecidableEq, Repr

/-- A mailbox ring (R624, R625). MBX_STATUS triplets are held as item `MBX_ST r`. -/
structure Ring where
  cmdBase : Nat := 0
  cplBase : Nat := 0
  cmdLog : Nat := 8
  cplLog : Nat := 8
  enable : Bool := false
  cmdTail : Nat := 0
  cmdHead : Nat := 0
  cplHead : Nat := 0
  cplTail : Nat := 0
  inflight : List Cmd := []
deriving DecidableEq, Repr

/-- A completion held back while Bus Master Enable of PF0 is 0 (R618). -/
structure HeldCpl where
  ring : Nat
  quiet : Bool
  bytes : List Byte
  /-- The bank of a TABLE_WRITE, which is not completed until this is posted (R435). -/
  bank : Option Nat := none
deriving DecidableEq, Repr

/-- The host link: rings, the round of fetching, Bus Master Enable per function, split registers and selectors. -/
structure HostSt where
  rings : Tbl Ring := []
  lastRing : Nat := 63
  bme0 : Bool := false
  bme1 : Bool := false
  bme2 : Bool := false
  held : List HeldCpl := []
  /-- The upper part latched by the last read of a lower register, by PF0 BAR0 offset of the lower register (R11). -/
  splitRead : Tbl (Option Nat) := []
  /-- The lower part held by a write until the higher register is written (R11). -/
  splitHeld : Tbl (Option Nat) := []
  intsumSel : Nat := 0
  perst : Bool := false
  /-- Whether the PCIe link is up (R717, R720). -/
  linkUp : Bool := true
deriving DecidableEq, Repr

/-- A descriptor whose data has moved and whose STATUS is still to be written: its address, CTRL and NEXT, and what STATUS will say; the bytes
moved, and those written of a frame that a shortage of descriptors has cut (R645, R648, R649). -/
structure DmaHold where
  at_ : Nat
  ctrl : Nat
  next : Nat
  sop : Bool := false
  eop : Bool := false
  trunc : Bool := false
  error : Nat := 0
  kind : Nat := 0
  count : Nat := 0
  moved : Nat := 0
  bytes : List Byte := []
  /-- Of an open telemetry buffer: its address, and END in the second read of CTRL where one is due. -/
  addr : Nat := 0
  again : Bool := false
deriving DecidableEq, Repr

/-- A DMA channel (R642, R643). DMA_STATUS triplets are held as item `DMA_ST ch`. `state` is coded as in R643. -/
structure DmaCh where
  head : Nat := 0
  cur : Nat := 0
  state : Nat := 0
  run : Bool := false
  roData : Bool := false
  pending : Bool := false
  done : Nat := 0
  irqCfg : Nat := 0
  err : Nat := 0
  /-- Descriptors completed since the last end-of-count event (R653). -/
  since : Nat := 0
  /-- The descriptor at `cur` has been completed, and END was 1 when its CTRL was last read: it is read again, not taken again (R651, R652). -/
  tail : Bool := false
  /-- On a channel to the host, what is still to be written of the frame in progress; on one from the host, what SOP and its successors have
  brought. -/
  gather : List Byte := []
  inFrame : Bool := false
  /-- KIND of the records that an abandoned telemetry buffer leaves in `gather` (R618). -/
  gkind : Nat := 0
  /-- A descriptor that waits: a punted frame for a kick (R649), a block for the end of its SEAL or CLONE (R648), or a telemetry buffer that is
  not full (R238, R592). -/
  hold : Option DmaHold := none
deriving DecidableEq, Repr

/-- The status bits, by item and bit, whose condition occurred at CD7 time `at_`. -/
structure CondSt where
  at_ : Nat := 0
  bits : List (Nat × Nat) := []
deriving DecidableEq, Repr

/-- A Timekeeper replica: its offset from the master in 2^-48 ns, whether it holds the time bus or waits for a tick word to
reload from, the checks passed in a row since a fault, and what is slewed into the offset over the 100 µs after the check made at
CD7 time `corrAt` (R74 to R77). Off the bus it counts on at the rate and slew of its last tick word (R41, R74). -/
structure Replica where
  off : Int := 0
  bus : Bool := true
  reload : Bool := false
  good : Nat := 0
  corr : Int := 0
  corrAt : Nat := 0
  rate : Int := 0
  slew : Int := 0
  /-- Index of the last refill tick taken in its lane chiplet, while it shows REPLICA_FAULT (R80). -/
  tick : Nat := 0
deriving DecidableEq, Repr

/-- A step decided and not yet applied: its size in 2^-48 ns and the network time of its decision, which moves with the steps that take
effect while it waits (R66). -/
structure PendStep where
  size : Int
  at_ : Int
deriving DecidableEq, Repr

/-- A Timekeeper window slot (R69): the last capture. -/
structure TkwSlot where
  ns : Nat := 0
  sec : Nat := 0
  frac : Nat := 0
  info : Nat := 0
  seq : Nat := 0
deriving DecidableEq, Repr

/-- What recurs at the multiples of a period of network time: its last multiple, none before the first, and the step era it lies in. -/
structure Beat where
  at_ : Option Nat := none
  era : Nat := 0
deriving DecidableEq, Repr

/-- The Timekeeper (R55 to R77). Times are in units of 2^-48 ns. -/
structure TkSt where
  time : Nat := 0
  /-- Elapsed time on CD7, unaffected by steps, in the same unit. -/
  osc : Nat := 0
  /-- Elapsed time counted in CD2 cycles at their nominal length: CD7 time scaled by the PLL-T offset. -/
  cd2 : Nat := 0
  /-- What the EMU's cycle counter has counted, 0.8 ns to a CD2 cycle and 50 cycles to an oscillator cycle on bypass (R226). -/
  cyc : Nat := 0
  /-- Position in the five-cycle increment pattern (R56). -/
  phase : Nat := 0
  /-- The frequency part of the applied offset, in 2^-16 ppb (R57). -/
  freq : Int := 0
  /-- The offset that CD1 ran at when the last refill tick came, in 2^-16 ppb (R112). -/
  cd1 : Int := 0
  /-- Phase the slew term removes over the present tick interval (R65). -/
  slew : Int := 0
  remain : Int := 0
  /-- Network time at which the present tick interval began, and how much of the phase it removes TK_SLEW_REMAIN has been relieved of
  already, by a TK_SET (R64, R67). -/
  tickAt : Nat := 0
  paid : Int := 0
  /-- The frequency that the last tick word carried to the replicas, and how far those that hold the bus are from the master because
  its own has changed since (R74, R315). -/
  word : Int := 0
  lag : Int := 0
  adj : List Int := []
  steps : List PendStep := []
  /-- Index of the last refill tick of the master, and of the last tick and slot boundary taken in the Core die (R80). -/
  lastTick : Nat := 0
  coreTick : Nat := 0
  lastSlot : Nat := 0
  /-- CD7 time of the last replica check (R75). -/
  checkAt : Nat := 0
  /-- The sum and the number of the steps applied since power-up (R68, R103, R124). -/
  stepSum : Int := 0
  era : Nat := 0
  reps : Tbl Replica := []
  nextRep : Nat := 1
  win : Tbl TkwSlot := []
deriving DecidableEq, Repr

/-- An armed action (R83): its slot and generation, and what it names. -/
structure Action where
  slot : Nat
  gen : Nat
  trigger : Nat
  typ : Nat
  notify : Bool := false
  fabric : Bool := false
  target : Nat
  count : Nat
  userTag : Nat := 0
  args : List Byte := []
  /-- Accepted under APPLY_NOW with a short lead: its record shows DONE_LATE (R87). -/
  late : Bool := false
  /-- Whether its targets have been captured (R522), and whether it has been judged MISSED. -/
  captured : Bool := false
  missed : Bool := false
deriving DecidableEq, Repr

/-- A fire record (R91): its action, the outcome, the effect time and DEGRADED as they were when it fired. -/
structure FireRec where
  act : Action
  outcome : Nat
  effect : Nat
  degraded : Bool
deriving DecidableEq, Repr

/-- The Timeline: the armed actions of both stores, and the generation and last fate of each slot
(0 never used or cancelled, 1 fired). -/
structure TlSt where
  acts : List Action := []
  gens : Tbl Nat := []
  fired : Tbl Nat := []
  /-- Data-plane actions held by Eodin while the core package is down (R100, R716). -/
  cleared : List Action := []
  /-- The records of actions that fired during a management gap (R39). -/
  unposted : List FireRec := []
  /-- The ports whose ADMIN an action decided at CD7 time `setAt`: a command of that cycle does not change it (R98). -/
  setPorts : List Nat := []
  setAt : Nat := 0
deriving DecidableEq, Repr

/-- A LIVE bit that stands for 1 s of network time: item, bit of LIVE, and the time it ends. -/
structure Pulse where
  item : Nat
  bit : Nat
  until_ : Nat
deriving DecidableEq, Repr

/-! ### The frame path -/

/-- An exact-match entry (R419): its key definition and key, the banks that see it, and its action. -/
structure ExactEntry where
  kd : Nat
  key : Nat
  banks : Nat
  ptr : Nat
  arg : Nat
deriving DecidableEq, Repr

/-- A ternary slot (R421). -/
structure TernRule where
  key : Nat := 0
  mask : Nat := 0
  banks : Nat := 0
  ptr : Nat := 0
  arg : Nat := 0
deriving DecidableEq, Repr

/-- A rule-set bank (R433): its records as little-endian numbers, its label, and the frames in flight on it (R440). The
unlisted records are those of an empty bank (R778). -/
structure Bank where
  state : Nat := 0
  ruleset : Nat := 0
  /-- The label that the SEAL under way names. -/
  label : Nat := 0
  inflight : Nat := 0
  nodes : Tbl Nat := []
  trans : Tbl Nat := []
  profs : Tbl Nat := []
  kds : Tbl Nat := []
  kdWritten : Tbl Bool := []
  acts : Tbl Nat := []
  /-- The command that seals or clones it, to be completed: ring and tag, or a DMA channel at 64 and above. -/
  owner : Option (Nat × Nat) := none
deriving DecidableEq, Repr

/-- The classifier: both banks, which is active, the trigger and step era of the last swap (R101, R103), the exact-match
and ternary stores, and the credit of each punt reason's limiter in 2^-32 frame, where it is not full (R443). -/
structure ClsSt where
  bank0 : Bank := {}
  bank1 : Bank := {}
  active : Option Nat := none
  swapT : Nat := 0
  swapEra : Nat := 0
  exact_ : List ExactEntry := []
  tern : Tbl TernRule := []
  punt : Tbl (Option Nat) := []
deriving DecidableEq, Repr

/-- A frame in the module, from its head to its release. -/
structure Frame where
  /-- Ingress logical port; 256 for a frame injected to a queue or originated by the module. -/
  lp : Nat := 256
  /-- The ingress stamp S, a multiple of 2^-16 ns (R110), and its flags (R120). -/
  stamp : Nat := 0
  unc : Bool := false
  var : Bool := false
  calfb : Bool := false
  /-- The flags and terms of the stamp as TSU_LAST_RX_TERMS shows them (R143). -/
  terms : Nat := 0
  /-- The sum of steps applied before the stamp (R124), and TSU_RX_ADD at ingress. -/
  steps : Int := 0
  era : Nat := 0
  rxAdd : Int := 0
  /-- The bytes received from the destination address, without the FCS once the tail is in; and as edited by passes. -/
  orig : List Byte := []
  body : List Byte := []
  tail : Bool := false
  /-- The received FCS and whether it proved good. -/
  fcs : Nat := 0
  bank : Nat := 0
  pass : Nat := 1
  started : Nat := 0
  udata : Nat := 0
  vid : Option Nat := none
  pcp : Nat := 0
  /-- The declared length (R414), once fixed, and whether item 2 gave it. -/
  declared : Option Nat := none
  byIp : Bool := false
  /-- The declared length as first fixed, in received bytes and FCS. -/
  rxDecl : Option Nat := none
  /-- Where the datagrams of its checked IP headers end, to be compared with the frame end at the tail (R412); with each, how many bytes
  longer the frame of that pass is than the received one. -/
  ipEnds : List (Nat × Int) := []
  colour : Nat := 0
  /-- The first policer that made it yellow has decided, and whether it sets DEI (R512). -/
  yellowed : Bool := false
  yq : Option Nat := none
  dei : Bool := false
  /-- The operation and RETURN (R123), and for TURNAROUND the stamp and steps of the request. -/
  op : Nat := 0
  ret : Bool := false
  reqStamp : Nat := 0
  reqSteps : Int := 0
  /-- CLS_HASH_CTRL as its first pass began with it, and the hash of that pass (R429, R447, R598). -/
  hashCtl : Nat := 0
  hash : Nat := 0
  stream : Option Nat := none
  seqNo : Option Nat := none
  popR : Bool := false
  /-- Sequence recovery is still to be decided at the tail (R390). -/
  rcvyWait : Bool := false
  sampled : Bool := false
  depth : Bool := false
  lenc : Bool := false
  ruleTag : Nat := 0
  /-- Edits of the pass: headers removed in bytes, template prepended with its offsets (R428), tag edit (R426). -/
  decap : Nat := 0
  encap : Option (Nat × List Byte) := none
  tags : Nat := 0
  recircd : Bool := false
  growth : Bool := false
  /-- 0 waiting for a pass, 1 waiting for a buffer, 2 in a buffer. -/
  stage : Nat := 0
  /-- The pool asked for, whether within guarantee (R468), and the class for ingress accounting (R470). -/
  pool : Nat := 0
  guar : Bool := false
  cls : Nat := 0
  buf : Option (Nat × Nat) := none
  /-- Its pool could not serve it (R463). -/
  unserved : Bool := false
  /-- The queues it joined before its length was known. -/
  enqQs : List Nat := []
  /-- No longer classified: it is held only for copies made at its drop. -/
  dead : Bool := false
  /-- The inject channel it came on (R647). -/
  inject : Option Nat := none
deriving DecidableEq, Repr

/-- A copy of a frame in a queue or under transmission. `kind`: 0 forwarded or originated, 1 punt, 2 host copy, 3 mirror. -/
structure Copy where
  fid : Nat
  q : Nat
  kind : Nat := 0
  edit : Nat := 0
  reason : Nat := 0
  enq : Nat := 0
  size : Nat := 0
  occ : Nat := 0
  /-- For a mirror copy: session, trigger, drop reason, egress port of the original or 0xFFFF, number, and the copy whose
  tag edit an egress copy shows. -/
  session : Nat := 0
  trig : Nat := 0
  drop : Nat := 0
  egress : Nat := 0xFFFF
  seq : Nat := 0
  /-- Counted once in SLW_LOOKAHEAD_HELD (R516). -/
  held : Bool := false
deriving DecidableEq, Repr

/-- A frame under transmission on a port: the copy, its egress time with flags, and how it goes. -/
structure TxSt where
  copy : Copy
  e : Nat
  unc : Bool := false
  var : Bool := false
  steps : Int := 0
  carve : Bool := false
  /-- Whether its operation acts, is refused under R129, or never applied. -/
  opOn : Bool := false
  /-- The stomp cause that has arisen (R382), 0 for none, and how many received bytes were sent before it. -/
  cause : Nat := 0
  cut : Nat := 0
deriving DecidableEq, Repr

/-- A pool of the Rink (R452, R462, R465): its count in force, buffers freed (first taken first), the first index never
taken since the lists were built, and the state bits of allocated buffers. -/
structure Pool where
  count : Nat := 0
  freed : List Nat := []
  fresh : Nat := 0
  alloc : Tbl Bool := []
deriving DecidableEq, Repr

/-- A shaper (R503 to R508): both buckets in 2^-32 byte, the eligible time and the slot time of its wheel entry, and
whether a reset of its buckets waits for the tick (R528). -/
structure Shp where
  c : Int := 0
  p : Int := 0
  elig : Option (Nat × Nat) := none
  /-- Whether the entry waits in the far ring (R501). -/
  far : Bool := false
  reset : Bool := false
deriving DecidableEq, Repr

/-- The hold of a shadow set: its seal time (network time less steps), its bound tick, and the slot of the action that has captured it. -/
structure ShadowSt where
  sealed : Nat := 0
  tick : Option Nat := none
  action : Option Nat := none
deriving DecidableEq, Repr

/-- The gates of a port in force since the last slot boundary, while its active list is enabled (R515): open bits, the
running entry, and whether the state holds after a step until the first cycle start (R68). -/
structure GateSt where
  open_ : Nat := 0x1FF
  cur : Nat := 0
  hold : Bool := false
deriving DecidableEq, Repr

/-- Pause of one class of a port (R376 to R378): paused until a CD7 time, since when without a break, and override. -/
structure PauseSt where
  until_ : Option Nat := none
  since : Nat := 0
  override : Bool := false
deriving DecidableEq, Repr

/-- A logical port's link (R364, R365): whether it is good, whether a break runs in HOLD or UP, its flush, whether
its variable terms are tracked (R117), whether its PCS holds block or alignment lock, and whether its MAC sends remote fault. -/
structure LinkSt where
  good : Bool := false
  broken : Bool := false
  flushing : Bool := false
  tracked : Bool := false
  pcs : Bool := false
  sendRf : Bool := false
deriving DecidableEq, Repr

/-- Sequence recovery of a stream (R389): whether any number has been taken since reset, the history window as a
bitmap (bit 0 the newest), its sequence number, and how far the window has moved since the first number. -/
structure RcvySt where
  first : Bool := true
  recov : Nat := 0
  hist : Nat := 0
  shifts : Nat := 0
deriving DecidableEq, Repr

/-- A message that a slice has terminated and sent to its engine (R157, R253): what it is, the port, stamp and flags, the
bytes from its first protocol byte, and the address it came from. `kind`: 0 event, 1 general, 2 ESMC, 3 Cresor,
4 calibration frame. -/
structure Term where
  kind : Nat
  lp : Nat
  stamp : Nat := 0
  steps : Int := 0
  bad : Bool := false
  bytes : List Byte
  /-- Transport 0 Ethernet, 1 UDP/IPv4, 2 UDP/IPv6; source address of the protocol and of the link. -/
  trans : Nat := 0
  src : Nat := 0
  mac : Nat := 0
  piste : Nat := 0
deriving DecidableEq, Repr

/-- A telemetry record on its way to a DMA channel or to Eodin. -/
structure Rec where
  kind : Nat
  bytes : List Byte
deriving DecidableEq, Repr

/-- The data plane. -/
structure NetSt where
  nextId : Nat := 0
  frames : Tbl (Option Frame) := []
  queues : Tbl (List Copy) := []
  tx : Tbl (Option TxSt) := []
  entries : Nat := 0
  hrGrowth : Nat := 0
  hrPunt : Nat := 0
  hrMirror : Nat := 0
  pools : Tbl Pool := []
  shp : Tbl (Option Shp) := []
  pol : Tbl (Option (Int × Int)) := []
  shadow : Tbl ShadowSt := []
  gates : Tbl (Option GateSt) := []
  pause : Tbl PauseSt := []
  /-- Classes to be named in the next PFC frame of a port, as bits (R379). -/
  pfc : Tbl Nat := []
  link : Tbl LinkSt := []
  rcvy : Tbl RcvySt := []
  gen : Tbl Nat := []
  mirSeq : Tbl Nat := []
  mirIpId : Tbl Nat := []
  inbox : List Term := []
  tele : Tbl (List Rec) := []
  eodinRecs : List Rec := []
  /-- Refill ticks since power-up, by which copies age (R472). -/
  ticks : Nat := 0
  pcSeq : Nat := 0
  /-- Credit of the drop-postcard limiter in 2^-32 postcard, where it is not full (R597). -/
  dropCredit : Option Nat := none
  /-- Terminated messages of the present second: the second, events and general messages (R154). -/
  ptpSec : Nat := 0
  ptpEvt : Nat := 0
  ptpGen : Nat := 0
  /-- RETURN stamps on their way to the time-message engine: messageType, domain, sequenceId, port, E, steps (R123). -/
  returns : List (Nat × Nat × Nat × Nat × Nat × Int) := []
  /-- Running timers, by code, with their CD7 deadlines. -/
  timers : Tbl (Option Nat) := []
  /-- Staging memory in use, per slice (R457). -/
  staging : Tbl Nat := []
deriving DecidableEq, Repr

/-! ### Trust -/

/-- One entry of the measurement log (R685). -/
structure LogEntry where
  kind : Nat
  event : Nat
  slot : Nat
  label : Nat
  digest : BitVec 384
  seconds : Nat
deriving DecidableEq, Repr

/-- The attestation engine (R684, R685): the four measurement registers, extensions since the last clear, and the log,
oldest first. -/
structure AttSt where
  reg0 : BitVec 384 := 0
  reg1 : BitVec 384 := 0
  reg2 : BitVec 384 := 0
  reg3 : BitVec 384 := 0
  ext0 : Nat := 0
  ext1 : Nat := 0
  ext2 : Nat := 0
  ext3 : Nat := 0
  log : List LogEntry := []
  /-- The digests of the programs now loaded: per bank the parse graph and action measurement taken at its SEAL. -/
  graph0 : BitVec 384 := 0
  graph1 : BitVec 384 := 0
  acts0 : BitVec 384 := 0
  acts1 : BitVec 384 := 0
deriving DecidableEq, Repr

/-! ### The time protocol engine -/

/-- A Sync taken at a slave port (R168): its sequenceId, ingress stamp, whether it may be used, its correctionField in 2^-16 ns, and
t1 where it is known. -/
structure SyncSt where
  seq : Nat
  t2 : Nat
  bad : Bool
  corr : Int
  t1 : Option Nat
deriving DecidableEq, Repr

/-- The dataset of a received Announce (R162, R183): its 30 body bytes, flagField and sender. -/
structure Ann where
  body : List Byte
  flags : Nat
  src : Nat
deriving DecidableEq, Repr

/-- A clock port: one port or trunk for one Piste. Exchanges in progress, link delays of the last 16 (R159), the Announce held, and the
next sequence numbers of Sync, Announce, Delay_Req, Pdelay_Req and Signaling. -/
structure ClkPort where
  sync : Option SyncSt := none
  /-- t2' - t1' of the last complete Sync, in 2^-16 ns. -/
  md : Option Int := none
  dreq : Option Nat := none
  preq : Option Nat := none
  /-- A two-step Pdelay_Resp that waits for its Follow_Up: sequenceId and t4 - t1 + t2 - c in 2^-16 ns. -/
  presp : Option (Nat × Int) := none
  pd : List Int := []
  ann : Option Ann := none
  seqSync : Nat := 0
  seqAnn : Nat := 0
  seqDel : Nat := 0
  seqPdel : Nat := 0
  seqSig : Nat := 0
deriving DecidableEq, Repr

/-- A unicast grant served as a master (R155): Piste, port, who asked, messageType and when it ends on CD7. -/
structure Grant where
  piste : Nat
  lp : Nat
  addr : Nat
  mac : Nat
  ident : Nat
  typ : Nat
  log : Int
  until_ : Nat
deriving DecidableEq, Repr

/-- A Piste's servo (R146 to R149, R165): Φ in 2^-48 ns, offsets since the last update in 2^-16 ns, and the runs that decide its state;
the dataset of its grandmaster, the UTC offset and leap flag it gives, and its external source. -/
structure PisteSt where
  phi : Int := 0
  /-- The values obtained since the last update (R148), each with the instance whose PTE_ASYM it still holds, 0 for an edge. -/
  dets : List (Int × Nat) := []
  within : Nat := 0
  beyond : Nat := 0
  empty : Nat := 0
  wasLocked : Bool := false
  parent : Option Ann := none
  utc : Option Int := none
  leap : Nat := 0
  /-- The stamp of the last edge of its channel, the second last named, and how many sentences in a row named consecutive seconds. -/
  edge : Option Nat := none
  named : Option Nat := none
  run : Nat := 0
  /-- Updates so far, the last at which the Piste was eligible, its outputs at updates while LOCKED, newest first (R280), and the sum and
  number of its f over the present second (R249). -/
  upd : Nat := 0
  eligAt : Nat := 0
  hist : List (Nat × Int) := []
  fSum : Int := 0
  fCount : Nat := 0
  /-- The multiples of 62.5 ms and of 1 s of its servo and its bandwidth loop (R148, R170). -/
  beat : Beat := {}
  bwBeat : Beat := {}
deriving DecidableEq, Repr

/-- Steering (R174 to R180, R194): the frequency output without a slew, Φ still to slew, whether a ramp runs, and what the Piste
that was active last gave. -/
structure SteerSt where
  base : Int := 0
  slew : Int := 0
  ramp : Bool := false
  last : Option Nat := none
  utc : Int := 0
  leap : Nat := 0
  /-- The network time at which the UTC day of a held leap flag ends (R194). -/
  leapEnd : Nat := 0
  /-- A Φ_sw handed to the Timekeeper has not been removed in full (R178, R180). -/
  handed : Bool := false
deriving DecidableEq, Repr

/-- A trunk's exchange of markers (R181, R182): the next TX_SEQ, the TX_TIMEs of markers sent, the last marker received with its stamp,
and whether markers arrive, and whether they have stopped (R184). -/
structure TrkTime where
  txSeq : Nat := 0
  sent : Tbl Nat := []
  /-- The marker stamped and waiting for its time word: stamp and whether it is COARSE. -/
  mark : Option (Nat × Bool) := none
  rx : Option (Nat × Nat) := none
  seen : Bool := false
  stopped : Bool := false
deriving DecidableEq, Repr

/-- A time output: the network time from which its edges are still to be produced, and that at which its last pulse ends (R187, R188). -/
structure OutSt where
  next : Nat := 0
  until_ : Nat := 0
deriving DecidableEq, Repr

/-- The engine, by clock port `inst * 4 + k` and by Piste. -/
structure PteSt where
  ports : Tbl ClkPort := []
  a : PisteSt := {}
  b : PisteSt := {}
  steer : SteerSt := {}
  grants : List Grant := []
  /-- Unicast grants held as a slave, by `(piste * 16 + entry) * 16 + messageType`: when each ends on CD7 (R155). -/
  held : Tbl (Option Nat) := []
  trk0 : TrkTime := {}
  trk1 : TrkTime := {}
  /-- TOA, TOB and the PPS output of the TOD port (R187, R188, R190). -/
  outA : OutSt := {}
  outB : OutSt := {}
  outPps : OutSt := {}
  /-- TSU_RX_ADD values to be loaded at the next refill tick (R159). -/
  loads : Tbl (Option Int) := []
  /-- The hand-off announces clockClass 255 (R732). -/
  handOff : Bool := false
  /-- The second named by the last TOD sentence sent (R191). -/
  tod : Beat := {}
deriving DecidableEq, Repr

/-! ### The Edge Measurement Unit -/

/-- The first or last stamped edge of a gate or interval (R231, R233): its stamp in 2^-16 ns with steps excluded, its cycle count, the
edge count, whether RAW or COARSE, the step era, the nanoseconds shown, the position within its cycle and its CD7 time in 2^-16 ns. -/
structure EdgeAt where
  at_ : Int
  cyc : Nat
  count : Nat
  raw : Bool
  coarse : Bool
  era : Nat
  ns : Nat
  fine : Nat
  osc : Nat
deriving DecidableEq, Repr

/-- A channel (R215, R224 to R236): its edge counter, the CD7 time of its last stamp, edges since QEN was set, an interval begun, the
gate's first and last edges, its queue with the next index to be written, and what its next entry carries. -/
structure EmuCh where
  count : Nat := 0
  last : Option Nat := none
  /-- The CD7 time of the last qualified edge that EDGE selects, stamped or not (R247). -/
  edge : Option Nat := none
  dec : Nat := 0
  start : Option EdgeAt := none
  first : Option EdgeAt := none
  latest : Option EdgeAt := none
  queue : List (List Byte) := []
  rd : Nat := 0
  seq : Nat := 0
  lost : Bool := false
  era : Nat := 0
  /-- Whether the channel has produced an entry, and the wraps of the cycle counter at that entry, or at the setting of QEN before the first
  (R227). -/
  had : Bool := false
  wraps : Nat := 0
  /-- The last gate's end, and the last exchange of the interpolators (R222, R233). -/
  gate : Beat := {}
  xchg : Beat := {}
  /-- The table of the interpolator that is not stamping, and whether each one's last test was rejected. -/
  spare : Tbl Nat := []
  rej0 : Bool := false
  rej1 : Bool := false
deriving DecidableEq, Repr

/-- The unit: its channels, and the wraps of its cycle counter that have been reported while time is not set (R226). -/
structure EmuSt where
  chs : Tbl EmuCh := []
  wraps : Nat := 0
deriving DecidableEq, Repr

/-! ### Reference selection -/

/-- A candidate (R247 to R270): stamped edges at the last sample and now (edge count and CD7
time in 2^-16 ns), samples of y newest first, seconds free of judgement while SUSPECT, whether it is held for AGING, and whether a
valid trunk record holds its level from QL-FAILED. -/
structure CandSt where
  m0 : Option (Nat × Nat) := none
  m1 : Option (Nat × Nat) := none
  ys : List Int := []
  x : Option Int := none
  clean : Nat := 0
  aging : Bool := false
  qlGood : Bool := false
deriving DecidableEq, Repr

/-- A learning point (R264): time in s, x in 2^-16 ppb and θ in mK. -/
structure LearnPt where
  t : Nat
  x : Int
  th : Int
deriving DecidableEq, Repr

/-- The selector (R264 to R277): candidates, learning, the run of seconds within REFC_LOCK_THR, and the holdover history newest first. -/
structure RefcSt where
  cands : Tbl CandSt := []
  points : List LearnPt := []
  learnX : Int := 0
  learnTh : Int := 0
  learnN : Nat := 0
  learnOk : Bool := false
  /-- The whole seconds and the multiples of 1,000 s taken (R250, R264). -/
  beat : Beat := {}
  learnBeat : Beat := {}
  fitKept : Bool := false
  within : Nat := 0
  hist : List (Int × Int × Nat) := []
  /-- Levels from the trunks (R255), the originator of the level in use with its eEEC count (R254), and ports whose level is not QL-FAILED. -/
  trkQl0 : Nat := 0xFFF
  trkQl1 : Nat := 0xFFF
  esmcId : Tbl (Nat × Nat) := []
  esmcGood : Tbl Bool := []
  esmcAt : Tbl (Option Nat) := []
  /-- The level last sent on each port (R254), and when a record last came on each trunk. -/
  esmcSent : Tbl Nat := []
  trkAt0 : Option Nat := none
  trkAt1 : Option Nat := none
deriving DecidableEq, Repr


/-! ### Clock domains -/

/-- The domains (R299 to R322): whether PLL-T has completed its comparisons and waits for a refill tick, whether PLL-P has lost lock,
which requested divider restarts wait for the second, whether that of the EMU is repeated once CD2 returns, the last multiple of 1 ms at
which PLL-T slewed, and the CD2 time from which the CD1 divider counts. -/
structure CdSt where
  tReady : Bool := false
  pLost : Bool := false
  syncEmu : Bool := false
  syncPort : Bool := false
  emuRepeat : Bool := false
  msBeat : Beat := {}
  portBase : Nat := 0
  /-- What the moves of PLL-T have left below one unit of its offset, in thousandths of it (R312). -/
  slewRest : Int := 0
  /-- The applied offset summed over elapsed time since the last whole second, the time up to which it is, and that second's (R275). -/
  pllSum : Int := 0
  pllAt : Nat := 0
  pllFrom : Nat := 0
  /-- Network time of the last SYNC request, CD2 time at which the EMU observation dividers last restarted, and whether they restart at the next
  refill tick (R316, R317). -/
  syncAsked : Nat := 0
  emuBase : Nat := 0
  emuTick : Bool := false
deriving DecidableEq, Repr


/-! ### Calibration -/

/-- An accepted run (R348, R350): its block, who asked (ring and tag, none for a node of the fabric), and whether its window waits for an
action (0), for its loop link (1), is open (2), or has closed with a record to be written (3); the CAL and target stamps not yet paired, and the
samples kept (R351). -/
structure CalRun where
  par : List Byte
  owner : Option (Nat × Nat)
  phase : Nat
  cals : List CalEdge := []
  tgts : List CalEdge := []
  sum : CalSum := {}
deriving DecidableEq, Repr

/-- Calibration (R329 to R359): the copies of the factory and of the user record; which of each is in use (0 none, 1 A, 2 B); writes made to each
copy; Δa per group in 2^-32 ns; groups that are stale, the elapsed time of each group's last valid measurement within 500 ps, and the whole
seconds at which they were measured; whether the records are loaded, and whether values wait for a refill tick; the run, cages lent to it, and
user records to be written. -/
structure CalSt where
  factA : CalCopy := .held factRecord
  factB : CalCopy := .held factRecord
  userA : CalCopy := .blank
  userB : CalCopy := .blank
  factUsed : Nat := 0
  userUsed : Nat := 0
  writes : Tbl Nat := []
  twin : Tbl Int := []
  stale : Tbl Bool := []
  lastOk : Tbl (Option Nat) := []
  beats : Tbl Beat := []
  loaded : Bool := false
  apply : Bool := false
  run : Option CalRun := none
  cages : List Nat := []
  queue : List CalWrite := []
deriving DecidableEq, Repr


/-! ### Lanes and trunks -/

/-- A port lane (R543, R545, R546, R564): the polarity in force, as RX_INV and TX_INV stood at its last entry to SIGNAL_WAIT, whether its
equaliser has adapted since the core package powered up, the demands of its last 64 updates, newest first, whether an eye scan runs, and since
which CD7 time it inverts bits at which INJ_RATE (R563). -/
structure LaneSt where
  polarity : Nat := 0
  adapted : Bool := false
  demands : List (List Int) := []
  eye : Bool := false
  inj : Option (Nat × Nat) := none
deriving DecidableEq, Repr

/-- A trunk in training (R553): whether its lane map has been decided and recognised, its order and inverted pairs, valid sets in a row,
sets in a row that say that the far end is trained, the pairs whose checker is locked, and whether an eye scan runs. -/
structure TrkSt where
  decided : Bool := false
  known : Bool := false
  valid : Nat := 0
  acks : Nat := 0
  locks : Nat := 0
  eye : Bool := false
  /-- Whether the forwarded clock is qualified (R552). -/
  qual : Bool := false
  /-- The message frames that wait, each with its TYPE, and the CD7 times from which the symbol stream of R554 is sent and from which the next
  frame may start (R553, R556). -/
  msgs : List (Nat × List Byte) := []
  from_ : Nat := 0
  free : Nat := 0
deriving DecidableEq, Repr


/-! ### Power -/

/-- Power, resets, removal and the standby controller (R709 to R737, R754 to R764). -/
structure PwrSt where
  /-- Whether the core package has started since the module left S4. -/
  started : Bool := false
  /-- A cold start may begin by itself: power has been connected, or S4 was entered by UNDERVOLT, INTLK or a trip (R717, R726). -/
  await : Bool := true
  /-- Whether the core package is held in reset or being restored, and whether Patrol is. -/
  coreOff : Bool := false
  /-- The target of a transition in progress, and the command that asked for it. -/
  target : Option Nat := none
  owner : Option (Nat × Nat) := none
  /-- A hand-off that has begun, and whether its step 4 is done (R732, R746). -/
  handOff : Bool := false
  ready : Bool := false
  /-- REMOVE pressed during a transition. -/
  pressWait : Bool := false
  /-- REMOVE_TIMEOUT passed during a transition with REMOVE_AUTO at 1: the hand-off waits for its end (R731). -/
  autoWait : Bool := false
  modRst : Bool := false
  /-- The kind of the reset under way (R720, R725), and the commands that a data-plane reset completes. -/
  resetting : Nat := 0
  restore : List (Nat × Nat) := []
  intlk : Bool := true
  /-- Cresor RESETs accepted and not yet due: kind, node and the CD7 time at which each acts, in order of receipt (R723). -/
  crsReset : List (Nat × Nat × Nat) := []
  /-- ALERT_N asserted (R758). -/
  alert : Bool := false
  /-- What STATUS reports (R757): the oscillator has failed, no image is valid, a thermal trip awaits restart. -/
  oscFail : Bool := false
  noImage : Bool := false
  trip : Bool := false
  /-- Every sensor has been cool for 60 s since (R764); the next start shows TRIPPED (R772); sensors read since the feeds came, as bits. -/
  cool : Bool := false
  tripShow : Bool := false
  sensed : Nat := 0
  /-- A POWER_ON held until the module may start (R755). -/
  powerOn : Bool := false
  slot : Nat := 0
  /-- Writes to items of the core package held while it is in S1 or S2, in order (R715). -/
  heldW : List (Nat × Nat) := []
  /-- The cause that the next start out of S4 records (R723, R737). -/
  cause : Nat := 0
  /-- A ramp of the core voltage under way: the voltage and the CD7 time at its beginning (R50). -/
  ramp : Option (Int × Nat) := none
  /-- The millisecond of CD7 time of the last update of the voltage loop (R718). -/
  vcoreMs : Nat := 0
  /-- The BUDGET in force at each cage, of the last insertion or setting of POWER_EN (R774). -/
  budgets : Tbl Nat := []
  /-- The core package has had no power since it last ran: its start is a power-up (R299, R317). -/
  corePower : Bool := true
  /-- Whether each feed is within 40 V to 60 V. -/
  feedA : Bool := true
  feedB : Bool := true
deriving DecidableEq, Repr


/-! ### Observation -/

/-- A counter slot (R585, R587): the last capture, and whether one is pending. -/
structure CntSlot where
  id : Nat := 0
  value : Nat := 0
  ns : Nat := 0
  sec : Nat := 0
  frac : Nat := 0
  gen : Nat := 0
  flags : Nat := 0
  seq : Nat := 0
  done : Bool := false
  wait : Bool := false
deriving DecidableEq, Repr

/-- A sweep defined (R588, R590): its destination and its IDs. -/
structure Sweep where
  dest : Nat
  ids : List Nat
deriving DecidableEq, Repr

/-- A sweep queued or running (R591): its number, who started it (ring and tag, none for an action), and where it stands. -/
structure SweepRun where
  sweep : Nat
  owner : Option (Nat × Nat)
  pos : Nat := 0
  lost : Nat := 0
  /-- The CD7 time before which the next ID is not read, and the last sample time with its step era. -/
  next : Nat := 0
  last : Nat := 0
  era : Nat := 0
deriving DecidableEq, Repr

/-- Counter slots, sweeps, and the export: the resets that have cleared each block (R583), sweeps in the order of their starts with the
running one first, data records sent, and what was sent in the present second of network time (R599, R605). -/
structure ObsSt where
  slots : Tbl CntSlot := []
  gens : Tbl Nat := []
  sweeps : Tbl (Option Sweep) := []
  runs : List SweepRun := []
  ixSeq : Nat := 0
  ixSec : Nat := 0
  ixN : Nat := 0
  pcSec : Nat := 0
  pcN : Nat := 0
deriving DecidableEq, Repr


/-! ### The store, images and Patrol -/

/-- The newest record of a Keep item (R688). -/
structure KeepRec where
  seq : Nat
  secs : Nat
  value : Nat
deriving DecidableEq, Repr

/-- A commit under way or waiting for an earlier one of its item (R690): the item, its new value, and the command that waits for it. -/
structure Commit where
  item : Nat
  value : Nat
  owner : Option (Nat × Nat)
deriving DecidableEq, Repr

/-- A valid firmware image (R695). -/
structure Image where
  build : Nat
  level : Nat
  digest : BitVec 384
deriving DecidableEq, Repr

/-- The store, the flash and the Patrol cores (R683 to R706): records of Keep items and commits in order; the image of each bank, none where
it is not valid; the boot pointer's SEQ; bytes staged; the chunk that waits for an erase; an ACTIVATE that waits for commits; failures
of the running bank in a row; whether a start is under way and from which event; servo programs still to be loaded; the checkpoint
written last; and when the spare was last tested. -/
structure TrustSt where
  keep : Tbl (Option KeepRec) := []
  commits : List Commit := []
  /-- The image of each bank since it was last written, none inside for an erased or invalid one; none outside: as from the factory. -/
  flash0 : Option (Option Image) := none
  flash1 : Option (Option Image) := none
  ptrSeq : Nat := 1
  staged : List Byte := []
  erase : Option (Nat × Nat × List Byte × Bool) := none
  activate : Option (Nat × Nat) := none
  fails : Nat := 0
  booting : Bool := false
  failing : Bool := false
  /-- A new image's servo program that waits for its Piste's next update, and the build whose program each Piste runs (R36, R40). -/
  servoA : Bool := false
  servoB : Bool := false
  progA : Nat := 0
  progB : Nat := 0
  ckptRegion : Nat := 0
  ckpts : Nat := 0
  ckptAt : Nat := 0
  /-- Network time at which the last test of the spare ended (R699). -/
  testAt : Option Nat := none
  /-- Whether the core package waits for a start from its beginning, and whether the start of Eodin under way is one from the boot ROM. -/
  cold : Bool := true
  rom : Bool := false
deriving DecidableEq, Repr

/-! ### Cresor -/

/-- A key slot that holds a key (R660, R670). -/
structure KeySlot where
  key : List Byte
  id : Nat
  perm : Nat
  flags : Nat
deriving DecidableEq, Repr

/-- What is remembered of a node that sends (R662): the highest BOOT, the highest SEQ under it, and the 64 below as a bitmap. -/
structure CrsWin where
  boot : Nat
  top : Nat
  bits : Nat
deriving DecidableEq, Repr

/-- A link (R663): the serials heard on it since it came up. -/
structure CrsLink where
  heard : List Nat := []
deriving DecidableEq, Repr

/-- One adjacency entry of an LSR (R666): neighbour, cost, link index and SLAVE bits. -/
structure CrsAdj where
  node : Nat
  cost : Nat
  link : Nat
  slave : Nat
deriving DecidableEq, Repr

/-- An LSR held (R666, R667): its entries by fragment. -/
structure Lsr where
  node : Nat
  serial : Nat
  boot : Nat
  seq : Nat
  stepsA : Nat
  stepsB : Nat
  entries : Nat
  frag0 : List CrsAdj
  frag1 : List CrsAdj
  at_ : Nat
deriving DecidableEq, Repr

/-- A route (R668): the node, its cost, and the first hop with its link. -/
structure Route where
  node : Nat
  cost : Nat
  hop : Nat
  link : Nat
deriving DecidableEq, Repr

/-- An outstanding REQUEST (R673 to R675): its number, the command that waits, the target, where answers go; the fragments of a response so
far, or the nodes still to answer with the answers counted. -/
structure CrsReq where
  corr : Nat
  owner : Nat × Nat
  dest : Nat
  addr : Nat
  len : Nat
  frags : Tbl (List Byte) := []
  count : Nat := 0
  silent : List Nat := []
  written : Nat := 0
  good : Nat := 0
  bad : Nat := 0
deriving DecidableEq, Repr

/-- A REQUEST under execution here whose answer is still to come (R671, R672): who asked, its number and the command. -/
structure CrsAsk where
  src : Nat
  corr : Nat
  cmd : Cmd
deriving DecidableEq, Repr

/-- Cresor (R656 to R682): keys, own numbers, windows, links, the database and routes, requests, what waits to be consumed, whether the
ID in force is withdrawn, and messages forwarded in the present second. -/
structure CrsSt where
  keys : Tbl (Option KeySlot) := []
  id : Nat := 0
  lost : Bool := false
  /-- CRS_CTRL as it has been in force since the last HELLO (R678). -/
  ctrl : Nat := 0x400000
  seq : Nat := 0
  lsrSeq : Nat := 0
  corr : Nat := 0
  wins : Tbl (Option CrsWin) := []
  links : Tbl CrsLink := []
  db : List Lsr := []
  routes : List Route := []
  reqs : List CrsReq := []
  /-- Messages accepted for this node and not yet taken: the link they came on (0x100 and 0x101 for trunks), the PERM of their key, and
  their bytes. -/
  inbox : List (Nat × Nat × List Byte) := []
  fwdSec : Nat := 0
  fwdN : Nat := 0
  /-- The entries of the LSR sent last (R666). -/
  lsr : List CrsAdj := []
  /-- REQUESTs that go on here, and the answers to be sent: source, number, status, RESULT, VALUE and the time carried. -/
  asks : List CrsAsk := []
  answers : List (Nat × Nat × Nat × Nat × Nat × Option Nat) := []
deriving DecidableEq, Repr

/-- The module: everything but the queue of commands. -/
structure Dev where
  /-- The parameter space, and the status words of rings and channels, by parameter ID. -/
  params : Tbl Wide := []
  /-- The STICKY bits whose condition has occurred in the present cycle: a write of that cycle does not clear them (R17). -/
  cond : CondSt := {}
  /-- Host memory as the module's writes have left it, by address. -/
  hostMem : Tbl Byte := []
  msix : Tbl MsixEntry := []
  out : List Out := []
  reply : Reply := {}
  /-- How many free values have been taken (a field of the model's own). -/
  freeCtr : Nat := 0
  pulses : List Pulse := []
  /-- Counters of time now running: item and the CD7 time up to which it is counted. -/
  accums : Tbl (Option Nat) := []
  host : HostSt := {}
  dma : Tbl DmaCh := []
  tk : TkSt := {}
  tl : TlSt := {}
  cls : ClsSt := {}
  net : NetSt := {}
  att : AttSt := {}
  pte : PteSt := {}
  emu : EmuSt := {}
  refc : RefcSt := {}
  cd : CdSt := {}
  cal : CalSt := {}
  lanes : Tbl LaneSt := []
  trk0 : TrkSt := {}
  trk1 : TrkSt := {}
  optics : Tbl (Option Optic) := []
  pwr : PwrSt := {}
  obs : ObsSt := {}
  trust : TrustSt := {}
  crs : CrsSt := {}
deriving DecidableEq, Repr

end Sys2Proof.Machine
end

