-- ==== Sys2Proof/Machine/State.lean ====
section
/-! DEFINITION. The state of the block: the module and the commands that wait, with the reasons for which a step could stop. -/

namespace Sys2Proof.Machine

/-- Why a step stops with a fault. No command of this hardware does: the manual gives every command an effect, and a
write that is refused completes with a status code (R637). The type has one constructor so that it is a closed
inductive; nothing raises it (safe). -/
inductive Fault where
  /-- Raised by no command (safe: nothing stops). -/
  | none
deriving DecidableEq, Repr

/-- Why a command has no meaning here. -/
inductive Refusal where
  /-- The command has no meaning in the model yet, rejected by its mnemonic in `exec` (safe: nothing is claimed of it). -/
  | notModelled (mnemonic : String)
deriving DecidableEq, Repr


/-- The state: the module, and the commands that wait, the first to come in front. -/
structure State where
  dev : Dev
  pending : List Instr
deriving DecidableEq, Repr

/-- The module as the item tables' reset values leave it, before power is connected and a cold start begins (R708, R728); no command waits. What
the manual gives no reset value is named in the assumption log. -/
def State.reset : State := { dev := {}, pending := [] }

end Sys2Proof.Machine
end

