-- ==== Sys2Proof/Machine/Ops.lean ====
section
/-! DEFINITION. The operations every command is written with: reading and writing parameters, status triplets and
interrupts, counters, host memory, and network time as a number. -/

namespace Sys2Proof.Machine

/-! ### Parameters -/

/-- The status word of mailbox ring `r` (MBX_STATUS triplets, R625) and of DMA channel `ch` (DMA_STATUS triplets, R643),
held beside the parameters under class 0, which the host cannot name (assumption 4). -/
abbrev MBX_ST (r : Nat) : Nat := pid 0 r 0
abbrev DMA_ST (ch : Nat) : Nat := pid 0 ch 1
/-- The microseconds for which Eodin has run, behind GLB_HEARTBEAT (R619). -/
abbrev HB_US : Nat := pid 0 0 2
abbrev MBX_ST_CPL : Nat := 0
abbrev MBX_ST_CFG : Nat := 3
abbrev DMA_ST_COMP : Nat := 0
abbrev DMA_ST_ERR : Nat := 3

/-- What an item reads as until it is written: its table's reset value, and for the identity the module's own (R619). -/
def itemDefault (p : Nat) : Wide :=
  if p = ID_VARIANT then BitVec.ofNat 96 ((if Config.variantTH then 2 else 1) * 256 + 0x42)
  else if p = ID_VENDOR then BitVec.ofNat 96 Config.vendor.toNat
  else if p = ID_SERIAL then BitVec.ofNat 96 Config.serial.toNat
  else if p = ID_MAC then BitVec.ofNat 96 Config.mac.toNat
  else if p = ID_CLOCK then BitVec.ofNat 96 Config.clockIdentity.toNat
  else if p = ID_ENTERPRISE then BitVec.ofNat 96 Config.enterprise.toNat
  else itemReset p

/-- The value an item holds. -/
def Dev.get (d : Dev) (p : Nat) : Wide := Tbl.get d.params (itemDefault p) p

/-- The module with item `p` holding `v`. -/
def Dev.put (d : Dev) (p : Nat) (v : Wide) : Dev := { d with params := Tbl.set d.params (itemDefault p) p v }

/-- An item's value as a number. -/
def Dev.num (d : Dev) (p : Nat) : Nat := (d.get p).toNat

/-- An item's word as a signed 48-bit number. -/
def Dev.int (d : Dev) (p : Nat) : Int := signedOf 48 (d.num p)

/-- A field of an item. -/
def Dev.fld (d : Dev) (p : Nat) (f : Fld) : Nat := f.of (d.get p)

/-- One bit of an item. -/
def Dev.bit (d : Dev) (p b : Nat) : Bool := (d.get p).getLsbD b

/-- The module with a field of an item replaced. -/
def Dev.setFld (d : Dev) (p : Nat) (f : Fld) (n : Nat) : Dev := d.put p (f.into (d.get p) n)

/-- The module with one bit of an item replaced. -/
def Dev.setBit (d : Dev) (p b : Nat) (v : Bool) : Dev := d.setFld p ⟨b, 1⟩ v.toNat

/-- The module with an item's word holding a number. -/
def Dev.putNum (d : Dev) (p n : Nat) : Dev := d.put p (BitVec.ofNat 96 (n % 2 ^ 48))

/-- The module with an item's word holding a signed number, held to the 48-bit limits. -/
def Dev.putInt (d : Dev) (p : Nat) (x : Int) : Dev := d.putNum p (unsignedOf 48 (clampS 48 x))

/-- A counter advanced by `n`, saturating at all ones (R8). -/
def Dev.bump (d : Dev) (p n : Nat) : Dev :=
  let v := d.num p + n
  d.put p (if v < 2 ^ 96 then BitVec.ofNat 96 v else BitVec.allOnes 96)

/-- The next free value (assumption 1): an open constant applied to the state's counter. -/
def Dev.free (d : Dev) : Nat := Config.freeNat d.freeCtr

/-- The module once a free value has been taken. -/
def Dev.took (d : Dev) : Dev := { d with freeCtr := d.freeCtr + 1 }

/-! ### Interrupts and status triplets -/

/-- The vector that the status of item `p` is raised on: a function and a vector number (R53, R621). -/
def vectorOf (p : Nat) : Nat × Nat :=
  let c := p / 0x1000000
  let i := p / 0x1000 % 0x1000
  let n := p % 0x1000
  if c = 0 then (if n = 0 then (0, i) else (if i < 48 then (1, i) else (2, i)))
  else if c = 5 ∧ (i = 1 ∨ i = 2) ∧ n = 0x11 then (0, 67)
  else if c = 0x1A then (0, if n = 0x11 then 67 else 66)
  else if c = 7 then (0, 65)
  else if c = 2 ∨ c = 3 ∨ c = 4 ∨ c = 5 ∨ c = 6 ∨ c = 9 ∨ c = 0x14 then (0, 64)
  else if c = 8 ∧ (i = 1 ∨ i = 2) then (0, 64)
  else (0, 67)

/-- The key of an MSI-X table entry. -/
abbrev msixKey (fn vec : Nat) : Nat := fn * 0x1000 + vec

/-- A vector signalled: a message leaves, or its Pending bit is set while the entry is masked (R622). -/
def Dev.signal (d : Dev) (fn vec : Nat) : Dev :=
  let e := Tbl.get d.msix {} (msixKey fn vec)
  if e.masked then { d with msix := Tbl.set d.msix {} (msixKey fn vec) { e with pending := true } }
  else { d with out := .msix fn vec :: d.out }

/-- The vector of item `p` signalled. -/
def Dev.raise (d : Dev) (p : Nat) : Dev := d.signal (vectorOf p).1 (vectorOf p).2

/-- A condition of bit `b` of item `p` occurring in the present cycle, which a write of that cycle does not clear (R17). -/
def Dev.noteCond (d : Dev) (p b : Nat) : Dev :=
  let l := if d.cond.at_ = d.tk.osc then d.cond.bits else []
  { d with cond := { at_ := d.tk.osc, bits := if l.contains (p, b) then l else (p, b) :: l } }

/-- A word written to item `p` without the ones for bits whose condition has occurred in this cycle (R17). -/
def Dev.lessCond (d : Dev) (p v : Nat) : Nat :=
  if d.cond.at_ = d.tk.osc then d.cond.bits.foldl (fun x k => if k.1 = p then withBits x k.2 1 0 else x) v else v

/-- The STICKY bit of the triplet at bit `b` of item `p` set; a change from 0 to 1 with ENABLE at 1 signals the vector
(R16, R17, R622). -/
def Dev.stick (d0 : Dev) (p b : Nat) : Dev :=
  let d := d0.noteCond p (b + 1)
  if d.bit p (b + 1) then d
  else
    let d1 := d.setBit p (b + 1) true
    if d.bit p (b + 2) then d1.raise p else d1

/-- The LIVE bit of a triplet set to a value. -/
def Dev.live (d : Dev) (p b : Nat) (v : Bool) : Dev := d.setBit p b v

/-- The LIVE bit of a triplet set to a value, STICKY being set when LIVE goes from 0 to 1. -/
def Dev.liveEdge (d : Dev) (p b : Nat) (v : Bool) : Dev :=
  if v && !d.bit p b then (d.live p b true).stick p b else d.live p b v

/-- One nanosecond in the unit of time, 2^-48 ns (R55). -/
abbrev ns1 : Nat := 0x1000000000000

/-- One second in the unit of time. -/
abbrev sec1 : Nat := 1000000000 * ns1

/-- A condition that stands for 1 s of network time: LIVE set until then, and STICKY set. -/
def Dev.pulse (d : Dev) (p b : Nat) : Dev :=
  let d1 := (d.live p b true).stick p b
  { d1 with pulses := ⟨p, b, d.tk.time + sec1⟩ :: d1.pulses.filter (fun q => !(q.item == p && q.bit == b)) }

/-- LIVE bits whose second of network time has passed return to 0. -/
def Dev.expire (d : Dev) : Dev :=
  let past := d.pulses.filter (fun q => decide (q.until_ ≤ d.tk.time))
  let d1 := past.foldl (fun e q => e.live q.item q.bit false) d
  { d1 with pulses := d.pulses.filter (fun q => decide (d.tk.time < q.until_)) }

/-- ALERT_N asserted (R758): an event while it is asserted already needs no other. -/
def Dev.alertN (d : Dev) : Dev :=
  if d.pwr.alert then d else { d with pwr := { d.pwr with alert := true }, out := .alert true :: d.out }

/-! ### Access codes -/

/-- A word after a write of `v` under an item's access codes: RW bits take the written bits, W1C bits clear where 1 is
written, all others keep what they hold (R13). -/
def codeWrite (i : ItemDef) (old : Wide) (v : Nat) : Wide :=
  let rw := BitVec.ofNat 96 i.rw
  let w1c := BitVec.ofNat 96 i.w1c
  let w := BitVec.ofNat 96 v
  (old &&& ~~~rw &&& ~~~(w1c &&& w)) ||| (w &&& rw)

/-- Whether a write raised an ENABLE bit whose STICKY bit is set (R18): ENABLE bits stand above W1C bits. -/
def enableRaised (i : ItemDef) (old new : Wide) : Bool :=
  let en := BitVec.ofNat 96 i.rw &&& (BitVec.ofNat 96 i.w1c <<< 1)
  (new &&& ~~~old &&& en &&& (new <<< 1)) != 0#96

/-- Item `p` written with the word `v` under its access codes, with the interrupt of R18; a STICKY bit whose condition occurs in this cycle stays
set (R17). -/
def Dev.writeWord (d : Dev) (p v : Nat) : Dev :=
  match itemDef p with
  | none => d
  | some i =>
    let old := d.get p
    let new := codeWrite i old (d.lessCond p v)
    let d1 := d.put p new
    if enableRaised i old new then d1.raise p else d1

/-! ### Status codes (R637) -/

abbrev stOK : Nat := 0
abbrev stBUSY : Nat := 1
abbrev stBAD_PARAM : Nat := 2
abbrev stNOT_PERMITTED : Nat := 3
abbrev stSEALED : Nat := 4
abbrev stTOO_LATE : Nat := 5
abbrev stNO_SPACE : Nat := 6
abbrev stWEAR_LIMIT : Nat := 7
abbrev stABORTED_BY_RESET : Nat := 8
abbrev stDEGRADED : Nat := 9

/-- What a command answers (R631): status, RESULT, VALUE and the time carried. -/
structure Ans where
  status : Nat := 0
  result : Nat := 0
  value : Nat := 0
  time : Option Nat := none
deriving DecidableEq, Repr

/-- The module after answering with a status code alone. -/
def Dev.answer (d : Dev) (status : Nat) : Dev := { d with reply := { status := status } }

/-! ### Host memory -/

/-- One byte of host memory as the module's writes have left it (assumption 3). -/
def Dev.hostByte (d : Dev) (a : Nat) : Byte := Tbl.get d.hostMem 0 a

/-- Bytes written to host memory from address `a` upward. -/
def Dev.hostWrite (d : Dev) (a : Nat) (l : List Byte) : Dev :=
  match l with
  | [] => d
  | b :: r => Dev.hostWrite { d with hostMem := Tbl.set d.hostMem 0 a b } (a + 1) r

/-! ### Time as a number -/

/-- Seconds, nanoseconds and fraction of a time (R20): the TW96 fraction is the upper 16 bits of the accumulator. -/
def twSec (t : Nat) : Nat := t / sec1
def twNs (t : Nat) : Nat := t / ns1 % 1000000000
def twFrac (t : Nat) : Nat := t % ns1 / 0x100000000

/-- The time that TW96 fields name. -/
def twOf (sec ns frac : Nat) : Nat := (sec * 1000000000 + ns) * ns1 + frac * 0x100000000

/-- A time truncated to TW96. -/
def twTrunc (t : Nat) : Nat := t / 0x100000000 * 0x100000000

/-- The 12 bytes of a TW96 value in memory (R22). -/
def twBytes (t : Nat) : List Byte := leBytes 6 (twSec t) ++ leBytes 4 (twNs t) ++ leBytes 2 (twFrac t)

/-- The two words of a TW96 parameter: seconds, and nanoseconds[47:16] with fraction[15:0] (R776). -/
def twWord0 (t : Nat) : Nat := twSec t
def twWord1 (t : Nat) : Nat := twNs t * 0x10000 + twFrac t

/-- Whether a TW96 value given by its nanoseconds breaks R23. -/
def twBad (ns : Nat) : Bool := decide (1000000000 ≤ ns)

/-- The time that 12 bytes spell, or none where they break R23. -/
def twOfBytes (l : List Byte) : Option Nat :=
  let ns := leNat (slice l 6 4)
  if twBad ns then none else some (twOf (leNat (slice l 0 6)) ns (leNat (slice l 10 2)))

/-- Whether time has been set since power-up (R59). -/
def Dev.setLive (d : Dev) : Bool := d.bit TK_STATUS TK_STATUS_SET

/-- An instant as an answer names it: none where SET_LIVE is 0 (R636). -/
def Dev.when (d : Dev) (t : Nat) : Option Nat := if d.setLive then some t else none

/-- Picoseconds in the unit of time, lower bits truncated (R55, R65). -/
def psToU (ps : Int) : Int := (ps * (ns1 : Int)).fdiv 1000

/-- A phase in picoseconds, rounded to the nearest with ties to even (R65). -/
def uToPs (u : Int) : Int := roundDiv (u * 1000) (ns1 : Int)

/-- Total nanoseconds of network time, N (R78). -/
def nsTotal (t : Nat) : Nat := t / ns1

/-- Whole microseconds of elapsed CD7 time. -/
def Dev.us (d : Dev) : Nat := d.tk.osc / (1000 * ns1)

/-! ### Counters of elapsed time -/

/-- A counter of microseconds starts to run at the present CD7 time; one that runs goes on. -/
def Dev.startTimer (d : Dev) (p : Nat) : Dev :=
  match Tbl.get d.accums none p with
  | some _ => d
  | none => { d with accums := Tbl.set d.accums none p (some d.us) }

/-- A counter of microseconds that stopped at microsecond `us` of CD7 time, holding what has passed. -/
def Dev.stopTimerAt (d : Dev) (p us : Nat) : Dev :=
  match Tbl.get d.accums none p with
  | some t => ({ d with accums := Tbl.set d.accums none p none }).bump p (us - t)
  | none => d

/-- A counter of microseconds stops now. -/
def Dev.stopTimer (d : Dev) (p : Nat) : Dev := d.stopTimerAt p d.us

/-- What a read of an item returns: WO bits read as 0 (R13), and a running counter includes the time passed. -/
def Dev.readItem (d : Dev) (p : Nat) : Wide :=
  match Tbl.get d.accums none p with
  | some t => BitVec.ofNat 96 (min (d.num p + (d.us - t)) (2 ^ 96 - 1))
  | none =>
    match itemDef p with
    | some i => d.get p &&& ~~~(BitVec.ofNat 96 i.wo)
    | none => d.get p

/-! ### Blocks (R583, R584, R707) -/

abbrev bkSTANDBY : Nat := 0
abbrev bkTIMING : Nat := 1
abbrev bkCORE : Nat := 2
abbrev bkPATROL : Nat := 3

/-- The block that holds a parameter (R707). -/
def blockOf (p : Nat) : Nat :=
  let c := p / 0x1000000
  let i := p / 0x1000 % 0x1000
  if c = 0x1A ∨ c = 0x1B then bkSTANDBY
  else if c = 2 then (if i = 0 then bkTIMING else bkCORE)
  else if c = 5 ∨ c = 6 ∨ c = 7 ∨ c = 9 ∨ c = 0x14 then bkTIMING
  else if c = 8 then (if i = 0 then bkCORE else if i = 1 ∨ i = 2 ∨ i = 5 ∨ i = 7 then bkTIMING else bkPATROL)
  else if c = 4 ∨ (0x0A ≤ c ∧ c ≤ 0x13) ∨ c = 0x15 ∨ c = 0x16 then bkCORE
  else bkPATROL

def Dev.pwrState (d : Dev) : Nat := d.fld PWR_STATUS PWR_STATUS_STATE

/-- Whether a block runs: the core package not in S1, in S2 or in reset (R715), the others while they are powered (R709); none but the standby
controller once the oscillator has failed (R323). -/
def Dev.blockUp (d : Dev) (b : Nat) : Bool :=
  if b = bkCORE then d.pwrState == 0 && !d.pwr.coreOff && !d.pwr.oscFail
  else if b = bkTIMING then decide (d.pwrState ≤ 3) && !d.pwr.oscFail
  else if b = bkPATROL then decide (d.pwrState ≤ 2) && !d.pwr.oscFail
  else true

end Sys2Proof.Machine
end

