-- ==== Sys2Proof/Machine/Time.lean ====
section
/-! DEFINITION. The Timekeeper: counting, slewing and stepping, replicas and the host's window on network time
(R55 to R80). -/

namespace Sys2Proof.Machine

/-- 1,000,000,000 ppb in the R25 format: the unit of frequency scaling. -/
abbrev ppbOne : Int := 65536000000000

/-- The applied frequency offset without the slew term, in 2^-16 ppb (R57). -/
def Dev.rate (d : Dev) : Int := d.tk.freq

/-- The nominal increment of the cycle at a position of the five-cycle pattern, in 2^-48 ns (R56). -/
def incOf (phase : Nat) : Nat := if phase % 5 = 4 then 0xCCCCCCCCCCCC else 0xCCCCCCCCCCCD

/-- An interval scaled by a clock offset `p` and by the applied offset, the frequency `rate` with the slew that removes `slew` in 1,024 ns;
the lower bits of the one product are truncated (R55, R57, R65, R320). -/
def scaled (x p rate slew : Int) : Int :=
  (x * (ppbOne + p) * ((ppbOne + rate) * (1024 * (ns1 : Int)) + slew * ppbOne)).fdiv (ppbOne * ppbOne * (1024 * (ns1 : Int)))

/-- The PLL-T offset in force, in 2^-16 ppb (R300). -/
def Dev.pll (d : Dev) : Int := d.int CD_T_APPLIED

/-- Whether CD2 is on bypass. -/
def Dev.timeBypass (d : Dev) : Bool := d.bit (CD_STATUS 2) CD_STATUS_BYPASS

/-- The network time of the next refill tick of the master (R78). -/
def Dev.tickEnd (d : Dev) : Nat := (d.tk.lastTick + 1) * 1024 * ns1

/-- The slew that runs now: it ends with its tick interval (R65). -/
def Dev.slewNow (d : Dev) : Int := if d.tk.time < d.tickEnd then d.tk.slew else 0

/-- The phase that the running slew removes over network time from `a` to `b`. -/
def Dev.slewed (d : Dev) (a b : Nat) : Int := (d.tk.slew * ((min b d.tickEnd - a : Nat) : Int)).fdiv (1024 * (ns1 : Int))

/-- A replica off the bus after an interval `c` of its local clock in which the master, counting ideally, moves on by `m` (R41, R74). -/
def Replica.drift (c : Int) (m : Int) (r : Replica) : Replica :=
  if r.bus then r else { r with off := r.off + scaled c 0 r.rate r.slew - m }

/-- The replicas over an interval `c` of their local clocks: those on the bus count with the last tick word, which lags a change of the
master's own frequency until the next one (R74, R315); those off it with the one they last held (R41). -/
def Dev.drift (d : Dev) (c : Int) : Dev :=
  let m := scaled c 0 d.tk.freq d.slewNow
  { d with tk := { d.tk with
      lag := if d.tk.word = d.tk.freq then d.tk.lag else d.tk.lag + scaled c 0 d.tk.word d.slewNow - m,
      reps := d.tk.reps.map (fun p => (p.1, p.2.drift c m)) } }

/-- The module with network time at `t`: CD2 time moves on by the same interval less the applied offset and the slew, and CD7 time by
that less the PLL-T offset. LIVE bits that stand for a second expire. -/
def Dev.advanceTo (d : Dev) (t : Nat) : Dev :=
  if t ≤ d.tk.time then d
  else
    let dt : Int := (t - d.tk.time : Nat)
    let real := (((dt - d.slewed d.tk.time t) * ppbOne).fdiv (ppbOne + d.rate)).toNat
    let osc := (((real : Int) * ppbOne).fdiv (ppbOne + d.pll)).toNat
    let d1 := d.drift real
    ({ d1 with tk := { d1.tk with
        time := t, cd2 := d.tk.cd2 + real, cyc := d.tk.cyc + (if d.timeBypass then osc else real), osc := d.tk.osc + osc } }).expire

/-- One cycle of the clock that counts network time (assumption 2): of CD2, in which the master and its replicas count and CD2 time
moves on by 0.8 ns (R55 to R57), or of the oscillator while CD2 is on bypass, which adds 40 ns at the frozen offset (R320). -/
def Dev.cycle (d : Dev) : Dev :=
  if d.timeBypass then
    let c := (scaled (40 * (ns1 : Int)) d.pll 0 0).toNat
    let d1 := d.drift c
    ({ d1 with tk := { d1.tk with
        time := d.tk.time + (scaled (40 * (ns1 : Int)) d.pll d.rate d.slewNow).toNat, cd2 := d.tk.cd2 + c, cyc := d.tk.cyc + 40 * ns1,
        osc := d.tk.osc + 40 * ns1 } }).expire
  else
    let c := incOf d.tk.phase
    let d1 := d.drift c
    ({ d1 with tk := { d1.tk with
        time := d.tk.time + (scaled c 0 d.rate d.slewNow).toNat, phase := (d.tk.phase + 1) % 5, cd2 := d.tk.cd2 + c, cyc := d.tk.cyc + c,
        osc := d.tk.osc + (((c : Int) * ppbOne).fdiv (ppbOne + d.pll)).toNat } }).expire

/-- Elapsed CD7 time moving on by `dt`, network time going with it at the applied offsets. -/
def Dev.passOsc (d : Dev) (dt : Nat) : Dev :=
  let c := ((dt : Int) * (ppbOne + d.pll)).fdiv ppbOne
  let t := ((d.tk.time : Int) + (c * (ppbOne + d.rate)).fdiv ppbOne).toNat
  let d1 := d.drift c
  ({ d1 with tk := { d1.tk with
      time := ((t : Int) + d.slewed d.tk.time t).toNat, cd2 := d.tk.cd2 + c.toNat,
      cyc := d.tk.cyc + (if d.timeBypass then dt else c.toNat), osc := d.tk.osc + dt } }).expire

/-! ### Events at the multiples of a period of network time (assumption 8) -/

/-- The multiple at which such an event comes next: the one after its last, or after a step and at first the one not yet passed. -/
def Dev.beatAt (d : Dev) (per : Nat) (b : Beat) : Nat :=
  match b.at_ with
  | some t => if b.era = d.tk.era then t + per else (d.tk.time + per - 1) / per * per
  | none => (d.tk.time + per - 1) / per * per

/-- What is kept of an event that comes at `t`. -/
def Dev.beatOf (d : Dev) (t : Nat) : Beat := ⟨some t, d.tk.era⟩

/-! ### Timers of the model: a deadline on CD7 under a code (assumption 8) -/

/-- The code of a timer: what it times and the number of its unit. -/
abbrev tmr (kind idx : Nat) : Nat := kind * 0x10000 + idx

/-- One millisecond and one microsecond in the unit of time. -/
abbrev ms1 : Nat := 1000000 * ns1
abbrev us1 : Nat := 1000 * ns1

/-- A timer set to run for `dur`. -/
def Dev.startT (d : Dev) (key dur : Nat) : Dev :=
  { d with net := { d.net with timers := Tbl.set d.net.timers none key (some (d.tk.osc + dur)) } }

/-- A timer stopped. -/
def Dev.stopT (d : Dev) (key : Nat) : Dev := { d with net := { d.net with timers := Tbl.set d.net.timers none key none } }

/-- Whether a timer runs. -/
def Dev.runsT (d : Dev) (key : Nat) : Bool := (Tbl.get d.net.timers none key).isSome

/-- A running timer reaching its deadline: elapsed time moves on to it, where it lies ahead, and the timer stops. -/
def Dev.dueT (d : Dev) (key : Nat) : Dev :=
  match Tbl.get d.net.timers none key with
  | some t => (d.passOsc (t - d.tk.osc)).stopT key
  | none => d

/-- The sum of the steps decided and not yet applied (R67). -/
def Dev.pendingSteps (d : Dev) : Int := d.tk.steps.foldl (fun a s => a + s.size) 0

/-! ### Adjustments and steps -/

/-- A phase adjustment, in 2^-48 ns, reaching the Timing die: it waits for the next refill tick (R64). -/
def Dev.addAdj (d : Dev) (x : Int) : Dev := { d with tk := { d.tk with adj := d.tk.adj ++ [x] } }

/-- Whether a sum is stepped rather than slewed (R64, R59): compared with the threshold at 2^-48 ns (R65). -/
def Dev.steps? (d : Dev) (sum : Int) : Bool :=
  !d.setLive ||
    (d.fld TK_CTRL TK_CTRL_STEP_EN == 1 && decide ((d.num TK_STEP_THRESHOLD : Int) * (ns1 : Int) < sum.natAbs * 1000))

/-- One pending adjustment decided at a tick (R64): added to TK_SLEW_REMAIN, and the whole sum stepped or slewed; a slew that begins sets
SLEW_STICKY (R63). -/
def Dev.decideAdj (d : Dev) (x : Int) : Dev :=
  let sum := d.tk.remain + x
  if d.steps? sum then
    { d with tk := { d.tk with remain := 0, steps := d.tk.steps ++ [⟨sum, d.tk.time⟩] } }
  else
    let d1 := { d with tk := { d.tk with remain := sum } }
    if d.tk.remain = 0 ∧ sum ≠ 0 then d1.stick TK_STATUS TK_STATUS_SLEW else d1

/-- The phase one tick interval removes at the full slew rate, in 2^-48 ns (R65). -/
def Dev.slewQuantum (d : Dev) : Int := (d.int TK_SLEW_RATE * 1024 * 0x100000000).fdiv 1000000000

/-- The slew term of the tick interval that follows (R65), as the phase it removes. -/
def Dev.slewTerm (d : Dev) : Int :=
  let q := d.slewQuantum
  if q ≤ (d.tk.remain.natAbs : Int) then (if d.tk.remain < 0 then -q else q) else d.tk.remain

/-- The replicas after a step of `x`: one that does not hold the time bus misses it (R66, R77). -/
def missStep (x : Int) (reps : Tbl Replica) : Tbl Replica :=
  (List.range 9).foldl
    (fun t k => let r := Tbl.get t {} (k + 1)
                if r.bus then t else Tbl.set t {} (k + 1) { r with off := r.off - x }) reps

/-- A step taking effect (R66, R59): time moves by its size, never below 0, it is counted and recorded, and the first
one since power-up sets time. The time on CD7 does not move, and steps still waiting keep their wait. -/
def Dev.applyStep (d : Dev) (s : PendStep) : Dev :=
  let size : Int := if (d.tk.time : Int) + s.size < 0 then -(d.tk.time : Int) else s.size
  let t := ((d.tk.time : Int) + size).toNat
  let d1 := { d with tk := { d.tk with
      time := t, reps := missStep size d.tk.reps, stepSum := d.tk.stepSum + size, era := d.tk.era + 1,
      steps := d.tk.steps.map (fun (p : PendStep) => { p with at_ := p.at_ + size }) } }
  let d2 := ((d1.bump TK_STEP_COUNT 1).putInt TK_LAST_STEP (uToPs size)).expire.pulse TK_STATUS TK_STATUS_STEP
  d2.liveEdge TK_STATUS TK_STATUS_SET true

/-- The steps due at a tick: those decided at least 2,048 ns before it (R66). -/
def Dev.dueSteps (d : Dev) : List PendStep :=
  d.tk.steps.filter (fun s => decide (s.at_ + 2048 * (ns1 : Int) ≤ (d.tk.time : Int)))

/-- The replicas that waited for a tick word loaded from it (R77). -/
def reloadReps (reps : Tbl Replica) : Tbl Replica :=
  (List.range 9).foldl
    (fun t k => let r := Tbl.get t {} (k + 1)
                if r.reload then Tbl.set t {} (k + 1) { r with off := 0, corr := 0, bus := true, reload := false, rate := 0, slew := 0 }
                else t) reps

/-- The Timekeeper's part of a refill tick (R57, R64 to R66, R74): time reaches the tick, the phase the last interval
slewed leaves TK_SLEW_REMAIN, pending adjustments are decided, due steps take effect, and the applied offset and slew
term of the next interval are set, which the tick word carries to the replicas. -/
def Dev.tkTick (d : Dev) : Dev :=
  let d1 := d.advanceTo d.tickEnd
  let d2 := { d1 with tk := { d1.tk with remain := d1.tk.remain - (d.slewed d.tk.tickAt d1.tk.time - d1.tk.paid), slew := 0, paid := 0, adj := [] } }
  let d3 := d.tk.adj.foldl Dev.decideAdj d2
  let due := d3.dueSteps
  let d4 := { d3 with tk := { d3.tk with steps := d3.tk.steps.filter (fun s => decide ((d3.tk.time : Int) < s.at_ + 2048 * (ns1 : Int))) } }
  let d5 := due.foldl Dev.applyStep d4
  { d5 with tk := { d5.tk with
      slew := d5.slewTerm, freq := d5.int TK_FREQ_ADJ, word := d5.int TK_FREQ_ADJ, lag := 0, cd1 := d5.pll, reps := reloadReps d5.tk.reps,
      tickAt := d5.tk.time,
      lastTick := if due.isEmpty then d.tk.lastTick + 1 else nsTotal d5.tk.time / 1024 } }

/-! ### Writes -/

/-- The refusal of a host write of TK_FREQ_ADJ or TK_PHASE_ADJ while the servo steers (R62). -/
def Dev.steered (d : Dev) : Bool := d.fld TK_CTRL TK_CTRL_STEER == 0

/-- The status of a write of TK_PHASE_ADJ of `ps` picoseconds (R62, R66). -/
def Dev.phaseAdjStatus (d : Dev) (ps : Int) : Nat :=
  if d.steered then stNOT_PERMITTED
  else if (d.tk.time : Int) + psToU ps + d.tk.remain + d.pendingSteps < 0 then stBAD_PARAM
  else stOK

/-- The status of a write of TK_SET (R23, R62, R67). A value that breaks R23, written while STEER is 0 and SET_LIVE is 1, meets both refusals;
the manual gives no order, and BAD_PARAM is reported, DESIGN CHOICE (assumption 12). -/
def Dev.tkSetStatus (d : Dev) (ns : Nat) : Nat :=
  if twBad ns then stBAD_PARAM
  else if d.steered && d.setLive then stNOT_PERMITTED
  else stOK

/-- A write of TK_SET decided as a step on arrival (R67): sized against the time with every pending step applied, with TK_SLEW_REMAIN at 0.
The running slew term stands until the next tick (R57); what it has removed so far is settled, and what it goes on to remove is slewed back
from that tick on (R64, assumption 12). -/
def Dev.decideSet (d : Dev) (v : Nat) : Dev :=
  let size : Int := (v : Int) - d.tk.time - d.pendingSteps
  { d with tk := { d.tk with remain := 0, paid := d.slewed d.tk.tickAt d.tk.time, steps := d.tk.steps ++ [⟨size, d.tk.time⟩] } }

/-- The status of a write of TK_FREQ_ADJ (R60, R62). -/
def Dev.freqAdjStatus (d : Dev) (v : Nat) : Nat :=
  if d.steered then stNOT_PERMITTED
  else if (signedOf 48 v).natAbs ≤ 1000000 * 65536 then stOK else stBAD_PARAM

/-! ### Replicas -/

/-- A replica's offset from the master now: with the part of its correction slewed so far, over the 100 µs after the check (R76), and on the
bus with what the last tick word lags the master (R74). -/
def Dev.repOffset (d : Dev) (k : Nat) : Int :=
  let r := Tbl.get d.tk.reps {} k
  let e := min (d.tk.osc - r.corrAt) (100000 * ns1)
  r.off + (r.corr * e).fdiv (100000 * (ns1 : Int)) + (if r.bus then d.tk.lag else 0)

/-- The time a replica shows (R74). -/
def Dev.repTime (d : Dev) (k : Nat) : Nat := ((d.tk.time : Int) + d.repOffset k).toNat

/-- The frequency offset a replica counts with, its slew included (R57, R74). -/
def Dev.repApplied (d : Dev) (k : Nat) : Int :=
  let r := Tbl.get d.tk.reps {} k
  (if r.bus then d.tk.word else r.rate) + ((if r.bus then d.slewNow else r.slew) * ppbOne).fdiv (1024 * (ns1 : Int))

/-- How far the master's time moves on until replica `k` shows `t`; 0 where it shows it already. -/
def Dev.untilRep (d : Dev) (k t : Nat) : Nat :=
  let n : Int := ((t - d.repTime k : Nat) : Int) * (ppbOne + d.rate + (d.slewNow * ppbOne).fdiv (1024 * (ns1 : Int)))
  (-((-n).fdiv (ppbOne + d.repApplied k))).toNat

/-- The replica that serves a logical port: LCc for cages P(8c) to P(8c+7) is replica 1 + c (R7, R28, R60). -/
def repOfLp (lp : Nat) : Nat := 1 + lp / 32

/-- Whether a replica shows REPLICA_FAULT. -/
def Dev.repFault (d : Dev) (k : Nat) : Bool := d.bit (TK_REP_STATUS k) 0

/-- The time by which the Core die takes refill ticks and slots and fires its actions: its replica's while that shows REPLICA_FAULT; else the
master's, with which the replica agrees within 2 ps (R42, R80). -/
def Dev.coreTime (d : Dev) : Nat := if d.repFault 9 then d.repTime 9 else d.tk.time

/-- How far the master's time moves on until the Core die's time is `t`. -/
def Dev.untilCore (d : Dev) (t : Nat) : Nat := if d.repFault 9 then d.untilRep 9 t else t - d.tk.time

/-- UNCERT_LIVE of the ports that replica `k` serves: it stands while the replica shows REPLICA_FAULT (R120, R142). -/
def Dev.uncertPorts (d : Dev) (k : Nat) : Dev :=
  if k < 1 ∨ 8 < k then d
  else (List.range 32).foldl (fun e i => e.liveEdge (TSU_STATUS (32 * (k - 1) + i)) TSU_STATUS_UNCERT (d.repFault k)) d

/-- REPLICA_FAULT begins on replica `k` (R41, R63): its lane chiplet's ticks follow it from the last one taken (R80). -/
def Dev.repFaultBegin (d : Dev) (k : Nat) : Dev :=
  let r := Tbl.get d.tk.reps {} k
  let d1 := if d.repFault k then d else { d with tk := { d.tk with reps := Tbl.set d.tk.reps {} k { r with tick := d.tk.lastTick } } }
  (((d1.live (TK_REP_STATUS k) 0 true).stick (TK_REP_STATUS k) 0).stick TK_STATUS TK_STATUS_REPLICA).uncertPorts k

/-- The time of replica `k` at the marker of its next check: its next multiple of 100 µs, one marker after the last check (R75). -/
def Dev.markerOf (d : Dev) (k : Nat) : Nat :=
  let base := d.repTime k - (d.tk.osc - d.tk.checkAt)
  ((base + 50000 * ns1) / (100000 * ns1) + 1) * (100000 * ns1)

/-- The EMU's check of the next replica at the next 100 µs marker of the replica's own time: `m` is the measured offset, replica minus master,
in units of 1/256 ps (R37, R41, R75, R76). What the check reveals and its correction are slewed together over the 100 µs that follow, so the
replica's time never jumps; off the bus there is no correction (assumption 93). -/
def Dev.replicaCheck (d0 : Dev) (m : Int) : Dev :=
  let k := d0.tk.nextRep
  let at_ := d0.markerOf k
  let d := d0.advanceTo (d0.tk.time + d0.untilRep k at_)
  let r := Tbl.get d.tk.reps {} k
  let lag := if r.bus then d.tk.lag else 0
  let cur := d.repOffset k - lag
  let ok := decide (m.natAbs ≤ 512)
  let r' := { r with off := cur, corr := if r.bus then -cur else (m * (ns1 : Int)).fdiv 256000 - cur, corrAt := d.tk.osc,
                     good := if ok then r.good + 1 else 0 }
  let d1 := { d with tk := { d.tk with
      reps := Tbl.set d.tk.reps {} k r', nextRep := k % 9 + 1,
      checkAt := d.tk.osc - (d.repTime k - at_) } }
  let d2 := (d1.setFld (TK_REP_OFFSET k) ⟨0, 24⟩ (unsignedOf 24 (clampS 24 m))).bump (TK_REP_CHECKS k) 1
  if ok then
    if r'.bus && decide (16 ≤ r'.good) then (d2.live (TK_REP_STATUS k) 0 false).uncertPorts k else d2
  else (d2.bump (TK_REP_FAULTS k) 1).repFaultBegin k

/-- Replica `k` loses the time bus and goes on at its last rate, with the slew that the last tick word carried (R41, R77). -/
def Dev.timeBusLost (d : Dev) (k : Nat) : Dev :=
  let r := Tbl.get d.tk.reps {} k
  let r' := if r.bus then { r with off := d.repOffset k, corr := 0, bus := false, rate := d.tk.word, slew := d.tk.slew } else r
  ({ d with tk := { d.tk with reps := Tbl.set d.tk.reps {} k { r' with reload := false, good := 0 } } }).repFaultBegin k

/-- The time bus of replica `k` returns: it reloads from the next tick word and stays under REPLICA_FAULT (R77). -/
def Dev.timeBusReturn (d : Dev) (k : Nat) : Dev :=
  let r := Tbl.get d.tk.reps {} k
  if r.bus then d
  else { d with tk := { d.tk with reps := Tbl.set d.tk.reps {} k { r with reload := true, good := 0 } } }

/-! ### The Timekeeper window -/

/-- A read of TKW_NS in slot `k` (R69 to R72): the slot captures time and status, within ±4 ns of the present time, where the manual leaves
it free, and the read returns the nanoseconds. -/
def Dev.tkwRead (d : Dev) (k : Nat) : Dev :=
  let t := ((d.tk.time : Int) + (d.free % (8 * ns1 + 1) : Nat) - 4 * (ns1 : Int)).toNat
  let w := Tbl.get d.tk.win {} k
  let seq := (w.seq + 1) % 256
  let st := d.num TK_STATUS
  let info := seq * 0x1000000 + bitsAt st TK_STATUS_SET 1 * 8 + bitsAt st TK_STATUS_NUMERIC 1 * 4
    + bitsAt st TK_STATUS_SLEW 1 * 2 + bitsAt st TK_STATUS_STEP 1
  let w' : TkwSlot := { ns := twNs t, sec := twSec t % 2 ^ 48, frac := twFrac t, info := info, seq := seq }
  { d.took with tk := { d.tk with win := Tbl.set d.tk.win {} k w' }, reply := { value := twNs t } }

end Sys2Proof.Machine
end

