-- ==== Sys2Proof/Machine/TimeOut.lean ====
section
/-! DEFINITION. Edges of the time outputs TOA and TOB and of the PPS output of the TOD port (R186 to R190). -/

namespace Sys2Proof.Machine

def Dev.outSt (d : Dev) (o : Nat) : OutSt := if o = 0 then d.pte.outA else if o = 1 then d.pte.outB else d.pte.outPps
def Dev.setOutSt (d : Dev) (o : Nat) (x : OutSt) : Dev :=
  if o = 0 then { d with pte := { d.pte with outA := x } }
  else if o = 1 then { d with pte := { d.pte with outB := x } }
  else { d with pte := { d.pte with outPps := x } }

/-- The grid of an output: rising edges per second, PHASE in ps and how long each is high; none while it is off (R187, R190). -/
structure Grid where
  freq : Nat
  phase : Int
  high : Nat
  exact_ : Bool
deriving DecidableEq, Repr

/-- The grid that the active program of an output gives (R187). -/
def Dev.gridOf (d : Dev) (o : Nat) : Option Grid :=
  if o = 2 then some ⟨1, 0, 100 * 1000000 * ns1, true⟩
  else
    let m := d.fld (PTE_OUT_ACTIVE0 o) PTE_OUT_ACTIVE0_MODE
    let f := d.fld (PTE_OUT_ACTIVE0 o) PTE_OUT_ACTIVE0_FREQ
    let ph := signedOf 24 (d.fld (PTE_OUT_ACTIVE1 o) PTE_OUT_ACTIVE1_PHASE)
    let w := d.fld (PTE_OUT_ACTIVE1 o) PTE_OUT_ACTIVE1_WIDTH * 100 * ns1
    if m = 1 then some ⟨1, ph, w, true⟩
    else if m = 2 then some ⟨10000000, ph, 50 * ns1, true⟩
    else if m = 3 ∧ f ≠ 0 then some ⟨f, ph, if w = 0 ∨ sec1 ≤ w * f then sec1 / (2 * f) else w, false⟩
    else none

/-- Rising edge `n` of a grid, in 2^-48 ns: edge 0 lies at PHASE before network time 0. A programmable output rounds it to 2^-16 ns (R187). -/
def Grid.edge (g : Grid) (n : Int) : Int :=
  if g.exact_ then n * ((sec1 / g.freq : Nat) : Int) - psToU g.phase
  else
    let num := n * 65536000000000000 - g.phase * 65536 * g.freq
    let den : Int := 1000 * g.freq
    ((2 * num + den).fdiv (2 * den)) * 0x100000000

/-- The rising edges of a grid from time `a` up to time `b`, without `b`. -/
def Grid.edges (g : Grid) (a b : Nat) : List Nat :=
  let at_ (t : Nat) : Int := (((t : Int) + psToU g.phase) * g.freq).fdiv (sec1 : Int)
  let lo := at_ a - 1
  ((List.range ((at_ b + 2 - lo).toNat)).map (fun (j : Nat) => g.edge (lo + j))).filterMap
    (fun e => if (a : Int) ≤ e ∧ e < (b : Int) then some e.toNat else none)

/-- When an edge named for `e` is launched to be at its connector then: ahead by the output delay in force, in 2^-16 ns (R331). -/
def Dev.launchAt (d : Dev) (o e : Nat) : Nat := ((e : Int) - d.int (CAL_OUT_DELAY o) * 0x100000000).toNat

/-- The instant of an edge that is named for `e`: while CD2 is on bypass TOA and TOB move on the oscillator grid, to the oscillator edge nearest
to it (R321, assumption 17). -/
def Dev.onGrid (d : Dev) (o e : Nat) : Nat :=
  if d.timeBypass && decide (o < 2) then
    let per : Int := 40 * (ns1 : Int)
    let osc := (d.tk.osc : Int) - (((d.tk.time : Int) - e) * (ppbOne * ppbOne)).fdiv ((ppbOne + d.pll) * (ppbOne + d.rate))
    ((e : Int) + scaled ((2 * osc + per).fdiv (2 * per) * per - osc) d.pll d.rate 0).toNat
  else e

/-- The edges of an output produced up to network time `b`: each pulse, and the launch of its rising and of its falling edge (R187, R331). TOA and
TOB are low after a hand-off. -/
def Dev.outUpTo (d : Dev) (o b : Nat) : Dev :=
  let x := d.outSt o
  if b ≤ x.next then d
  else
    let y := { x with next := b }
    match (if d.pwr.handOff ∧ o ≠ 2 then none else d.gridOf o) with
    | none => d.setOutSt o y
    | some g =>
      let l := (g.edges x.next b).map (fun e => d.onGrid o e)
      let d1 := d.setOutSt o { y with until_ := l.foldl (fun _ e => e + g.high) x.until_ }
      { d1 with out := (l.flatMap (fun e => [Out.launch o (d.launchAt o e), Out.pulse o e g.high, Out.launch o (d.launchAt o (e + g.high))])).reverse
          ++ d1.out }

/-- A pulse in progress on an output ended at the present instant (R188). -/
def Dev.outCut (d : Dev) (o : Nat) : Dev :=
  let x := d.outSt o
  if d.tk.time < x.until_ then { (d.setOutSt o { x with until_ := d.tk.time }) with out := .fall o d.tk.time :: d.out } else d

/-- The outputs brought up to the present instant (R187). -/
def Dev.outTick (d : Dev) : Dev := ((d.outUpTo 0 d.tk.time).outUpTo 1 d.tk.time).outUpTo 2 d.tk.time

/-- The outputs after a step of `x`: edges still to come fall on the new time, none in what was skipped, and a pulse in progress keeps what it has
left of its width (R66, R68). -/
def Dev.outStep (d : Dev) (x : Int) : Dev :=
  [0, 1, 2].foldl (fun e o => let y := e.outSt o
                              e.setOutSt o { y with next := e.tk.time, until_ := ((y.until_ : Int) + x).toNat }) d

end Sys2Proof.Machine
end

