-- ==== Sys2Proof/Machine/Mbx.lean ====
section
/-! DEFINITION. Mailbox rings: fetching, starting and completing commands, and the ring registers (R624 to R635). -/

namespace Sys2Proof.Machine

/-- Ring `r`. -/
def Dev.ring (d : Dev) (r : Nat) : Ring := Tbl.get d.host.rings {} r

/-- The module with ring `r` replaced. -/
def Dev.setRing (d : Dev) (r : Nat) (x : Ring) : Dev :=
  { d with host := { d.host with rings := Tbl.set d.host.rings {} r x } }

/-- Whether Eodin serves commands: it runs, and READY is 1 (R620, R627); a module without its oscillator is out of service (R323). -/
def Dev.serving (d : Dev) : Bool := !d.pwr.oscFail && !d.bit GLB_STATE GLB_STATE_GAP && d.fld GLB_STATE GLB_STATE_READY == 1

/-- Completions of ring `r` held until Bus Master Enable returns (R618). -/
def Dev.heldOf (d : Dev) (r : Nat) : Nat := (d.host.held.filter (fun h => h.ring == r)).length

/-- INFLIGHT of ring `r`: commands fetched and not completed (R625). -/
def Dev.inflight (d : Dev) (r : Nat) : Nat := (d.ring r).inflight.length + d.heldOf r

/-- QUIESCED: ENABLE is 0 and INFLIGHT is 0 (R625, R629). -/
def Dev.quiesced (d : Dev) (r : Nat) : Bool := !(d.ring r).enable && d.inflight r == 0

/-- The distance from one free-running index to another, modulo 65,536 (R624). -/
def idxDist (frm to_ : Nat) : Nat := (to_ + 0x10000 - frm % 0x10000) % 0x10000

/-- Commands in flight across all rings (R627). -/
def Dev.inflightAll (d : Dev) : Nat := (List.range 64).foldl (fun n r => n + d.inflight r) 0

/-- The conditions of R627 under which the next command of ring `r` may be fetched; fetching also waits while Bus Master
Enable of PF0 is 0 (R618). -/
def Dev.mayFetch (d : Dev) (r : Nat) : Bool :=
  let x := d.ring r
  x.enable && x.cmdHead != x.cmdTail && d.serving && d.host.bme0 && decide (d.inflight r < 256) &&
    decide (d.inflight r + idxDist x.cplHead x.cplTail < 2 ^ x.cplLog) && decide (d.inflightAll < 1024)

/-- The ring served next: the first that may fetch, in ascending order from the ring after the one last served (R627). -/
def Dev.nextRing (d : Dev) : Option Nat :=
  ((List.range 64).map (fun k => (d.host.lastRing + 1 + k) % 64)).find? (fun r => d.mayFetch r)

/-- Opcodes that the module accepts (R636). -/
def opcodes : List Nat := [0x01, 0x02, 0x10, 0x11, 0x20, 0x21, 0x30, 0x31, 0x40, 0x41, 0x42, 0x43, 0x50, 0x60, 0x70, 0x80]

/-- Byte `i` of a 64-byte command entry. -/
def entryByte (e : BitVec 512) (i : Nat) : Byte := BitVec.ofNat 8 (bitsAt e.toNat (8 * i) 8)

/-- The bytes of a 64-byte command entry, in order of address. -/
def entryBytes (e : BitVec 512) : List Byte := leBytes 64 e.toNat

/-- The fields of a command entry (R630). -/
def cmdOfBytes (l : List Byte) : Cmd :=
  let fl := leNat (slice l 1 1)
  { op := leNat (slice l 0 1), fence := fl % 2 == 1, quiet := fl / 2 % 2 == 1, tag := leNat (slice l 2 1),
    ctx := leNat (slice l 4 4), par := slice l 16 40 }

/-- Whether a reserved field of a command entry is not zero (R12, R630). -/
def entryReserved (l : List Byte) : Bool :=
  !(leNat (slice l 1 1) / 4 == 0 && leNat (slice l 3 1) == 0 && leNat (slice l 8 8) == 0 && leNat (slice l 56 8) == 0)

/-! ### Completions -/

/-- A 32-byte completion entry with PHASE at 0 (R631). TIME is all zero, with TIME_VALID at 0, where the answer carries no
time (R636). -/
def cplBytes (c : Cmd) (a : Ans) (dup : Bool) : List Byte :=
  let flags := (a.time.isSome).toNat * 2 + dup.toNat * 4 + c.gap.toNat * 8
  leBytes 1 c.tag ++ leBytes 1 a.status ++ leBytes 1 c.op ++ leBytes 1 flags ++ leBytes 4 a.result ++
    leBytes 8 (a.value % 2 ^ 48) ++ (match a.time with | some x => twBytes x | none => List.replicate 12 0) ++ leBytes 4 c.ctx

/-- The PHASE bit of completion index `i` (R632). -/
def phaseOf (i log : Nat) : Nat := 1 - (i >>> log) % 2

/-- A completion posted: the entry is written, then MBX_CPL_TAIL advances and CPL_STICKY is set unless QUIET (R628). -/
def Dev.postBytes (d : Dev) (r : Nat) (quiet : Bool) (l : List Byte) : Dev :=
  let x := d.ring r
  let a := x.cplBase + 32 * (x.cplTail % 2 ^ x.cplLog)
  let l' := patch l 3 (leBytes 1 (leNat (slice l 3 1) + phaseOf x.cplTail x.cplLog))
  let d1 := (d.hostWrite a l').setRing r { x with cplTail := (x.cplTail + 1) % 0x10000 }
  let d2 := d1.live (MBX_ST r) MBX_ST_CPL true
  if quiet then d2 else d2.stick (MBX_ST r) MBX_ST_CPL

/-- The bank that a TABLE_WRITE names (R434). -/
def Cmd.tableBank (c : Cmd) : Option Nat := if c.op = 0x10 then some (leNat (slice c.par 1 1)) else none

/-- A completion of command `c` posted, or held while Bus Master Enable of PF0 is 0 (R618). -/
def Dev.post (d : Dev) (r : Nat) (c : Cmd) (l : List Byte) : Dev :=
  if d.host.bme0 then d.postBytes r c.quiet l
  else { d with host := { d.host with held := d.host.held ++ [⟨r, c.quiet, l, c.tableBank⟩] } }

/-- A command of ring `r` completing with an answer: it leaves the commands in flight, and its completion is posted unless
the ring was abandoned under it (R617, R720). -/
def Dev.complete (d : Dev) (r : Nat) (c : Cmd) (a : Ans) : Dev :=
  let x := d.ring r
  let d1 := d.setRing r { x with inflight := x.inflight.filter (fun e => !(e.tag == c.tag)) }
  let d2 := if c.noPost then d1 else d1.post r c (cplBytes c a false)
  { d2 with reply := { status := a.status, result := a.result, value := a.value, time := a.time } }

/-- The command in flight on ring `r` under a tag. -/
def Dev.cmdOf (d : Dev) (r tag : Nat) : Option Cmd := (d.ring r).inflight.find? (fun c => c.tag == tag)

/-- Whether the command under a tag may start: every earlier command of its ring has started, and with FENCE every earlier
one has completed (R630, R634). -/
def startable : List Cmd → Nat → Bool
  | [], _ => false
  | c :: r, tag => if c.tag = tag then !c.started else c.started && !(r.any (fun e => e.tag == tag && e.fence)) && startable r tag

/-- COMMAND_FETCH: the ring whose turn it is takes `entry`, the 64 bytes that the read of its next command returns; the
completion slot is reserved by INFLIGHT (R627). A duplicate tag, a reserved field or an opcode not listed completes at once
(R633). With no ring that may fetch, nothing happens. -/
def Dev.commandFetch (d : Dev) (entry : BitVec 512) : Dev :=
  match d.nextRing with
  | none => d
  | some r =>
    let x := d.ring r
    let l := entryBytes entry
    let c := cmdOfBytes l
    let dup := x.inflight.any (fun e => e.tag == c.tag)
    let d1 := { d.setRing r { x with cmdHead := (x.cmdHead + 1) % 0x10000 } with
                host := { (d.setRing r { x with cmdHead := (x.cmdHead + 1) % 0x10000 }).host with lastRing := r } }
    if dup then
      { d1.post r c (cplBytes c { status := stBUSY } true) with reply := { status := stBUSY } }
    else if entryReserved l || !opcodes.contains c.op then
      { d1.post r c (cplBytes c { status := stBAD_PARAM } false) with reply := { status := stBAD_PARAM } }
    else d1.setRing r { d1.ring r with inflight := x.inflight ++ [c] }

/-- The command under a tag of ring `r` replaced. -/
def Dev.setCmd (d : Dev) (r tag : Nat) (f : Cmd → Cmd) : Dev :=
  let x := d.ring r
  d.setRing r { x with inflight := x.inflight.map (fun c => if c.tag = tag then f c else c) }

/-- A fetched command of ring `r` with opcode `op` executed by `f`: once it may start and Eodin serves commands, `f` gives the
module and the answer, or no answer yet where the command goes on. Where the ring holds no such command, nothing
happens (assumption 7). -/
def Dev.runCmd (d : Dev) (r tag op : Nat) (f : Dev → Cmd → Dev × Option Ans) : Dev :=
  match d.cmdOf r tag with
  | none => d
  | some c =>
    if c.op = op ∧ startable (d.ring r).inflight tag ∧ d.serving then
      let res := f (d.setCmd r tag (fun c => { c with started := true })) c
      match res.2 with
      | some a => res.1.complete r c a
      | none => res.1
    else d

/-- What asked for a command that goes on, where it is a REQUEST of another node: above every ring, its source and its number (R672). -/
abbrev fabOwner (src : Nat) : Nat := 0x10000 + src

/-- What asked for a write that has no row of its own (R13): its answer is shown when its commits have ended. -/
abbrev regOwner : Nat := 0x20000

/-- A command that goes on ends with an answer, if it is still in flight; one that a REQUEST carries leaves its answer to be sent, and a register
write shows it. -/
def Dev.finish (d : Dev) (r tag : Nat) (a : Ans) : Dev :=
  if r = regOwner then { d with reply := { status := a.status, result := a.result, value := a.value, time := a.time } }
  else if 0x10000 ≤ r then
    { d with crs := { d.crs with answers := d.crs.answers ++ [(r - 0x10000, tag, a.status, a.result, a.value, a.time)] } }
  else match d.cmdOf r tag with
  | some c => if c.started && !c.gap then d.complete r c a else d
  | none => d

/-! ### Ring registers -/

/-- CFG_STICKY set, CFG_LIVE standing for 1 s: a register write of ring `r` was discarded (R625, R626). -/
def Dev.cfgDiscard (d : Dev) (r : Nat) : Dev := d.pulse (MBX_ST r) MBX_ST_CFG

/-- The value of MBX_CTRL. -/
def Ring.ctrl (x : Ring) : Nat := x.cplLog * 0x1000 + x.cmdLog * 0x100 + x.enable.toNat

/-- A write of MBX_CTRL (R625, R626): a change of a size while ENABLE is 1 or QUIESCED is 0, or a size outside its range, discards the whole
write; the same sizes written again count as no change, DESIGN CHOICE (assumption 89). ENABLE going from 0 to 1 zeroes all four indices. -/
def Dev.mbxCtrlWrite (d : Dev) (r v : Nat) : Dev :=
  let x := d.ring r
  let en := v % 2 == 1
  let cl := v / 0x100 % 16
  let pl := v / 0x1000 % 16
  let sized := cl != x.cmdLog || pl != x.cplLog
  if (sized && (x.enable || !d.quiesced r)) || !(decide (4 ≤ cl ∧ cl ≤ 12 ∧ 8 ≤ pl ∧ pl ≤ 12)) then d.cfgDiscard r
  else if en && !x.enable then
    (d.setRing r { x with enable := true, cmdLog := cl, cplLog := pl, cmdTail := 0, cmdHead := 0, cplHead := 0, cplTail := 0 }).live
      (MBX_ST r) MBX_ST_CPL false
  else d.setRing r { x with enable := en, cmdLog := cl, cplLog := pl }

/-- A write of MBX_CMD_TAIL: discarded where it moves the tail backward or puts more entries than the ring has between
MBX_CMD_HEAD and it (R626). -/
def Dev.cmdTailWrite (d : Dev) (r v : Nat) : Dev :=
  let x := d.ring r
  let n := v % 0x10000
  if decide (idxDist x.cmdHead n < idxDist x.cmdHead x.cmdTail) || decide (2 ^ x.cmdLog < idxDist x.cmdHead n) then d.cfgDiscard r
  else d.setRing r { x with cmdTail := n }

/-- A write of MBX_CPL_HEAD: discarded unless it lies from the present head to MBX_CPL_TAIL (R626). -/
def Dev.cplHeadWrite (d : Dev) (r v : Nat) : Dev :=
  let x := d.ring r
  let n := v % 0x10000
  if decide (idxDist x.cplHead x.cplTail < idxDist x.cplHead n) then d.cfgDiscard r
  else (d.setRing r { x with cplHead := n }).live (MBX_ST r) MBX_ST_CPL (n != x.cplTail)

/-- A write of a 64-bit ring base, aligned to 64 bytes: discarded while ENABLE is 1 or QUIESCED is 0 (R624, R626). -/
def Dev.mbxBaseWrite (d : Dev) (r : Nat) (cpl : Bool) (v : Nat) : Dev :=
  let x := d.ring r
  let a := v % 2 ^ 64 / 64 * 64
  if x.enable || !d.quiesced r then d.cfgDiscard r
  else d.setRing r (if cpl then { x with cplBase := a } else { x with cmdBase := a })

/-- The value of MBX_STATUS (R625). -/
def Dev.mbxStatus (d : Dev) (r : Nat) : Nat :=
  d.num (MBX_ST r) % 64 + (d.quiesced r).toNat * 0x100 + d.inflight r * 0x10000

/-- A write of MBX_STATUS: CPL_STICKY is set again at once when it is cleared while CPL_LIVE is 1 (R628). -/
def Dev.mbxStatusWrite (d : Dev) (r v : Nat) : Dev :=
  let p := MBX_ST r
  let i : ItemDef := ⟨0, 0, 0, 0, .rw, 0x24, 0x12, 0, 0, []⟩
  let old := d.get p
  let new := codeWrite i old v
  let d1 := d.put p new
  let d2 := if enableRaised i old new then d1.raise p else d1
  if old.getLsbD 1 && !new.getLsbD 1 && new.getLsbD 0 then d2.stick p MBX_ST_CPL else d2

/-- Completions held while Bus Master Enable was 0 are posted in order (R618). -/
def Dev.postHeld (d : Dev) : Dev :=
  let l := d.host.held
  l.foldl (fun e h => e.postBytes h.ring h.quiet h.bytes) { d with host := { d.host with held := [] } }

/-- Every ring disabled, its fetched commands running on without posting; completions that wait for Bus Master Enable are not posted either,
DESIGN CHOICE (assumption 89; R617). -/
def Dev.abandonRings (d : Dev) : Dev :=
  let d1 := (List.range 64).foldl
    (fun e r => let x := e.ring r
                e.setRing r { x with enable := false, inflight := x.inflight.map (fun c => { c with noPost := true }) }) d
  { d1 with host := { d1.host with held := [] } }

/-- A management gap begins: every command fetched and not completed carries GAP (R635). -/
def Dev.markGap (d : Dev) : Dev :=
  (List.range 64).foldl
    (fun e r => let x := e.ring r
                e.setRing r { x with inflight := x.inflight.map (fun c => { c with gap := true }) }) d

/-- At the end of a gap, commands fetched before it complete: OK where the effect is found complete in hardware, otherwise
ABORTED_BY_RESET (R635). -/
def Dev.completeGap (d : Dev) : Dev :=
  (List.range 64).foldl
    (fun e r => (e.ring r).inflight.foldl
      (fun f c => if c.gap then f.complete r c { status := if c.doneInHw then stOK else stABORTED_BY_RESET } else f) e) d

end Sys2Proof.Machine
end

