-- ==== Sys2Proof/Machine/Measure.lean ====
section
/-! DEFINITION. The measurement registers and their log (R34, R684, R685). -/

namespace Sys2Proof.Machine

/-- A number of 384 bits as 48 bytes, most significant first, as digests are written. -/
def digestBytes (x : BitVec 384) : List Byte := beBytes 48 x.toNat

/-- A measurement register. -/
def AttSt.reg (a : AttSt) (k : Nat) : BitVec 384 :=
  if k = 0 then a.reg0 else if k = 1 then a.reg1 else if k = 2 then a.reg2 else a.reg3

/-- The extensions of a register since the last clear. -/
def AttSt.ext (a : AttSt) (k : Nat) : Nat :=
  if k = 0 then a.ext0 else if k = 1 then a.ext1 else if k = 2 then a.ext2 else a.ext3

/-- A register with its count replaced. -/
def AttSt.setReg (a : AttSt) (k : Nat) (v : BitVec 384) (n : Nat) : AttSt :=
  if k = 0 then { a with reg0 := v, ext0 := n }
  else if k = 1 then { a with reg1 := v, ext1 := n }
  else if k = 2 then { a with reg2 := v, ext2 := n }
  else { a with reg3 := v, ext3 := n }

/-- The digest that extends a register: SHA-384 of its bytes followed by the new digest (R684). -/
def extended (r dg : BitVec 384) : BitVec 384 := Config.sha384 (digestBytes r ++ digestBytes dg)

/-- An extension of register `kind`: the register is replaced, its extensions are counted, and the log takes an entry while
it holds fewer than 4,096 (R684, R685). -/
def Dev.extend (d : Dev) (kind event slot label : Nat) (dg : BitVec 384) : Dev :=
  let a := d.att.setReg kind (extended (d.att.reg kind) dg) ((d.att.ext kind + 1) % 0x10000)
  let e : LogEntry := ⟨kind, event, slot, label, dg, if d.setLive then twSec d.tk.time else 0⟩
  if d.att.log.length < 4096 then { d with att := { a with log := d.att.log ++ [e] } }
  else ({ d with att := a }).liveEdge TRUST_STATUS TRUST_STATUS_LOGOVF true

/-- One log entry as 64 bytes (R685). -/
def LogEntry.bytes (e : LogEntry) : List Byte :=
  leBytes 1 e.kind ++ leBytes 1 e.event ++ leBytes 2 e.slot ++ leBytes 4 e.label ++ digestBytes e.digest ++ leBytes 6 e.seconds ++ [0, 0]

end Sys2Proof.Machine
end

