-- ==== Sys2Proof/Machine/Banks.lean ====
section
/-! DEFINITION. Rule-set banks: their records, loading, sealing, cloning and the exact-match and ternary stores (R406 to R409,
R416 to R421, R433 to R441, R778). -/

namespace Sys2Proof.Machine

abbrev bkLOADABLE : Nat := 0
abbrev bkSEALING : Nat := 1
abbrev bkSEALED : Nat := 2
abbrev bkARMED : Nat := 3
abbrev bkACTIVE : Nat := 4
abbrev bkDRAINING : Nat := 5
abbrev bkCLONING : Nat := 6

/-! ### Records -/

/-- What unlisted records of an empty bank hold (R778). -/
abbrev emptyProf : Nat := 0xFFFFFFFFFF
abbrev emptyAct : Nat := 1

def Bank.node (b : Bank) (k : Nat) : Nat := Tbl.get b.nodes 0 k
def Bank.tran (b : Bank) (k : Nat) : Nat := Tbl.get b.trans 0 k
def Bank.prof (b : Bank) (k : Nat) : Nat := Tbl.get b.profs emptyProf k
def Bank.kd (b : Bank) (k : Nat) : Nat := Tbl.get b.kds 0 k
def Bank.act (b : Bank) (k : Nat) : Nat := Tbl.get b.acts emptyAct k

/-- The fields of a node record (R407). -/
def nHdr (n : Nat) : Nat := bitsAt n 0 8
def nLenBase (n : Nat) : Nat := bitsAt n 8 8
def nLenOff (n : Nat) : Nat := bitsAt n 16 6
def nLenMode (n : Nat) : Nat := bitsAt n 22 2
def nLenScale (n : Nat) : Nat := bitsAt n 24 2
def nSelW (n : Nat) : Nat := bitsAt n 26 2
def nChk (n : Nat) : Nat := bitsAt n 28 3
def nSelOff (n : Nat) : Nat := bitsAt n 32 6
def nDefault (n : Nat) : Nat := bitsAt n 40 8
def nTrBase (n : Nat) : Nat := bitsAt n 48 12
def nTrCount (n : Nat) : Nat := bitsAt n 60 4
def nProfile (n : Nat) : Nat := bitsAt n 64 6
def nPset (n : Nat) : Nat := bitsAt n 70 1
def nClass (n : Nat) : Nat := bitsAt n 72 3

/-- Whether a node record is in range: its reserved bits are 0 and its CLASS is defined. -/
def nodeOk (n : Nat) : Bool :=
  bitsAt n 31 1 == 0 && bitsAt n 38 2 == 0 && bitsAt n 71 1 == 0 && bitsAt n 75 5 == 0 && bitsAt n 80 48 == 0 && nClass n != 7

/-- The fields of a transition record (R409). -/
def tValue (t : Nat) : Nat := bitsAt t 0 32
def tMask (t : Nat) : Nat := bitsAt t 32 32
def tNext (t : Nat) : Nat := bitsAt t 64 8

/-- Whether a transition record is in range. -/
def tranOk (t : Nat) : Bool := bitsAt t 72 56 == 0

/-- The fields of a profile record (R416). -/
def pKd (p k : Nat) : Nat := bitsAt p (8 * k) 8
def pTern (p : Nat) : Nat := bitsAt p 32 8
def pDefAct (p : Nat) : Nat := bitsAt p 48 16
def pDefArg (p : Nat) : Nat := bitsAt p 64 32

/-- Whether a profile record is in range. -/
def profOk (p : Nat) : Bool :=
  (List.range 5).all (fun k => decide (pKd p k ≤ 127) || pKd p k == 0xFF) && bitsAt p 40 8 == 0 && bitsAt p 96 32 == 0

/-- A field of a key definition: KIND, SKIP, ID, OFF and WIDTH of field `k` (R417). -/
def kfKind (kd k : Nat) : Nat := bitsAt kd (32 * k) 2
def kfSkip (kd k : Nat) : Nat := bitsAt kd (32 * k + 2) 3
def kfId (kd k : Nat) : Nat := bitsAt kd (32 * k + 8) 8
def kfOff (kd k : Nat) : Nat := bitsAt kd (32 * k + 16) 6
def kfWidth (kd k : Nat) : Nat := if kfKind kd k = 0 then 0 else bitsAt kd (32 * k + 24) 8

/-- The width of a metadata source (R417); 0 for a code that does not exist. -/
def metaWidth (code : Nat) : Nat :=
  if code = 0 then 8 else if code = 1 then 12 else if code = 2 then 3 else if code = 3 then 2 else if code = 4 then 16
  else if code = 5 then 6 else 0

/-- Whether a key definition is in range (R417). -/
def kdOk (kd : Nat) : Bool :=
  (List.range 16).all (fun k =>
    bitsAt kd (32 * k + 5) 3 == 0 && bitsAt kd (32 * k + 22) 2 == 0 &&
      (kfKind kd k == 0 ||
        (decide (1 ≤ kfWidth kd k ∧ kfWidth kd k ≤ 128) &&
          (kfKind kd k != 3 || (kfOff kd k == 0 && kfSkip kd k == 0 && decide (kfWidth kd k ≤ metaWidth (kfId kd k)))))))

/-- The bits of a key definition's fields together. -/
def kdWidth (kd : Nat) : Nat := (List.range 16).foldl (fun n k => n + kfWidth kd k) 0

/-! ### The classifier's banks -/

def Dev.bank (d : Dev) (k : Nat) : Bank := if k = 0 then d.cls.bank0 else d.cls.bank1

def Dev.setBank (d : Dev) (k : Nat) (b : Bank) : Dev :=
  { d with cls := if k = 0 then { d.cls with bank0 := b } else { d.cls with bank1 := b } }

/-- The bank's state changed. -/
def Dev.bankState (d : Dev) (k s : Nat) : Dev := d.setBank k { d.bank k with state := s }

/-- CLS_BANK_STATUS as the banks stand (R448); the in-flight counts saturate. -/
def ClsSt.status (c : ClsSt) : Nat :=
  min c.bank1.inflight 0xFFFFF * 2 ^ 28 + min c.bank0.inflight 0xFFFFF * 2 ^ 8 + (c.active.getD 0) * 128 + c.bank1.state * 16 + c.bank0.state

/-- DRAIN_LIVE and FULL_LIVE as the banks and the exact store stand (R449). -/
def Dev.clsLive (d : Dev) : Dev :=
  (d.live CLS_STATUS CLS_STATUS_DRAIN (d.cls.bank0.state == bkDRAINING || d.cls.bank1.state == bkDRAINING)).live
    CLS_STATUS CLS_STATUS_FULL (decide (983040 ≤ d.cls.exact_.length))

/-- Whether an entry is visible in bank `b`. -/
def seen (banks b : Nat) : Bool := bitsAt banks b 1 == 1

/-- BANKS with bit `b` set, and with it cleared. -/
def withBank (banks b : Nat) : Nat := if seen banks b then banks else banks + 2 ^ b
def lessBank (banks b : Nat) : Nat := if seen banks b then banks - 2 ^ b else banks

/-- Whether an entry is that of a key. -/
def ExactEntry.is (e : ExactEntry) (kd key : Nat) : Bool := e.kd == kd && e.key == key

/-- Clears bit `b` of entries that satisfy `p`; an entry that no bank sees is freed (R419). -/
def clearSeen (p : ExactEntry → Bool) (b : Nat) (l : List ExactEntry) : List ExactEntry :=
  (l.map (fun e => if p e then { e with banks := lessBank e.banks b } else e)).filter (fun e => e.banks != 0)

/-- Whether one more physical entry can be placed (R419): always below 983,040 in use, never at 1,048,576, and between
them as a free value says. -/
def Dev.canPlace (d : Dev) : Bool :=
  decide (d.cls.exact_.length < 983040) || (decide (d.cls.exact_.length < 1048576) && d.free % 2 == 1)

/-- The module with a new exact entry, or refused with NO_SPACE, FULL_STICKY being set. -/
def Dev.place (d : Dev) (e : ExactEntry) : Dev × Nat :=
  if d.canPlace then ({ d.took with cls := { d.cls with exact_ := d.cls.exact_ ++ [e] } }, stOK)
  else (d.took.stick CLS_STATUS CLS_STATUS_FULL, stNO_SPACE)

/-- The exact store replaced. -/
def Dev.setExact (d : Dev) (l : List ExactEntry) : Dev := { d with cls := { d.cls with exact_ := l } }

/-- One exact record applied to bank `b` under OP (R420). -/
def Dev.exactOp (d : Dev) (b op kd key ptr arg : Nat) : Dev × Nat :=
  let l := d.cls.exact_
  let mine := l.find? (fun e => e.is kd key && seen e.banks b)
  let other := l.find? (fun e => e.is kd key && seen e.banks (1 - b))
  let new : ExactEntry := ⟨kd, key, 2 ^ b, ptr, arg⟩
  if op = 0 then
    match mine with
    | some e =>
      if seen e.banks (1 - b) then
        if e.ptr = ptr ∧ e.arg = arg then (d, stOK)
        else
          let r := d.place new
          if r.2 = stOK then
            (r.1.setExact (clearSeen (fun x => decide (x = e)) b l ++ [new]), stOK)
          else r
      else (d.setExact (l.map (fun x => if x = e then { x with ptr := ptr, arg := arg } else x)), stOK)
    | none =>
      match other with
      | some e =>
        if e.ptr = ptr ∧ e.arg = arg then
          (d.setExact (l.map (fun x => if x = e then { x with banks := withBank x.banks b } else x)), stOK)
        else d.place new
      | none => d.place new
  else if op = 1 then (d.setExact (clearSeen (fun e => e.is kd key) b l), stOK)
  else if op = 2 then
    match other with
    | none => (d, stBAD_PARAM)
    | some e =>
      let l1 := l.filter (fun x => !(x.is kd key && x.banks == 2 ^ b))
      (d.setExact (l1.map (fun x => if x = e then { x with banks := withBank x.banks b } else x)), stOK)
  else
    let l1 := l.filter (fun x => !(x.is kd key))
    if ptr = 0xFFFF then (d.setExact l1, stOK)
    else if l1.length < l.length then (d.setExact (l1 ++ [⟨kd, key, 3, ptr, arg⟩]), stOK)
    else d.place ⟨kd, key, 3, ptr, arg⟩

/-- One ternary record applied to slot `i` (R421). -/
def Dev.ternOp (d : Dev) (b op i key mask ptr arg : Nat) : Dev × Nat :=
  let r := Tbl.get d.cls.tern {} i
  let put (x : TernRule) : Dev := { d with cls := { d.cls with tern := Tbl.set d.cls.tern {} i (if x.banks = 0 then {} else x) } }
  if op = 0 then
    if seen r.banks (1 - b) then (d, stNOT_PERMITTED) else (put ⟨key, mask, 2 ^ b, ptr, arg⟩, stOK)
  else if op = 1 then (put { r with banks := lessBank r.banks b }, stOK)
  else if r.banks = 0 then (d, stBAD_PARAM)
  else (put { r with banks := withBank r.banks b }, stOK)

/-! ### TABLE_WRITE -/

abbrev twNODE : Nat := 1
abbrev twTRANS : Nat := 2
abbrev twPROFILE : Nat := 3
abbrev twKEYDEF : Nat := 4
abbrev twACTION : Nat := 5
abbrev twEXACT : Nat := 6
abbrev twTERNARY : Nat := 7
abbrev twSEAL : Nat := 8
abbrev twOPEN : Nat := 9
abbrev twCLONE : Nat := 10

/-- The size of a record and how many records a table holds (R434). -/
def recSize (kind : Nat) : Nat :=
  if kind = twKEYDEF then 64 else if kind = twACTION then 8 else if kind = twEXACT then 24 else if kind = twTERNARY then 176 else 16
def tblSize (kind : Nat) : Nat :=
  if kind = twNODE then 255 else if kind = twTRANS then 4096 else if kind = twPROFILE then 64 else if kind = twKEYDEF then 128
  else 65536

/-- Order 1 of R435 on a 40-byte block (R434). -/
def blockOk (par : List Byte) : Bool :=
  let kind := leNat (slice par 0 1)
  let bank := leNat (slice par 1 1)
  let op := leNat (slice par 2 1)
  let index := leNat (slice par 4 4)
  let count := leNat (slice par 8 4)
  let addr := leNat (slice par 12 8)
  let len := leNat (slice par 20 4)
  leNat (slice par 3 1) == 0 && leNat (slice par 28 12) == 0 && decide (bank ≤ 1) && decide (1 ≤ kind ∧ kind ≤ 10) &&
    (kind == twSEAL || leNat (slice par 24 4) == 0) &&
    (if kind = twEXACT then decide (op ≤ 3) else if kind = twTERNARY then decide (op ≤ 2) else op == 0) &&
    (if 8 ≤ kind then index == 0 && count == 0 && addr == 0 && len == 0
     else
       len == count * recSize kind && decide (1 ≤ count) &&
         (if kind = twEXACT then index == 0 else decide (index + count ≤ tblSize kind)))

/-- Orders 1 to 5 of R435. A write that runs is completed at once but where its completion entry is held (R618). -/
def Dev.tableCheck (d : Dev) (par : List Byte) : Nat :=
  let kind := leNat (slice par 0 1)
  let s := (d.bank (leNat (slice par 1 1))).state
  if !blockOk par then stBAD_PARAM
  else if kind = twEXACT ∧ leNat (slice par 2 1) = 3 then stOK
  else if s = bkSEALING ∨ s = bkCLONING ∨ s = bkDRAINING then stBUSY
  else if kind = twSEAL ∧ d.host.held.any (fun h => h.bank == some (leNat (slice par 1 1))) then stBUSY
  else if s = bkACTIVE ∨ (kind = twOPEN ∧ s ≠ bkSEALED) ∨ ((kind = twSEAL ∨ kind = twCLONE) ∧ s ≠ bkLOADABLE) then stNOT_PERMITTED
  else if kind ≤ 7 ∧ (s = bkSEALED ∨ s = bkARMED) then stSEALED
  else stOK

/-- One record applied at position `i` of its table (order 6 of R435). -/
def Dev.applyRecord (d : Dev) (kind b op i : Nat) (l : List Byte) : Dev × Nat :=
  let v := leNat l
  let x := d.bank b
  if kind = twNODE then
    if nodeOk v then (d.setBank b { x with nodes := Tbl.set x.nodes 0 i v }, stOK) else (d, stBAD_PARAM)
  else if kind = twTRANS then
    if tranOk v then (d.setBank b { x with trans := Tbl.set x.trans 0 i v }, stOK) else (d, stBAD_PARAM)
  else if kind = twPROFILE then
    if profOk v then (d.setBank b { x with profs := Tbl.set x.profs emptyProf i v }, stOK) else (d, stBAD_PARAM)
  else if kind = twKEYDEF then
    if kdOk v then
      (d.setBank b { x with kds := Tbl.set x.kds 0 i v, kdWritten := Tbl.set x.kdWritten false i true }, stOK)
    else (d, stBAD_PARAM)
  else if kind = twACTION then (d.setBank b { x with acts := Tbl.set x.acts emptyAct i v }, stOK)
  else if kind = twEXACT then
    if decide (127 < bitsAt v 96 8) || bitsAt v 104 8 != 0 || bitsAt v 160 32 != 0 then (d, stBAD_PARAM)
    else d.exactOp b op (bitsAt v 96 8) (bitsAt v 0 96) (bitsAt v 112 16) (bitsAt v 128 32)
  else
    if bitsAt v 1328 80 != 0 then (d, stBAD_PARAM)
    else d.ternOp b op i (bitsAt v 0 640) (bitsAt v 640 640) (bitsAt v 1280 16) (bitsAt v 1296 32)

/-- Records applied in order from position `i`, stopping at the first that fails; `done` counts those applied. -/
def Dev.applyRecords (d : Dev) (kind b op : Nat) : Nat → Nat → Nat → List Byte → Dev × Nat × Nat
  | 0, _, done, _ => (d, stOK, done)
  | n + 1, i, done, l =>
    let r := d.applyRecord kind b op i (slice l 0 (recSize kind))
    if r.2 = stOK then Dev.applyRecords r.1 kind b op n (i + 1) (done + 1) (l.drop (recSize kind))
    else (r.1, r.2, done)

/-- A block of KIND NODE to TERNARY with its records checked and applied: the status and the records applied (R435). -/
def Dev.tableWrite (d : Dev) (par recs : List Byte) : Dev × Nat × Nat :=
  let st := d.tableCheck par
  if st ≠ stOK then (d, st, 0)
  else
    let r := d.applyRecords (leNat (slice par 0 1)) (leNat (slice par 1 1)) (leNat (slice par 2 1)) (leNat (slice par 8 4))
      (leNat (slice par 4 4)) 0 recs
    (r.1.clsLive, r.2.1, r.2.2)

/-! ### SEAL and CLONE -/

/-- The checks of R436. -/
def Bank.checks (b : Bank) : Bool :=
  let used (k : Nat) : Bool := nHdr (b.node k) != 0
  let okNext (k : Nat) : Bool := k == 0xFF || used k
  let wide (kd lim : Nat) : Bool := kd == 0xFF || (Tbl.get b.kdWritten false kd && decide (kdWidth (b.kd kd) ≤ lim))
  used 0 &&
    b.nodes.all (fun n => okNext (nDefault n.2) && decide (nTrBase n.2 + nTrCount n.2 ≤ 4096) && decide (nChk n.2 ≤ 3)) &&
    b.trans.all (fun t => okNext (tNext t.2)) &&
    b.profs.all (fun p => wide (pKd p.2 0) 96 && wide (pKd p.2 1) 96 && wide (pKd p.2 2) 96 && wide (pKd p.2 3) 96 && wide (pTern p.2) 624)

/-- The bytes measured as the parse graph: nodes, transitions, profiles and key definitions (R436). -/
def Bank.graphBytes (b : Bank) : List Byte :=
  (List.range 255).flatMap (fun k => leBytes 16 (b.node k)) ++ (List.range 4096).flatMap (fun k => leBytes 16 (b.tran k)) ++
    (List.range 64).flatMap (fun k => leBytes 16 (b.prof k)) ++ (List.range 128).flatMap (fun k => leBytes 64 (b.kd k))

/-- The bytes measured as the action programs (R436). -/
def Bank.actBytes (b : Bank) : List Byte := (List.range 65536).flatMap (fun k => leBytes 8 (b.act k))

/-- A bank measured under a label: both digests are kept as loaded and extended into registers 2 and 3 (R34 to R36, R436). -/
def Dev.measureBank (d : Dev) (k label event : Nat) : Dev :=
  let b := d.bank k
  let g := Config.sha384 b.graphBytes
  let a := Config.sha384 b.actBytes
  let d1 := { d with att := if k = 0 then { d.att with graph0 := g, acts0 := a } else { d.att with graph1 := g, acts1 := a } }
  (d1.extend 2 event k label g).extend 3 event k label a

/-- The seal of bank `k` ending: it becomes SEALED under its label, or returns to LOADABLE; the status (R436). -/
def Dev.sealEnd (d : Dev) (k : Nat) : Dev × Nat :=
  let b := d.bank k
  if b.checks then
    ((d.measureBank k b.label 2).setBank k { b with state := bkSEALED, ruleset := b.label, owner := none }, stOK)
  else (d.setBank k { b with state := bkLOADABLE, owner := none }, stBAD_PARAM)

/-- The clone into bank `k` ending (R437): the active bank's programs are copied and its exact entries become visible. -/
def Dev.cloneEnd (d : Dev) (k : Nat) : Dev :=
  let a := d.cls.active.getD (1 - k)
  let s := d.bank a
  let b := d.bank k
  let l := d.cls.exact_
  let held (e : ExactEntry) : Bool := l.any (fun x => x.is e.kd e.key && seen x.banks a)
  let l1 := clearSeen (fun e => held e && !seen e.banks a) k l
  let l2 := l1.map (fun e => if seen e.banks a then { e with banks := withBank e.banks k } else e)
  ((d.setExact l2).setBank k
    { b with state := bkLOADABLE, owner := none, nodes := s.nodes, trans := s.trans, profs := s.profs, kds := s.kds,
             kdWritten := s.kdWritten, acts := s.acts }).clsLive

/-! ### The start-up rule set (R441) -/

/-- A node record of the start-up set. -/
def mkNode (hdr lenBase lenOff lenMode scale selW chk selOff dflt base count class_ : Nat) : Nat :=
  hdr + lenBase * 2 ^ 8 + lenOff * 2 ^ 16 + lenMode * 2 ^ 22 + scale * 2 ^ 24 + selW * 2 ^ 26 + chk * 2 ^ 28 + selOff * 2 ^ 32 +
    dflt * 2 ^ 40 + base * 2 ^ 48 + count * 2 ^ 60 + class_ * 2 ^ 72

/-- A transition record. -/
def mkTran (value mask next : Nat) : Nat := value + mask * 2 ^ 32 + next * 2 ^ 64

/-- Bank 0 as Eodin loads it at each start of the core package, sealed and active. -/
def startupBank : Bank :=
  { state := bkACTIVE
    nodes :=
      [(0, mkNode 0x01 14 0 0 0 1 0 12 0xFF 0 4 1), (1, mkNode 0x02 4 0 0 0 1 0 2 0xFF 0 4 6),
       (2, mkNode 0x04 0 0 1 2 3 1 6 0xFF 4 2 2), (3, mkNode 0x29 40 0 0 0 0 2 6 0xFF 6 2 3),
       (4, mkNode 0x11 8 0 0 0 0 3 0 0xFF 0 0 4), (5, mkNode 0x06 0 12 2 2 0 0 0 0xFF 0 0 4)]
    trans :=
      [(0, mkTran 0x8100 0xFFFF 1), (1, mkTran 0x88A8 0xFFFF 1), (2, mkTran 0x0800 0xFFFF 2), (3, mkTran 0x86DD 0xFFFF 3),
       (4, mkTran 0x11 0x1FFF00FF 4), (5, mkTran 0x06 0x1FFF00FF 5), (6, mkTran 0x11 0xFF 4), (7, mkTran 0x06 0xFF 5)] }

/-- Both banks at a start of the core package (R441, R778): emptied, the start-up set active and measured. -/
def Dev.startBanks (d : Dev) : Dev :=
  (({ d with cls := { bank0 := startupBank, active := some 0, swapEra := d.tk.era } }).measureBank 0 0 2).clsLive

/-! ### Swap and drain -/

/-- The bank a frame of stamp `s` belongs to (R101 to R103): that of an armed swap whose trigger has come, else the old bank
where the stamp lies before the last swap and no step has fallen since, else the active one. -/
def Dev.epochOf (d : Dev) (s : Nat) : Nat :=
  let a := d.cls.active.getD 0
  match d.tl.acts.find? (fun x => x.typ == 1 && decide (x.trigger ≤ s)) with
  | some x => leNat (slice x.args 0 1)
  | none =>
    if (d.bank (1 - a)).state = bkDRAINING ∧ s < d.cls.swapT ∧ d.cls.swapEra = d.tk.era then 1 - a else a

/-- A bank's in-flight count changed (R440). -/
def Dev.flight (d : Dev) (k : Nat) (up : Bool) : Dev :=
  let b := d.bank k
  d.setBank k { b with inflight := if up then b.inflight + 1 else b.inflight - 1 }

/-- The armed bank becoming ACTIVE at the trigger and the old one DRAINING (R439). -/
def Dev.swapTo (d : Dev) (k trigger : Nat) : Dev :=
  let d1 := match d.cls.active with
    | some a => if a = k then d else d.bankState a bkDRAINING
    | none => d
  let d2 := d1.bankState k bkACTIVE
  ({ d2 with cls := { d2.cls with active := some k, swapT := trigger, swapEra := d.tk.era } }).clsLive

/-- A DRAINING bank with no frame in flight becoming LOADABLE (R440). -/
def Dev.drained (d : Dev) (k : Nat) : Dev :=
  if (d.bank k).state = bkDRAINING ∧ (d.bank k).inflight = 0 then
    ((d.bankState k bkLOADABLE).clsLive).stick CLS_STATUS CLS_STATUS_DRAIN
  else d

end Sys2Proof.Machine
end

