-- ==== Sys2Proof/Machine/Packet.lean ====
section
/-! DEFINITION. The bytes of a frame: tags and their edits, the R-TAG, encapsulation, PTP messages and what an operation
writes into them (R122 to R134, R371, R372, R387, R426, R428). A frame is held from its destination address, without FCS. -/

namespace Sys2Proof.Machine

/-- Two bytes at an offset, most significant first. -/
def be16 (b : List Byte) (o : Nat) : Nat := beNat (slice b o 2)

/-- One byte at an offset. -/
def byteAt (b : List Byte) (o : Nat) : Nat := beNat (slice b o 1)

/-- A frame padded with zeros to 64 bytes with its FCS. -/
def padMin (b : List Byte) : List Byte := b ++ List.replicate (60 - b.length) 0

/-! ### Tags -/

/-- Whether a TPID is that of the outer tag recognised at ingress under TAG_MODE (R371). -/
def outerTpid (mode sT t : Nat) : Bool :=
  if mode = 0 then t == 0x8100 else if mode = 1 then t == sT else t == 0x8100 || t == sT

/-- Whether a TPID is that of a tag at an egress port with this S_TPID (R372). -/
def egressTpid (sT t : Nat) : Bool := t == 0x8100 || t == sT

/-- The offset of the EtherType past the recognised tags: none, one, or an S-tag over a C-tag (R122, R371). -/
def typeOff (outer : Nat → Bool) (sT : Nat) (b : List Byte) : Nat :=
  if outer (be16 b 12) then (if be16 b 12 = sT ∧ be16 b 16 = 0x8100 then 20 else 16) else 12

/-- The offset of the EtherType past up to two VLAN tags of either TPID (R387, R657). -/
def pastTags (sT : Nat) (b : List Byte) : Nat :=
  if egressTpid sT (be16 b 12) then (if egressTpid sT (be16 b 16) then 20 else 16) else 12

/-- The outermost tag removed, if it is one the port knows (R372). -/
def popTag (sT : Nat) (b : List Byte) : List Byte := if egressTpid sT (be16 b 12) then b.take 12 ++ b.drop 16 else b

/-- A tag pushed outermost. -/
def pushTag (tpid tci : Nat) (b : List Byte) : List Byte := b.take 12 ++ beBytes 2 tpid ++ beBytes 2 tci ++ b.drop 12

/-- The edit "pop 1, push 0". -/
abbrev editPop1 : Nat := 1

/-- The fields of a tag edit: bytes 1 to 5 of TAGS (R426). -/
def editPop (e : Nat) : Nat := bitsAt e 0 2
def editPush (e : Nat) : Nat := bitsAt e 2 2
def editTpid (sT e k : Nat) : Nat := if bitsAt e (4 + k) 1 = 1 then sT else 0x8100
def editTci (pcp e k : Nat) : Nat :=
  let v := bitsAt e (8 + 16 * k) 8 * 0x100 + bitsAt e (16 + 16 * k) 8
  if bitsAt e 6 1 = 1 then pcp * 0x2000 + v % 0x2000 else v

/-- A tag edit applied: pops, then pushes (R372). -/
def tagEdit (sT pcp e : Nat) (b : List Byte) : List Byte :=
  let b1 := if 1 ≤ editPop e then popTag sT b else b
  let b2 := if 2 ≤ editPop e then popTag sT b1 else b1
  let b3 := if 1 ≤ editPush e then pushTag (editTpid sT e 0) (editTci pcp e 0) b2 else b2
  if 2 ≤ editPush e then pushTag (editTpid sT e 1) (editTci pcp e 1) b3 else b3

/-- The edits of R372: a tag edit, then padding. -/
def applyEdit (sT pcp e : Nat) (b : List Byte) : List Byte := padMin (tagEdit sT pcp e b)

/-- DEI set in the outer tag, if the frame has one (R512). -/
def setDei (sT : Nat) (b : List Byte) : List Byte :=
  if egressTpid sT (be16 b 12) then patch b 14 (beBytes 1 (byteAt b 14 ||| 0x10)) else b

/-! ### The R-TAG -/

/-- The sequence number of the R-TAG directly after up to two VLAN tags, if there is one (R387). -/
def rtagOf (sT : Nat) (b : List Byte) : Option Nat :=
  if be16 b (pastTags sT b) = 0xF1C1 then some (be16 b (pastTags sT b + 4)) else none

/-- The R-TAG removed. -/
def popRtag (sT : Nat) (b : List Byte) : List Byte :=
  let o := pastTags sT b
  if be16 b o = 0xF1C1 then b.take o ++ b.drop (o + 6) else b

/-- An R-TAG with sequence number `n` inserted directly after the VLAN tags. -/
def pushRtag (sT n : Nat) (b : List Byte) : List Byte :=
  let o := pastTags sT b
  b.take o ++ [0xF1, 0xC1, 0, 0] ++ beBytes 2 n ++ b.drop o

/-! ### Checksums -/

/-- One's-complement sum of two 16-bit words. -/
def ocAdd (a b : Nat) : Nat := let s := a + b; s % 0x10000 + s / 0x10000

/-- One's complement of a 16-bit word. -/
def ocNot (a : Nat) : Nat := 0xFFFF - a % 0x10000

/-- The 16-bit words of a byte string, an odd last byte being followed by 0. -/
def words16 : List Byte → List Nat
  | [] => []
  | [a] => [a.toNat * 0x100]
  | a :: b :: r => (a.toNat * 0x100 + b.toNat) :: words16 r

/-- One's-complement sum of the words of a byte string. -/
def ocSum (b : List Byte) : Nat := (words16 b).foldl ocAdd 0

/-- The words that differ between two strings of one length: old and new. -/
def changedWords (a b : List Byte) : List (Nat × Nat) :=
  ((words16 a).zip (words16 b)).filter (fun p => p.1 != p.2)

/-- An IPv4 header checksum over `n` bytes at offset `o`, its own field counted as 0. -/
def ip4Checksum (b : List Byte) (o n : Nat) : Nat := ocNot (ocSum (patch (slice b o n) 10 [0, 0]))

/-! ### Encapsulation -/

/-- A template prepended and its lengths and checksums filled (R428); `h` holds LEN, IP4_OFF, IP6_OFF and UDP_OFF. -/
def applyEncap (h : Nat) (t b : List Byte) : List Byte :=
  let i4 := bitsAt h 8 8
  let i6 := bitsAt h 16 8
  let u := bitsAt h 24 8
  let f := t ++ b
  let n := f.length
  let f1 := if u = 0xFF then f else patch (patch f (u + 4) (beBytes 2 (n - u))) (u + 6) [0, 0]
  let f2 := if i6 = 0xFF then f1 else patch f1 (i6 + 4) (beBytes 2 (n - i6 - 40))
  if i4 = 0xFF then f2
  else
    let f3 := patch f2 (i4 + 2) (beBytes 2 (n - i4))
    patch f3 (i4 + 10) (beBytes 2 (ip4Checksum f3 i4 (byteAt f3 i4 % 16 * 4)))

/-! ### PTP messages -/

/-- Where a PTP message lies: its first byte, the transport (0 Ethernet, 1 UDP/IPv4, 2 UDP/IPv6), the UDP header and the
IP header. -/
structure PtpLoc where
  at_ : Nat
  trans : Nat
  udp : Nat
  ip : Nat
deriving DecidableEq, Repr

/-- The transport conditions of R122 past the tags, for a UDP destination port. -/
def ptpTransport (o port : Nat) (b : List Byte) : Option PtpLoc :=
  let t := be16 b o
  let h := o + 2
  if t = 0x88F7 then some ⟨h, 0, 0, 0⟩
  else if t = 0x0800 ∧ byteAt b (h + 9) = 17 ∧ be16 b (h + 6) % 0x4000 = 0 then
    let u := h + byteAt b h % 16 * 4
    if be16 b (u + 2) = port then some ⟨u + 8, 1, u, h⟩ else none
  else if t = 0x86DD ∧ byteAt b (h + 6) = 17 then
    let u := h + 40
    if be16 b (u + 2) = port then some ⟨u + 8, 2, u, h⟩ else none
  else none

/-- messageType and messageLength of a PTP message. -/
def ptpType (b : List Byte) (p : Nat) : Nat := byteAt b p % 16
def ptpLen (b : List Byte) (p : Nat) : Nat := be16 b (p + 2)

/-- Whether versionPTP is 2 with minor 0 or 1 (R122). -/
def ptpVersionOk (b : List Byte) (p : Nat) : Bool := byteAt b (p + 1) % 16 == 2 && decide (byteAt b (p + 1) / 16 ≤ 1)

/-- The shortest messageLength of an event message by type (R122). -/
def eventMin (t : Nat) : Nat := if t = 0 ∨ t = 1 then 44 else 54

/-- The PTP event message of a frame, recognised under R122 with the tags that `outer` knows. -/
def eventAt (outer : Nat → Bool) (sT : Nat) (b : List Byte) : Option PtpLoc :=
  match ptpTransport (typeOff outer sT b) 319 b with
  | some l =>
    if ptpVersionOk b l.at_ && decide (ptpType b l.at_ ≤ 3) && decide (eventMin (ptpType b l.at_) ≤ ptpLen b l.at_)
        && decide (l.at_ + ptpLen b l.at_ ≤ 256) && decide (l.at_ + ptpLen b l.at_ ≤ b.length) then some l else none
  | none => none

/-- The PTP general message of a frame (R404). -/
def generalAt (outer : Nat → Bool) (sT : Nat) (b : List Byte) : Option PtpLoc :=
  match ptpTransport (typeOff outer sT b) 320 b with
  | some l =>
    if ptpVersionOk b l.at_ && decide (8 ≤ ptpType b l.at_ ∧ ptpType b l.at_ ≤ 13) && decide (34 ≤ ptpLen b l.at_)
        && decide (l.at_ + ptpLen b l.at_ ≤ 256) && decide (l.at_ + ptpLen b l.at_ ≤ b.length) then some l else none
  | none => none

/-- A frame that may prove to be a PTP message once more of its bytes are in: its UDP port, its PTP header or the rest of the message is still to
come, and the classifier waits for it. -/
def ptpWaits (outer : Nat → Bool) (sT : Nat) (b : List Byte) : Bool :=
  let message (p : Nat) : Bool :=
    decide (b.length < p + 4) || (ptpVersionOk b p && decide (b.length < p + ptpLen b p) && decide (p + ptpLen b p ≤ 256))
  let udp (u : Nat) : Bool := decide (b.length < u + 4) || ((be16 b (u + 2) == 319 || be16 b (u + 2) == 320) && message (u + 8))
  let o := typeOff outer sT b
  let t := be16 b o
  let h := o + 2
  if t = 0x88F7 then message h
  else if t = 0x0800 ∧ byteAt b (h + 9) = 17 ∧ be16 b (h + 6) % 0x4000 = 0 then udp (h + byteAt b h % 16 * 4)
  else if t = 0x86DD ∧ byteAt b (h + 6) = 17 then udp (h + 40)
  else false

abbrev opNONE : Nat := 0
abbrev opRESIDENCE : Nat := 1
abbrev opORIGIN : Nat := 2
abbrev opTURNAROUND : Nat := 3

/-- The largest correctionField, which also says that a correction is too large to represent (R127). -/
abbrev corrMax : Int := 0x7FFFFFFFFFFFFFFF

/-- An addition to a correctionField: the field written and whether the write saturated (R127). -/
def addCorr (old add : Int) : Int × Bool :=
  if old = corrMax then (corrMax, true)
  else if corrMax < old + add then (corrMax, true)
  else if old + add < -corrMax - 1 then (-corrMax - 1, true)
  else (old + add, false)

/-- What an operation needs from its egress: the addition to correctionField, and for ORIGIN the seconds and nanoseconds. -/
structure EventOp where
  op : Nat
  add : Int
  sec : Nat
  ns : Nat
deriving DecidableEq, Repr

/-- The message with its fields written (R124 to R127), and whether the write saturated. -/
def opFields (b : List Byte) (p : Nat) (o : EventOp) : List Byte × Bool :=
  let r := addCorr (signedOf 64 (beNat (slice b (p + 8) 8))) o.add
  let b1 := patch b (p + 8) (beBytes 8 (unsignedOf 64 r.1))
  (if o.op = opORIGIN then patch b1 (p + 34) (beBytes 6 o.sec ++ beBytes 4 o.ns) else b1, r.2)

/-- The full UDP checksum over the IPv6 pseudo-header and the datagram (R134). -/
def udp6Checksum (b : List Byte) (l : PtpLoc) : Nat :=
  let n := be16 b (l.udp + 4)
  let d := patch (slice b l.udp n) 6 [0, 0]
  let s := ocAdd (ocAdd (ocSum (slice b (l.ip + 8) 32)) (ocAdd n 17)) (ocSum d)
  if ocNot s = 0 then 0xFFFF else ocNot s

/-- A UDP checksum updated for the words changed (RFC 1624, equation 3), a result of 0 being written as 0xFFFF (R131). -/
def updateChecksum (hc : Nat) (w : List (Nat × Nat)) : Nat :=
  let s := ocNot (w.foldl (fun a p => ocAdd (ocAdd a (ocNot p.1)) p.2) (ocNot hc))
  if s = 0 then 0xFFFF else s

/-- What a rewrite did: the bytes, a saturated write, a checksum update or zeroing, a trailer. -/
structure Rewrite where
  bytes : List Byte
  sat : Bool := false
  cksum : Bool := false
  trailer : Bool := false
deriving DecidableEq, Repr

/-- An event operation carried out on a message at `l`, with its checksum or trailer (R131 to R134). -/
def rewriteEvent (v4 v6 : Bool) (b : List Byte) (l : PtpLoc) (o : EventOp) : Rewrite :=
  let f := opFields b l.at_ o
  let n := ptpLen b l.at_
  let w := changedWords (slice b l.at_ n) (slice f.1 l.at_ n)
  let hc := be16 b (l.udp + 6)
  if l.trans = 0 ∨ w = [] then { bytes := f.1, sat := f.2 }
  else if l.trans = 1 then
    if hc = 0 then { bytes := f.1, sat := f.2 }
    else { bytes := patch f.1 (l.udp + 6) (beBytes 2 (if v4 then updateChecksum hc w else 0)), sat := f.2, cksum := true }
  else if hc = 0 then { bytes := patch f.1 (l.udp + 6) (beBytes 2 (udp6Checksum f.1 l)), sat := f.2 }
  else if v6 && decide (n + 2 ≤ be16 b (l.udp + 4) - 8) then
    let o2 := l.udp + be16 b (l.udp + 4) - 2
    let s := w.foldl (fun a p => (ocAdd a.1 p.1, ocAdd a.2 p.2)) (0, 0)
    { bytes := patch f.1 o2 (beBytes 2 (ocAdd (ocAdd (be16 b o2) s.1) (ocNot s.2))), sat := f.2, trailer := true }
  else { bytes := patch f.1 (l.udp + 6) (beBytes 2 (updateChecksum hc w)), sat := f.2, cksum := true }

end Sys2Proof.Machine
end

