-- ==== Sys2Proof/Machine/Timeline.lean ====
section
/-! DEFINITION. The Timeline: the checks of an action block, arming, cancelling and the fire log (R81 to R100). What each
type of action does when it fires is with the family it acts on. -/

namespace Sys2Proof.Machine

abbrev actEPOCH_SWAP : Nat := 1
abbrev actSHADOW_HANDOVER : Nat := 2
abbrev actPORT_ADMIN : Nat := 3
abbrev actTIME_OUTPUT_PROGRAM : Nat := 4
abbrev actCOUNTER_SWEEP_START : Nat := 5
abbrev actCAL_WINDOW : Nat := 6

abbrev outDONE : Nat := 0
abbrev outDONE_LATE : Nat := 1
abbrev outMISSED : Nat := 2
abbrev outCANCELLED : Nat := 3
abbrev outABORTED : Nat := 4

/-- The minimum lead of a type, in the unit of time (R81). -/
def minLead (typ : Nat) : Nat := if typ = actEPOCH_SWAP then 1000000 * ns1 else 10000 * ns1

/-- Whether a type is held in the Core die store rather than the Timing die store (R81). -/
def coreStore (typ : Nat) : Bool := typ == 1 || typ == 2 || typ == 3 || typ == 5

/-- The order in which actions of one firing instant apply (R81). -/
def rankOf (typ : Nat) : Nat :=
  if typ = 1 then 1 else if typ = 3 then 2 else if typ = 2 then 3 else typ

/-- The handle of an action: generation[31:12] and slot[11:0] (R86). -/
def Action.handle (a : Action) : Nat := (a.gen % 0x100000) * 0x1000 + a.slot

/-- Whether bytes are all zero. -/
def zeros (l : List Byte) : Bool := l.all (fun b => b == 0)

/-- Whether TARGET, COUNT and ARGS are in range for a type (R81, R83). -/
def targetOk (typ target count : Nat) (args : List Byte) : Bool :=
  let c := target / 0x1000000
  let i := target / 0x1000 % 0x1000
  let n := target % 0x1000
  let b0 := (slice args 0 1).head?.getD 0
  decide (1 ≤ count ∧ count ≤ 4096) &&
  (if typ = actSHADOW_HANDOVER then
     decide (n = 0) && zeros args &&
       ((c == 0x10 && decide (i + count ≤ 2560)) || (c == 0x11 && decide (i + count ≤ 4096)) || (c == 0x12 && decide (i + count ≤ 256)))
   else if typ = actPORT_ADMIN then
     c == 0x0A && n == 0 && decide (i + count ≤ 256) && decide (b0.toNat ≤ 1) && zeros (args.drop 1)
   else if typ = actTIME_OUTPUT_PROGRAM then
     decide (target = 0x05000000) && count == 1 && decide (b0.toNat ≤ 1) && zeros (args.drop 1)
   else if typ = actCOUNTER_SWEEP_START then
     decide (target = 0x15000000) && count == 1 && decide (leNat (slice args 0 2) ≤ 63) && zeros (args.drop 2)
   else if typ = actCAL_WINDOW then
     decide (target = 0x09000000) && count == 1 && decide (1 ≤ leNat (slice args 2 2) ∧ leNat (slice args 2 2) ≤ 60000) && zeros (args.drop 4)
   else false)

/-- Whether two actions cover a same target. -/
def overlaps (t1 n1 t2 n2 : Nat) : Bool :=
  t1 / 0x1000000 == t2 / 0x1000000 &&
    (let i := t1 / 0x1000 % 0x1000
     let j := t2 / 0x1000 % 0x1000
     decide (i < j + n2 ∧ j < i + n1))

/-- Whether an armed action of a type with an equal trigger covers any of the target instances (R85). -/
def Dev.covered (d : Dev) (typ trigger target count : Nat) : Bool :=
  d.tl.acts.any (fun a => a.typ == typ && a.trigger == trigger && overlaps a.target a.count target count)

/-- Every action that Eodin holds: those armed, and those cleared by a data-plane reset and not loaded again yet (R100). -/
def TlSt.held (t : TlSt) : List Action := t.acts ++ t.cleared

/-- A slot that no action holds, chosen by a free value: the manual does not say which slot an action takes
(R86, assumption 5). -/
def Dev.freeSlot (d : Dev) : Nat :=
  let open_ := (List.range 4096).filter (fun k => !d.tl.held.any (fun a => a.slot == k))
  open_.getD (d.free % open_.length) 0

/-- An action armed in a free slot, the slot's generation rising when it is reused (R86). -/
def Dev.arm (d : Dev) (a : Action) : Dev × Action :=
  let k := d.freeSlot
  let g := Tbl.get d.tl.gens 0 k
  let a' := { a with slot := k, gen := g }
  ({ d.took with tl := { d.tl with acts := a' :: d.tl.acts, gens := Tbl.set d.tl.gens 0 k ((g + 1) % 0x100000),
                                    fired := Tbl.set d.tl.fired 0 k 0 } }, a')

/-- The checks of R85 in order on a 40-byte action block; the block itself never has FABRIC at 1 (R84, R672). -/
def Dev.addStatus (d : Dev) (par : List Byte) : Nat :=
  let typ := leNat (slice par 12 1)
  let flags := leNat (slice par 13 1)
  let target := leNat (slice par 16 4)
  let count := leNat (slice par 20 2)
  let args := slice par 28 12
  match twOfBytes (slice par 0 12) with
  | none => stBAD_PARAM
  | some trig =>
    if !zeros (slice par 14 2) || !zeros (slice par 22 2) || decide (4 ≤ flags)
        || !(decide (2 ≤ typ ∧ typ ≤ 6)) || !targetOk typ target count args then stBAD_PARAM
    else if !d.setLive then stNOT_PERMITTED
    else if decide (trig < d.tk.time + minLead typ) && flags % 2 == 0 then stTOO_LATE
    else if d.covered typ trig target count then stBUSY
    else if decide (4096 ≤ d.tl.held.length) then stNO_SPACE
    else stOK

/-- TIMELINE_ADD: the checks of R85, and the action armed; with APPLY_NOW a short lead is moved to the earliest instant the
module can honour (R87). `fab` is true for an action carried by Cresor, whose record carries FABRIC (R672). -/
def Dev.timelineAdd (d : Dev) (par : List Byte) (fab : Bool) : Dev × Ans :=
  let now := d.tk.time
  let st := d.addStatus par
  if st ≠ stOK then (d, { status := st, time := d.when now })
  else
    let typ := leNat (slice par 12 1)
    let flags := leNat (slice par 13 1)
    let trig := (twOfBytes (slice par 0 12)).getD 0
    let short := decide (trig < now + minLead typ)
    let a : Action :=
      { slot := 0, gen := 0, trigger := if short then now + minLead typ else trig, typ := typ,
        notify := flags / 2 % 2 == 1, fabric := fab, target := leNat (slice par 16 4),
        count := leNat (slice par 20 2), userTag := leNat (slice par 24 4), args := slice par 28 12, late := short }
    let r := d.arm a
    (r.1, { status := stOK, result := r.2.handle, time := d.when now })

/-! ### The fire log -/

/-- The four words of a fire record (R91). -/
def recWord3 (a : Action) (outcome : Nat) (degraded : Bool) : Nat :=
  a.typ * 2 ^ 40 + a.fabric.toNat * 2 ^ 37 + degraded.toNat * 2 ^ 36 + outcome * 2 ^ 32 + a.userTag % 2 ^ 32

/-- Whether a record of the present instant carries DEGRADED (R89). -/
def Dev.fireDegraded (d : Dev) (a : Action) (outcome : Nat) : Bool :=
  (outcome == outDONE || outcome == outDONE_LATE) && (d.bit TK_STATUS TK_STATUS_NUMERIC || (coreStore a.typ && d.repFault 9))

/-- One record written to the fire log, the oldest being overwritten when it is full (R90 to R94). The effect time is 0 for
MISSED, CANCELLED and ABORTED. -/
def Dev.postRecord (d : Dev) (r : FireRec) : Dev :=
  let seq := d.num TL_FIRE_HEAD % 0x10000
  let i := seq % 1024
  let t := if r.outcome = outDONE ∨ r.outcome = outDONE_LATE then r.effect else 0
  let full := decide (1024 ≤ (seq + 0x10000 - 1 - d.num TL_FIRE_ACK % 0x10000) % 0x10000)
  let d1 := ((((d.putNum (TL_FIRE_REC i 3) (recWord3 r.act r.outcome r.degraded)).putNum (TL_FIRE_REC i 2) (seq * 2 ^ 32 + r.act.handle)).putNum
    (TL_FIRE_REC i 1) (twWord1 t)).putNum (TL_FIRE_REC i 0) (twWord0 t)).putNum TL_FIRE_HEAD ((seq + 1) % 0x10000)
  let d2 := if full then d1.stick TL_STATUS TL_STATUS_OVF else d1
  if r.act.notify then d2.stick TL_STATUS TL_STATUS_FIRE else d2

/-- An action recorded: at once, or during a management gap when Eodin runs again (R39). -/
def Dev.fireRecord (d : Dev) (a : Action) (outcome : Nat) (effect : Nat) : Dev :=
  let r : FireRec := { act := a, outcome := outcome, effect := effect, degraded := d.fireDegraded a outcome }
  if d.bit GLB_STATE GLB_STATE_GAP then { d with tl := { d.tl with unposted := d.tl.unposted ++ [r] } } else d.postRecord r

/-- The records of a management gap posted, in the order in which their actions fired (R39). -/
def Dev.postRecords (d : Dev) : Dev := d.tl.unposted.foldl Dev.postRecord { d with tl := { d.tl with unposted := [] } }

/-- An action leaves its store; `fate` 1 says that it fired (R95). -/
def Dev.disarm (d : Dev) (a : Action) (fate : Nat) : Dev :=
  { d with tl := { d.tl with acts := d.tl.acts.filter (fun b => !(b.slot == a.slot)),
                             cleared := d.tl.cleared.filter (fun b => !(b.slot == a.slot)),
                             fired := Tbl.set d.tl.fired 0 a.slot fate } }

/-- The action that a handle names, armed or waiting to be loaded again (R96, R100). -/
def Dev.actionOf (d : Dev) (handle : Nat) : Option Action := d.tl.held.find? (fun a => a.handle == handle % 2 ^ 32)

/-- The status of a cancel (R95): OK while the action is armed, TOO_LATE once it has fired, BAD_PARAM for a handle that names neither. A handle
whose generation still matches but whose action was cancelled or ABORTED (R100) never fired and is not armed; R95 gives it no status, and it
completes with BAD_PARAM, DESIGN CHOICE (assumption 6). -/
def Dev.cancelStatus (d : Dev) (handle : Nat) : Nat :=
  let k := handle % 0x1000
  match d.actionOf handle with
  | some _ => stOK
  | none =>
    if Tbl.get d.tl.fired 0 k = 1 ∧ (Tbl.get d.tl.gens 0 k + 0x100000 - 1) % 0x100000 = handle / 0x1000 % 0x100000 then stTOO_LATE
    else stBAD_PARAM

/-- The time by which a store fires: that of its replica (R42, R88). -/
def Dev.storeTime (d : Dev) (typ : Nat) : Nat := if coreStore typ then d.coreTime else d.tk.time

/-- How far the master's time moves on until a store's time is `t`. -/
def Dev.untilStore (d : Dev) (typ t : Nat) : Nat := if coreStore typ then d.untilCore t else t - d.tk.time

/-- The instant an action takes effect in its store's time: the first cycle at or after TRIGGER, from 0 ns to 4 ns after it; `lag`
is in units of 2^-48 ns (R88). An EPOCH_SWAP takes effect at TRIGGER exactly. -/
def effectTime (a : Action) (lag : Nat) : Nat :=
  if a.typ = actEPOCH_SWAP then a.trigger else a.trigger + min lag (4 * ns1)

/-- The outcome a fired action records (R87, R88). -/
def Action.outcome (a : Action) (late : Bool) : Nat := if a.late || late then outDONE_LATE else outDONE

end Sys2Proof.Machine
end

