-- ==== Sys2Proof/Machine/Slalom.lean ====
section
/-! DEFINITION. Shapers, policers, gate lists and shadow sets (R498 to R540). -/

namespace Sys2Proof.Machine

/-- One byte of credit as held: 2^-32 byte (R505). -/
abbrev byte1 : Int := 0x100000000

/-- The refill increment of a rate in kbit/s per tick, in 2^-32 byte, truncated (R505). -/
def incOfRate (r : Nat) : Int := ((r * 128 * 0x100000000 / 1000000 : Nat) : Int)

/-- A queue of the module, by number (R493). -/
def Dev.queue (d : Dev) (q : Nat) : List Copy := Tbl.get d.net.queues [] q

/-- Whether what shaper `s` shapes holds no copy: its queue, or for a port shaper all nine queues of the port (R506). -/
def Dev.shpEmpty (d : Dev) (s : Nat) : Bool :=
  if s < 2304 then (d.queue s).isEmpty else (List.range 9).all (fun k => (d.queue (9 * (s - 2304) + k)).isEmpty)

/-! ### Shapers -/

def Dev.shpOn (d : Dev) (s : Nat) : Bool := d.fld (SHP_MODE_ACT s) SHP_MODE_ENABLE == 1
def Dev.shpKeep (d : Dev) (s : Nat) : Bool := d.fld (SHP_MODE_ACT s) SHP_MODE_KEEP_CREDIT == 1
def Dev.shpOver (d : Dev) (s : Nat) : Int := signedOf 8 (d.fld (SHP_MODE_ACT s) SHP_MODE_OVERHEAD)
def Dev.shpCbs (d : Dev) (s : Nat) : Int := (d.fld (SHP_BURST_ACT s) SHP_BURST_CBS : Int) * byte1
def Dev.shpPbs (d : Dev) (s : Nat) : Int := (d.fld (SHP_BURST_ACT s) SHP_BURST_PBS : Int) * byte1
def Dev.shpIncC (d : Dev) (s : Nat) : Int := incOfRate (d.num (SHP_CIR_ACT s))
def Dev.shpIncP (d : Dev) (s : Nat) : Int := incOfRate (d.num (SHP_PIR_ACT s))
def Dev.shpPeak (d : Dev) (s : Nat) : Bool := d.num (SHP_PIR_ACT s) != 0

/-- A shaper's buckets; while it is not enabled each stays at its depth (R504). -/
def Dev.shpGet (d : Dev) (s : Nat) : Shp :=
  if d.shpOn s then (Tbl.get d.net.shp none s).getD { c := d.shpCbs s, p := d.shpPbs s }
  else { c := d.shpCbs s, p := d.shpPbs s }

/-- A shaper's buckets replaced, with SHP_ELIG and SHP_WAIT_TIME following its wheel entry. -/
def Dev.shpPut (d : Dev) (s : Nat) (x : Shp) : Dev :=
  let d1 := { d with net := { d.net with shp := Tbl.set d.net.shp none s (some x) } }
  match x.elig with
  | some (t, _) => ((d1.putNum (SHP_ELIG s 0) (twWord0 t)).putNum (SHP_ELIG s 1) (twWord1 t)).startTimer (SHP_WAIT_TIME s)
  | none => ((d1.putNum (SHP_ELIG s 0) 0).putNum (SHP_ELIG s 1) 0).stopTimer (SHP_WAIT_TIME s)

/-- The ticks a bucket in debt needs to reach 0 (R508). -/
def ticksFor (c inc : Int) : Nat := if c < 0 ∧ 0 < inc then ((-c + inc - 1).fdiv inc).toNat else 0

/-- The wheel entry of a shaper as its buckets stand (R508): the later tick at which a negative bucket reaches 0, and the
slot that begins at the first multiple of 10 ns at or after it; beyond the present revolution it waits in the far ring. -/
def Dev.placeEntry (d : Dev) (s : Nat) (x : Shp) : Shp :=
  let n := max (ticksFor x.c (d.shpIncC s)) (if d.shpPeak s then ticksFor x.p (d.shpIncP s) else 0)
  if n = 0 then { x with elig := none, far := false }
  else
    let t := (d.tk.coreTick + n) * 1024
    let slot := (t + 9) / 10 * 10
    { x with elig := some (t * ns1, slot), far := decide (d.tk.lastSlot / 65536 < slot / 10 / 65536) }

/-- One refill of a bucket (R506). -/
def refillBucket (c inc depth : Int) (idle : Bool) : Int := if idle then min 0 (c + inc) else min depth (c + inc)

/-- A shaper at a refill tick: a reset of its buckets asked for (R528), then the refill (R524). -/
def Dev.shpTick (d : Dev) (s : Nat) : Dev :=
  if d.shpOn s then
    let x := d.shpGet s
    let y : Shp := if x.reset then { c := d.shpCbs s, p := d.shpPbs s } else x
    let idle := d.shpEmpty s && !d.shpKeep s
    d.shpPut s { y with c := refillBucket y.c (d.shpIncC s) (d.shpCbs s) idle,
                        p := if d.shpPeak s then refillBucket y.p (d.shpIncP s) (d.shpPbs s) idle else y.p }
  else d

/-- A committed frame of `len` bytes charged to shaper `s`, its queue having lost the copy (R506, R507). -/
def Dev.shpCharge (d : Dev) (s : Nat) (len : Nat) : Dev :=
  if d.shpOn s then
    let x := d.shpGet s
    let n := ((len : Int) + d.shpOver s) * byte1
    let clip (c : Int) : Int := if d.shpEmpty s && !d.shpKeep s then min 0 c else c
    d.shpPut s (d.placeEntry s { x with c := clip (x.c - n), p := if d.shpPeak s then clip (x.p - n) else x.p })
  else d

/-- Whether a shaper holds no wheel entry (R498). -/
def Dev.shpClear (d : Dev) (s : Nat) : Bool := (d.shpGet s).elig.isNone

/-- Wheel entries of slots begun by `slot` (in ns) released; a bucket still negative places a new one (R500, R502). -/
def Dev.wheelRelease (d : Dev) (slot : Nat) : Dev :=
  d.net.shp.foldl
    (fun e k => match k.2 with
      | some x =>
        (match x.elig with
         | some (_, t) => if !x.far && decide (t ≤ slot) then e.shpPut k.1 (e.placeEntry k.1 { x with elig := none }) else e
         | none => e)
      | none => e) d

/-- The far-ring entries of the revolution after the present one, and of the present one, moved into the wheel (R501). -/
def Dev.farMove (d : Dev) : Dev :=
  { d with net := { d.net with shp := d.net.shp.map (fun k =>
      (k.1, k.2.map (fun x =>
        match x.elig with
        | some (_, t) => if t / 10 / 65536 ≤ d.tk.lastSlot / 65536 + 1 then { x with far := false } else x
        | none => x))) } }

/-- A wheel entry after a step of `x` (2^-48 ns): its eligible time and its release move by the step, and it lies in the slot that begins at the
first multiple of 10 ns at or after them, in the wheel or in the far ring (R68, R501, R502). -/
def Dev.rebased (d : Dev) (x : Int) (y : Shp) : Shp :=
  match y.elig with
  | some (t, s) =>
    let s' := (((s * ns1 : Nat) : Int) + x).toNat
    let slot := (s' + 10 * ns1 - 1) / (10 * ns1) * 10
    { y with elig := some (((t : Int) + x).toNat, slot), far := decide (d.tk.lastSlot / 65536 < slot / 10 / 65536) }
  | none => y

/-- After a step every wheel entry keeps its remaining wait (R68, R502). -/
def Dev.wheelRebase (d : Dev) (x : Int) : Dev :=
  d.net.shp.foldl (fun e k => match k.2 with | some y => e.shpPut k.1 (d.rebased x y) | none => e) d

/-! ### Policers -/

def Dev.polCbs (d : Dev) (p : Nat) : Int := (d.fld (POL_BURST_ACT p) POL_BURST_CBS : Int) * byte1
def Dev.polPbs (d : Dev) (p : Nat) : Int := (d.fld (POL_BURST_ACT p) POL_BURST_PBS : Int) * byte1

/-- The committed and peak credit of a policer; one not listed is full (R509). -/
def Dev.polGet (d : Dev) (p : Nat) : Int × Int := (Tbl.get d.net.pol none p).getD (d.polCbs p, d.polPbs p)

def Dev.polPut (d : Dev) (p : Nat) (x : Int × Int) : Dev :=
  { d with net := { d.net with pol := Tbl.set d.net.pol none p (some x) } }

/-- A policer at a refill tick (R509). -/
def Dev.polTick (d : Dev) (p : Nat) : Dev :=
  let x := d.polGet p
  d.polPut p (min (d.polCbs p) (x.1 + incOfRate (d.num (POL_CIR_ACT p))), min (d.polPbs p) (x.2 + incOfRate (d.num (POL_PIR_ACT p))))

/-- Colours: 0 green, 1 yellow, 2 red. The result of a POLICE op of `b` bytes and what it charges (R510). -/
def polResult (aware : Bool) (colour : Nat) (c p b : Int) : Nat × Int × Int :=
  if p < b then (2, 0, 0)
  else if aware && colour == 1 then (1, 0, b)
  else if c < b then (1, 0, b)
  else (0, b, b)

/-- A POLICE op (R510): the module, the frame's colour after it, whether it acted. -/
def Dev.police (d : Dev) (p len colour : Nat) : Dev × Nat × Bool :=
  let m := POL_MODE_ACT p
  if d.fld m POL_MODE_ENABLE = 0 then (d, colour, false)
  else
    let b : Int := (len : Int) + signedOf 8 (d.fld m POL_MODE_OVERHEAD)
    let x := d.polGet p
    let r := polResult (d.fld m POL_MODE_AWARE == 1) colour x.1 x.2 (b * byte1)
    let d1 := d.polPut p (x.1 - r.2.1, x.2 - r.2.2)
    let d2 := if r.1 = 0 then (d1.bump (POL_GREEN p) 1).bump (POL_GREEN_OCT p) b.toNat
      else if r.1 = 1 then (d1.bump (POL_YELLOW p) 1).bump (POL_YELLOW_OCT p) b.toNat
      else (d1.bump (POL_RED p) 1).bump (POL_RED_OCT p) b.toNat
    (d2, max colour r.1, true)

/-! ### Gate lists -/

/-- Whether the active list of a port is enabled. -/
def Dev.slwOn (d : Dev) (n : Nat) : Bool := d.fld (SLW_CTRL_ACT n) SLW_CTRL_ENABLE == 1

/-- The segments of one cycle of the active list: start, entry number, gates; the last runs to the end of the cycle, and an
entry that would begin past it is cut (R515). -/
def Dev.slwSegs (d : Dev) (n : Nat) : List (Nat × Nat × Nat) :=
  let cyc := d.num (SLW_CYCLE_ACT n)
  ((List.range (d.fld (SLW_CTRL_ACT n) SLW_CTRL_COUNT)).foldl
    (fun (a : Nat × List (Nat × Nat × Nat)) k =>
      let e := SLW_ENTRY_ACT n k
      (a.1 + d.fld e SLW_ENTRY_ACT_INTERVAL, if a.1 < cyc then a.2 ++ [(a.1, k, d.fld e SLW_ENTRY_ACT_GATES)] else a.2)) (0, [])).2

/-- The slot of the active cycle at slot `s` of network time, on the grid from BASE (R515). -/
def Dev.slwPos (d : Dev) (n s : Nat) : Nat :=
  let base := (d.num (SLW_BASE_ACT n 0) * 1000000000 + d.num (SLW_BASE_ACT n 1) / 0x10000) / 10
  (((s : Int) - base) % (max 1 (d.num (SLW_CYCLE_ACT n)) : Nat)).toNat

/-- The running entry and gates at slot `s` (R515). -/
def Dev.slwAt (d : Dev) (n s : Nat) : Nat × Nat :=
  let p := d.slwPos n s
  match ((d.slwSegs n).filter (fun x => decide (x.1 ≤ p))).reverse with
  | x :: _ => x.2
  | [] => (0, 0x1FF)

/-- The gates of a port brought to the slot that has begun (R515); after a step the state holds until a cycle starts. -/
def Dev.gateStep (d : Dev) (n : Nat) : Dev :=
  match Tbl.get d.net.gates none n with
  | some g =>
    if d.slwOn n then
      if g.hold && d.slwPos n d.tk.lastSlot != 0 then d
      else
        let x := d.slwAt n d.tk.lastSlot
        { d with net := { d.net with gates := Tbl.set d.net.gates none n (some ⟨x.2, x.1, false⟩) } }
    else { d with net := { d.net with gates := Tbl.set d.net.gates none n none } }
  | none => d

/-- Whether the gate of queue `q` (0 to 8) of port `n` is open. -/
def Dev.gateOpen (d : Dev) (n q : Nat) : Bool :=
  match Tbl.get d.net.gates none n with
  | some g => bitsAt g.open_ q 1 == 1
  | none => true

/-- The time, in 2^-48 ns, at which the gate of queue `q` next closes under the list, or none where it never does (R516). -/
def Dev.nextClosing (d : Dev) (n q : Nat) : Option Nat :=
  let cyc := max 1 (d.num (SLW_CYCLE_ACT n))
  let p := d.slwPos n d.tk.lastSlot
  let closed := (d.slwSegs n).filter (fun x => bitsAt x.2.2 q 1 == 0)
  let ahead := closed.map (fun x => if p < x.1 then x.1 - p else x.1 + cyc - p)
  match ahead with
  | [] => none
  | a :: r => some ((d.tk.lastSlot + r.foldl min a) * 10 * ns1)

/-! ### Shadow sets -/

/-- A shadow set: its class and instance. The item that shows it is item 0 of the instance. -/
abbrev shKey (cls inst : Nat) : Nat := cls * 0x1000 + inst
abbrev shItem (cls inst : Nat) : Nat := pid cls inst 0
abbrev shOPEN : Nat := 0
abbrev shSEALED : Nat := 1
abbrev shCAPTURED : Nat := 2

/-- The state of a shadow set (R518). -/
def Dev.shState (d : Dev) (cls inst : Nat) : Nat := d.fld (shItem cls inst) SHP_SHADOW_STATE

/-- A shadow set in a state, bound to a tick or an action or to nothing. -/
def Dev.shPut (d : Dev) (cls inst st : Nat) (x : ShadowSt) : Dev :=
  let d1 := (d.setFld (shItem cls inst) SHP_SHADOW_STATE st).setFld (shItem cls inst) SHP_SHADOW_TICK_PENDING x.tick.isSome.toNat
  { d1 with net := { d1.net with shadow := Tbl.set d1.net.shadow {} (shKey cls inst) x } }

def Dev.shGet (d : Dev) (cls inst : Nat) : ShadowSt := Tbl.get d.net.shadow {} (shKey cls inst)

/-- Elapsed network time with steps excluded, as seals are aged by it (R525). -/
def Dev.unstepped (d : Dev) : Nat := ((d.tk.time : Int) - d.tk.stepSum).toNat

/-- The cross-field rules checked at SEAL (R531, R536, R538). -/
def Dev.shRules (d : Dev) (cls inst : Nat) : Bool :=
  if cls = 0x10 then
    let pir := d.num (SHP_PIR inst)
    pir == 0 || (decide (d.num (SHP_CIR inst) ≤ pir) && decide (64 ≤ d.fld (SHP_BURST inst) SHP_BURST_PBS))
  else if cls = 0x11 then
    (List.range 16).all (fun j => decide (d.num (POL_CIR (16 * inst + j)) ≤ d.num (POL_PIR (16 * inst + j))))
  else
    let w := d.num (SLW_BASE inst 1)
    w % 0x10000 == 0 && w / 0x10000 % 10 == 0 && decide (w / 0x10000 < 1000000000) &&
      (List.range (d.fld (SLW_CTRL inst) SLW_CTRL_COUNT)).all (fun k => decide (1 ≤ d.fld (SLW_ENTRY inst k) SLW_ENTRY_INTERVAL))

/-- A write of SEAL, with or without AT_TICK: the module and the status (R519). -/
def Dev.shSeal (d : Dev) (cls inst : Nat) (atTick opens : Bool) : Dev × Nat :=
  if opens then (d, stBAD_PARAM)
  else if d.shState cls inst ≠ shOPEN then (d, stSEALED)
  else if !d.shRules cls inst then (d, stBAD_PARAM)
  else if atTick then
    let n := (d.coreTime + 4000 * ns1 - d.tk.coreTick * 1024 * ns1 + 1024 * ns1 - 1) / (1024 * ns1)
    (d.shPut cls inst shCAPTURED { sealed := d.unstepped, tick := some (d.net.ticks + n) }, stOK)
  else (d.shPut cls inst shSEALED { sealed := d.unstepped }, stOK)

/-- A write of OPEN: the module and the status (R520). -/
def Dev.shOpen (d : Dev) (cls inst : Nat) : Dev × Nat :=
  let s := d.shState cls inst
  if s = shSEALED then (d.shPut cls inst shOPEN {}, stOK)
  else if s = shCAPTURED then (d, stBUSY)
  else (d, stOK)

/-- Items copied from shadow to active: each pair of items of an instance. -/
def shPairs (cls : Nat) : List (Nat × Nat) :=
  if cls = 0x10 then [(2, 0x12), (3, 0x13), (4, 0x14), (5, 0x15)]
  else if cls = 0x11 then
    (List.range 16).flatMap (fun j => (List.range 4).map (fun k => (0x100 + 0x40 * j + k, 0x108 + 0x40 * j + k)))
  else [(2, 6), (3, 7), (4, 8), (5, 9)] ++ (List.range 1024).map (fun k => (0x400 + k, 0x800 + k))

/-- The active set taking the shadow values (R517, R523). -/
def Dev.shCopy (d : Dev) (cls inst : Nat) : Dev :=
  (shPairs cls).foldl (fun e p => e.put (pid cls inst p.2) (e.get (pid cls inst p.1))) d

/-- What a hand-over does to the buckets of shaper `s`; `o` is the module before it (R526, R527). -/
def Dev.shpHandover (d o : Dev) (s : Nat) : Dev :=
  if !d.shpOn s then
    (d.shpPut s { c := d.shpCbs s, p := d.shpPbs s })
  else if !o.shpOn s then d.shpPut s { c := d.shpCbs s, p := d.shpPbs s }
  else
    let x := o.shpGet s
    let idle := d.shpEmpty s && !d.shpKeep s
    let clip (c depth : Int) : Int := let m := min c depth; if idle then min 0 m else m
    let p0 := if !o.shpPeak s && d.shpPeak s then d.shpPbs s else x.p
    d.shpPut s (d.placeEntry s { x with c := clip x.c (d.shpCbs s), p := clip p0 (d.shpPbs s) })

/-- What a hand-over does to the buckets of a policer: they keep their credit, clipped to the new depths. -/
def Dev.polHandover (d o : Dev) (p : Nat) : Dev :=
  let x := o.polGet p
  d.polPut p (min x.1 (d.polCbs p), min x.2 (d.polPbs p))

/-- A gate list handed over: it takes effect on its own grid, and what held the old list's state after a step is over. Gates change only at slot
boundaries (R515), so a hand-over within the firing cycle of one (4 ns, R88) acts at once, and any other at the next, DESIGN CHOICE
(assumption 87; R529). -/
def Dev.gateHandover (d : Dev) (n : Nat) : Dev :=
  let g := (Tbl.get d.net.gates none n).getD {}
  let d1 := { d with net := { d.net with gates := Tbl.set d.net.gates none n (some { g with hold := false }) } }
  if d.coreTime ≤ (d.tk.lastSlot * 10 + 4) * ns1 then d1.gateStep n else d1

/-- A hand-over of one instance (R523, R526, R527, R529). -/
def Dev.handOver (d : Dev) (cls inst : Nat) : Dev :=
  let d1 := (d.shCopy cls inst).shPut cls inst shOPEN {}
  let st := pid cls inst 1
  let cnt := if cls = 0x10 then [SHP_HANDOVERS inst] else if cls = 0x12 then [SLW_HANDOVERS inst] else []
  let d2 := cnt.foldl (fun e p => e.bump p 1) ((d1.pulse st SHP_STATUS_HO).live st SHP_STATUS_MISSED false)
  if cls = 0x10 then d2.shpHandover d inst
  else if cls = 0x11 then (List.range 16).foldl (fun e j => e.polHandover d (16 * inst + j)) d2
  else d2.gateHandover inst

/-- A missed hand-over of one instance (R522). -/
def Dev.handMissed (d : Dev) (cls inst : Nat) : Dev :=
  let st := pid cls inst 1
  let d1 := (d.live st SHP_STATUS_MISSED true).stick st SHP_STATUS_MISSED
  if cls = 0x10 then d1.bump (SHP_MISSED inst) 1 else if cls = 0x12 then d1.bump (SLW_MISSED inst) 1 else d1

/-- The targets of a SHADOW_HANDOVER: class and instances. -/
def Action.targets (a : Action) : List (Nat × Nat) :=
  (List.range a.count).map (fun k => (a.target / 0x1000000, a.target / 0x1000 % 0x1000 + k))

/-- The capture at T - 4 µs (R522): if every target is SEALED and not CAPTURED, all become CAPTURED for the action. Each was sealed at least
`age` of elapsed network time ago: 0 at T - 4 µs itself, 4 µs at a late effect time (R525). -/
def Dev.capture (d : Dev) (a : Action) (age : Nat) : Dev :=
  let ok := a.targets.all (fun t => d.shState t.1 t.2 == shSEALED && decide ((d.shGet t.1 t.2).sealed + age ≤ d.unstepped))
  if ok then
    let d1 := a.targets.foldl (fun e t => e.shPut t.1 t.2 shCAPTURED { e.shGet t.1 t.2 with action := some a.slot }) d
    { d1 with tl := { d1.tl with acts := d1.tl.acts.map (fun b => if b.slot = a.slot then { b with captured := true } else b) } }
  else d

/-- The targets that a cancelled or aborted action had captured return to SEALED (R522). -/
def Dev.uncapture (d : Dev) (a : Action) : Dev :=
  if a.captured then
    a.targets.foldl (fun e t => e.shPut t.1 t.2 shSEALED { e.shGet t.1 t.2 with action := none }) d
  else d

/-- The sets captured under AT_TICK whose tick has come, handed over (R521). The tick's own refill follows, so what is still to be
refilled counts from the tick before it (R508, R524, R526). -/
def Dev.tickHandovers (d : Dev) : Dev :=
  let d1 := d.net.shadow.foldl
    (fun e k => match k.2.tick with
      | some t => if t ≤ e.net.ticks then e.handOver (k.1 / 0x1000) (k.1 % 0x1000) else e
      | none => e) { d with tk := { d.tk with coreTick := d.tk.coreTick - 1 } }
  { d1 with tk := { d1.tk with coreTick := d.tk.coreTick } }

/-- Every bucket of shapers, policers and limiters at a refill tick (R505, R506, R509). -/
def Dev.bucketTick (d : Dev) : Dev :=
  let d1 := d.net.shp.foldl (fun e k => e.shpTick k.1) d
  d1.net.pol.foldl (fun e k => e.polTick k.1) d1

end Sys2Proof.Machine
end

