-- ==== Sys2Proof/Machine/Rink.lean ====
section
/-! DEFINITION. The Rink: frames, buffers, admission, drops, postcards and mirror copies (R452 to R486, R596 to R603). -/

namespace Sys2Proof.Machine

/-! ### Drop reasons (R485) -/

abbrev drRX_ERROR : Nat := 0x01
abbrev drRUNT : Nat := 0x02
abbrev drOVERSIZE : Nat := 0x03
abbrev drFCS_BAD : Nat := 0x04
abbrev drMAC_CONTROL : Nat := 0x05
abbrev drINGRESS_DOWN : Nat := 0x06
abbrev drUNDERRUN : Nat := 0x07
abbrev drLEN_OVER : Nat := 0x08
abbrev drLEN_CONFLICT : Nat := 0x09
abbrev drPARSE_DEPTH : Nat := 0x0A
abbrev drPASS_LATE : Nat := 0x0B
abbrev drRECIRC_LIMIT : Nat := 0x0C
abbrev drNO_DEST : Nat := 0x0D
abbrev drRULE_DROP : Nat := 0x0E
abbrev drPUNT_LIMIT : Nat := 0x0F
abbrev drFRER_DUP : Nat := 0x10
abbrev drFRER_ROGUE : Nat := 0x11
abbrev drFRER_TAGLESS : Nat := 0x12
abbrev drPOLICE_RED : Nat := 0x13
abbrev drPTP_ENGINE_FULL : Nat := 0x14
abbrev drTS_UNCERTAIN : Nat := 0x15
abbrev drCORE_BYPASS : Nat := 0x20
abbrev drINGRESS_OVERRUN : Nat := 0x21
abbrev drPOOL_EMPTY : Nat := 0x22
abbrev drENTRY_EMPTY : Nat := 0x23
abbrev drHEADROOM_EMPTY : Nat := 0x24
abbrev drQUEUE_LIMIT : Nat := 0x25
abbrev drINGRESS_LIMIT : Nat := 0x26
abbrev drPORT_DOWN : Nat := 0x27
abbrev drFLUSHED : Nat := 0x28
abbrev drAGED : Nat := 0x29
abbrev drPUNT_QUEUE_FULL : Nat := 0x2A
abbrev drMIRROR_DROP : Nat := 0x2B

/-! ### Ports and classes -/

abbrev lkUNUSED : Nat := 0
abbrev lkADMIN_DOWN : Nat := 1
abbrev lkDOWN : Nat := 2
abbrev lkFLUSHING : Nat := 3
abbrev lkHOLD : Nat := 4
abbrev lkUP : Nat := 5

/-- The link state of a logical port (R364). -/
def Dev.lpState (d : Dev) (n : Nat) : Nat := d.fld (MAC_STATUS n) MAC_STATUS_STATE

/-- Whether a port is UP. -/
def Dev.lpUp (d : Dev) (n : Nat) : Bool := d.lpState n == lkUP

/-- Whether CD0 is on bypass: Snowplough (R309, R479). -/
def Dev.snow (d : Dev) : Bool := d.bit (CD_STATUS 0) CD_STATUS_BYPASS

/-- Whether class `p` of port `n` is lossless (R470). -/
def Dev.lossless (d : Dev) (n p : Nat) : Bool :=
  decide (n < 256) && d.fld (MAC_CTRL n) MAC_CTRL_TX_PFC_EN == 1 && bitsAt (d.fld (RINK_PFC n) RINK_PFC_CLASS_EN) p 1 == 1

/-- The queue number of queue `q` (8 for QM) of a port, and of a punt queue (R493). -/
abbrev qOf (n q : Nat) : Nat := 9 * n + q
abbrev pqOf (k : Nat) : Nat := 2304 + k

/-! ### Frames and copies -/

def Dev.frame? (d : Dev) (f : Nat) : Option Frame := Tbl.get d.net.frames none f

def Dev.setFrame (d : Dev) (f : Nat) (x : Frame) : Dev :=
  { d with net := { d.net with frames := Tbl.set d.net.frames none f (some x) } }

def Dev.setNet (d : Dev) (n : NetSt) : Dev := { d with net := n }

/-- A frame changed, where it is there. -/
def Dev.onFrame (d : Dev) (f : Nat) (g : Frame → Frame) : Dev :=
  match d.frame? f with
  | some x => d.setFrame f (g x)
  | none => d

/-- A new frame in the module: its number. -/
def Dev.newFrame (d : Dev) (x : Frame) : Dev × Nat :=
  ({ d.setFrame d.net.nextId x with net := { (d.setFrame d.net.nextId x).net with nextId := d.net.nextId + 1 } }, d.net.nextId)

/-- The copies of a frame queued or in transmission: its reference count (R466). -/
def Dev.refs (d : Dev) (f : Nat) : Nat :=
  (d.net.queues.foldl (fun n q => n + (q.2.filter (fun c => c.fid == f)).length) 0) +
    (d.net.tx.filter (fun t => match t.2 with | some x => x.copy.fid == f | none => false)).length

/-- The length of a frame with its FCS, as known (R370). -/
def Frame.len (f : Frame) : Nat := f.orig.length + 4

/-- The declared length, or what is known of the length before it is fixed. -/
def Frame.decl (f : Frame) : Nat := f.declared.getD f.len

/-- INGRESS as reported (R598). -/
def Frame.ingress (f : Frame) : Nat := if f.lp < 256 ∧ f.inject.isNone then f.lp else 0x100

/-- The slice, or requester 16, that a frame belongs to (R28, R462). -/
def Frame.requester (f : Frame) : Nat := if f.lp < 256 ∧ f.inject.isNone then f.lp / 16 else 16

/-! ### Pools -/

/-- The buffer size of a pool (R452). -/
def bufSize (k : Nat) : Nat := if k = 0 then 256 else if k = 1 then 768 else if k = 2 then 1664 else 10240

/-- The smallest pool that fits a length (R461). -/
def poolFor (len : Nat) : Nat := if len ≤ 256 then 0 else if len ≤ 768 then 1 else if len ≤ 1664 then 2 else 3

def Dev.pool (d : Dev) (k : Nat) : Pool := Tbl.get d.net.pools {} k

/-- The buffers of a pool on its free list. -/
def Pool.free (p : Pool) : Nat := p.freed.length + (p.count - p.fresh)

/-- RESERVE and REOPEN of a pool, and whether its shared part is closed. -/
def Dev.reserve (d : Dev) (k : Nat) : Nat := d.fld (RINK_POOL_LIM (k + 1)) RINK_POOL_LIM_RESERVE
def Dev.reopen (d : Dev) (k : Nat) : Nat := d.fld (RINK_POOL_LIM (k + 1)) RINK_POOL_LIM_REOPEN
def Dev.exhausted (d : Dev) (k : Nat) : Bool := d.bit (RINK_POOL_STATUS (k + 1)) RINK_POOL_STATUS_EXH

/-- EXH_LIVE judged (R468). -/
def Dev.judgeExh (d : Dev) (k : Nat) : Dev :=
  let f := (d.pool k).free
  if f ≤ d.reserve k then d.liveEdge (RINK_POOL_STATUS (k + 1)) RINK_POOL_STATUS_EXH true
  else if d.reserve k + d.reopen k ≤ f then d.live (RINK_POOL_STATUS (k + 1)) RINK_POOL_STATUS_EXH false
  else d

/-- A pool replaced, COUNT_K and FREE shown and EXH_LIVE judged (R468, R491). -/
def Dev.setPool (d : Dev) (k : Nat) (p : Pool) : Dev :=
  let d1 := { d with net := { d.net with pools := Tbl.set d.net.pools {} k p } }
  ((d1.setFld (RINK_POOL_STATUS (k + 1)) RINK_POOL_STATUS_COUNT_K (p.count / 1024)).setFld
    (RINK_POOL_STATUS (k + 1)) RINK_POOL_STATUS_FREE p.free).judgeExh k

/-- The pools at a start of the core package or a REPARTITION: each takes its COUNT_K, every buffer free (R458). -/
def Dev.buildPools (d : Dev) : Dev :=
  (List.range 4).foldl
    (fun e k => e.setPool k { count := 1024 * e.fld (RINK_POOL_CTRL (k + 1)) RINK_POOL_CTRL_COUNT_K }) d

/-- The next buffer of a free list whose state bit is 0, and how many were dropped from the list with it at 1 (R465). -/
def takeBuffer (alloc : Tbl Bool) : List Nat → Nat → Option Nat × List Nat × Nat
  | [], bad => (none, [], bad)
  | i :: r, bad => if Tbl.get alloc false i then takeBuffer alloc r (bad + 1) else (some i, r, bad)

/-- A buffer taken from pool `k`, or none (R462, R465). -/
def Dev.takeBuf (d : Dev) (k : Nat) : Dev × Option Nat :=
  let p := d.pool k
  let r := takeBuffer p.alloc p.freed 0
  let d1 := if r.2.2 = 0 then d else (d.bump RINK_LIST_FAULT r.2.2).pulse RINK_STATUS RINK_STATUS_LIST
  match r.1 with
  | some i => (d1.setPool k { p with freed := r.2.1, alloc := Tbl.set p.alloc false i true }, some i)
  | none =>
    if p.fresh < p.count then
      (d1.setPool k { p with freed := [], fresh := p.fresh + 1, alloc := Tbl.set p.alloc false p.fresh true }, some p.fresh)
    else (d1.setPool k { p with freed := [] }, none)

/-- A buffer released; one whose state bit is 0 is refused and counted (R465, R466). -/
def Dev.releaseBuf (d : Dev) (k i : Nat) : Dev :=
  let p := d.pool k
  if Tbl.get p.alloc false i then d.setPool k { p with freed := i :: p.freed, alloc := Tbl.set p.alloc false i false }
  else ((d.bump RINK_DOUBLE_FREE 1).pulse RINK_STATUS RINK_STATUS_DFREE).signal 0 67

/-- The buffers available to a request (R468). -/
def Dev.available (d : Dev) (k : Nat) (guar : Bool) : Nat :=
  let f := (d.pool k).free
  if guar then f else if d.exhausted k then 0 else f - d.reserve k

/-- F of R469: the shared free space of the pools that are open. -/
def Dev.sharedFree (d : Dev) : Nat :=
  (List.range 4).foldl (fun n k => if d.exhausted k then n else n + ((d.pool k).free - d.reserve k) * bufSize k) 0

/-! ### Queues -/

/-- Occupancy of a queue in bytes (R471). -/
def Dev.occ (d : Dev) (q : Nat) : Nat := (d.queue q).foldl (fun n c => n + c.size) 0

/-- A queue replaced, with Q_OCC (R496). -/
def Dev.setQueue (d : Dev) (q : Nat) (l : List Copy) : Dev :=
  let d1 := { d with net := { d.net with queues := Tbl.set d.net.queues [] q l } }
  d1.putNum (Q_OCC q) (l.length * 0x1000000 + d1.occ q / 64)

/-- The ingress occupancy of class `p` on port `n`: the buffers held by its frames (R470). -/
def Dev.ingressOcc (d : Dev) (n p : Nat) : Nat :=
  d.net.frames.foldl
    (fun s e => match e.2 with
      | some f => (match f.buf with | some b => if f.lp = n ∧ f.cls = p then s + bufSize b.1 else s | none => s)
      | none => s) 0

/-- The pause of class `p` asked of the MAC of port `n`, or released, as its occupancy stands (R470, R379). A pause that stands for a class that has
ceased to be lossless is released at the next change of its occupancy, DESIGN CHOICE (assumption 86). -/
def Dev.pfcJudge (d : Dev) (n p : Nat) : Dev :=
  if n < 256 then
    let o := d.ingressOcc n p
    let st := d.num (RINK_PFC_STATE n)
    let stands := bitsAt st p 1 == 1
    let ask (e : Dev) : Dev := { e with net := { e.net with pfc := Tbl.set e.net.pfc 0 n ((Tbl.get e.net.pfc 0 n) ||| 2 ^ p) } }
    if !stands && d.lossless n p && decide (d.fld (RINK_PFC n) RINK_PFC_XOFF * 256 < o) then
      (ask (d.putNum (RINK_PFC_STATE n) (st + 2 ^ p))).startT (tmr 1 (n * 8 + p)) 0
    else if stands && (!d.lossless n p || decide (o < d.fld (RINK_PFC n) RINK_PFC_XON * 256)) then
      (ask (d.putNum (RINK_PFC_STATE n) (st - 2 ^ p))).stopT (tmr 1 (n * 8 + p))
    else d
  else d

/-! ### Telemetry -/

/-- A telemetry record given to DMA channel `ch`: kept where the channel runs, else there is no buffer room (R482, R592). -/
def Dev.toDma (d : Dev) (ch : Nat) (r : Rec) : Dev × Bool :=
  if (Tbl.get d.dma {} ch).state = 1 then
    ({ d with net := { d.net with tele := Tbl.set d.net.tele [] ch (Tbl.get d.net.tele [] ch ++ [r]) } }, true)
  else (d, false)

/-- A data record given to Eodin for export while ENABLE is 1: lost during a management gap, and beyond 200,000 in one second of network
time (R604, R605). -/
def Dev.toEodin (d : Dev) (r : Rec) : Dev × Bool :=
  let s := twSec d.tk.time
  let n := if d.obs.ixSec = s then d.obs.ixN else 0
  if d.bit CNT_IPFIX_CTRL 0 = false then (d, true)
  else if d.bit GLB_STATE GLB_STATE_GAP ∨ 200000 ≤ n then ((d.bump CNT_IPFIX_LOST 1).pulse CNT_STATUS CNT_STATUS_IPFIX, false)
  else ({ d with net := { d.net with eodinRecs := d.net.eodinRecs ++ [r] }, obs := { d.obs with ixSec := s, ixN := n + 1 } }, true)

/-- A postcard delivered as PC_DEST says, or counted as lost (R599). One that goes to both destinations counts once in CNT_PC_EMITTED where either
takes it, and in CNT_PC_LOST where the channel does not; the rate is held over each second of network time, DESIGN CHOICE (assumption 88). -/
def Dev.emitPostcard (d : Dev) (b : List Byte) : Dev :=
  let dest := d.fld CNT_PC_CTRL CNT_PC_CTRL_PC_DEST
  let sec := twSec d.tk.time
  let n := if d.obs.pcSec = sec then d.obs.pcN else 0
  let d0 := { d with net := { d.net with pcSeq := (d.net.pcSeq + 1) % 0x10000 }, obs := { d.obs with pcSec := sec, pcN := n + 1 } }
  if 50000000 ≤ n then (d0.bump CNT_PC_LOST 1).pulse CNT_STATUS CNT_STATUS_PCLOST
  else
    let r := if dest % 2 = 1 then d0.toDma (40 + d.fld CNT_PC_CTRL CNT_PC_CTRL_PC_DMA) ⟨3, b⟩ else (d0, false)
    let d1 := if dest % 2 = 1 ∧ !r.2 then (r.1.bump CNT_PC_LOST 1).pulse CNT_STATUS CNT_STATUS_PCLOST else r.1
    let q := if 2 ≤ dest then d1.toEodin ⟨3, b⟩ else (d1, false)
    if r.2 || q.2 then q.1.bump CNT_PC_EMITTED 1 else q.1

/-- The ends of a frame or copy that a postcard reports: reason and stomp cause, whether sent by Carve, the end time, and
the egress and queue of the copy if there is one. -/
structure Fate where
  reason : Nat := 0
  cause : Nat := 0
  carve : Bool := false
  stomped : Bool := false
  end_ : Nat := 0
  copy : Option Copy := none
deriving DecidableEq, Repr

/-- The egress and queue fields of a postcard (R598). -/
def egressOf (c : Option Copy) : Nat × Nat :=
  match c with
  | some x => if x.q < 2304 then (x.q / 9, x.q % 9) else (0x100 + (x.q - 2304), 0xF)
  | none => (0xFFFF, 0xF)

/-- A postcard's 48 bytes (R598). -/
def Dev.postcardBytes (d : Dev) (f : Frame) (sampled : Bool) (x : Fate) : List Byte :=
  let e := egressOf x.copy
  let mir := match x.copy with | some c => c.kind == 3 | none => false
  let flags := sampled.toNat + x.carve.toNat * 2 + x.stomped.toNat * 4 + f.bank * 8 + f.unc.toNat * 16 +
    (f.era != d.tk.era).toNat * 32 + mir.toNat * 64
  twBytes f.stamp ++ twBytes x.end_ ++ leBytes 2 f.ingress ++ leBytes 2 e.1 ++ leBytes 1 (e.2 + f.colour * 16 + f.pass * 64) ++
    leBytes 1 x.reason ++ leBytes 1 flags ++ leBytes 1 x.cause ++ leBytes 4 (match x.copy with | some c => c.occ | none => 0) ++
    leBytes 2 f.decl ++ leBytes 2 d.net.pcSeq ++ leBytes 4 f.hash ++ leBytes 2 f.ruleTag ++ [0, 0]

/-- The credit of the drop-postcard limiter, in 2^-32 postcard (R597). -/
def Dev.dropCredit (d : Dev) : Nat := d.net.dropCredit.getD (64 * 0x100000000)

/-- The postcard of a fate: for a sampled frame always, for a drop where DROP_PC is on and the limiter has credit (R597). -/
def Dev.postcard (d : Dev) (f : Frame) (x : Fate) : Dev :=
  if d.fld CNT_PC_CTRL CNT_PC_CTRL_PC_DEST = 0 then d
  else if f.sampled then d.emitPostcard (d.postcardBytes f true x)
  else if x.reason ≠ 0 ∧ d.fld CNT_PC_CTRL CNT_PC_CTRL_DROP_PC = 1 ∧ 0x100000000 ≤ d.dropCredit then
    ({ d with net := { d.net with dropCredit := some (d.dropCredit - 0x100000000) } }).emitPostcard (d.postcardBytes f false x)
  else d

/-! ### Admission (R467) -/

/-- Whether order 4 refuses a copy of size `s` on queue `q` (R467, R469). -/
def Dev.overLimit (d : Dev) (q s : Nat) : Bool :=
  let g := d.fld (Q_CTRL q) Q_CTRL_Q_MIN * 256
  let a := d.fld (Q_CTRL q) Q_CTRL_ALPHA
  let o := d.occ q
  decide (g ≤ o) && !(a != 0 && decide ((o - g + s) * 256 ≤ 2 ^ a * d.sharedFree))

/-- Whether the part of Headroom that a copy needs has none free (R454). -/
def Dev.headroomOut (d : Dev) (kind : Nat) : Bool :=
  if kind = 1 ∨ kind = 2 then decide (2048 ≤ d.net.hrPunt) else if kind = 3 then decide (4096 ≤ d.net.hrMirror) else false

/-- The reason for which a copy is refused, if any (R467), judged at the size of the smallest-fit pool (R464). -/
def Dev.refusal (d : Dev) (f : Frame) (c : Copy) : Option Nat :=
  let s := bufSize (poolFor f.decl)
  let low := d.lossless f.lp f.cls
  let full := decide ((d.fld (RINK_PFC f.lp) RINK_PFC_XOFF + d.fld (RINK_PFC f.lp) RINK_PFC_HEADROOM) * 256 < d.ingressOcc f.lp f.cls)
  if d.snow then some drCORE_BYPASS
  else if c.q < 2304 ∧ !d.lpUp (c.q / 9) then some drPORT_DOWN
  else if low && full then some drINGRESS_LIMIT
  else if !(low && !full) && d.overLimit c.q s then
    some (if c.kind = 0 then drQUEUE_LIMIT else if c.kind = 3 then drMIRROR_DROP else drPUNT_QUEUE_FULL)
  else if 786432 ≤ d.net.entries then some drENTRY_EMPTY
  else if d.headroomOut c.kind then some drHEADROOM_EMPTY
  else none

/-- Whether a copy is within guarantee (R468). -/
def Dev.within (d : Dev) (q : Nat) : Bool := decide (d.occ q < d.fld (Q_CTRL q) Q_CTRL_Q_MIN * 256)

/-- Headroom taken by a copy and given back. -/
def Dev.headroom (d : Dev) (kind : Nat) (up : Bool) : Dev :=
  let f (n : Nat) : Nat := if up then n + 1 else n - 1
  if kind = 1 ∨ kind = 2 then { d with net := { d.net with hrPunt := f d.net.hrPunt } }
  else if kind = 3 then { d with net := { d.net with hrMirror := f d.net.hrMirror } }
  else d

/-- An admitted copy joining its queue (R455, R471). -/
def Dev.enqueue (d : Dev) (fid : Nat) (f : Frame) (c : Copy) : Dev :=
  let s := match f.buf with | some b => bufSize b.1 | none => bufSize f.pool
  let g := d.within c.q
  let d1 := d.setQueue c.q (d.queue c.q ++ [{ c with fid := fid, enq := d.net.ticks, size := s }])
  let d2 := d1.setQueue c.q ((d1.queue c.q).map (fun x => if x.fid = fid ∧ x.occ = 0 then { x with occ := d1.occ c.q / 64 } else x))
  let d3 := ({ d2 with net := { d2.net with entries := d2.net.entries + 1 } }).headroom c.kind true
  let d4 := d3.bump (Q_ENQ_FRAMES c.q) 1
  let d5 := if f.tail then d4.bump (Q_ENQ_OCTETS c.q) f.len else d4
  d5.onFrame fid (fun x => { x with guar := x.guar || g, enqQs := if f.tail then x.enqQs else c.q :: x.enqQs })

/-- A drop counted under its reason, with its postcard (R485, R597). -/
def Dev.countDrop (d : Dev) (f : Frame) (c : Option Copy) (reason : Nat) : Dev :=
  (d.bump (RINK_DROP reason) 1).postcard f { reason := reason, end_ := d.coreTime, copy := c }

/-- A copy offered to its queue. A refused one counts at its queue; a mirror copy refused makes no further copy. -/
def Dev.offer (d : Dev) (fid : Nat) (c : Copy) : Dev × Option Nat :=
  match d.frame? fid with
  | none => (d, none)
  | some f =>
    match d.refusal f c with
    | none => (d.enqueue fid f c, none)
    | some r =>
      let d1 := d.bump (Q_DROPPED c.q) 1
      let d2 := if r = drQUEUE_LIMIT ∨ r = drPUNT_QUEUE_FULL ∨ r = drMIRROR_DROP then d1.pulse (Q_STATUS c.q) Q_STATUS_LIMIT else d1
      let d3 := d2.countDrop f (some c) r
      (if c.kind = 3 then d3.bump (MIR_DROPPED c.session) 1 else d3, some r)

/-! ### Mirror copies (R600, R601) -/

/-- A mirror copy of session `s` made and offered. -/
def Dev.mirror (d : Dev) (fid s trig reason egress edit : Nat) : Dev :=
  let n := Tbl.get d.net.mirSeq 0 s
  let d1 := { d with net := { d.net with mirSeq := Tbl.set d.net.mirSeq 0 s ((n + 1) % 2 ^ 32) } }
  (((d1.bump (MIR_COPIES s) 1).offer fid
    { fid := fid, q := qOf (d.fld (MIR_CTRL s) MIR_CTRL_DEST_LP) 8, kind := 3, edit := edit, session := s, trig := trig,
      drop := reason, egress := egress, seq := n })).1

/-- Whether a session makes copies. -/
def Dev.mirOn (d : Dev) (s : Nat) : Bool := d.fld (MIR_CTRL s) MIR_CTRL_ENABLE == 1

/-- Mirror copies for every session that a condition names. -/
def Dev.mirrorAll (d : Dev) (fid trig reason egress edit : Nat) (on : Nat → Bool) : Dev :=
  (List.range 16).foldl (fun e s => if d.mirOn s && on s then e.mirror fid s trig reason egress edit else e) d

/-- Whether a port's bit is set in MIR_SRC_RX or MIR_SRC_TX of a session (R611). -/
def Dev.mirSrc (d : Dev) (tx : Bool) (s n : Nat) : Bool :=
  bitsAt (d.num (if tx then MIR_SRC_TX s (n / 48) else MIR_SRC_RX s (n / 48))) (n % 48) 1 == 1

/-- The mirror copies of a drop of a frame or copy. -/
def Dev.mirrorDrop (d : Dev) (fid reason egress : Nat) : Dev :=
  d.mirrorAll fid 3 reason egress 0 (fun s => bitsAt (d.num (MIR_DROP_MASK s)) reason 1 == 1)

/-- A copy admitted to a queue with the copies that egress mirroring makes of it, or refused with those of its drop. -/
def Dev.letIn (d : Dev) (fid : Nat) (c : Copy) : Dev :=
  let r := d.offer fid c
  match r.2 with
  | none => if c.q < 2304 ∧ c.q % 9 < 8 then r.1.mirrorAll fid 2 0 (c.q / 9) c.edit (fun s => d.mirSrc true s (c.q / 9)) else r.1
  | some x => if c.kind = 3 then r.1 else r.1.mirrorDrop fid x (if c.q < 2304 then c.q / 9 else 0xFFFF)

/-! ### Release -/

/-- A frame with no copy left released: its buffers go back once its last byte is in or it was dropped, and it is forgotten
once nothing more of it can arrive (R454, R466). -/
def Dev.settleFrame (d : Dev) (fid : Nat) : Dev :=
  match d.frame? fid with
  | none => d
  | some f =>
    if f.stage = 0 ∨ d.refs fid ≠ 0 then d
    else if f.tail || f.dead then
      let d1 := match f.buf with | some b => d.releaseBuf b.1 b.2 | none => d
      let d2 := if f.growth then { d1 with net := { d1.net with hrGrowth := d1.net.hrGrowth - 1 } } else d1
      let d3 := if f.tail then { d2 with net := { d2.net with frames := Tbl.set d2.net.frames none fid none } }
        else d2.setFrame fid { f with buf := none, growth := false }
      d3.pfcJudge f.lp f.cls
    else d

/-- A frame leaving the classifier: its bank's in-flight count falls (R440). -/
def Dev.leaveClass (d : Dev) (fid stage : Nat) : Dev :=
  match d.frame? fid with
  | some f => if f.stage = 0 then (d.flight f.bank false).setFrame fid { f with stage := stage } else d
  | none => d

/-- A whole frame dropped that has no copy yet: it leaves the classifier, counts its reason, and stays only for the mirror
copies of its drop. -/
def Dev.dropFrame (d : Dev) (fid reason : Nat) : Dev :=
  match d.frame? fid with
  | none => d
  | some f =>
    let d1 := (d.leaveClass fid 1).onFrame fid
      (fun x => { x with dead := true, pool := if x.declared.isNone then poolFor x.len else x.pool })
    let d2 := (d1.countDrop f none reason).mirrorDrop fid reason 0xFFFF
    d2.settleFrame fid

/-- A copy that is no longer in a queue dropped with a reason: its entry and Headroom are given back (R466). -/
def Dev.dropCopy (d : Dev) (c : Copy) (reason : Nat) : Dev :=
  let d1 := ({ d with net := { d.net with entries := d.net.entries - 1 } }).headroom c.kind false
  match d1.frame? c.fid with
  | none => d1
  | some f =>
    let d2 := d1.countDrop f (some c) reason
    let d3 := if c.kind = 3 then d2.bump (MIR_DROPPED c.session) 1
      else d2.mirrorDrop c.fid reason (if c.q < 2304 then c.q / 9 else 0xFFFF)
    d3.settleFrame c.fid

/-- Every queued copy of a frame dropped with a reason. -/
def Dev.dropCopies (d : Dev) (fid reason : Nat) : Dev :=
  let gone := d.net.queues.flatMap (fun q => q.2.filter (fun c => c.fid == fid))
  let d1 := gone.foldl (fun e c => e.setQueue c.q ((e.queue c.q).filter (fun x => !(x.fid == fid)))) d
  gone.foldl (fun e c => e.dropCopy c reason) d1

/-- The head copy of a queue removed and dropped. -/
def Dev.dropHead (d : Dev) (q reason : Nat) : Dev :=
  match d.queue q with
  | c :: r => (d.setQueue q r).dropCopy c reason
  | [] => d

/-! ### Buffers for frames -/

/-- A frame served from pool `k`: it is placed there, its copies are accounted at that size, and ingress occupancy is judged
(R461, R464, R470). -/
def Dev.placeFrame (d : Dev) (fid k i : Nat) : Dev :=
  match d.frame? fid with
  | none => d
  | some f =>
    let d1 := d.setFrame fid { f with buf := some (k, i), stage := 2, unserved := false }
    let d2 := if k = f.pool then d1 else
      (d1.net.queues.map (·.1)).foldl
        (fun e q => if (e.queue q).any (fun c => c.fid == fid) then
            e.setQueue q ((e.queue q).map (fun c => if c.fid = fid then { c with size := bufSize k } else c)) else e) d1
    d2.pfcJudge f.lp f.cls

/-- The frames that ask for a buffer of pool `k`, in the rotation from requester `start` (R462). -/
def Dev.requests (d : Dev) (k start : Nat) : List Nat :=
  (List.range 17).flatMap (fun r =>
    (d.net.frames.filter (fun e => match e.2 with
      | some f => f.stage == 1 && f.buf.isNone && !f.unserved && f.pool == k && f.requester == (start + r) % 17 && d.refs e.1 != 0
      | none => false)).map (·.1))

/-- One request of pool `k` served, or left for SPILL; how many are served after it. -/
def Dev.serve (d : Dev) (k fid n : Nat) : Dev × Nat :=
  match d.frame? fid with
  | none => (d, n)
  | some f =>
    if d.available k f.guar = 0 then (d.setFrame fid { f with unserved := true }, n)
    else
      let r := d.takeBuf k
      match r.2 with
      | some i => (r.1.placeFrame fid k i, n + 1)
      | none => (r.1.onFrame fid (fun x => { x with unserved := true }), n)

/-- One cycle of pool `k`'s allocator: it takes the requests in its rotation until it has served 4 (R462). -/
def Dev.bufferRequest (d : Dev) (k start : Nat) : Dev :=
  ((d.requests k start).foldl (fun (e : Dev × Nat) f => if e.2 = 4 then e else e.1.serve k f e.2) (d, 0)).1

/-- An unserved request of pool `k`: it moves to the next larger pool where SPILL lets it, else the frame's copies are dropped
with POOL_EMPTY (R463). -/
def Dev.spillOne (d : Dev) (k fid : Nat) : Dev :=
  if k < 3 ∧ d.fld (RINK_POOL_CTRL (k + 2)) RINK_POOL_CTRL_SPILL = 1 then
    (d.bump RINK_SPILLS 1).onFrame fid (fun x => { x with pool := k + 1, unserved := false })
  else
    ((d.onFrame fid (fun x => { x with dead := true, unserved := false })).dropCopies fid drPOOL_EMPTY).settleFrame fid

/-- The unserved requests of pool `k` (R463). -/
def Dev.spill (d : Dev) (k : Nat) : Dev :=
  (d.net.frames.filter (fun e => match e.2 with | some f => f.unserved && f.pool == k | none => false)).foldl
    (fun e f => e.spillOne k f.1) d

/-! ### What the module originates -/

/-- A frame that the module originates, or the host injects, for a named queue: it is admitted like any other copy and asks
for its buffer as requester 16 (R462, R499). The reason of a refusal, if any. -/
def Dev.originate (d : Dev) (q : Nat) (b : List Byte) (g : Frame → Frame) : Dev × Option Nat :=
  let body := padMin b
  let f : Frame := { lp := 256, stamp := twTrunc d.coreTime, steps := d.tk.stepSum, era := d.tk.era, orig := body, body := body, tail := true,
                     bank := d.epochOf d.coreTime, declared := some (body.length + 4), stage := 1, pool := poolFor (body.length + 4),
                     cls := min (q % 9) 7, pcp := min (q % 9) 7 }
  let r := d.newFrame (g f)
  let o := r.1.offer r.2 { fid := r.2, q := q }
  match o.2 with
  | none => (o.1, none)
  | some x => ((o.1.mirrorDrop r.2 x (if q < 2304 then q / 9 else 0xFFFF)).settleFrame r.2, some x)

end Sys2Proof.Machine
end

