-- ==== Sys2Proof/Machine/Frer.lean ====
section
/-! DEFINITION. Sequence generation and recovery of streams (R386 to R392, R400 to R402). -/

namespace Sys2Proof.Machine

def Dev.rcvy (d : Dev) (s : Nat) : RcvySt := Tbl.get d.net.rcvy {} s
def Dev.setRcvy (d : Dev) (s : Nat) (x : RcvySt) : Dev := { d with net := { d.net with rcvy := Tbl.set d.net.rcvy {} s x } }

/-- FRER_SEQ: GEN_NEXT above the last sequence number that recovery passed (R400). -/
def Dev.showSeq (d : Dev) (s : Nat) : Dev := d.putNum (FRER_SEQ s) (Tbl.get d.net.gen 0 s * 0x10000 + (d.rcvy s).recov)

/-- A recovery reset (R389, R402): any number is taken next. -/
def Dev.rcvyReset (d : Dev) (s : Nat) : Dev :=
  ((((d.setRcvy s { d.rcvy s with first := true, hist := 0, shifts := 0 }).bump (FRER_RESETS s) 1).live (FRER_STATUS s) FRER_STATUS_RESET true).stick
    (FRER_STATUS s) FRER_STATUS_RESET).stopT (tmr 2 s)

/-- What recovery decides of a number: 0 it passes, 1 a duplicate, 2 rogue; with the history after it, whether it passed out
of order, and how many numbers left the history never received (IEEE 802.1CB, vector and match algorithms). -/
structure RcvyRes where
  verdict : Nat
  st : RcvySt
  ooo : Bool := false
  lost : Nat := 0
deriving DecidableEq, Repr

/-- The distance from the last number taken, from -32,768 to 32,767. -/
def seqDelta (recov n : Nat) : Int := signedOf 16 ((n + 0x10000 - recov % 0x10000) % 0x10000)

/-- Numbers that leave a history of `h` as it moves by `k`, never received although the window had covered them. -/
def lostBits (h hist shifts k : Nat) : Nat :=
  ((List.range k).filter (fun i => let p := h - 1 - i; decide (p ≤ shifts) && bitsAt hist p 1 == 0)).length

/-- Recovery of number `n` (R389): `matchAlg` chooses the match algorithm, `h` is HISTORY. -/
def recover (matchAlg : Bool) (h : Nat) (x : RcvySt) (n : Nat) : RcvyRes :=
  let k := seqDelta x.recov n
  if x.first then ⟨0, ⟨false, n, 1, 0⟩, false, 0⟩
  else if matchAlg then
    if k = 0 then ⟨1, x, false, 0⟩ else ⟨0, { x with recov := n, hist := 1 }, k != 1, 0⟩
  else if (h : Int) ≤ k ∨ k ≤ -(h : Int) then ⟨2, x, false, 0⟩
  else if k ≤ 0 then
    let i := (-k).toNat
    if bitsAt x.hist i 1 = 1 then ⟨1, x, false, 0⟩ else ⟨0, { x with hist := x.hist + 2 ^ i }, true, 0⟩
  else
    let m := k.toNat
    ⟨0, ⟨false, n, (x.hist * 2 ^ m + 1) % 2 ^ h, x.shifts + m⟩, k != 1, lostBits h x.hist x.shifts m⟩

/-- A frame numbered by its stream (R388). -/
def Dev.generate (d : Dev) (fid s : Nat) : Dev :=
  if d.fld (FRER_CTRL s) FRER_CTRL_SEQ_GEN = 1 then
    let n := Tbl.get d.net.gen 0 s
    ((({ d with net := { d.net with gen := Tbl.set d.net.gen 0 s ((n + 1) % 0x10000) } }).bump (FRER_GENERATED s) 1).onFrame fid
      (fun f => { f with seqNo := some n })).showSeq s
  else d

/-- A frame that recovery of its stream takes: it passes, with its R-TAG popped where POP_RTAG says so, or the reason for which
it is dropped (R389, R391). A passed frame is then numbered (R392). -/
def Dev.recoverFrame (d : Dev) (fid s : Nat) : Dev × Option Nat :=
  match d.frame? fid with
  | none => (d, none)
  | some f =>
    let c := FRER_CTRL s
    let pass (e : Dev) : Dev :=
      ((((e.bump (FRER_PASSED s) 1).live (FRER_STATUS s) FRER_STATUS_RESET false).startT (tmr 2 s) (d.fld c FRER_CTRL_RESET_MS * ms1)).onFrame fid
        (fun x => { x with rcvyWait := false, popR := x.popR || d.fld c FRER_CTRL_POP_RTAG == 1 })).generate fid s
    match rtagOf (if f.lp < 256 then d.fld (MAC_TAG f.lp) MAC_TAG_S_TPID else 0x88A8) f.body with
    | none =>
      let d1 := (d.bump (FRER_TAGLESS s) 1).onFrame fid (fun x => { x with rcvyWait := false })
      if d.fld c FRER_CTRL_TAGLESS_ACT = 1 then (d1, some drFRER_TAGLESS) else (d1.generate fid s, none)
    | some n =>
      let r := recover (d.fld c FRER_CTRL_ALG == 1) (d.fld c FRER_CTRL_HISTORY) (d.rcvy s) n
      if r.verdict = 1 then ((d.bump (FRER_DISCARDED s) 1).onFrame fid (fun x => { x with rcvyWait := false }), some drFRER_DUP)
      else if r.verdict = 2 then
        (((d.bump (FRER_ROGUE s) 1).pulse (FRER_STATUS s) FRER_STATUS_ROGUE).onFrame fid (fun x => { x with rcvyWait := false }), some drFRER_ROGUE)
      else
        let d1 := ((d.setRcvy s r.st).bump (FRER_LOST s) r.lost).showSeq s
        (pass (if r.ooo then d1.bump (FRER_OOO s) 1 else d1), none)

/-- The stream of a frame at the end of its pass: recovery now or at the tail (R390), or numbering alone. -/
def Dev.streamPass (d : Dev) (fid s : Nat) : Dev × Option Nat :=
  match d.frame? fid with
  | none => (d, none)
  | some f =>
    let c := FRER_CTRL s
    let d1 := d.setFrame fid { f with stream := some s }
    if d.fld c FRER_CTRL_RECOVER = 1 then
      if d.fld c FRER_CTRL_RCVY_CARVE = 1 ∨ f.tail then d1.recoverFrame fid s
      else (d1.setFrame fid { f with stream := some s, rcvyWait := true }, none)
    else (d1.generate fid s, none)

end Sys2Proof.Machine
end

