-- ==== Sys2Proof/Machine/Parse.lean ====
section
/-! DEFINITION. One parse of a frame, the keys of its profile, the lookups and the hash (R406 to R418, R429). -/

namespace Sys2Proof.Machine

/-- An entry of the parse list (R410), with the header's length and the node that parsed it. -/
structure PEnt where
  hdr : Nat
  cls : Nat
  start : Nat
  len : Nat
  chk : Nat
deriving DecidableEq, Repr

/-- What a parse yields: the list, the profile, PARSE_DEPTH and LEN_CONFLICT; or it waits for bytes not yet received. -/
structure Parsed where
  list : List PEnt := []
  profile : Nat := 0
  depth : Bool := false
  lenc : Bool := false
  wait : Bool := false
deriving DecidableEq, Repr

/-- The end of an entry's header. -/
def PEnt.stop (e : PEnt) : Nat := e.start + e.len

/-- Where the datagram of an IPv4 or IPv6 header ends: by its CLASS (2 IPv4, 3 IPv6). -/
def dgramEnd (b : List Byte) (cls start : Nat) : Nat :=
  if cls = 2 then start + be16 b (start + 2) else start + 40 + be16 b (start + 4)

/-- The header's length (R408). -/
def headerLen (n : Nat) (b : List Byte) (o : Nat) : Nat :=
  let x := byteAt b (o + nLenOff n)
  let v := if nLenMode n = 0 then 0 else if nLenMode n = 1 then x % 16 else if nLenMode n = 2 then x / 16 else x
  nLenBase n + v * 2 ^ nLenScale n

/-- The first byte past those that a node reads to judge a header: its length byte and, where it has transitions, its
selector. -/
def readEnd (n o : Nat) : Nat :=
  max (if nLenMode n = 0 then 0 else o + nLenOff n + 1) (if nTrCount n = 0 then 0 else o + nSelOff n + nSelW n + 1)

/-- The next node (R409). -/
def nextNode (bk : Bank) (n : Nat) (b : List Byte) (o : Nat) : Nat :=
  let sel := beNat (slice b (o + nSelOff n) (nSelW n + 1))
  match ((List.range (nTrCount n)).map (fun k => bk.tran ((nTrBase n + k) % 4096))).find? (fun t => sel &&& tMask t == tValue t) with
  | some t => tNext t
  | none => nDefault n

/-- Whether an end given by an IP header contradicts the frame end, padding excepted (R412). -/
def endBad (len e : Nat) : Bool := e != len && !(len == 60 && decide (e < len))

/-- LEN_CONFLICT under a node's CHK (R412); the frame end counts only once the tail is in. -/
def chkBad (n : Nat) (b : List Byte) (tail : Bool) (o l : Nat) (list : List PEnt) : Bool :=
  if nChk n = 1 then
    decide (be16 b (o + 2) < l) || (tail && endBad b.length (o + be16 b (o + 2)))
  else if nChk n = 2 then
    be16 b (o + 4) == 0 || (tail && endBad b.length (o + 40 + be16 b (o + 4)))
  else if nChk n = 3 then
    decide (be16 b (o + 4) < 8) ||
      (match list.reverse.find? (fun e => e.cls == 2 || e.cls == 3) with
       | some e => decide (dgramEnd b e.cls e.start < o + be16 b (o + 4))
       | none => false)
  else false

/-- The parse from node `k` at byte `o` (R406 to R413): `fuel` is the number of headers that may still be recorded. -/
def parseFrom (bk : Bank) (b : List Byte) (tail : Bool) : Nat → Nat → Nat → Parsed → Parsed
  | 0, _, _, p => { p with depth := true }
  | fuel + 1, k, o, p =>
    let n := bk.node k
    if 256 < readEnd n o then { p with depth := true }
    else if b.length < readEnd n o then (if tail then { p with lenc := true } else { p with wait := true })
    else
      let l := headerLen n b o
      if l = 0 then { p with lenc := true }
      else if b.length < o + l then (if tail then { p with lenc := true } else { p with wait := true })
      else
        let q : Parsed :=
          { p with list := p.list ++ [⟨nHdr n, nClass n, o, l, nChk n⟩],
                   profile := if nPset n = 1 then nProfile n else p.profile,
                   lenc := p.lenc || chkBad n b tail o l p.list }
        let m := nextNode bk n b o
        if m = 0xFF then q
        else if 256 < o + l then { q with depth := true }
        else parseFrom bk b tail fuel m (o + l) q

/-- The parse of a frame: from node 0 at byte 0, up to 16 headers. -/
def parseFrame (bk : Bank) (b : List Byte) (tail : Bool) : Parsed := parseFrom bk b tail 16 0 0 {}

/-- The declared length by items 1 to 3 of R414, and whether item 2 gave it. -/
def declaredLen (b : List Byte) (tail : Bool) (list : List PEnt) (maxLen : Nat) : Nat × Bool :=
  if tail then (b.length + 4, false)
  else
    match list.find? (fun e => e.chk == 1 || e.chk == 2) with
    | some e => (max 64 ((if e.chk = 1 then dgramEnd b 2 e.start else dgramEnd b 3 e.start) + 4), true)
    | none => (maxLen, false)

/-! ### Keys and lookups -/

/-- The metadata of a pass (R417). -/
structure MetaIn where
  lp : Nat
  vid : Option Nat
  pcp : Nat
  pass : Nat
  user : Nat
  profile : Nat
deriving DecidableEq, Repr

/-- The value of a metadata code, none where the frame has none (R418). -/
def MetaIn.value (m : MetaIn) (code : Nat) : Option Nat :=
  if code = 0 then some m.lp else if code = 1 then m.vid else if code = 2 then some m.pcp else if code = 3 then some m.pass
  else if code = 4 then some m.user else if code = 5 then some m.profile else none

/-- The header entry that a key field names. -/
def fieldHeader (p : Parsed) (kd k : Nat) : Option PEnt :=
  if kfKind kd k = 1 then p.list.find? (fun e => e.hdr == kfId kd k)
  else if kfKind kd k = 2 then p.list.reverse.find? (fun e => e.hdr == kfId kd k)
  else none

/-- Field `k` of a key: its value, or none where it is missing (R418). -/
def keyField (p : Parsed) (b : List Byte) (m : MetaIn) (kd k : Nat) : Option Nat :=
  let w := kfWidth kd k
  if kfKind kd k = 3 then (m.value (kfId kd k)).map (fun v => v % 2 ^ w)
  else
    match fieldHeader p kd k with
    | some e =>
      let o := e.start + kfOff kd k
      let n := (kfSkip kd k + w + 7) / 8
      if 256 < o + n ∨ b.length < o + n then none
      else some (bitsAt (beNat (slice b o n)) (8 * n - kfSkip kd k - w) w)
    | none => none

/-- Whether a key field lies in bytes of the window not yet received. -/
def keyWaits (p : Parsed) (b : List Byte) (kd : Nat) : Bool :=
  (List.range 16).any (fun k =>
    match fieldHeader p kd k with
    | some e =>
      let z := e.start + kfOff kd k + (kfSkip kd k + kfWidth kd k + 7) / 8
      decide (b.length < z ∧ z ≤ 256)
    | none => false)

/-- The fields of a key in order, the first most significant; missing fields contribute zeros (R418). -/
def keyBits (p : Parsed) (b : List Byte) (m : MetaIn) (kd : Nat) : Nat :=
  (List.range 16).foldl (fun a k => a * 2 ^ kfWidth kd k + (keyField p b m kd k).getD 0) 0

/-- The exact key of a definition, or none where a field is missing. -/
def exactKey (p : Parsed) (b : List Byte) (m : MetaIn) (kd : Nat) : Option Nat :=
  if (List.range 16).all (fun k => kfKind kd k == 0 || (keyField p b m kd k).isSome) then some (keyBits p b m kd) else none

/-- The ternary key of a definition: its fields above 16 presence bits (R418). -/
def ternKey (p : Parsed) (b : List Byte) (m : MetaIn) (kd : Nat) : Nat :=
  keyBits p b m kd * 0x10000 +
    (List.range 16).foldl (fun a k => a * 2 + (if kfKind kd k != 0 && (keyField p b m kd k).isSome then 1 else 0)) 0

/-- An exact lookup in bank `bk`: ACT_PTR and ACT_ARG of the entry it hits (R419). -/
def exactLookup (l : List ExactEntry) (bk kd : Nat) (key : Option Nat) : Option (Nat × Nat) :=
  match key with
  | some v => (l.find? (fun e => e.is kd v && seen e.banks bk)).map (fun e => (e.ptr, e.arg))
  | none => none

/-- The ternary lookup: the lowest slot visible in bank `bk` that matches (R421). -/
def ternLookup (t : Tbl TernRule) (bk key : Nat) : Option (Nat × Nat) :=
  (t.find? (fun s => seen s.2.banks bk && (key &&& s.2.mask) == (s.2.key &&& s.2.mask))).map (fun s => (s.2.ptr, s.2.arg))

/-! ### The symmetric hash (R429) -/

/-- A pair of equal-length parts: source first, or the lower value first under SYM. -/
def hashPair (sym : Bool) (s d : List Byte) : List Byte := if sym && decide (beNat d < beNat s) then d ++ s else s ++ d

/-- Bytes of a part, or none where any lies beyond the window or the frame end. -/
def hashPart (b : List Byte) (o n : Nat) : Option (List Byte) :=
  if o + n ≤ 256 ∧ o + n ≤ b.length then some (slice b o n) else none

/-- The entries of a list from the hashed IP header on: the first IP header, or with INNER the first after the last tunnel. -/
def fromHashedIp (inner : Bool) (l : List PEnt) : List PEnt :=
  let isIp (e : PEnt) : Bool := e.cls == 2 || e.cls == 3
  let tail := if inner && l.any (fun e => e.cls == 5) then (l.reverse.takeWhile (fun e => e.cls != 5)).reverse else l
  tail.dropWhile (fun e => !isIp e)

/-- The byte string of R429 under CLS_HASH_CTRL `c`. -/
def hashString (c : Nat) (b : List Byte) (l : List PEnt) (vid : Option Nat) : List Byte :=
  let on (k : Nat) : Bool := bitsAt c k 1 == 1
  let sym := on 6
  let ip := fromHashedIp (on 5) l
  let mac := match l with
    | e :: _ => if on 0 then
        (match hashPart b e.start 12 with | some x => hashPair sym (slice x 6 6) (slice x 0 6) | none => []) else []
    | [] => []
  let vlan := if on 1 then (match vid with | some v => beBytes 2 v | none => []) else []
  let before : List PEnt := match ip with
    | e :: _ => l.filter (fun x => decide (x.start < e.start))
    | [] => l
  let etype := if on 2 then
      (match before.reverse.find? (fun e => e.cls == 1 || e.cls == 6) with
       | some e => (hashPart b (e.stop - 2) 2).getD []
       | none => []) else []
  let ipp := if on 3 then
      (match ip with
       | e :: _ =>
         if e.cls = 2 then
           (match hashPart b e.start 20 with
            | some x => hashPair sym (List.replicate 12 0 ++ slice x 12 4) (List.replicate 12 0 ++ slice x 16 4) ++ slice x 9 1
            | none => [])
         else
           (match hashPart b e.start 40 with
            | some x => hashPair sym (slice x 8 16) (slice x 24 16) ++ slice x 6 1
            | none => [])
       | [] => []) else []
  let l4 := if on 4 then
      (match ip with
       | _ :: e :: _ => if e.cls = 4 then
           (match hashPart b e.start 4 with | some x => hashPair sym (slice x 0 2) (slice x 2 2) | none => []) else []
       | _ => []) else []
  beBytes 4 (bitsAt c 16 32) ++ mac ++ vlan ++ etype ++ ipp ++ l4

end Sys2Proof.Machine
end

