-- ==== Sys2Proof/Machine/Classify.lean ====
section
/-! DEFINITION. One pass of the classifier: fixed logic, parse, lookups, action programs, and what becomes of the frame
(R403 to R405, R411, R413, R423 to R432, R442, R443, R510 to R512). -/

namespace Sys2Proof.Machine

/-! ### Action programs -/

/-- The destination set of a pass (R425). -/
inductive Dest where
  | none
  | port (n : Nat)
  | list (i : Nat)
  | noMember
  | drop (tag : Nat)
  | punt (reason : Nat)
deriving DecidableEq, Repr

/-- What the programs of a pass have decided so far. -/
structure Prog where
  dest : Dest := .none
  copies : List Nat := []
  mirrors : List Nat := []
  q : Option Nat := none
  tags : Option Nat := none
  udata : Nat := 0
  colour : Nat := 0
  yellowed : Bool := false
  dei : Bool := false
  yq : Option Nat := none
  stream : Option Nat := none
  decap : Nat := 0
  encap : Option (Nat × List Byte) := none
  recirc : Bool := false
  nPol : Nat := 0
  nCnt : Nat := 0
  nDec : Nat := 0
  stop : Bool := false
  red : Bool := false
deriving DecidableEq, Repr

/-- What the programs of a pass read (R424): the bank, lookups that hit, the pass, the parse, the length and the hash. -/
structure ProgIn where
  bk : Bank
  hits : List Bool
  tern : Bool
  pass : Nat
  list : List PEnt
  bad : Bool
  len : Nat
  hash : Nat
deriving DecidableEq, Repr

/-- A count in CLS_ACT_FAULT, with FAULT_STICKY (R423, R425, R449). -/
def Dev.actFault (d : Dev) : Dev := (d.bump CLS_ACT_FAULT 1).pulse CLS_STATUS CLS_STATUS_FAULT
def Dev.actExcess (d : Dev) : Dev := d.bump CLS_ACT_EXCESS 1

/-- Byte `k` of an action word. -/
def wb (w k : Nat) : Nat := bitsAt w (8 * k) 8

/-- Bytes of `n` action words from index `i`. -/
def Bank.actBytesAt (b : Bank) (i n : Nat) : List Byte := (List.range n).flatMap (fun k => leBytes 8 (b.act (i + k)))

/-- The members of a member list, or none where the list is at fault (R429). -/
def Bank.members (b : Bank) (i : Nat) : Option (List Nat) :=
  let n := bitsAt (b.act i) 0 9
  if n = 0 ∨ 256 < n ∨ 65536 < i + 1 + (n + 7) / 8 then none
  else some (((b.actBytesAt (i + 1) ((n + 7) / 8)).take n).map (·.toNat))

/-- The template at an index: its header word and bytes, or none where it does not exist (R428). -/
def Bank.template (b : Bank) (i : Nat) : Option (Nat × List Byte) :=
  let h := b.act i
  let n := bitsAt h 0 8
  if n < 14 ∨ 64 < n ∨ 65536 < i + 1 + (n + 7) / 8 then none else some (h, (b.actBytesAt (i + 1) ((n + 7) / 8)).take n)

/-- The condition of SKIP_IF (R424). -/
def skipCond (i : ProgIn) (c k : Nat) : Bool :=
  if c = 0 then i.hits.getD k false else if c = 1 then i.tern else if c = 2 then i.pass == k else if c = 3 then i.bad else false

/-- FWD_HASH: a member of those UP, or none (R430). -/
def Dev.hashMember (d : Dev) (hash : Nat) (l : List Nat) : Dest :=
  let up := l.filter (fun n => d.lpUp n)
  match up[bitsAt hash 16 16 * up.length / 0x10000]? with
  | some n => .port n
  | none => .noMember

/-- Every micro-op but the ones that end a program or skip (R424, R425): the module and the decisions after it. -/
def Dev.microOp (d : Dev) (i : ProgIn) (arg : Nat) (p : Prog) (w : Nat) : Dev × Prog :=
  let op := wb w 0
  let b1 := wb w 1
  let h2 := bitsAt w 16 16
  let fwd (n : Nat) : Dev × Prog := if d.lpState n = lkUNUSED then (d.actFault, p) else (d, { p with dest := .port n })
  if op = 0x00 then (d, p)
  else if op = 0x10 then fwd b1
  else if op = 0x11 then fwd (arg % 256)
  else if op = 0x12 then (if 65536 < h2 + 8 then (d.actFault, p) else (d, { p with dest := .list h2 }))
  else if op = 0x13 then
    (match i.bk.members h2 with
     | some l => (d, { p with dest := d.hashMember i.hash l })
     | none => (d.actFault, p))
  else if op = 0x14 then (d, { p with dest := .drop h2 })
  else if op = 0x15 then (if b1 < 0x10 ∨ 0x3F < b1 then (d.actFault, p) else (d, { p with dest := .punt b1 }))
  else if op = 0x16 then
    (if b1 < 0x10 ∨ 0x3F < b1 then (d.actFault, p)
     else if 4 ≤ p.copies.length then (d.actExcess, p)
     else (d, { p with copies := p.copies ++ [b1] }))
  else if op = 0x20 then (if 7 < b1 then (d.actFault, p) else (d, { p with q := some b1 }))
  else if op = 0x22 then
    (let e := bitsAt w 8 40
     if editPop e = 3 ∨ editPush e = 3 ∨ bitsAt e 7 1 = 1 then (d.actFault, p) else (d, { p with tags := some e }))
  else if op = 0x30 then
    (if 4 ≤ p.nPol then (d.actExcess, p)
     else
       let r := d.police h2 i.len p.colour
       let first := r.2.2 && r.2.1 == 1 && p.colour == 0 && !p.yellowed
       let m := POL_MODE_ACT h2
       let yq := d.fld m POL_MODE_YELLOW_Q
       (r.1, { p with nPol := p.nPol + 1, colour := r.2.1, red := r.2.1 == 2, stop := r.2.1 == 2,
                      yellowed := p.yellowed || first,
                      dei := if first then d.fld m POL_MODE_YELLOW_DEI == 1 else p.dei,
                      yq := if first && decide (yq ≤ 7) then some yq else p.yq }))
  else if op = 0x31 then
    (let r := bitsAt w 16 24
     if 131071 < r then (d.actFault, p)
     else if 4 ≤ p.nCnt then (d.actExcess, p)
     else
       ((d.bump (CNT_RULE (1 + r / 128) (2 * (r % 128))) 1).bump (CNT_RULE (1 + r / 128) (2 * (r % 128) + 1)) i.len,
        { p with nCnt := p.nCnt + 1 }))
  else if op = 0x32 then
    (if 15 < b1 then (d.actFault, p)
     else if 2 ≤ p.mirrors.length then (d.actExcess, p)
     else (d, { p with mirrors := p.mirrors ++ [b1] }))
  else if op = 0x33 then
    (if 4095 < h2 then (d.actFault, p)
     else if p.stream.isSome then (d.actExcess, p)
     else (d, { p with stream := some h2 }))
  else if op = 0x40 then
    (let v := h2
     let m := bitsAt w 32 16
     (d, { p with udata := (p.udata &&& (0xFFFF ^^^ m)) ||| (v &&& m) }))
  else if op = 0x41 then (d, { p with recirc := true })
  else if op = 0x42 then
    (if b1 = 0 ∨ 15 < b1 ∨ i.list.length < b1 then (d.actFault, p)
     else if 1 ≤ p.nDec then (d.actExcess, p)
     else (d, { p with nDec := 1, decap := (i.list.getD (b1 - 1) ⟨0, 0, 0, 0, 0⟩).stop }))
  else if op = 0x43 then
    (match i.bk.template h2 with
     | none => (d.actFault, p)
     | some t => if p.encap.isSome then (d.actExcess, p) else (d, { p with encap := some t }))
  else (d.actFault, p)

/-- A program from word `pc`: at most `fuel` words are executed (R423). -/
def Dev.runProgram (d : Dev) (i : ProgIn) (arg : Nat) : Nat → Nat → Prog → Dev × Prog
  | 0, _, p => (d.actFault, p)
  | fuel + 1, pc, p =>
    if 65535 < pc then (d.actFault, p)
    else
      let w := i.bk.act pc
      if wb w 0 = 0x01 then (d, p)
      else if wb w 0 = 0x02 then (d, { p with stop := true })
      else if wb w 0 = 0x03 then
        if wb w 3 = 0 ∨ 15 < wb w 3 ∨ 3 < wb w 1 then Dev.runProgram d.actFault i arg fuel (pc + 1) p
        else Dev.runProgram d i arg fuel (if skipCond i (wb w 1) (wb w 2) then pc + 1 + wb w 3 else pc + 1) p
      else
        let r := d.microOp i arg p w
        if r.2.stop then r else Dev.runProgram r.1 i arg fuel (pc + 1) r.2

/-- The programs of a pass in order, each from its ACT_PTR with its ACT_ARG (R423). -/
def Dev.runPrograms (d : Dev) (i : ProgIn) (l : List (Nat × Nat)) (p : Prog) : Dev × Prog :=
  l.foldl (fun r x => if r.2.stop then r else r.1.runProgram i x.2 32 x.1 r.2) (d, p)

/-! ### Punts (R442, R443) -/

/-- The credit of a punt reason's limiter, in 2^-32 frame. -/
def Dev.puntCredit (d : Dev) (r : Nat) : Nat :=
  (Tbl.get d.cls.punt none r).getD (d.fld (CLS_PUNT_CTRL r) CLS_PUNT_CTRL_BURST * 0x100000000)

/-- A punt or host copy of a frame under a reason: made where a frame of credit remains, else refused. -/
def Dev.puntCopy (d : Dev) (fid r kind : Nat) : Dev × Bool :=
  if 0x100000000 ≤ d.puntCredit r ∧ d.fld (CLS_PUNT_CTRL r) CLS_PUNT_CTRL_RATE ≠ 0 then
    let d1 := { d with cls := { d.cls with punt := Tbl.set d.cls.punt none r (some (d.puntCredit r - 0x100000000)) } }
    ((d1.bump (CLS_PUNT_SENT r) 1).letIn fid
      { fid := fid, q := pqOf (d.fld (CLS_PUNT_CTRL r) CLS_PUNT_CTRL_PQ), kind := kind, reason := r }, true)
  else (d.bump (CLS_PUNT_LIMITED r) 1, false)

/-- A frame punted: dropped with PUNT_LIMIT where its limiter has no credit. -/
def Dev.puntFrame (d : Dev) (fid r : Nat) : Dev :=
  let x := d.puntCopy fid r 1
  if x.2 then x.1 else x.1.dropFrame fid drPUNT_LIMIT

/-- The limiters at a refill tick (R443). -/
def Dev.limiterTick (d : Dev) : Dev :=
  let t := d.cls.punt.map (fun k => (k.1, k.2.map (fun c =>
    min (d.fld (CLS_PUNT_CTRL k.1) CLS_PUNT_CTRL_BURST * 0x100000000)
      (c + d.fld (CLS_PUNT_CTRL k.1) CLS_PUNT_CTRL_RATE * 1024 * 0x100000000 / 1000000000))))
  { d with cls := { d.cls with punt := t },
           net := { d.net with dropCredit := d.net.dropCredit.map (fun c =>
             min (64 * 0x100000000) (c + d.fld CNT_PC_CTRL CNT_PC_CTRL_DROP_RATE * 1024 * 0x100000000 / 1000000000)) } }

/-! ### Fixed logic (R404) -/

/-- What the fixed logic makes of a first pass: nothing, an operation on a forwarded event message (R157), a message
terminated for an engine, a message discarded, or a punt. -/
inductive Fixed where
  | ordinary
  | event (op : Nat)
  | terminated (t : Term)
  | discard
  | punt (reason : Nat)
  | wait
deriving DecidableEq, Repr

abbrev macSlow : Nat := 0x0180C2000002

/-- The Piste whose domain a PTP message names: only an enabled one has a domain, and A decides where both do (R157). -/
def Dev.pisteOf (d : Dev) (dom : Nat) : Option Nat :=
  let is (k : Nat) : Bool := d.fld (PTE_PISTE_CTRL k) PTE_PISTE_CTRL_ENABLE == 1 && d.fld (PTE_PISTE_CTRL k) PTE_PISTE_CTRL_DOMAIN == dom
  if is 1 then some 1 else if is 2 then some 2 else none

/-- The role of a port (0x100 + n) or trunk (0x300, 0x301) for Piste 1 or 2 (R205). -/
def Dev.role (d : Dev) (inst k : Nat) : Nat :=
  d.fld (PTE_PORT_ROLE inst) (if k = 1 then PTE_PORT_ROLE_ROLE_A else PTE_PORT_ROLE_ROLE_B)

abbrev roleDISABLED : Nat := 0
abbrev roleTC : Nat := 1
abbrev roleCLOCK : Nat := 2
abbrev roleMASTER_ONLY : Nat := 3
abbrev roleSLAVE_ONLY : Nat := 4

def Dev.profile (d : Dev) (k : Nat) : Nat := d.fld (PTE_PISTE_CTRL k) PTE_PISTE_CTRL_PROFILE

/-- Whether a profile uses the peer-to-peer delay mechanism (R151). -/
def p2pProfile (p : Nat) : Bool := p == 1 || p == 5

/-- What R157 says of an event message of type `t` under a role: none if terminated, else its operation. -/
def roleOp (role : Nat) (p2p : Bool) (t : Nat) : Option Nat :=
  if role = roleDISABLED then some opNONE
  else if role = roleTC then
    if t = 0 then some opRESIDENCE
    else if t = 1 then some (if p2p then opNONE else opRESIDENCE)
    else if p2p then none else some opNONE
  else none

/-- Whether R157 terminates a general message. -/
def roleTakesGeneral (role : Nat) (p2p : Bool) (t : Nat) : Bool :=
  if role = roleDISABLED then false else if role = roleTC then p2p && t == 0xA else true

/-- The source address of a PTP message's IP header. -/
def ptpSource (b : List Byte) (l : PtpLoc) : Nat :=
  if l.trans = 1 then beNat (slice b (l.ip + 12) 4) else if l.trans = 2 then beNat (slice b (l.ip + 8) 16) else 0

/-- The fixed logic on a frame received on port `f.lp` (R122, R157, R160, R253, R351, R404, R657). -/
def Dev.fixedLogic (d : Dev) (f : Frame) : Fixed :=
  let b := f.body
  let m := MAC_TAG f.lp
  let sT := d.fld m MAC_TAG_S_TPID
  let outer := outerTpid (d.fld m MAC_TAG_TAG_MODE) sT
  let dst := beNat (slice b 0 6)
  let typ := be16 b 12
  let term (kind : Nat) (o : Nat) (n : Nat) (tr src piste : Nat) : Fixed :=
    if f.tail then
      .terminated { kind := kind, lp := f.lp, stamp := f.stamp, steps := f.steps, bad := f.unc || f.var, bytes := slice b o n, trans := tr,
                    src := src, mac := beNat (slice b 6 6), piste := piste }
    else .wait
  if !f.tail && (decide (b.length < 60) || ptpWaits outer sT b) then .wait
  else
    match eventAt outer sT b with
    | some l =>
      let t := ptpType b l.at_
      (match d.pisteOf (byteAt b (l.at_ + 4)) with
       | some k =>
         (match roleOp (d.role (0x100 + f.lp) k) (p2pProfile (d.profile k)) t with
          | some o => .event o
          | none => term 0 l.at_ (ptpLen b l.at_) l.trans (ptpSource b l) k)
       | none => .event (if d.fld (PTE_PORT_ROLE (0x100 + f.lp)) PTE_PORT_ROLE_TC_OTHER = 1 ∧ t ≤ 1 then opRESIDENCE else opNONE))
    | none =>
      match generalAt outer sT b with
      | some l =>
        (match d.pisteOf (byteAt b (l.at_ + 4)) with
         | some k =>
           if roleTakesGeneral (d.role (0x100 + f.lp) k) (p2pProfile (d.profile k)) (ptpType b l.at_) then
             term 1 l.at_ (ptpLen b l.at_) l.trans (ptpSource b l) k
           else .ordinary
         | none => .ordinary)
      | none =>
        let x := pastTags sT b
        if be16 b x = 0x88B7 ∧ be16 b (x + 5) = 0x4352 ∧ beNat (slice b (x + 2) 3) = Config.mac.toNat / 0x1000000 then
          if d.fld (CRS_LINK_CTRL (0x100 + f.lp)) CRS_LINK_CTRL_LINK_EN = 0 then (if f.tail then .discard else .wait)
          else term 3 (x + 7) (b.length - (x + 7)) 0 0 0
        else if typ = 0x88B5 then term 4 0 b.length 0 0 0
        else if typ = 0x8809 ∧ dst = macSlow ∧ byteAt b 14 = 0x0A ∧ beNat (slice b 15 3) = 0x0019A7 then
          if d.fld (REFC_ESMC_CTRL f.lp) REFC_ESMC_CTRL_RX_EN = 1 then term 2 14 (b.length - 14) 0 0 0 else .ordinary
        else if typ = 0x88CC ∧ (dst = 0x0180C200000E ∨ dst = 0x0180C2000003 ∨ dst = 0x0180C2000000) ∧
            d.fld PRS_CTRL PRS_CTRL_LLDP_EN = 1 then .punt 3
        else if typ = 0x8809 ∧ dst = macSlow ∧ byteAt b 14 ≠ 0x0A ∧ d.fld PRS_CTRL PRS_CTRL_SLOW_EN = 1 then .punt 4
        else .ordinary

/-- A terminated message on its way to its engine; a PTP message beyond the engine's rate in a second is dropped (R154). -/
def Dev.terminate (d : Dev) (fid : Nat) (t : Term) : Dev :=
  let sec := twSec d.tk.time
  let n := if d.net.ptpSec = sec then d.net else { d.net with ptpSec := sec, ptpEvt := 0, ptpGen := 0 }
  let cnt := if t.kind = 0 then n.ptpEvt else if t.kind = 1 then n.ptpGen else 0
  if t.kind ≤ 1 ∧ 262144 ≤ cnt then ({ d with net := n }).dropFrame fid drPTP_ENGINE_FULL
  else
    let n1 := if t.kind = 0 then { n with ptpEvt := n.ptpEvt + 1 } else if t.kind = 1 then { n with ptpGen := n.ptpGen + 1 } else n
    let d1 := { d with net := { n1 with inbox := n1.inbox ++ [t] } }
    ((d1.leaveClass fid 1).onFrame fid (fun x => { x with dead := true })).settleFrame fid

/-! ### The pass -/

/-- The classification VLAN and priority of a frame at its port (R371). -/
def Dev.classVlan (d : Dev) (n : Nat) (b : List Byte) : Option Nat × Nat :=
  let m := MAC_TAG n
  let mode := d.fld m MAC_TAG_TAG_MODE
  if outerTpid mode (d.fld m MAC_TAG_S_TPID) (be16 b 12) then
    let tci := be16 b 14
    if tci % 0x1000 = 0 ∧ mode ≠ 2 then (some (d.fld m MAC_TAG_PVID), tci / 0x2000) else (some (tci % 0x1000), tci / 0x2000)
  else if mode = 2 then (none, d.fld m MAC_TAG_PCP)
  else (some (d.fld m MAC_TAG_PVID), d.fld m MAC_TAG_PCP)

/-- Whether the outer tag as received has DEI at 1 (R510). -/
def Dev.deiOf (d : Dev) (n : Nat) (b : List Byte) : Bool :=
  let m := MAC_TAG n
  outerTpid (d.fld m MAC_TAG_TAG_MODE) (d.fld m MAC_TAG_S_TPID) (be16 b 12) && bitsAt (be16 b 14) 12 1 == 1

/-- TSU_LAST_RX and its terms written together (R144). -/
def Dev.captureRx (d : Dev) (f : Frame) : Dev :=
  ((d.putNum (TSU_LAST_RX f.lp 0) (twWord0 f.stamp)).putNum (TSU_LAST_RX f.lp 1) (twWord1 f.stamp)).putNum (TSU_LAST_RX_TERMS f.lp) f.terms

/-- Whether an event message is recognised in a frame at its ingress port. -/
def Dev.isEvent (d : Dev) (f : Frame) : Bool :=
  let m := MAC_TAG f.lp
  (eventAt (outerTpid (d.fld m MAC_TAG_TAG_MODE) (d.fld m MAC_TAG_S_TPID)) (d.fld m MAC_TAG_S_TPID) f.body).isSome

/-- The comparisons of a pass with the frame end that wait for the tail (R412), after those of earlier passes. -/
def lateEnds (f : Frame) (p : Parsed) : List (Nat × Int) :=
  if f.tail then f.ipEnds
  else f.ipEnds ++ (p.list.filter (fun e => e.chk == 1 || e.chk == 2)).map
    (fun e => (dgramEnd f.body (e.chk + 1) e.start, (f.body.length : Int) - f.orig.length))

/-- The hash of a pass: of the frame as it then stands, by its parse list (R429). -/
def passHash (f : Frame) (p : Parsed) (vid : Option Nat) : Nat := crc32c (hashString f.hashCtl f.body p.list vid)

/-- What a first pass settles before its programs run: metadata, colour, declared length, hash and sampling; an event
message counts in TSU_EVT_RX and may be captured (R139, R141, R371, R414, R510, R596). Whether a frame injected under MODE 2, which has no receive
terms, is captured the manual does not say: its event messages are under CAPTURE 0b00, with no terms beside its flags, and under 0b01 nothing of it
is, DESIGN CHOICE (assumption 76). -/
def Dev.firstPass (d : Dev) (fid : Nat) (f : Frame) (p : Parsed) : Dev :=
  let v := d.classVlan f.lp f.body
  let dl := declaredLen f.body f.tail p.list (d.num (MAC_MAX_LEN f.lp))
  let lg := d.fld CNT_PC_CTRL CNT_PC_CTRL_SAMPLE_LOG2
  let sel := f.inject.isNone && lg != 31 && d.free % 2 ^ lg == 0
  let d1 := (if f.inject.isNone && lg != 31 then d.took else d).bump (PRS_FRAMES (f.lp / 16)) 1
  let d2 := if d.isEvent f then
      (let e := d1.bump (TSU_EVT_RX f.lp) 1
       if d.fld (TSU_CTRL f.lp) TSU_CTRL_CAPTURE = 0 then e.captureRx f else e)
    else d1
  d2.setFrame fid
    { f with vid := v.1, pcp := v.2, colour := (d.deiOf f.lp f.body).toNat, declared := some dl.1, byIp := dl.2, rxDecl := some dl.1,
             ipEnds := lateEnds f p, hash := passHash f p v.1, sampled := sel }

/-- The copies that a destination set names, with their queue and edit (R425, R427). -/
def destCopies (bk : Bank) (f : Frame) (fid q : Nat) (dst : Dest) (edit : Nat) : List Copy :=
  match dst with
  | .port n => [{ fid := fid, q := qOf n q, edit := edit }]
  | .list i =>
    ((List.range 256).filter (fun n => bitsAt (bk.act (i + n / 64)) (n % 64) 1 == 1 && n != f.lp)).map
      (fun n => { fid := fid, q := qOf n q, edit := if bitsAt (bk.act (i + 4 + n / 64)) (n % 64) 1 = 1 then editPop1 else edit })
  | _ => []

/-- The programs of a pass: the profile's default, those of the exact lookups that hit, and the ternary one (R423). -/
def Dev.passPrograms (d : Dev) (f : Frame) (p : Parsed) (m : MetaIn) : ProgIn × List (Nat × Nat) :=
  let bk := d.bank f.bank
  let pr := bk.prof p.profile
  let ex := (List.range 4).map (fun k => if pKd pr k = 0xFF then none
    else exactLookup d.cls.exact_ f.bank (pKd pr k) (exactKey p f.body m (bk.kd (pKd pr k))))
  let tn := if pTern pr = 0xFF then none else ternLookup d.cls.tern f.bank (ternKey p f.body m (bk.kd (pTern pr)))
  ({ bk := bk, hits := ex.map (·.isSome), tern := tn.isSome, pass := f.pass, list := p.list, bad := p.depth || p.lenc, len := f.decl,
     hash := passHash f p f.vid },
   (pDefAct pr, pDefArg pr) :: (ex.filterMap id ++ tn.toList))

/-- The frame given one more pass (R431, R454): its edits, DECAP and ENCAP are applied to it; it is padded once its tail is in. -/
def Dev.recirculate (d : Dev) (fid : Nat) (g : Prog) : Dev :=
  match d.frame? fid with
  | none => d
  | some f =>
    if 3 ≤ f.pass then (d.bump CLS_RECIRC_LIMIT 1).dropFrame fid drRECIRC_LIMIT
    else
      let b1 := f.body.drop g.decap
      let b2 := match g.encap with | some t => applyEncap t.1 t.2 b1 | none => b1
      let b3 := tagEdit (d.fld (MAC_TAG f.lp) MAC_TAG_S_TPID) f.pcp (g.tags.getD 0) b2
      let grow := g.encap.isSome && !f.growth
      let dl := f.decl - g.decap + (match g.encap with | some t => t.2.length | none => 0)
      if grow && decide (2048 ≤ d.net.hrGrowth) then d.dropFrame fid drHEADROOM_EMPTY
      else
        let d1 := if grow then { d with net := { d.net with hrGrowth := d.net.hrGrowth + 1 } } else d
        (d1.bump CLS_RECIRC 1).setFrame fid
          { f with body := if f.tail then padMin b3 else b3, pass := f.pass + 1,
                   started := ((d.tk.time : Int) - (d.tk.stepSum - f.steps)).toNat, udata := g.udata, recircd := true, growth := f.growth || grow,
                   declared := some dl, pool := poolFor dl }

/-- The end of a last pass: the frame leaves the classifier for the destinations decided, or is dropped (R411, R413, R425). -/
def Dev.dispatch (d : Dev) (fid : Nat) (g : Prog) (depth lenc : Bool) : Dev :=
  match d.frame? fid with
  | none => d
  | some f =>
    let dl := f.decl - g.decap + (match g.encap with | some t => t.2.length | none => 0)
    let q := (g.yq.orElse fun _ => g.q).getD f.pcp
    let d1 := (d.leaveClass fid 1).onFrame fid
      (fun x => { x with tags := g.tags.getD 0, decap := g.decap, encap := g.encap, declared := some dl, pool := poolFor dl, cls := q })
    let la := d.fld PRS_CTRL PRS_CTRL_LEN_ACT
    let da := d.fld PRS_CTRL PRS_CTRL_DEPTH_ACT
    let copies (e : Dev) : Dev := g.copies.foldl (fun e r => (e.puntCopy fid r 2).1) e
    if g.red then (copies d1).dropFrame fid drPOLICE_RED
    else if lenc && la == 0 then (copies d1).dropFrame fid drLEN_CONFLICT
    else if lenc && la == 1 then d1.puntFrame fid 2
    else if !lenc && depth && da == 0 || (lenc && la == 2 && depth && da == 0) then d1.puntFrame fid 1
    else if depth && da == 1 then (copies d1).dropFrame fid drPARSE_DEPTH
    else
      let d2 := copies d1
      let rec_ := match g.stream with | some s => d2.streamPass fid s | none => (d2, none)
      match rec_.2 with
      | some r => rec_.1.dropFrame fid r
      | none =>
        let d3 := rec_.1
        match g.dest with
        | .none => (d3.bump CLS_NO_DEST 1).dropFrame fid drNO_DEST
        | .noMember => d3.dropFrame fid drPORT_DOWN
        | .drop tag => ((d3.bump CLS_RULE_DROP 1).onFrame fid (fun x => { x with ruleTag := tag })).dropFrame fid drRULE_DROP
        | .punt r => d3.puntFrame fid r
        | dst =>
          match destCopies (d.bank f.bank) f fid q dst (g.tags.getD 0) with
          | [] => (d3.bump CLS_NO_DEST 1).dropFrame fid drNO_DEST
          | l => (l.foldl (fun e c => e.letIn fid c) d3).settleFrame fid

/-- A pass whose programs have been chosen: they run, mirror copies are made, and the frame recirculates or leaves. -/
def Dev.endPass (d : Dev) (fid : Nat) (f : Frame) (p : Parsed) : Dev :=
  let m : MetaIn := ⟨f.lp, f.vid, f.pcp, f.pass, f.udata, p.profile⟩
  let x := d.passPrograms f p m
  let r := d.runPrograms x.1 x.2 { udata := f.udata, colour := f.colour, yellowed := f.yellowed, dei := f.dei, yq := f.yq }
  let g := r.2
  let d1 := r.1.setFrame fid
    { f with colour := g.colour, yellowed := g.yellowed, dei := g.dei, yq := g.yq, udata := g.udata, depth := p.depth, lenc := p.lenc,
             stream := g.stream.orElse fun _ => f.stream, pool := poolFor f.decl }
  let s := f.lp / 16
  let d2 := if p.depth then (d1.bump (PRS_DEPTH s) 1).pulse PRS_STATUS PRS_STATUS_DEPTH else d1
  let d3 := if p.lenc then (d2.bump (PRS_LEN_CONFLICT s) 1).pulse PRS_STATUS PRS_STATUS_LEN else d2
  let d4 := if f.pass = 1 then d3.mirrorAll fid 0 0 0xFFFF 0 (fun k => d.mirSrc false k f.lp) else d3
  let d5 := g.mirrors.foldl (fun e k => if e.mirOn k then e.mirror fid k 1 0 0xFFFF 0 else e) d4
  if g.recirc && !g.red then
    let d6 := g.copies.foldl (fun e k => (e.puntCopy fid k 2).1) d5
    match g.stream with
    | some k =>
      let y := d6.streamPass fid k
      (match y.2 with | some w => y.1.dropFrame fid w | none => y.1.recirculate fid g)
    | none => d6.recirculate fid g
  else d5.dispatch fid g p.depth p.lenc

/-- Whether a key of the frame's profile lies in bytes not yet received. -/
def Dev.profileWaits (d : Dev) (f : Frame) (p : Parsed) : Bool :=
  let bk := d.bank f.bank
  let pr := bk.prof p.profile
  !f.tail && (List.range 5).any (fun k => pKd pr k != 0xFF && keyWaits p f.body (bk.kd (pKd pr k)))

/-- The instant at which a pass is late, 2 µs after its start (R405): the steps since the ingress stamp move it with network time. -/
def Dev.passEnd (d : Dev) (f : Frame) : Nat := ((f.started : Int) + 2000 * ns1 + (d.tk.stepSum - f.steps)).toNat

/-- A frame whose pass is not complete at its limit, dropped (R405). -/
def Dev.dropLate (d : Dev) (fid : Nat) : Dev := (d.bump CLS_PASS_LATE 1).dropFrame fid drPASS_LATE

/-- CLASSIFY_PASS of frame `fid` (R403): nothing happens while the parse or a key waits for bytes (R410), and a pass whose limit has gone by is
late. -/
def Dev.classifyPass (d : Dev) (fid : Nat) : Dev :=
  match d.frame? fid with
  | none => d
  | some f =>
    if f.stage ≠ 0 ∨ f.dead then d
    else if d.passEnd f < d.tk.time then d.dropLate fid
    else
      let p := parseFrame (d.bank f.bank) f.body f.tail
      let normal (e : Dev) (op : Nat) : Dev :=
        if p.wait || d.profileWaits f p then d
        else if f.pass = 1 then
          let e1 := (e.firstPass fid f p).onFrame fid (fun x => { x with op := op })
          (match e1.frame? fid with | some x => e1.endPass fid x p | none => e1)
        else
          let g := { f with ipEnds := lateEnds f p }
          (e.setFrame fid g).endPass fid g p
      if f.pass = 1 then
        match d.fixedLogic f with
        | .wait => d
        | .ordinary => normal d opNONE
        | .event op => normal d op
        | .discard =>
          (((d.bump (CRS_RX_OFF) 1).leaveClass fid 1).onFrame fid (fun x => { x with dead := true })).settleFrame fid
        | .terminated t =>
          let e := (d.firstPass fid f p).mirrorAll fid 0 0 0xFFFF 0 (fun k => d.mirSrc false k f.lp)
          e.terminate fid t
        | .punt r =>
          let e := (d.firstPass fid f p).mirrorAll fid 0 0 0xFFFF 0 (fun k => d.mirSrc false k f.lp)
          ((e.leaveClass fid 1).onFrame fid (fun x => { x with pool := poolFor x.decl, cls := x.pcp })).puntFrame fid r
      else normal d f.op

/-- PASS_LATE (R405): a frame still in its pass 2 µs after its start is dropped at that instant. -/
def Dev.passLate (d : Dev) (fid : Nat) : Dev :=
  match d.frame? fid with
  | none => d
  | some f =>
    if f.stage ≠ 0 ∨ f.dead then d
    else (d.advanceTo (d.passEnd f)).dropLate fid

end Sys2Proof.Machine
end

