-- ==== Sys2Proof/Machine/Egress.lean ====
section
/-! DEFINITION. The port time-stamp unit and the egress MAC: latency terms, launch commitment, what a copy carries, and its
last byte (R104 to R138, R372 to R385, R602, R603, R777). -/

namespace Sys2Proof.Machine

/-! ### The speed of a port (R360, R114) -/

/-- Speeds: 0 800GBASE-R, 1 400GBASE-R, 2 200GBASE-R, 3 100GBASE-R, 4 25GBASE-R with RS-FEC, 5 without FEC, 6 10GBASE-R. The
speed of a logical port, or none where its cage's mode does not use it. -/
def Dev.speedOf (d : Dev) (n : Nat) : Option Nat :=
  let c := MAC_CAGE_CTRL (n / 4)
  let k := n % 4
  let m := d.fld c MAC_CAGE_CTRL_MODE
  if m = 0 then (if k = 0 then some 0 else none)
  else if m = 1 then (if k % 2 = 0 then some 1 else none)
  else if m = 2 then some 2
  else if m = 3 then some 3
  else if k = 0 then some (4 + d.fld c MAC_CAGE_CTRL_LEG_A)
  else if k = 2 then some (4 + d.fld c MAC_CAGE_CTRL_LEG_B)
  else none

/-- The cage lanes of a speed, and of a port: the first is twice the port's place in its cage (R360). -/
def laneCount (s : Nat) : Nat := if s = 0 then 8 else if s = 1 then 4 else if s = 2 then 2 else 1
def Dev.lanesOf (d : Dev) (n : Nat) : List Nat :=
  match d.speedOf n with
  | some s => (List.range (laneCount s)).map (fun k => 2 * (n % 4) + k)
  | none => []

/-- The rate of a speed in Gbit/s (R361). -/
def rateOf (s : Nat) : Nat :=
  if s = 0 then 800 else if s = 1 then 400 else if s = 2 then 200 else if s = 3 then 100 else if s ≤ 5 then 25 else 10

/-- Whether a speed has FEC, and alignment markers (R114). -/
def hasFec (s : Nat) : Bool := decide (s ≤ 4)

/-- The nominal lane bit time as a fraction of a nanosecond (R114). -/
def tbFrac (s : Nat) : Int × Int := if s ≤ 3 then (4, 425) else if s ≤ 5 then (32, 825) else (16, 165)

/-- The lane bit time held to 2^-32 ns, the nominal one scaled by the offset applied to CD1 at the last refill tick (R112, R113); what lies
below 2^-32 ns is cut (assumption 11). -/
def Dev.tb (d : Dev) (s : Nat) : Int :=
  let f := tbFrac s
  (f.1 * 0x100000000 * ppbOne).fdiv (f.2 * (ppbOne + d.tk.cd1))

/-- M, and the digital constants K_rx and K_tx in ps (R114). -/
def markerLen (s : Nat) : Nat := if s ≤ 2 then 640 else if s = 3 then 1280 else 1285
def kRx (s : Nat) : Int := ([61440, 66560, 71680, 81920, 163840, 40960, 51200] : List Int).getD s 0
def kTx (s : Nat) : Int := ([38400, 40960, 43520, 48640, 102400, 30720, 40960] : List Int).getD s 0

/-- The sum of the terms of R110 or R111, rounded once to 2^-16 ns (R113): a fixed term `fx` and a phase `g` in 2^-16 ns, a
constant in ps, cut likewise to 2^-32 ns, and a count of lane bits. -/
def Dev.pathDelay (d : Dev) (s : Nat) (fx k : Int) (bits g : Nat) : Int :=
  roundDiv (fx * 0x10000 + (k * 0x100000000).fdiv 1000 + (bits : Int) * d.tb s + (g : Int) * 0x10000) 0x10000

/-- The terms word of R143. A phase of exactly 1 ns, the top of R109's range, is 16,384 units, which GBX does not hold; the manual does not say
what GBX then shows, and the largest value is shown, DESIGN CHOICE (assumption 73). -/
def termsWord (flags lane dsk pos am gbx : Nat) : Nat :=
  flags * 2 ^ 45 + lane * 2 ^ 42 + dsk * 2 ^ 29 + pos * 2 ^ 16 + am * 2 ^ 14 + min (gbx / 4) 16383

/-- The three flags of a stamp taken on a port now (R120). -/
def Dev.flagUnc (d : Dev) (n : Nat) : Bool := d.repFault (repOfLp n)
def Dev.flagVar (d : Dev) (n : Nat) : Bool := d.bit (TSU_STATUS n) TSU_STATUS_VAR
def Dev.flagCal (d : Dev) (n : Nat) : Bool := d.bit (TSU_STATUS n) TSU_STATUS_CALFB
def Dev.flagBits (d : Dev) (n : Nat) : Nat := (d.flagUnc n).toNat * 4 + (d.flagVar n).toNat * 2 + (d.flagCal n).toNat

/-! ### What a copy carries -/

/-- The declared length in received bytes, with FCS (R414); what is known of the length before it is fixed. -/
def Frame.declRx (f : Frame) : Nat := f.rxDecl.getD f.len

/-- The frame before the edits of its last pass, filled to its declared length while its tail is not in. -/
def Frame.fullBody (f : Frame) : List Byte :=
  if f.tail then f.body
  else (f.body ++ List.replicate (f.declRx - 4 - f.orig.length) 0).take (f.body.length + (f.declRx - 4) - f.orig.length)

/-- A copy in its edited form for port `n` (R372, R387, R389, R428, R512). -/
def Dev.edited (d : Dev) (f : Frame) (edit n : Nat) : List Byte :=
  let sT := d.fld (MAC_TAG n) MAC_TAG_S_TPID
  let sIn := if f.lp < 256 then d.fld (MAC_TAG f.lp) MAC_TAG_S_TPID else sT
  let b1 := (if f.popR then popRtag sIn f.fullBody else f.fullBody).drop f.decap
  let b2 := match f.encap with | some t => applyEncap t.1 t.2 b1 | none => b1
  let b3 := applyEdit sT f.pcp edit b2
  let b4 := match f.seqNo with | some s => pushRtag sT s b3 | none => b3
  if f.dei then setDei sT b4 else b4

/-- A 128-bit address in three items, word 0 holding the lowest 48 bits (R197). -/
def Dev.addr128 (d : Dev) (p : Nat) : Nat := d.num p + d.num (p + 1) * 2 ^ 48 + d.num (p + 2) % 2 ^ 32 * 2 ^ 96

/-- The mirror header (R603). -/
def mirrorHeader (f : Frame) (c : Copy) (trunc : Bool) : List Byte :=
  beBytes 1 (0x10 + c.session) ++ beBytes 1 (c.trig + c.drop * 4) ++ beBytes 2 f.ingress ++ beBytes 2 c.egress ++
    beBytes 2 (trunc.toNat * 0x8000 + f.bank * 0x4000 + f.len % 0x4000) ++
    beBytes 6 (twSec f.stamp) ++ beBytes 4 (twNs f.stamp) ++ beBytes 2 (twFrac f.stamp) ++ beBytes 4 c.seq

/-- The outer headers of a wrapped mirror copy for `n` bytes that follow the GRE header (R602). -/
def Dev.mirrorOuter (d : Dev) (s id n : Nat) : List Byte :=
  let tag := d.num (MIR_OUTER_TAG s)
  let l2 := beBytes 6 (d.num (MIR_OUTER_MAC s)) ++ beBytes 6 Config.mac.toNat ++
    (if bitsAt tag 16 1 = 1 then beBytes 2 0x8100 ++ beBytes 2 (tag % 0x10000) else [])
  let gre := beBytes 4 0x88B6
  let dscp := d.fld (MIR_CTRL s) MIR_CTRL_DSCP
  if d.fld (MIR_CTRL s) MIR_CTRL_WRAP = 1 then
    let h := beBytes 1 0x45 ++ beBytes 1 (dscp * 4) ++ beBytes 2 (24 + n) ++ beBytes 2 id ++ beBytes 2 0x4000 ++ [64, 47, 0, 0] ++
      beBytes 4 (d.num (MIR_OUTER_SRC s 0)) ++ beBytes 4 (d.num (MIR_OUTER_DST s 0))
    l2 ++ beBytes 2 0x0800 ++ patch h 10 (beBytes 2 (ip4Checksum h 0 20)) ++ gre
  else
    l2 ++ beBytes 2 0x86DD ++ beBytes 4 (0x60000000 + dscp * 4 * 0x100000) ++ beBytes 2 (4 + n) ++ [47, 64] ++
      beBytes 16 (d.addr128 (MIR_OUTER_SRC s 0)) ++ beBytes 16 (d.addr128 (MIR_OUTER_DST s 0)) ++ gre

/-- A mirror copy as sent, without FCS, and whether it was cut (R602). -/
def Dev.mirrorBytes (d : Dev) (f : Frame) (c : Copy) : List Byte × Bool :=
  let s := c.session
  let all := if c.trig = 2 then d.edited f c.edit c.egress else f.orig
  let tr := d.fld (MIR_CTRL s) MIR_CTRL_TRUNC
  let wrap := d.fld (MIR_CTRL s) MIR_CTRL_WRAP ≠ 0
  let outer := if wrap then (d.mirrorOuter s 0 0).length + 24 else 0
  let room := d.num (MAC_MAX_LEN (c.q / 9)) - 4 - outer
  let kept := (if tr = 0 then all else all.take tr).take room
  let cut := kept.length != all.length
  if wrap then (padMin (d.mirrorOuter s (Tbl.get d.net.mirIpId 0 s) (24 + kept.length) ++ mirrorHeader f c cut ++ kept), cut)
  else (padMin kept, cut)

/-- What a copy carries on port `n` before any operation, filled to its declared length (R372, R602). -/
def Dev.carried (d : Dev) (f : Frame) (c : Copy) (n : Nat) : List Byte :=
  if c.kind = 3 then (d.mirrorBytes f c).1 else d.edited f c.edit n

/-- The PTP message of a copy, located again at its egress port (R777); a mirror copy has none for this purpose (R130). -/
def Dev.ptpOut (d : Dev) (c : Copy) (b : List Byte) (n : Nat) : Option PtpLoc :=
  let sT := d.fld (MAC_TAG n) MAC_TAG_S_TPID
  if c.kind = 0 then eventAt (egressTpid sT) sT b else none

/-- The sum of the steps from a stamp to `to_`, in 2^-16 ns (R124). -/
def sigmaStep (from_ to_ : Int) : Int := (to_ - from_).fdiv 0x100000000

/-- What the operation of a frame asks for at egress time `e`, steps `st` having been applied (R124 to R126). -/
def Frame.eventOp (f : Frame) (e : Nat) (st : Int) : EventOp :=
  if f.op = opRESIDENCE then ⟨opRESIDENCE, ((e : Int) - f.stamp) / 0x100000000 - sigmaStep f.steps st + f.rxAdd, 0, 0⟩
  else if f.op = opORIGIN then ⟨opORIGIN, twFrac e, twSec e, twNs e⟩
  else ⟨opTURNAROUND, ((e : Int) - f.reqStamp) / 0x100000000 - sigmaStep f.reqSteps st, 0, 0⟩

/-- The copy as its egress port sends it, filled to its declared length: edited, and rewritten where its operation acts. -/
def Dev.rewritten (d : Dev) (f : Frame) (c : Copy) (n e : Nat) (st : Int) (on : Bool) : Rewrite :=
  let b := d.carried f c n
  match d.ptpOut c b n with
  | some l =>
    if on then
      rewriteEvent (d.fld (TSU_CTRL n) TSU_CTRL_V4_CKSUM == 1) (d.fld (TSU_CTRL n) TSU_CTRL_V6_TRAILER == 1) b l (f.eventOp e st)
    else { bytes := b }
  | none => { bytes := b }

/-! ### Transmit order and Carve (R374, R380) -/

/-- Whether class `p` of a port is paused (R377). -/
def Dev.paused (d : Dev) (n p : Nat) : Bool := bitsAt (d.fld (MAC_STATUS n) MAC_STATUS_PAUSED) p 1 == 1

/-- Whether queue `q` of a port is held by pause: QM follows class 0 under PAUSE (R376). -/
def Dev.heldByPause (d : Dev) (n q : Nat) : Bool :=
  if q = 8 then d.fld (MAC_CTRL n) MAC_CTRL_RX_PAUSE_EN == 1 && d.paused n 0 else d.paused n q

/-- Whether the Slalom wheel has made a queue eligible and it is not paused (R498). -/
def Dev.eligible (d : Dev) (n q : Nat) : Bool :=
  !(d.queue (qOf n q)).isEmpty && d.gateOpen n q && d.shpClear (qOf n q) && d.shpClear (2304 + n) && !d.heldByPause n q

/-- Whether a stamp of a copy committed on port `n` now carries UNCERTAIN or VAR_UNKNOWN (R129). -/
def Dev.badStamp (d : Dev) (f : Frame) (n : Nat) : Bool := f.unc || f.var || d.flagUnc n || d.flagVar n

/-- Whether a copy committed at egress time `e` is an event message with an operation that its port forces to store-and-forward (R137): the host
asks for it, or a UDP/IPv6 message without a checksum is changed. -/
def Dev.forced (d : Dev) (f : Frame) (c : Copy) (n e : Nat) : Bool :=
  let b := d.carried f c n
  match d.ptpOut c b n with
  | some l =>
    f.op != opNONE && (d.fld (TSU_CTRL n) TSU_CTRL_EVENT_SF == 1 ||
      (d.fld (TSU_CTRL n) TSU_CTRL_OPS_EN == 1 && l.trans == 2 && be16 b (l.udp + 6) == 0 && !d.badStamp f n &&
        (opFields b l.at_ (f.eventOp e d.tk.stepSum)).1 != b))
  | none => false

/-- The conditions of R380 for a frame whose tail is not in, at egress time `e`. -/
def Dev.carveOk (d : Dev) (f : Frame) (c : Copy) (n e : Nat) : Bool :=
  let carveEn (p : Nat) : Bool := d.fld (MAC_CTRL p) MAC_CTRL_CARVE_EN == 1
  let rate (p : Nat) : Nat := match d.speedOf p with | some s => rateOf s | none => 0
  decide (f.lp < 256) && carveEn f.lp && carveEn n && decide (rate n ≤ rate f.lp) && decide (320 ≤ f.orig.length) &&
    f.pass == 1 && c.kind != 3 && !d.forced f c n e && !f.rcvyWait && !d.snow

/-- The egress time of a frame committed now on port `n` (R111). -/
def Dev.egressTime (d : Dev) (n s : Nat) (t : TxTerms) : Nat :=
  let l := twTrunc (d.repTime (repOfLp n))
  let bits := if hasFec s then t.o + t.a * markerLen s else 0
  ((l : Int) + d.pathDelay s (d.int (TSU_TX_FIXED n t.lane)) (kTx s) bits t.g * 0x100000000).toNat

/-- Whether the frame at the head fits before its gate closes (R516). -/
def Dev.fits (d : Dev) (n q s e len : Nat) : Bool :=
  if d.slwOn n && d.fld (SLW_CTRL_ACT n) SLW_CTRL_LOOKAHEAD == 1 then
    (match d.nextClosing n q with
     | some t => decide (e * rateOf s + ((len : Int) + d.shpOver (qOf n q)).toNat * 8 * ns1 ≤ t * rateOf s)
     | none => true)
  else true

/-- One queue considered in turn: the head that can be committed, unless a queue before it had one. A frame held back by
LOOKAHEAD counts once (R516). -/
def Dev.consider (n s e : Nat) (r : Dev × Option Copy) (q : Nat) : Dev × Option Copy :=
  match r.2 with
  | some _ => r
  | none =>
    let d := r.1
    if !d.eligible n q then r
    else
      match d.queue (qOf n q) with
      | [] => r
      | c :: rest =>
        match d.frame? c.fid with
        | none => r
        | some f =>
          if f.buf.isNone || !(f.tail || d.carveOk f c n e) then r
          else if d.fits n q s e ((d.carried f c n).length + 4) then (d, some c)
          else if c.held then r
          else ((d.bump (SLW_LOOKAHEAD_HELD n) 1).setQueue (qOf n q) ({ c with held := true } :: rest), none)

/-- The copy that port `n` commits next: Q7 down to Q0, then QM (R374). -/
def Dev.choose (d : Dev) (n s e : Nat) : Dev × Option Copy := [7, 6, 5, 4, 3, 2, 1, 0, 8].foldl (Dev.consider n s e) (d, none)

/-! ### Commitment -/

/-- The bin of a latency in whole ns under BASE (R594). -/
def histBin (base x : Nat) : Nat := if x < 2 ^ base then 0 else min 15 (Nat.log2 x + 1 - base)

/-- The latency of a committed copy counted (R594). -/
def Dev.countLatency (d : Dev) (q : Nat) (f : Frame) (e : Nat) (st : Int) : Dev :=
  let x := (((e : Int) - f.stamp - (st - f.steps)).fdiv (ns1 : Int)).toNat
  (d.bump (CNT_HIST_BIN q (histBin (d.num (CNT_HIST_CTRL q)) x)) 1).bump (CNT_HIST_SUM q) x

/-- TSU_LAST_TX and its terms written together (R144). -/
def Dev.captureTx (d : Dev) (n e terms : Nat) : Dev :=
  ((d.putNum (TSU_LAST_TX n 0) (twWord0 e)).putNum (TSU_LAST_TX n 1) (twWord1 e)).putNum (TSU_LAST_TX_TERMS n) terms

/-- The terms word of a commitment (R114, R143). -/
def Dev.txTerms (d : Dev) (n s : Nat) (t : TxTerms) : Nat :=
  termsWord (d.flagBits n) t.lane 0 (if hasFec s then t.o else 0) (if hasFec s then t.a else 0) t.g

/-- The TSU's part of a commitment: counters, capture and RETURN (R123, R127, R129, R131 to R137, R141). A copy is an event message sent where
its edited form meets R122 at the egress port; one that was ordinary at ingress and meets it only then is not spoken of by R777, and counts and
is captured like any other, DESIGN CHOICE (assumption 74). -/
def Dev.tsuCommit (d : Dev) (n : Nat) (f : Frame) (c : Copy) (x : TxSt) (terms : Nat) : Dev :=
  let b := d.carried f c n
  let cap (e : Dev) : Dev := e.captureTx n x.e terms
  let cm := d.fld (TSU_CTRL n) TSU_CTRL_CAPTURE
  match d.ptpOut c b n with
  | none => if cm = 1 then cap d else d
  | some l =>
    let bad := f.unc || f.var || x.unc || x.var
    let ops := d.fld (TSU_CTRL n) TSU_CTRL_OPS_EN == 1
    let d1 := if cm ≤ 1 then cap d else d
    let d2 := d1.bump (TSU_EVT_TX n) 1
    let d3 := if d.forced f c n x.e then d2.bump (TSU_SF_FORCED n) 1 else d2
    let d4 := if bad && (f.ret || (ops && f.op != opNONE)) then d3.bump (TSU_UNCERT n) 1 else d3
    let d5 := if f.ret && !bad then
        { d4 with net := { d4.net with returns := d4.net.returns ++
            [(ptpType b l.at_, byteAt b (l.at_ + 4), be16 b (l.at_ + 30), n, x.e, x.steps)] } }
      else d4
    if x.opOn then
      let r := d.rewritten f c n x.e x.steps true
      let d6 := d5.bump (TSU_CORR_DONE n) 1
      let d7 := if r.sat then (d6.bump (TSU_CORR_SAT n) 1).pulse (TSU_STATUS n) TSU_STATUS_SAT else d6
      let d8 := if r.cksum then d7.bump (TSU_CKSUM_FIX n) 1 else d7
      if r.trailer then d8.bump (TSU_TRAILER_FIX n) 1 else d8
    else d5

/-- Copy `c` at the head of its queue committed for launch on port `n`, or dropped before it (R118, R129, R373, R471). -/
def Dev.commit (d : Dev) (n s : Nat) (c : Copy) (e : Nat) (t : TxTerms) : Dev :=
  match d.frame? c.fid with
  | none => d
  | some f =>
    let b := d.carried f c n
    let len := b.length + 4
    let bad := d.badStamp f n
    let acts := (d.ptpOut c b n).isSome && f.op != opNONE && d.fld (TSU_CTRL n) TSU_CTRL_OPS_EN == 1
    if d.num (MAC_MAX_LEN n) < len then (d.bump (MAC_TX_OVERSIZE n) 1).dropHead c.q drOVERSIZE
    else if acts && bad && d.fld (TSU_CTRL n) TSU_CTRL_UNCERT_ACT == 0 then (d.bump (TSU_UNCERT n) 1).dropHead c.q drTS_UNCERTAIN
    else
      let x : TxSt := { copy := c, e := e, unc := d.flagUnc n, var := d.flagVar n, steps := d.tk.stepSum, carve := !f.tail,
                        opOn := acts && !bad }
      let terms := d.txTerms n s t
      let d1 := d.setQueue c.q ((d.queue c.q).drop 1)
      let d2 := { d1 with net := { d1.net with entries := d1.net.entries - 1, tx := Tbl.set d1.net.tx none n (some x) } }
      let d3 := (((d2.shpCharge c.q len).shpCharge (2304 + n) len).bump (Q_DEQ_FRAMES c.q) 1).bump (Q_DEQ_OCTETS c.q) len
      let d4 := (d3.countLatency c.q f e x.steps).tsuCommit n f c x terms
      let d5 := if f.tail then d4 else d4.bump (MAC_TX_CARVE n) 1
      if c.kind = 3 then
        let tr := (d.mirrorBytes f c).2
        let d6 := { d5 with net := { d5.net with mirIpId := Tbl.set d5.net.mirIpId 0 c.session ((Tbl.get d5.net.mirIpId 0 c.session + 1) % 0x10000) } }
        if tr then d6.bump (MIR_TRUNCATED c.session) 1 else d6
      else d5

/-! ### PFC sent (R379) -/

/-- The PFC frame of a port: the classes of `mask`, with time 0xFFFF where a pause stands and 0 where it is released. The source
address is the module's (PRESUMED). -/
def pfcFrame (mask stands : Nat) : List Byte :=
  padMin (beBytes 6 0x0180C2000001 ++ beBytes 6 Config.mac.toNat ++ beBytes 2 0x8808 ++ beBytes 2 0x0101 ++ beBytes 2 mask ++
    (List.range 8).flatMap (fun p => beBytes 2 (if bitsAt mask p 1 = 1 ∧ bitsAt stands p 1 = 1 then 0xFFFF else 0)))

/-- The time of 32,768 quanta of 512 bit times (R379). -/
def pfcRepeatTime (s : Nat) : Nat := 32768 * 512 * ns1 / rateOf s

/-- The PFC frame asked for committed on port `n`; the repeat of each class that stands is timed. CAPTURE 0b01 takes it like every frame (R141). -/
def Dev.commitPfc (d : Dev) (n s e : Nat) (t : TxTerms) : Dev :=
  let mask := Tbl.get d.net.pfc 0 n
  let stands := d.num (RINK_PFC_STATE n)
  let b := pfcFrame mask stands
  let r := d.newFrame { lp := 256, stamp := twTrunc d.coreTime, steps := d.tk.stepSum, era := d.tk.era, orig := b, body := b, tail := true,
                        declared := some (b.length + 4), stage := 2 }
  let x : TxSt := { copy := { fid := r.2, q := qOf n 7, kind := 4 }, e := e, steps := d.tk.stepSum }
  let d0 := if d.fld (TSU_CTRL n) TSU_CTRL_CAPTURE = 1 then r.1.captureTx n e (d.txTerms n s t) else r.1
  let d1 := { d0 with net := { d0.net with pfc := Tbl.set d0.net.pfc 0 n 0, tx := Tbl.set d0.net.tx none n (some x) } }
  (List.range 8).foldl
    (fun e p => if bitsAt mask p 1 = 1 ∧ bitsAt stands p 1 = 1 then e.startT (tmr 1 (n * 8 + p)) (pfcRepeatTime s) else e)
    (d1.bump (MAC_TX_PFC n) 1)

/-- LAUNCH_COMMITMENT on port `n` (R118, R374): a PFC frame asked for goes first, else the next copy in transmit order. A port
that is not UP, or that is sending a frame, commits none. The terms lie in the ranges of R109. -/
def Dev.launch (d : Dev) (n : Nat) (t : TxTerms) : Dev :=
  match d.speedOf n with
  | none => d
  | some s =>
    if !d.lpUp n || (Tbl.get d.net.tx none n).isSome || !(d.lanesOf n).contains t.lane || !t.ok then d
    else
      let e := d.egressTime n s t
      if d.fld (MAC_CTRL n) MAC_CTRL_TX_PFC_EN = 1 ∧ Tbl.get d.net.pfc 0 n ≠ 0 then d.commitPfc n s e t
      else
        let r := d.choose n s e
        match r.2 with
        | some c => r.1.commit n s c e t
        | none => r.1

/-! ### The last byte -/

/-- The bytes of the received frame that a stomped copy carries (R383): `cut` is the count of received bytes. -/
def stompedBytes (full : List Byte) (f : Frame) (cut : Nat) : List Byte := full.take (full.length - (f.declRx - 4 - cut))

/-- A copy no longer on the wire: its Headroom goes back, and its frame is released where it was the last (R466). -/
def Dev.sentCopy (d : Dev) (n : Nat) (c : Copy) : Dev :=
  (({ d with net := { d.net with tx := Tbl.set d.net.tx none n none } }).headroom c.kind false).settleFrame c.fid

/-- The wait for a passed copy that was stomped (R400). -/
def Dev.stompLost (d : Dev) (f : Frame) : Dev :=
  match f.stream with
  | some s => if d.fld (FRER_CTRL s) FRER_CTRL_RECOVER = 1 ∧ d.fld (FRER_CTRL s) FRER_CTRL_RCVY_CARVE = 1 then d.bump (FRER_STOMP_LOST s) 1 else d
  | none => d

/-- LAST_BYTE_SENT on port `n` (R383, R384, R466, R597): a good frame goes out whole, a bad one with a stomped FCS. A frame whose
tail is still to come has no last byte yet. The bytes are made with V4_CKSUM, V6_TRAILER and the tag fields of this instant, the counters of the
rewrite with those of the commitment: the manual does not say when a field written between the two is sampled, DESIGN CHOICE (assumption 75). -/
def Dev.lastByte (d : Dev) (n : Nat) : Dev :=
  match Tbl.get d.net.tx none n with
  | none => d
  | some x =>
    match d.frame? x.copy.fid with
    | none => { d with net := { d.net with tx := Tbl.set d.net.tx none n none } }
    | some f =>
      if !f.tail && x.cause = 0 then d
      else
        let full := (d.rewritten f x.copy n x.e x.steps x.opOn).bytes
        let b := if x.cause = 0 then full else stompedBytes full f x.cut
        let d1 := { d with out := (if x.cause = 0 then Out.frame n b else Out.stomp n b (crc32 b ^^^ 0xFFFFFFFF) ((d.speedOf n).any (fun s => s ≤ 2))) :: d.out }
        let d2 := (d1.bump (MAC_TX_FRAMES n) 1).bump (MAC_TX_OCTETS n) (b.length + 4)
        let d3 := if x.copy.kind = 3 then d2.bump (MIR_OCTETS x.copy.session) (b.length + 4) else d2
        let d4 := if x.cause = 0 then d3
          else ((((d3.bump (MAC_TX_STOMP n) 1).bump (MAC_RX_STOMP_SRC f.lp) 1).putNum (MAC_LAST_STOMP n) (x.cause * 0x10000 + f.lp)).pulse
            (MAC_STATUS n) MAC_STATUS_STOMP).stompLost f
        let d5 := if f.sampled then
            d4.postcard f { cause := x.cause, carve := x.carve, stomped := x.cause != 0, end_ := x.e, copy := some x.copy }
          else d4
        d5.sentCopy n x.copy

end Sys2Proof.Machine
end

