-- ==== Sys2Proof/Machine/Ingress.lean ====
section
/-! DEFINITION. Reception: the ingress stamp, the head and the tail of a frame, bad frames, MAC control frames and pause
(R110, R117, R370 to R385, R390, R415, R457, R479). -/

namespace Sys2Proof.Machine

/-- The ingress stamp of a frame whose first word is detected now on port `n` (R110). -/
def Dev.ingressStamp (d : Dev) (n s : Nat) (t : RxTerms) : Nat :=
  let c := twTrunc (d.repTime (repOfLp n))
  let bits := if hasFec s then t.dsk + t.pos + t.am * markerLen s else 0
  ((c : Int) - d.pathDelay s (d.int (TSU_RX_FIXED n t.lane)) (kRx s) bits t.g * 0x100000000).toNat

/-- The frame in reception on a port. -/
def Dev.receiving (d : Dev) (n : Nat) : Option Nat :=
  (d.net.frames.find? (fun e => match e.2 with | some f => f.lp == n && !f.tail | none => false)).map (·.1)

/-- The bytes that wait in the staging memory of a slice (R457). -/
def Dev.staged (d : Dev) (sl : Nat) : Nat :=
  d.net.frames.foldl
    (fun s e => match e.2 with
      | some f => if f.lp < 256 ∧ f.lp / 16 = sl ∧ f.inject.isNone ∧ f.buf.isNone ∧ !f.dead then s + f.orig.length else s
      | none => s) 0

/-- Whether bytes are a MAC control frame: untagged, with EtherType 0x8808 (R375). -/
def macControl (b : List Byte) : Bool := be16 b 12 == 0x8808

/-- The frame of bytes `b` whose first word a port of speed `s` detects now: stamped, flagged and with its terms (R107, R110, R114, R120, R143). -/
def Dev.rxFrame (d : Dev) (n s : Nat) (t : RxTerms) (b : List Byte) : Frame :=
  let st := d.ingressStamp n s t
  let z (x : Nat) : Nat := if hasFec s then x else 0
  { lp := n, stamp := st, unc := d.flagUnc n, var := d.flagVar n, calfb := d.flagCal n,
    terms := termsWord (d.flagBits n) t.lane (z t.dsk) (z t.pos) (z t.am) t.g,
    steps := d.tk.stepSum, era := d.tk.era, rxAdd := d.int (TSU_RX_ADD n), orig := b, body := b, bank := d.epochOf st, hashCtl := d.num CLS_HASH_CTRL,
    started := st }

/-- Whether a frame may begin on port `n` with these terms: a port receives only while it is UP, and one frame at a time (R109, R364). -/
def Dev.mayReceive (d : Dev) (n : Nat) (t : RxTerms) : Bool :=
  d.lpUp n && !d.pwr.handOff && (d.receiving n).isNone && (d.lanesOf n).contains t.lane && t.ok

/-- CAPTURE 0b01 takes the stamp of every frame received (R141). -/
def Dev.captureEvery (d : Dev) (f : Frame) : Dev := if d.fld (TSU_CTRL f.lp) TSU_CTRL_CAPTURE = 1 then d.captureRx f else d

/-- FRAME_HEAD_RX on port `n` (R107, R110, R120, R141): the stamp is taken, the frame enters the bank of its epoch and waits for
its pass. A MAC control frame is the MAC's own (R375). A frame whose reception begins during Snowplough is dropped whole (R480). -/
def Dev.headRx (d : Dev) (n : Nat) (t : RxTerms) (b : List Byte) : Dev :=
  match d.speedOf n with
  | none => d
  | some s =>
    if !d.mayReceive n t || macControl b then d
    else
      let f := d.rxFrame n s t b
      let r := d.newFrame f
      let d1 := (r.1.flight f.bank true).captureEvery f
      if d.snow then d1.dropFrame r.2 drCORE_BYPASS
      else if 262144 < d.staged (n / 16) + b.length then d1.dropFrame r.2 drINGRESS_OVERRUN
      else d1

/-! ### Bad frames (R382 to R385) -/

/-- Causes of a stomp (R382) and the drop reason of each. -/
abbrev csFCS_BAD : Nat := 1
abbrev csRX_ERROR : Nat := 2
abbrev csLEN_OVER : Nat := 3
abbrev csOVERSIZE : Nat := 4
abbrev csUNDERRUN : Nat := 5
abbrev csINGRESS_DOWN : Nat := 6

def reasonOf (cause : Nat) : Nat :=
  if cause = csFCS_BAD then drFCS_BAD else if cause = csRX_ERROR then drRX_ERROR else if cause = csLEN_OVER then drLEN_OVER
  else if cause = csOVERSIZE then drOVERSIZE else if cause = csUNDERRUN then drUNDERRUN else drINGRESS_DOWN

/-- A frame proves bad: its copies under way by Carve are stomped with `cause` after `cut` received bytes, the first cause
standing; every other copy, and the frame where it has none or is still being classified, is dropped with `reason` (R382, R384, R385). -/
def Dev.badFrame (d : Dev) (fid cause reason cut : Nat) : Dev :=
  match d.frame? fid with
  | none => d
  | some f =>
    if f.dead then d.settleFrame fid
    else if d.refs fid = 0 then d.dropFrame fid reason
    else
      let tx := d.net.tx.map (fun t => (t.1, t.2.map (fun x =>
        if x.copy.fid = fid ∧ x.carve ∧ x.cause = 0 then { x with cause := cause, cut := cut } else x)))
      let d1 := { d with net := { d.net with tx := tx } }
      if f.stage = 0 then (d1.dropCopies fid reason).dropFrame fid reason
      else ((d1.onFrame fid (fun x => { x with dead := true })).dropCopies fid reason).settleFrame fid

/-- Whether a copy of a frame is under way by Carve. -/
def Dev.carving (d : Dev) (fid : Nat) : Bool :=
  d.net.tx.any (fun t => match t.2 with | some x => x.copy.fid == fid && x.carve | none => false)

/-! ### The tail -/

/-- The checks of R370 in order: the drop reason of the first that fails, or 0. -/
def rxCheck (err : Bool) (len maxLen : Nat) (fcsGood : Bool) : Nat :=
  if err then drRX_ERROR else if len < 64 then drRUNT else if maxLen < len then drOVERSIZE else if !fcsGood then drFCS_BAD else 0

/-- The MAC's receive counters for a frame of `len` bytes that ends under `reason` (R370, R385). -/
def Dev.rxCount (d : Dev) (n reason len : Nat) (stomped : Bool) : Dev :=
  if reason = 0 then (d.bump (MAC_RX_FRAMES n) 1).bump (MAC_RX_OCTETS n) len
  else if reason = drRX_ERROR then d.bump (MAC_RX_ERROR n) 1
  else if reason = drRUNT then d.bump (MAC_RX_RUNT n) 1
  else if reason = drOVERSIZE then d.bump (MAC_RX_OVERSIZE n) 1
  else
    let d1 := d.bump (MAC_RX_FCS_BAD n) 1
    if stomped then d1.bump (MAC_RX_STOMP_SEEN n) 1 else d1

/-- The first cause to arise in a frame under Carve, by the byte at which each arises, and the received bytes sent before it
(R382, R383): `decl` and `maxLen` count the FCS, `err` is where an error is marked. -/
def firstCause (err : Option Nat) (decl maxLen len : Nat) (fcsGood : Bool) : Option (Nat × Nat) :=
  let cs : List (Nat × Nat × Nat) :=
    (match err with | some p => [(p, csRX_ERROR, len - 4)] | none => []) ++
    (if decl < len then [(decl, csLEN_OVER, decl - 4)] else []) ++
    (if maxLen < len then [(maxLen, csOVERSIZE, maxLen - 4)] else []) ++
    (if fcsGood then [] else [(len, csFCS_BAD, len - 4)])
  match cs with
  | [] => none
  | c :: r => some (r.foldl (fun a x => if x.1 < a.1 then x else a) c).2

/-- A length conflict found at the tail of a frame whose first pass is complete (R412, R415). -/
def lateConflict (f : Frame) : Bool :=
  (f.byIp && decide (f.len < f.declRx)) || f.ipEnds.any (fun e => endBad ((f.orig.length : Int) + e.2).toNat e.1)

/-- LEN_ACT decides the fate of a frame that conflicts at its tail; one whose head has left by Carve goes as received (R413, R415). -/
def Dev.lateShort (d : Dev) (fid : Nat) (f : Frame) : Dev :=
  let s := f.lp / 16
  let d1 := (d.bump (PRS_LEN_CONFLICT s) 1).pulse PRS_STATUS PRS_STATUS_LEN
  if d.carving fid then d1.bump (PRS_LATE_SHORT s) 1
  else
    let a := d.fld PRS_CTRL PRS_CTRL_LEN_ACT
    if a = 0 then d1.badFrame fid 0 drLEN_CONFLICT 0
    else if a = 1 then
      let gone := d1.net.queues.flatMap (fun q => q.2.filter (fun c => c.fid == fid && c.kind != 3))
      let d2 := gone.foldl
        (fun e c => ({ e.setQueue c.q ((e.queue c.q).filter (fun x => !(x.fid == fid && x.kind != 3))) with
          net := { (e.setQueue c.q ((e.queue c.q).filter (fun x => !(x.fid == fid && x.kind != 3)))).net with entries := e.net.entries - 1 } }).headroom c.kind false) d1
      ((d2.leaveClass fid 1).onFrame fid (fun x => { x with pool := poolFor x.decl })).puntFrame fid 2
    else d1

/-- A frame whose tail is in and good: octets of its queues are counted, recovery is decided (R390), and lengths are compared. -/
def Dev.goodTail (d : Dev) (fid : Nat) : Dev :=
  match d.frame? fid with
  | none => d
  | some f =>
    let d1 := (f.enqQs.foldl (fun e q => e.bump (Q_ENQ_OCTETS q) f.len) d).setFrame fid { f with enqQs := [] }
    if f.dead then d1.settleFrame fid
    else if f.stage = 0 then (if f.pass ≠ 1 ∧ lateConflict f then d1.lateShort fid f else d1)
    else
      let r := if f.rcvyWait then (match f.stream with | some s => d1.recoverFrame fid s | none => (d1, none)) else (d1, none)
      match r.2 with
      | some x => r.1.badFrame fid 0 x 0
      | none => if lateConflict f then (r.1.lateShort fid f).settleFrame fid else r.1.settleFrame fid

/-- FRAME_TAIL_RX on port `n` (R370, R382 to R385, R415): the rest of the frame's bytes without its FCS, the FCS, and where the PCS
or FEC marked an error. -/
def Dev.tailRx (d : Dev) (n : Nat) (rest : List Byte) (fcs : Nat) (err : Option Nat) : Dev :=
  match d.receiving n with
  | none => d
  | some fid =>
    match d.frame? fid with
    | none => d
    | some f =>
      let orig := f.orig ++ rest
      let len := orig.length + 4
      let good := crc32 orig == fcs
      let maxLen := d.num (MAC_MAX_LEN n)
      let reason := rxCheck err.isSome len maxLen good
      let decl := if f.stage = 0 ∧ f.pass = 1 then len else f.declRx
      let body := f.body ++ rest
      let tooLong := decide (decl < len)
      let cut := if tooLong then body.take (body.length + decl - len) else body
      let d1 := (d.rxCount n reason len (fcs == (crc32 orig ^^^ 0xFFFFFFFF))).setFrame fid
        { f with orig := orig, body := if f.pass = 1 then cut else padMin cut, tail := true, fcs := fcs }
      if d.carving fid then
        (match firstCause err decl maxLen len good with
         | some c => d1.badFrame fid c.1 (reasonOf c.1) c.2
         | none => d1.goodTail fid)
      else if !f.dead && f.buf.isNone && 262144 < d1.staged (n / 16) then d1.badFrame fid 0 drINGRESS_OVERRUN 0
      else if reason ≠ 0 then d1.badFrame fid 0 reason 0
      else if tooLong then d1.badFrame fid 0 drLEN_OVER 0
      else d1.goodTail fid

/-- The reception of a port cut off (R382, R364): a frame whose tail has not come ends at the last byte received. -/
def Dev.ingressDown (d : Dev) (n : Nat) : Dev :=
  match d.receiving n with
  | none => d
  | some fid =>
    match d.frame? fid with
    | none => d
    | some f => (d.setFrame fid { f with tail := true }).badFrame fid csINGRESS_DOWN drINGRESS_DOWN f.body.length

/-- The entry of Snowplough (R479, R481): frames without a buffer or being written are dropped with CORE_BYPASS, and copies
under way by Carve whose tails are still to come are stomped with UNDERRUN. -/
def Dev.snowEntry (d : Dev) : Dev :=
  let l := (d.net.frames.filter (fun e => match e.2 with
    | some f => !f.dead && ((f.buf.isNone && f.stage != 2) || !f.tail)
    | none => false)).map (·.1)
  let d1 := (d.live RINK_STATUS RINK_STATUS_SNOW true).stick RINK_STATUS RINK_STATUS_SNOW
  l.foldl
    (fun e fid => match e.frame? fid with
      | some f => e.badFrame fid csUNDERRUN drCORE_BYPASS f.body.length
      | none => e) d1

/-! ### Pause (R375 to R378) -/

abbrev tPause (n p : Nat) : Nat := tmr 4 (n * 8 + p)
abbrev tWatch (n p : Nat) : Nat := tmr 5 (n * 8 + p)
abbrev tRelease (n p : Nat) : Nat := tmr 6 (n * 8 + p)

/-- One bit of a field of an item set to a value. -/
def Dev.setFldBit (d : Dev) (p : Nat) (f : Fld) (k : Nat) (v : Bool) : Dev := d.setBit p (f.lo + k) v

/-- The pause of a class ends. -/
def Dev.pauseEnd (d : Dev) (n p : Nat) : Dev :=
  let d1 := ((d.setFldBit (MAC_STATUS n) MAC_STATUS_PAUSED p false).stopT (tPause n p)).stopT (tWatch n p)
  if d1.fld (MAC_STATUS n) MAC_STATUS_PAUSED = 0 then d1.stopTimer (MAC_PAUSED_TIME n) else d1

/-- Whether the watchdog overrides a class. -/
def Dev.overridden (d : Dev) (n p : Nat) : Bool := bitsAt (d.fld (MAC_STATUS n) MAC_STATUS_WD_CLASS) p 1 == 1

/-- A received pause of `t` quanta for a class (R376, R378): ignored under override, whose release it delays. -/
def Dev.pauseClass (d : Dev) (n s p t : Nat) : Dev :=
  if d.overridden n p then
    (if t = 0 then d else d.startT (tRelease n p) (d.fld (MAC_TIMERS n) MAC_TIMERS_WD_RELEASE * ms1))
  else if t = 0 then d.pauseEnd n p
  else
    let d1 := if d.paused n p then d else d.startT (tWatch n p) (d.fld (MAC_TIMERS n) MAC_TIMERS_PAUSE_WD * ms1)
    ((d1.setFldBit (MAC_STATUS n) MAC_STATUS_PAUSED p true).startT (tPause n p) (t * 512 * ns1 / rateOf s)).startTimer (MAC_PAUSED_TIME n)

/-- A MAC control frame dropped with a reason, with the postcard and mirror copies of its drop. -/
def Dev.controlDrop (d : Dev) (f : Frame) (reason : Nat) : Dev :=
  let r := d.newFrame { f with tail := true, declared := some (f.orig.length + 4), stage := 1, pool := poolFor (f.orig.length + 4) }
  r.1.dropFrame r.2 reason

/-- The opcode of a MAC control frame acted on (R375, R376). -/
def Dev.macOpcode (d : Dev) (n s : Nat) (f : Frame) : Dev :=
  let b := f.orig
  if be16 b 14 = 0x0001 then
    let d1 := d.bump (MAC_RX_PAUSE n) 1
    if d.fld (MAC_CTRL n) MAC_CTRL_RX_PAUSE_EN = 1 then (List.range 8).foldl (fun e p => e.pauseClass n s p (be16 b 16)) d1 else d1
  else if be16 b 14 = 0x0101 then
    (List.range 8).foldl
      (fun e p => if bitsAt (be16 b 16) p 1 = 1 ∧ bitsAt (d.fld (MAC_CTRL n) MAC_CTRL_RX_PFC_EN) p 1 = 1 then
          e.pauseClass n s p (be16 b (18 + 2 * p)) else e) (d.bump (MAC_RX_PFC n) 1)
  else d.controlDrop f drMAC_CONTROL

/-- MAC_CONTROL_FRAME_RX on port `n` (R107, R370, R375): a whole frame without its FCS, stamped like any other, its FCS, and whether an error was
marked. -/
def Dev.macControlRx (d : Dev) (n : Nat) (t : RxTerms) (b : List Byte) (fcs : Nat) (err : Bool) : Dev :=
  match d.speedOf n with
  | none => d
  | some s =>
    if !d.mayReceive n t || !macControl b then d
    else
      let f := d.rxFrame n s t b
      let reason := rxCheck err (b.length + 4) (d.num (MAC_MAX_LEN n)) (crc32 b == fcs)
      let d1 := (d.captureEvery f).rxCount n reason (b.length + 4) (fcs == (crc32 b ^^^ 0xFFFFFFFF))
      if reason ≠ 0 then d1.controlDrop f reason
      else
        let dst := beNat (slice b 0 6)
        if dst = 0x0180C2000001 ∨ dst = Config.mac.toNat then d1.macOpcode n s f else d1.controlDrop f drMAC_CONTROL

/-- PAUSE_EXPIRY (R376). -/
def Dev.pauseExpiry (d : Dev) (n p : Nat) : Dev := if d.runsT (tPause n p) then (d.dueT (tPause n p)).pauseEnd n p else d

/-- PAUSE_WATCHDOG (R378). -/
def Dev.pauseWatchdog (d : Dev) (n p : Nat) : Dev :=
  if d.runsT (tWatch n p) then
    let d1 := ((d.dueT (tWatch n p)).pauseEnd n p).setFldBit (MAC_STATUS n) MAC_STATUS_WD_CLASS p true
    (((d1.live (MAC_STATUS n) MAC_STATUS_WD true).stick (MAC_STATUS n) MAC_STATUS_WD).bump (MAC_WD_TRIPS n) 1).startT (tRelease n p)
      (d.fld (MAC_TIMERS n) MAC_TIMERS_WD_RELEASE * ms1)
  else d

/-- WD_RELEASE (R378). -/
def Dev.wdRelease (d : Dev) (n p : Nat) : Dev :=
  if d.runsT (tRelease n p) then
    let d1 := (d.dueT (tRelease n p)).setFldBit (MAC_STATUS n) MAC_STATUS_WD_CLASS p false
    d1.live (MAC_STATUS n) MAC_STATUS_WD (d1.fld (MAC_STATUS n) MAC_STATUS_WD_CLASS != 0)
  else d

/-- PFC_REPEAT (R379). -/
def Dev.pfcRepeat (d : Dev) (n p : Nat) : Dev :=
  if d.runsT (tmr 1 (n * 8 + p)) then
    let d1 := d.dueT (tmr 1 (n * 8 + p))
    { d1 with net := { d1.net with pfc := Tbl.set d1.net.pfc 0 n ((Tbl.get d1.net.pfc 0 n) ||| 2 ^ p) } }
  else d

end Sys2Proof.Machine
end

