-- ==== Sys2Proof/Machine/Loops.lean ====
section
/-! DEFINITION. Adaptive loops held within bounds that software sets (R43 to R54). -/

namespace Sys2Proof.Machine

/-- The items of one loop: BOUNDS, HELD, HELD_TIME and the applied value. -/
structure LoopItems where
  bounds : Nat
  held : Nat
  time : Nat
  value : Nat
deriving DecidableEq, Repr

/-- The bounds in force (R47). -/
def Dev.loopLo (d : Dev) (l : LoopItems) : Int := signedOf 24 (d.num l.bounds)
def Dev.loopHi (d : Dev) (l : LoopItems) : Int := signedOf 24 (d.num l.bounds / 0x1000000)

/-- A value held to the bounds. -/
def clampTo (lo hi x : Int) : Int := if x < lo then lo else if hi < x then hi else x

/-- The side at which a demand is held: 1 at LO, 2 at HI (R51). -/
def sideOf (lo hi x : Int) : Nat := if x < lo then 1 else if hi < x then 2 else 0

/-- SIDE, LAST_SIDE and HELD_LIVE set; HELD_STICKY is set when a hold begins, and held time is counted while it lasts
(R44, R45, R52). -/
def Dev.setHeld (d : Dev) (l : LoopItems) (side : Nat) : Dev :=
  let d1 := d.setFld l.held HELD_SIDE side
  if side = 0 then (d1.live l.held HELD_HELD false).stopTimer l.time
  else ((d1.setFld l.held HELD_LAST_SIDE side).liveEdge l.held HELD_HELD true).startTimer l.time

/-- An update of a loop toward `demand`, by at most `step` (R43, R44): the applied value never leaves the bounds. -/
def Dev.loopUpdate (d : Dev) (l : LoopItems) (demand : Int) (step : Option Int) : Dev :=
  let lo := d.loopLo l
  let hi := d.loopHi l
  let cur := clampTo lo hi (d.int l.value)
  let t := clampTo lo hi demand
  let v := match step with
    | some m => if cur + m < t then cur + m else if t < cur - m then cur - m else t
    | none => t
  (d.setHeld l (sideOf lo hi demand)).putInt l.value v

/-- The status of a write of a BOUNDS item, `min` and `max` being the loop's hardware range (R49). -/
def boundsStatus (v : Nat) (min max : Int) : Nat :=
  let lo := signedOf 24 v
  let hi := signedOf 24 (v / 0x1000000)
  if hi < lo ∨ lo < min ∨ max < lo ∨ hi < min ∨ max < hi then stBAD_PARAM else stOK

/-- A BOUNDS pair taking effect as one value; the output of a loop that can step moves to the nearer bound at once (R48, R50). -/
def Dev.boundsTake (d : Dev) (l : LoopItems) (v : Nat) (steps : Bool) : Dev :=
  let d1 := d.putNum l.bounds v
  if steps then d1.putInt l.value (clampTo (d1.loopLo l) (d1.loopHi l) (d1.int l.value)) else d1

/-! ### The core voltage (R43, R50, R711, R718) -/

/-- The core voltage loop (R718). -/
def vcoreLoop : LoopItems := ⟨PWR_VCORE_BOUNDS, PWR_VCORE_HELD, PWR_VCORE_HELD_TIME, PWR_VCORE⟩

/-- Where the core voltage is to stand: within the bounds, and in S1 at LO (R43, R711). -/
def Dev.vcoreAim (d : Dev) : Int :=
  if d.pwrState = 1 then d.loopLo vcoreLoop else clampTo (d.loopLo vcoreLoop) (d.loopHi vcoreLoop) (d.int PWR_VCORE)

/-- The hold of a ramp ended at CD7 time `t`, the voltage standing where it was to go. -/
def Dev.vcoreEnd (d : Dev) (t : Nat) : Dev :=
  let d1 := (({ d with pwr := { d.pwr with ramp := none } }).setFld PWR_VCORE_HELD HELD_SIDE 0).live PWR_VCORE_HELD HELD_HELD false
  d1.stopTimerAt PWR_VCORE_HELD_TIME (t / us1)

/-- The regulator ramping at 10 mV per 100 µs, as far as elapsed time has brought it; at its aim the hold ends (R50, R718). -/
def Dev.vcoreRamp (d : Dev) : Dev :=
  match d.pwr.ramp with
  | none => d
  | some (v, t) =>
    let aim := d.vcoreAim
    let n : Int := ((d.tk.osc - t) / (10 * us1) : Nat)
    let x := if v < aim then min aim (v + n) else max aim (v - n)
    let d1 := d.putInt PWR_VCORE x
    if x = aim then d1.vcoreEnd (t + (aim - v).natAbs * (10 * us1)) else d1

/-- A ramp that is under way as the core voltage is put at LO (R711), or as the core package loses power: its hold ends. -/
def Dev.vcoreStop (d0 : Dev) : Dev :=
  let d := d0.vcoreRamp
  if d.pwr.ramp.isSome then d.vcoreEnd d.tk.osc else d

/-- A write of PWR_VCORE_BOUNDS: the voltage ramps to the nearer new bound, in S1 to LO (R711), and counts as held until it reaches it (R50). -/
def Dev.vcoreBoundsTake (d0 : Dev) (v : Nat) : Dev :=
  let d := d0.vcoreRamp
  let d1 := d.putNum PWR_VCORE_BOUNDS v
  if 2 ≤ d.pwrState ∨ d.pwr.await ∨ d1.vcoreAim = d1.int PWR_VCORE then d1
  else ({ d1 with pwr := { d1.pwr with ramp := some (d1.int PWR_VCORE, d1.tk.osc) } }).setHeld vcoreLoop (if d1.vcoreAim < d1.int PWR_VCORE then 2 else 1)

end Sys2Proof.Machine
end

