-- ==== Sys2Proof/Machine/PtpMsg.lean ====
section
/-! DEFINITION. The bytes of PTP messages as the engine builds and reads them (IEEE 1588, PRESUMED where the manual names the format
and does not lay it out), and of time-of-day sentences (R191 to R193). -/

namespace Sys2Proof.Machine

abbrev mtSYNC : Nat := 0
abbrev mtDELAY_REQ : Nat := 1
abbrev mtPDELAY_REQ : Nat := 2
abbrev mtPDELAY_RESP : Nat := 3
abbrev mtFOLLOW_UP : Nat := 8
abbrev mtDELAY_RESP : Nat := 9
abbrev mtPDELAY_FU : Nat := 10
abbrev mtANNOUNCE : Nat := 11
abbrev mtSIGNALING : Nat := 12

/-- Fields of a message from its first byte. -/
def pmType (b : List Byte) : Nat := byteAt b 0 % 16
def pmFlags (b : List Byte) : Nat := be16 b 6
def pmTwoStep (b : List Byte) : Bool := bitsAt (byteAt b 6) 1 1 == 1
def pmCorr (b : List Byte) : Int := signedOf 64 (beNat (slice b 8 8))
def pmSrc (b : List Byte) : Nat := beNat (slice b 20 10)
def pmSeq (b : List Byte) : Nat := be16 b 30
/-- The timestamp at an offset, as a time in 2^-48 ns. -/
def pmTime (b : List Byte) (o : Nat) : Nat := twOf (beNat (slice b o 6)) (beNat (slice b (o + 6) 4)) 0
/-- The identity that a response answers. -/
def pmAsked (b : List Byte) : Nat := beNat (slice b 44 10)

/-- What the common header of a message says. -/
structure PtpHead where
  typ : Nat
  sdo : Nat := 0
  domain : Nat
  flags : Nat := 0
  corr : Int := 0
  src : Nat
  seq : Nat
  log : Int
deriving DecidableEq, Repr

/-- A message of header and body. -/
def ptpBytes (h : PtpHead) (body : List Byte) : List Byte :=
  let ctl := if h.typ = mtSYNC then 0 else if h.typ = mtDELAY_REQ then 1 else if h.typ = mtDELAY_RESP then 3 else 5
  beBytes 1 (h.sdo * 16 + h.typ) ++ [0x12] ++ beBytes 2 (34 + body.length) ++ beBytes 1 h.domain ++ [0] ++ beBytes 2 h.flags ++
    beBytes 8 (unsignedOf 64 h.corr) ++ beBytes 4 0 ++ beBytes 10 h.src ++ beBytes 2 h.seq ++ beBytes 1 ctl ++ beBytes 1 (unsignedOf 8 h.log) ++ body

/-- The sourcePortIdentity of the module's port `num` (PRESUMED numbering: logical port + 1). -/
def portIdent (num : Nat) : Nat := Config.clockIdentity.toNat * 0x10000 + num

/-- The ten bytes of a PTP timestamp. -/
def ptpStamp (t : Nat) : List Byte := beBytes 6 (twSec t) ++ beBytes 4 (twNs t)

/-- An IPv4 datagram carrying UDP; the checksum of UDP is 0, as UDP/IPv4 allows. -/
def udp4 (src dst port ttl : Nat) (p : List Byte) : List Byte :=
  let h := beBytes 2 0x4500 ++ beBytes 2 (28 + p.length) ++ beBytes 4 0 ++ beBytes 1 ttl ++ [17, 0, 0] ++ beBytes 4 src ++ beBytes 4 dst
  patch h 10 (beBytes 2 (ip4Checksum h 0 20)) ++ beBytes 2 port ++ beBytes 2 port ++ beBytes 2 (8 + p.length) ++ [0, 0] ++ p

/-- An IPv6 datagram carrying UDP, with its checksum. -/
def udp6 (src dst port hop : Nat) (p : List Byte) : List Byte :=
  let u := beBytes 2 port ++ beBytes 2 port ++ beBytes 2 (8 + p.length) ++ [0, 0] ++ p
  let f := beBytes 4 0x60000000 ++ beBytes 2 u.length ++ beBytes 1 17 ++ beBytes 1 hop ++ beBytes 16 src ++ beBytes 16 dst ++ u
  patch f 46 (beBytes 2 (udp6Checksum f ⟨48, 2, 40, 0⟩))

/-! ### Calendar (ZDA sentences) -/

/-- Days since 1970-01-01 of a civil date. -/
def daysOf (y m d : Nat) : Nat :=
  let y' := if m ≤ 2 then y - 1 else y
  let era := y' / 400
  let yoe := y' - era * 400
  let mp := if m ≤ 2 then m + 9 else m - 3
  let doe := yoe * 365 + yoe / 4 - yoe / 100 + ((153 * mp + 2) / 5 + d - 1)
  era * 146097 + doe - 719468

/-- The civil date of a day count: year, month, day. -/
def civilOf (n : Nat) : Nat × Nat × Nat :=
  let z := n + 719468
  let era := z / 146097
  let doe := z - era * 146097
  let yoe := (doe - doe / 1460 + doe / 36524 - doe / 146096) / 365
  let doy := doe - (365 * yoe + yoe / 4 - yoe / 100)
  let mp := (5 * doy + 2) / 153
  let m := if mp < 10 then mp + 3 else mp - 9
  (yoe + era * 400 + (if m ≤ 2 then 1 else 0), m, doy - (153 * mp + 2) / 5 + 1)

/-! ### Sentences -/

/-- Characters as bytes. -/
def ascii (s : List Char) : List Byte := s.map (fun c => BitVec.ofNat 8 c.toNat)

/-- Decimal digits of a number, most significant first, and with at least `w` digits. -/
def decDigits : Nat → Nat → List Byte
  | 0, _ => []
  | k + 1, n => if n < 10 then [BitVec.ofNat 8 (48 + n)] else decDigits k (n / 10) ++ [BitVec.ofNat 8 (48 + n % 10)]
def decimal (n : Nat) : List Byte := decDigits 20 n
def padded (w n : Nat) : List Byte := let l := decimal n; List.replicate (w - l.length) 48 ++ l
def signedDec (x : Int) : List Byte := if x < 0 then 45 :: decimal x.natAbs else decimal x.natAbs

/-- One upper-case hex digit. -/
def hexDigit (n : Nat) : Byte := BitVec.ofNat 8 (if n < 10 then 48 + n else 55 + n)

/-- The exclusive OR of characters, and the two digits that show it. -/
def xorAll (l : List Byte) : Nat := l.foldl (fun a b => a ^^^ b.toNat) 0
def ccOf (l : List Byte) : List Byte := [hexDigit (xorAll l / 16), hexDigit (xorAll l % 16)]

/-- A sentence: its first character, the text that the check covers, the check and CR LF. -/
def sentence (first : Byte) (t : List Byte) : List Byte := first :: t ++ [42] ++ ccOf t ++ [13, 10]

/-- Fields joined by commas, and text cut at commas. -/
def joinComma : List (List Byte) → List Byte
  | [] => []
  | [x] => x
  | x :: r => x ++ 44 :: joinComma r
def splitComma : List Byte → List (List Byte)
  | [] => [[]]
  | b :: r =>
    match splitComma r with
    | [] => [[b]]
    | x :: l => if b = 44 then [] :: x :: l else (b :: x) :: l

/-- A decimal number without a sign, or none where it is malformed. -/
def readDec (l : List Byte) : Option Nat :=
  if l ≠ [] ∧ l.length ≤ 15 ∧ l.all (fun b => decide (48 ≤ b.toNat ∧ b.toNat ≤ 57)) then some (l.foldl (fun a b => a * 10 + (b.toNat - 48)) 0)
  else none
def readSigned (l : List Byte) : Option Int :=
  match l with
  | b :: r => if b = 45 then (readDec r).map (fun n => -(n : Int)) else (readDec l).map (fun n => (n : Int))
  | [] => none

/-- The text that the check of a received sentence covers, where the sentence is whole and its check right (R192). -/
def sentenceText (l : List Byte) : Option (List Byte) :=
  let n := l.length
  if 64 < n ∨ n < 6 then none
  else
    let t := (l.drop 1).take (n - 6)
    if l.drop (n - 5) = [42] ++ ccOf t ++ [13, 10] then some t else none

/-- What a received sentence says: the second named, and for the module's own format the UTC offset and the leap flag. -/
structure Tod where
  sec : Nat
  utc : Option Int
  leap : Nat
deriving DecidableEq, Repr

/-- A sentence of the module's own format (R192). -/
def readOwn (l : List Byte) : Option Tod :=
  match sentenceText l with
  | none => none
  | some t =>
    match splitComma t with
    | [n, f1, f2, f3, f4, f5, f6] =>
      (match readDec f1, readSigned f2, readDec f3, readDec f5 with
       | some s, some u, some p, some c =>
         if l.head? = some 35 ∧ n = ascii ['G', 'T', 'O', 'D'] ∧ p ≤ 2 ∧ c ≤ 255 ∧ f4 ∈ [ascii ['L'], ascii ['H'], ascii ['D'], ascii ['F']] ∧
             f6 ∈ [ascii ['A'], ascii ['B'], ascii ['N']] ∧ (f1.head? ≠ some 48 ∨ f1 = [48]) then
           some ⟨s, some u, p⟩ else none
       | _, _, _, _ => none)
    | _ => none

/-- The time of day of a ZDA sentence: six digits, and a fraction that is 0 (R193). -/
def readHms (l : List Byte) : Option Nat :=
  if l.length < 6 then none
  else if l.length = 6 ∨ (6 < l.length ∧ (l.drop 6).head? = some 46 ∧ (l.drop 7).all (· == 48)) then readDec (l.take 6)
  else none

/-- Days of a month. -/
def monthDays (y m : Nat) : Nat := (if m = 12 then daysOf (y + 1) 1 1 else daysOf y (m + 1) 1) - daysOf y m 1

/-- A local zone field of a ZDA sentence: empty, or decimal, the hours with a sign or without one. -/
def zoneOk (l : List Byte) : Bool := l == [] || (readSigned l).isSome

/-- A ZDA sentence (R193): UTC, with TAI taken as UTC plus `off`. Its time is that of a whole second. -/
def readZda (off : Int) (l : List Byte) : Option Tod :=
  match sentenceText l with
  | none => none
  | some t =>
    match splitComma t with
    | [n, hms, dd, mm, yy, z1, z2] =>
      (match readHms hms, readDec dd, readDec mm, readDec yy with
       | some h, some dy, some mo, some y =>
         if l.head? = some 36 ∧ n.drop 2 = ascii ['Z', 'D', 'A'] ∧ n.length = 5 ∧ 1 ≤ mo ∧ mo ≤ 12 ∧ 1970 ≤ y ∧ 1 ≤ dy ∧ dy ≤ monthDays y mo ∧
             dd.length = 2 ∧ mm.length = 2 ∧ yy.length = 4 ∧ zoneOk z1 ∧ zoneOk z2 ∧
             h / 10000 < 24 ∧ h / 100 % 100 < 60 ∧ h % 100 ≤ 60 then
           some ⟨((daysOf y mo dy * 86400 + h / 10000 * 3600 + h / 100 % 100 * 60 + h % 100 : Nat) + off).toNat, none, 0⟩
         else none
       | _, _, _, _ => none)
    | _ => none

end Sys2Proof.Machine
end

