-- ==== Sys2Proof/Machine/Pte.lean ====
section
/-! DEFINITION. The time protocol engine: Pistes, servos, steering, selection and the messages it takes and sends (R145 to R194). -/

namespace Sys2Proof.Machine

/-! ### Pistes and clock ports -/

/-- Piste `k`: 1 is A, 2 is B. -/
def Dev.piste (d : Dev) (k : Nat) : PisteSt := if k = 1 then d.pte.a else d.pte.b
def Dev.setPiste (d : Dev) (k : Nat) (p : PisteSt) : Dev :=
  if k = 1 then { d with pte := { d.pte with a := p } } else { d with pte := { d.pte with b := p } }

/-- The clock port of instance `i` (0x100 + n, 0x300, 0x301) for Piste `k`. -/
abbrev cpKey (i k : Nat) : Nat := i * 4 + k
def Dev.cport (d : Dev) (i k : Nat) : ClkPort := Tbl.get d.pte.ports {} (cpKey i k)
def Dev.setCport (d : Dev) (i k : Nat) (x : ClkPort) : Dev :=
  { d with pte := { d.pte with ports := Tbl.set d.pte.ports {} (cpKey i k) x } }

/-- Whether an instance is a trunk. -/
def isTrunk (i : Nat) : Bool := decide (0x300 ≤ i)

/-- portState values (R206). -/
abbrev psFAULTY : Nat := 2
abbrev psLISTENING : Nat := 4
abbrev psMASTER : Nat := 6
abbrev psPASSIVE : Nat := 7
abbrev psUNCALIBRATED : Nat := 8
abbrev psSLAVE : Nat := 9

def Dev.portState (d : Dev) (i k : Nat) : Nat :=
  d.fld (PTE_PORT_STATE i) (if k = 1 then PTE_PORT_STATE_STATE_A else PTE_PORT_STATE_STATE_B)
def Dev.setPortState (d : Dev) (i k s : Nat) : Dev :=
  d.setFld (PTE_PORT_STATE i) (if k = 1 then PTE_PORT_STATE_STATE_A else PTE_PORT_STATE_STATE_B) s

/-- The instances of ports and trunks. -/
def cpInsts : List Nat := (List.range 256).map (fun n => 0x100 + n) ++ [0x300, 0x301]

/-- States of a Piste (R149). -/
abbrev pzDISABLED : Nat := 0
abbrev pzACQUIRING : Nat := 1
abbrev pzLOCKED : Nat := 2
abbrev pzLOST : Nat := 3

def Dev.pzState (d : Dev) (k : Nat) : Nat := d.fld (PTE_PISTE_STATUS k) PTE_PISTE_STATUS_STATE
def Dev.pzOn (d : Dev) (k : Nat) : Bool := d.fld (PTE_PISTE_CTRL k) PTE_PISTE_CTRL_ENABLE == 1
def Dev.pzExt (d : Dev) (k : Nat) : Bool := d.fld (PTE_PISTE_CTRL k) PTE_PISTE_CTRL_SOURCE == 1

/-- A Piste in a state: STATE, LOCK_LIVE and LOST_LIVE (R201), its runs starting again; what a Piste gathered before it was LOST counts no more. -/
def Dev.setPzState (d : Dev) (k s : Nat) : Dev :=
  let p := PTE_PISTE_STATUS k
  let x := d.piste k
  (((d.setFld p PTE_PISTE_STATUS_STATE s).liveEdge p PTE_PISTE_STATUS_LOCK (s == pzLOCKED)).liveEdge p PTE_PISTE_STATUS_LOST (s == pzLOST)).setPiste k
    { x with
      dets := if s = pzLOST then [] else x.dets
      within := 0, beyond := 0, empty := 0, wasLocked := if s = pzDISABLED then false else x.wasLocked || s == pzLOCKED }

/-- Whether an instance's link serves: a port UP, a trunk UP. -/
def Dev.linkServes (d : Dev) (i : Nat) : Bool :=
  if isTrunk i then d.fld (TRK_STATUS (i - 0x300)) TRK_STATUS_STATE == 3 else d.lpUp (i - 0x100)

/-- Whether the markers of a trunk have stopped (R184). -/
def Dev.markersOff (d : Dev) (i : Nat) : Bool := if isTrunk i then (if i = 0x300 then d.pte.trk0 else d.pte.trk1).stopped else false

/-- Whether a management gap runs (R38). -/
def Dev.inGap (d : Dev) : Bool := d.bit GLB_STATE GLB_STATE_GAP

/-- The state of a clock port follows its role and link: 0 without a clock role in force (R206), FAULTY while its link is down,
LISTENING when it comes into force or its link returns (R161). R163 has a SLAVE port whose link goes down go to LISTENING, by the engine: that is what
a management gap shows, in which no other state changes; outside a gap Eodin's FAULTY of R161 stands, DESIGN CHOICE (assumption 77). -/
def Dev.refreshPort (d : Dev) (i k : Nat) : Dev :=
  let clock := d.pzOn k && decide (2 ≤ d.role i k ∧ d.role i k ≤ 4)
  let s := d.portState i k
  let down := !d.linkServes i || d.markersOff i
  if !clock then (if s = 0 then d else d.setPortState i k 0)
  else if d.inGap then (if down ∧ s = psSLAVE then d.setPortState i k psLISTENING else d)
  else if down then d.setPortState i k psFAULTY
  else if s = 0 ∨ s = psFAULTY then d.setPortState i k psLISTENING
  else d

/-- Whether a port or trunk of the Piste is SLAVE or UNCALIBRATED (R149). -/
def Dev.hasSlave (d : Dev) (k : Nat) : Bool := cpInsts.any (fun i => let s := d.portState i k; s == psSLAVE || s == psUNCALIBRATED)

/-- Whether the external source of a Piste is qualified (R165). -/
def Dev.qualified (d : Dev) (k : Nat) : Bool := decide (3 ≤ (d.piste k).run)

/-- Whether a Piste has something to follow: a qualified external source, or a port or trunk (R149). -/
def Dev.sourceOk (d : Dev) (k : Nat) : Bool := if d.pzExt k then d.qualified k else d.hasSlave k

/-- The Piste goes LOST where it has lost its ports or its source (R149). -/
def Dev.checkLost (d : Dev) (k : Nat) : Dev :=
  let s := d.pzState k
  if (s = pzACQUIRING ∨ s = pzLOCKED) ∧ !d.sourceOk k then d.setPzState k pzLOST else d

/-- A port UNCALIBRATED of a Piste that is LOCKED becomes SLAVE; in a management gap it waits (R163). -/
def Dev.calibrated (d : Dev) (k : Nat) : Dev :=
  if d.pzState k = pzLOCKED ∧ !d.inGap then
    cpInsts.foldl (fun e i => if e.portState i k = psUNCALIBRATED then e.setPortState i k psSLAVE else e) d
  else d

/-! ### Grandmaster data (R162, R166, R202) -/

/-- The class of a Piste's grandmaster: the module's own under R166 where its source is external. -/
def Dev.ownClass (d : Dev) (k : Nat) : Nat :=
  let c := PTE_GM_CLASS k
  if d.pte.handOff then 255
  else if d.pzState k = pzLOCKED ∧ d.qualified k then d.fld c PTE_GM_CLASS_CLASS_LOCKED
  else if (d.piste k).wasLocked then d.fld c PTE_GM_CLASS_CLASS_HOLD
  else d.fld c PTE_GM_CLASS_CLASS_FREE

def Ann.p1 (a : Ann) : Nat := byteAt a.body 13
def Ann.cls (a : Ann) : Nat := byteAt a.body 14
def Ann.acc (a : Ann) : Nat := byteAt a.body 15
def Ann.var (a : Ann) : Nat := be16 a.body 16
def Ann.p2 (a : Ann) : Nat := byteAt a.body 18
def Ann.gm (a : Ann) : Nat := beNat (slice a.body 19 8)
def Ann.steps (a : Ann) : Nat := be16 a.body 27

/-- The order of two datasets as one number, the lower the better (IEEE 1588, PRESUMED): the default and IEEE 802.1AS rule, or with
localPriority the alternate one. -/
def Ann.rank (a : Ann) (alt : Bool) (lprio : Nat) : Nat :=
  if alt then
    ((((((a.cls * 0x100 + a.acc) * 0x10000 + a.var) * 0x100 + a.p2) * 0x100 + lprio) * 2 ^ 64 + (if a.cls ≤ 127 then 0 else a.gm)) * 0x10000
      + a.steps) * 2 ^ 80 + a.src
  else
    ((((((a.p1 * 0x100 + a.cls) * 0x100 + a.acc) * 0x10000 + a.var) * 0x100 + a.p2) * 2 ^ 64 + a.gm) * 0x10000 + a.steps) * 2 ^ 80 + a.src

/-- The clockClass of the module as grandmaster of a Piste: that of R166 for an external source, 255 at a hand-off (R732). R166 speaks of no other
Piste; one whose selection finds no better clock advertises 248, the default of IEEE 1588, PRESUMED (assumption 78). -/
def Dev.ownCls (d : Dev) (k : Nat) : Nat := if d.pzExt k ∨ d.pte.handOff then d.ownClass k else 248

/-- The clockClass of a Piste's grandmaster, the module itself where it has none (R192, R194). -/
def Dev.gmCls (d : Dev) (k : Nat) : Nat :=
  if !d.pzExt k && (d.piste k).parent.isSome then d.fld (PTE_GM_QUALITY k) PTE_GM_QUALITY_CLASS else d.ownCls k

/-- The module's own dataset (R166). -/
def Dev.ownAnn (d : Dev) (k : Nat) : Ann :=
  let q := Config.ownQuality.toNat
  let cls := d.ownCls k
  { body := List.replicate 10 0 ++ beBytes 2 (unsignedOf 16 ((d.piste k).utc.getD (signedOf 16 (d.num PTE_TOD_UTC_OFFSET)))) ++ [0] ++
      beBytes 1 (bitsAt q 40 8) ++ beBytes 1 cls ++ beBytes 1 (bitsAt q 32 8) ++ beBytes 2 (bitsAt q 16 16) ++ beBytes 1 (bitsAt q 8 8) ++
      beBytes 8 Config.clockIdentity.toNat ++ beBytes 2 0 ++ beBytes 1 (bitsAt q 0 8),
    flags := 8 + (d.piste k).leap, src := portIdent 0 }

/-- The dataset a Piste advertises: its grandmaster's with stepsRemoved one higher, or its own (R164, R166, R732). -/
def Dev.announced (d : Dev) (k : Nat) : Ann :=
  match (if d.pzExt k ∨ d.pte.handOff then none else (d.piste k).parent) with
  | some a => { a with body := patch a.body 27 (beBytes 2 (a.steps + 1)), src := portIdent 0 }
  | none => d.ownAnn k

/-- The grandmaster of a Piste shown in its items (R202), with the UTC offset and leap flag it gives (R194). -/
def Dev.showParent (d : Dev) (k : Nat) (a : Option Ann) : Dev :=
  let x := d.piste k
  match a with
  | some a =>
    (((d.putNum (PTE_GM_IDENTITY k 0) (a.gm % 2 ^ 48)).putNum (PTE_GM_IDENTITY k 1) (a.gm / 2 ^ 48)).putNum (PTE_GM_QUALITY k)
      ((((a.p1 * 0x100 + a.cls) * 0x100 + a.acc) * 0x10000 + a.var) * 0x100 + a.p2)).setPiste k
      { x with parent := some a, utc := some (signedOf 16 (be16 a.body 10)), leap := a.flags % 4 }
  | none => (((d.putNum (PTE_GM_IDENTITY k 0) 0).putNum (PTE_GM_IDENTITY k 1) 0).putNum (PTE_GM_QUALITY k) 0).setPiste k { x with parent := none }

/-- The dataset of a grandmaster as PTE_GM_QUALITY shows it (R202). -/
def Ann.quality (a : Ann) : Nat := (((a.p1 * 0x100 + a.cls) * 0x100 + a.acc) * 0x10000 + a.var) * 0x100 + a.p2

/-- PTE_GM_QUALITY and PTE_GM_IDENTITY of a Piste: with an external source it is its own grandmaster (R166, assumption 83). -/
def Dev.gmQuality (d : Dev) (k : Nat) : Nat := if d.pzOn k && d.pzExt k then (d.ownAnn k).quality else d.num (PTE_GM_QUALITY k)
def Dev.gmIdentity (d : Dev) (k j : Nat) : Nat :=
  if d.pzOn k && d.pzExt k then Config.clockIdentity.toNat / 2 ^ (48 * j) % 2 ^ 48 else d.num (PTE_GM_IDENTITY k j)

/-- Whether a Piste is eligible (R173). -/
def Dev.pzEligible (d : Dev) (k : Nat) : Bool :=
  d.pzState k == pzLOCKED &&
    decide ((if d.pzExt k then d.ownClass k else d.fld (PTE_GM_QUALITY k) PTE_GM_QUALITY_CLASS) ≤ d.fld (PTE_PISTE_CTRL k) PTE_PISTE_CTRL_CLASS_MAX)

/-- NONE_LIVE (R176), and DEG_LIVE of both outputs (R189). -/
def Dev.steerLive (d : Dev) : Dev :=
  let none_ := !d.pzEligible 1 && !d.pzEligible 2
  let deg := !d.setLive || d.bit TK_STATUS TK_STATUS_NUMERIC || none_
  [0, 1].foldl (fun e o => e.liveEdge (PTE_OUT_STATUS o) PTE_OUT_STATUS_DEG deg) (d.liveEdge PTE_STATUS PTE_STATUS_NONE none_)

/-- localPriority of an instance for a Piste (R205). -/
def Dev.lprio (d : Dev) (i k : Nat) : Nat := d.fld (PTE_PORT_ROLE i) (if k = 1 then PTE_PORT_ROLE_LPRIO_A else PTE_PORT_ROLE_LPRIO_B)

/-- Whether a Piste's profile selects by the alternate rule (R151). -/
def Dev.altSel (d : Dev) (k : Nat) : Bool := d.profile k == 3 || d.profile k == 4

/-- The instances that may become SLAVE, with the dataset each holds. -/
def Dev.candidates (d : Dev) (k : Nat) : List (Nat × Ann) :=
  cpInsts.filterMap (fun i =>
    let s := d.portState i k
    if s = 0 ∨ s = psFAULTY ∨ d.role i k = roleMASTER_ONLY then none else (d.cport i k).ann.map (fun a => (i, a)))

/-- The state that selection gives an instance (R156, R162): `best` is the instance that receives the chosen grandmaster. At a run for a change of
port state (`keep`) a port that listens and has heard no Announce goes on listening (R161). -/
def Dev.selected (d : Dev) (k i : Nat) (best : Option (Nat × Nat)) (keep : Bool) : Nat :=
  let s := d.portState i k
  let r := d.role i k
  if keep && s == psLISTENING && (d.cport i k).ann.isNone then s
  else
  match best with
  | some (j, rank) =>
    if i = j then (if s = psSLAVE then psSLAVE else psUNCALIBRATED)
    else if r = roleSLAVE_ONLY then psLISTENING
    else if r = roleMASTER_ONLY then psMASTER
    else
      (match (d.cport i k).ann with
       | some a => if a.rank (d.altSel k) (d.lprio i k) < rank + 2 ^ 80 then psPASSIVE else psMASTER
       | none => psMASTER)
  | none => if r = roleSLAVE_ONLY then psLISTENING else psMASTER

/-- Best-master selection of a Piste (R162): none runs during a management gap (R163) or while the Piste is not enabled. -/
def Dev.selectKeep (d : Dev) (k : Nat) (keep : Bool) : Dev :=
  if !d.pzOn k || d.inGap then d
  else
    let own := (d.ownAnn k).rank (d.altSel k) 128
    let ranked := (d.candidates k).map (fun c => (c.1, c.2, c.2.rank (d.altSel k) (d.lprio c.1 k)))
    let best := ranked.foldl
      (fun (b : Option (Nat × Ann × Nat)) c => match b with | some x => if c.2.2 < x.2.2 then some c else b | none => some c) none
    let chosen := if d.pzExt k then none else (match best with | some x => if x.2.2 < own then some x else none | none => none)
    let d1 := cpInsts.foldl
      (fun e i => let s := e.portState i k
                  if s = 0 ∨ s = psFAULTY then e else e.setPortState i k (d.selected k i (chosen.map (fun x => (x.1, x.2.2))) keep)) d
    let d2 := if d.pzExt k then d1 else d1.showParent k (chosen.map (fun x => x.2.1))
    (d2.checkLost k).steerLive

/-- Selection at an Announce, and at least once per announce interval (R162). -/
def Dev.select (d : Dev) (k : Nat) : Dev := d.selectKeep k false

/-- Selection at a change of port state (R162): where any state of a Piste differs from what it was. -/
def Dev.reselect (d was : Dev) (k : Nat) : Dev :=
  if cpInsts.any (fun i => d.portState i k != was.portState i k) then d.selectKeep k true else d

/-- What the two Pistes lose and select after their clock ports have changed (R149, R161, R162). -/
def Dev.portsMoved (d was : Dev) : Dev := ([1, 2].foldl (fun e k => (e.checkLost k).reselect was k) d).steerLive

/-- Clock ports of an instance after its link went down or came back (R161): exchanges under way end. -/
def Dev.clockDrop (d : Dev) (i : Nat) : Dev :=
  [1, 2].foldl (fun e k => (e.refreshPort i k).setCport i k { e.cport i k with sync := none, dreq := none, preq := none }) d

def Dev.clockLink (d : Dev) (i : Nat) : Dev := (d.clockDrop i).portsMoved d

/-- At the end of a management gap Eodin gives every clock port the state that it could not have in the gap (R163). -/
def Dev.gapPorts (d : Dev) : Dev :=
  ([1, 2].foldl (fun (e : Dev) k => (cpInsts.foldl (fun f i => f.refreshPort i k) e).calibrated k) d).portsMoved d

/-! ### Steering (R172 to R180) -/

/-- ACTIVE: 0 A, 1 B, 2 none (R199). -/
def Dev.active (d : Dev) : Nat := d.fld PTE_STATUS PTE_STATUS_ACTIVE
def Dev.activeIs (d : Dev) (k : Nat) : Bool := d.active == k - 1

/-- Φ of a Piste held and shown in ps, saturating (R146). -/
def Dev.setPhi (d : Dev) (k : Nat) (x : Int) : Dev := (d.setPiste k { d.piste k with phi := x }).putInt (PTE_PISTE_OFFSET k) (uToPs x)

/-- SWITCH_LIVE (R180): 1 until the phase removal and the frequency ramp are complete. -/
def Dev.switchSettle (d : Dev) : Dev := d.live PTE_STATUS PTE_STATUS_SWITCH (d.pte.steer.slew != 0 || d.pte.steer.ramp || d.pte.steer.handed)

/-- A Φ_sw handed to the Timekeeper is removed once no adjustment or step waits and TK_SLEW_REMAIN is 0 (R180). -/
def Dev.handedDone (d : Dev) : Dev :=
  if d.pte.steer.handed ∧ d.tk.adj = [] ∧ d.tk.steps = [] ∧ d.tk.remain = 0 then
    ({ d with pte := { d.pte with steer := { d.pte.steer with handed := false } } }).switchSettle
  else d

/-- The network time at which the present UTC day ends, a leap second of it included (R194). -/
def Dev.dayEnd (d : Dev) (utc : Int) (leap : Nat) : Nat :=
  let u := (twSec d.tk.time : Int) - utc
  (((u.fdiv 86400 + 1) * 86400 + utc + (if leap = 1 then 1 else if leap = 2 then -1 else 0)) * sec1).toNat

/-- ACTIVE set, with what R194 keeps of the Piste that was active. -/
def Dev.setActive (d : Dev) (a : Nat) : Dev :=
  let d1 := if d.active < 2 then
      (let k := d.active + 1
       let utc := (d.piste k).utc.getD d.pte.steer.utc
       let leap := (d.piste k).leap
       { d with pte := { d.pte with steer :=
           { d.pte.steer with last := some k, utc := utc, leap := leap, leapEnd := d.dayEnd utc leap } } })
    else d
  d1.setFld PTE_STATUS PTE_STATUS_ACTIVE a

/-- The treatment of Φ_sw at a switch-over to Piste `k` (R178, R179). A phase handed to the Timekeeper leaves Φ as its step takes effect (R66). -/
def Dev.alignTo (d : Dev) (k : Nat) : Dev :=
  let x := (d.piste k).phi
  let ps := (uToPs x).natAbs
  let st := d.pte.steer
  let base := d.int TK_FREQ_ADJ
  let put (e : Dev) (slew : Int) (h : Bool) : Dev :=
    { e with pte := { e.pte with steer := { st with base := base, slew := slew, ramp := true, handed := h } } }
  let d1 :=
    if !d.setLive then put (d.addAdj x) 0 true
    else if ps ≤ d.num PTE_SW_ALIGN then put d 0 false
    else if ps ≤ d.num PTE_SW_SLEW_LIMIT ∨ d.fld PTE_CTRL PTE_CTRL_SW_STEP_EN = 0 then put d x false
    else put (d.addAdj x) 0 true
  d1.switchSettle

/-- A switch-over to Piste `k` (R178 to R180); while the host steers only ACTIVE is chosen (R177). -/
def Dev.switchOver (d : Dev) (k : Nat) : Dev :=
  let d1 := d.setActive (k - 1)
  if !d.steered then d1
  else
    let d2 := ((d1.putInt PTE_SW_LAST (uToPs (d.piste k).phi)).stick PTE_STATUS PTE_STATUS_SWITCH).bump PTE_SWITCH_COUNT 1
    d2.alignTo k

abbrev tWTR : Nat := tmr 9 0

/-- Wait-to-restore stopped (R175). -/
def Dev.cancelWtr (d : Dev) : Dev := (d.stopT tWTR).live PTE_STATUS PTE_STATUS_WTR false

/-- The choice of the active Piste at a servo update (R172, R174, R175): at most one switch-over, and none at the update that stops the
settling of a switch-over to a Piste now LOST. -/
def Dev.steer (d : Dev) : Dev :=
  let m := d.fld PTE_CTRL PTE_CTRL_STEER_MODE
  let force (k : Nat) : Dev :=
    if d.pzState k = pzDISABLED then d.cancelWtr.setActive 2 else if d.activeIs k then d.cancelWtr else d.cancelWtr.switchOver k
  if m = 1 then force 1 else if m = 2 then force 2
  else if m = 3 then d.cancelWtr.setActive 2
  else if d.steered ∧ d.active < 2 ∧ d.pzState (d.active + 1) = pzLOST ∧ (d.pte.steer.slew ≠ 0 ∨ d.pte.steer.ramp) then d.cancelWtr
  else
    let p := d.fld PTE_CTRL PTE_CTRL_PREFER + 1
    let q := 3 - p
    if d.active = 2 then
      (if d.pzEligible p then d.cancelWtr.switchOver p else if d.pzEligible q then d.cancelWtr.switchOver q else d.cancelWtr)
    else
      let a := d.active + 1
      let o := 3 - a
      if !d.pzEligible a ∧ d.pzEligible o then d.cancelWtr.switchOver o
      else if d.fld PTE_CTRL PTE_CTRL_REVERTIVE = 1 ∧ a = q ∧ d.pzEligible p then
        (if d.runsT tWTR then d
         else if d.num PTE_WTR = 0 then d.switchOver p
         else (d.startT tWTR (d.num PTE_WTR * sec1)).liveEdge PTE_STATUS PTE_STATUS_WTR true)
      else d.cancelWtr

/-- WAIT_TO_RESTORE_END (R175). -/
def Dev.wtrEnd (d : Dev) : Dev :=
  if d.runsT tWTR then
    let p := d.fld PTE_CTRL PTE_CTRL_PREFER + 1
    let d1 := (d.dueT tWTR).cancelWtr
    if d1.pzEligible p ∧ !d1.activeIs p then d1.switchOver p else d1
  else d

/-- The phase that a frequency in 2^-16 ppb gathers over one update of 62.5 ms, in 2^-48 ns. -/
def phaseOf62 (f : Int) : Int := (f * 62500000 * (ns1 : Int)).fdiv ppbOne

/-- The holdover value of the active servo (R280): the mean of its outputs at LOCKED updates within HO_AVG seconds that end HO_GUARD
seconds before the last update at which it was eligible; none with fewer than 16. -/
def Dev.heldOutput (d : Dev) (k : Nat) : Option Int :=
  let x := d.piste k
  let g := 16 * d.fld REFC_HO_CTRL REFC_HO_CTRL_HO_GUARD
  let a := 16 * d.fld REFC_HO_CTRL REFC_HO_CTRL_HO_AVG
  let l := (x.hist.filter (fun h => decide (h.1 + g ≤ x.eligAt ∧ x.eligAt < h.1 + g + a))).map (·.2)
  if l.length < 16 then none else some ((l.foldl (· + ·) 0).fdiv l.length)

/-- TK_FREQ_ADJ written by the active servo, within its range. -/
def Dev.writeOut (d : Dev) (x : Int) : Dev := d.putInt TK_FREQ_ADJ (clampTo (-65536000000) 65536000000 x)

/-- The frequency output of the active servo (R146, R174, R178, R179, R280): a ramp toward the Piste's f and a slew of what is left of
Φ_sw; the holdover value while no Piste is eligible; the last value while the Piste is LOST. -/
def Dev.output (d : Dev) (k : Nat) : Dev :=
  let st := d.pte.steer
  let stop (e : Dev) : Dev := ({ e with pte := { e.pte with steer := { st with slew := 0, ramp := false } } }).switchSettle
  if !d.steered then d
  else if !d.pzEligible 1 ∧ !d.pzEligible 2 then
    (match d.heldOutput k with | some x => (stop d).writeOut x | none => stop d)
  else if d.pzState k = pzLOST then stop d
  else
    let f := d.int (PTE_PISTE_FREQ k)
    let q := (d.int PTE_SW_FREQ_RATE).fdiv 16
    let base := if st.ramp then (if st.base + q < f then st.base + q else if f < st.base - q then st.base - q else f) else f
    let r := d.int PTE_SW_SLEW_RATE
    let quant := phaseOf62 r
    let part := if quant ≤ (st.slew.natAbs : Int) then (if st.slew < 0 then -r else r)
      else (st.slew * ppbOne).fdiv (62500000 * (ns1 : Int))
    let slew := if quant ≤ (st.slew.natAbs : Int) then (if st.slew < 0 then st.slew + quant else st.slew - quant) else 0
    let x := d.piste k
    let n := 16 * (d.fld REFC_HO_CTRL REFC_HO_CTRL_HO_GUARD + d.fld REFC_HO_CTRL REFC_HO_CTRL_HO_AVG)
    let d1 := if d.pzState k = pzLOCKED then d.setPiste k { x with hist := ((x.upd, base) :: x.hist).take n } else d
    ({ d1 with pte := { d1.pte with steer := { st with base := base, slew := slew, ramp := st.ramp && base != f } } }.writeOut
      (base + part)).switchSettle

/-- The count of updates, the last one at which the Piste was eligible, and its f over the second, with the PLL-T offset applied then (R249,
R280). -/
def Dev.countUpdate (d : Dev) (k : Nat) : Dev :=
  let x := d.piste k
  d.setPiste k { x with upd := x.upd + 1, eligAt := if d.pzEligible k then x.upd + 1 else x.eligAt,
                        fSum := x.fSum + d.int (PTE_PISTE_FREQ k) + d.pll, fCount := x.fCount + 1 }

/-! ### Servos (R148 to R150) -/

/-- The mean of offsets in 2^-16 ns, as a phase in 2^-48 ns. -/
def meanOf (l : List Int) : Int := (l.foldl (· + ·) 0 * 0x100000000).fdiv l.length

/-- The offsets of an update, less the asymmetry in force of the link that gave each (R167, R168). An edge's value is the named second minus its
stamp (R165), and its offset the same with the sign turned. -/
def Dev.offsets (d : Dev) (k : Nat) : List Int :=
  (d.piste k).dets.map (fun o => if o.2 = 0 then -o.1 else o.1 - d.int (PTE_ASYM o.2))

/-- The loop of Piste `k` at an update (R148 to R150). The manual gives no equation of the loop: its new f is a free value within the limits of
TK_FREQ_ADJ. The detector is compared with the threshold, less the part of Φ_sw still to slew (R178); Φ is the mean offset with its sign
turned (R168). A Piste that is LOST acquires again where it has something to follow. -/
def Dev.servoLoop (d0 : Dev) (k : Nat) : Dev :=
  let d := d0.countUpdate k
  let x := d.piste k
  let s := d.pzState k
  if x.dets = [] then
    let d1 := d.setPiste k { x with empty := min 16 (x.empty + 1) }
    if s = pzLOST then d1.setPhi k (x.phi + phaseOf62 (d.int (PTE_PISTE_FREQ k) - d.rate)) else d1
  else
    let raw := meanOf (d.offsets k)
    let det := if d.activeIs k then raw + d.pte.steer.slew else raw + x.phi
    let ok := decide ((uToPs det).natAbs ≤ d.num (PTE_LOCK_THRESHOLD k))
    let d1 := d.took.putInt (PTE_PISTE_FREQ k) (signedOf 37 d.free)
    let d2 := (d1.setPiste k { x with dets := [], empty := 0, within := if ok then min 16 (x.within + 1) else 0,
                                      beyond := if ok then 0 else min 16 (x.beyond + 1) }).setPhi k (-raw)
    let d3 := if (s = pzLOST ∧ d.sourceOk k) ∨ (s = pzLOCKED ∧ !ok ∧ 15 ≤ x.beyond) then d2.setPzState k pzACQUIRING else d2
    let y := d3.piste k
    if d3.activeIs k ∧ d3.steered ∧ d3.pzState k = pzACQUIRING ∧ d3.num TK_STEP_THRESHOLD < (uToPs y.phi).natAbs then d3.addAdj y.phi else d3

/-- The period of the servos: 62.5 ms (R148). -/
abbrev servoPer : Nat := 62500000 * ns1

/-- SERVO_UPDATE of Piste `k` at its next multiple of 62.5 ms (R148 to R150): its loop, and the choice of the active Piste, which every update makes
(R174), that of a DISABLED Piste too. -/
def Dev.servoUpdate (d0 : Dev) (k : Nat) : Dev :=
  let t := d0.beatAt servoPer (d0.piste k).beat
  let d1 := d0.advanceTo t
  let d2 := d1.setPiste k { d1.piste k with beat := d1.beatOf t }
  let d3 := (if d2.pzState k = pzDISABLED then d2 else d2.servoLoop k).steer
  (if d3.activeIs k then d3.output k else d3).steerLive

/-- PISTE_LOCKED (R149). -/
def Dev.pisteLocked (d : Dev) (k : Nat) : Dev :=
  if d.pzState k = pzACQUIRING ∧ 16 ≤ (d.piste k).within then
    ((d.setPzState k pzLOCKED).calibrated k).portsMoved d
  else d

/-- PISTE_LOST (R149). -/
def Dev.pisteLost (d : Dev) (k : Nat) : Dev :=
  if (d.pzState k = pzACQUIRING ∨ d.pzState k = pzLOCKED) ∧ 16 ≤ (d.piste k).empty then (d.setPzState k pzLOST).steerLive else d

/-- Offsets follow a Timekeeper step at the tick where it takes effect (R68): both servos subtract it from their Φ, and a slew goes
on with the rest of Φ_sw less the step. -/
def Dev.servoStep (d : Dev) (x : Int) : Dev :=
  let f (e : Dev) (k : Nat) : Dev := if e.pzState k = pzDISABLED then e else e.setPhi k ((e.piste k).phi - x)
  let d1 := f (f d 1) 2
  if d1.pte.steer.slew = 0 then d1 else { d1 with pte := { d1.pte with steer := { d1.pte.steer with slew := d1.pte.steer.slew - x } } }

/-- The bandwidth loop of a Piste (R170). -/
def bwLoop (k : Nat) : LoopItems := ⟨PTE_SERVO_BW_BOUNDS k, PTE_SERVO_BW_HELD k, PTE_SERVO_BW_HELD_TIME k, PTE_SERVO_BW k⟩

/-- SERVO_BW_UPDATE with the demand in mHz, at the next whole second (R170, R171): at most a quarter of the applied value, and at least one step. -/
def Dev.servoBw (d0 : Dev) (k : Nat) (demand : Int) : Dev :=
  let t := d0.beatAt sec1 (d0.piste k).bwBeat
  let d1 := d0.advanceTo t
  let d := d1.setPiste k { d1.piste k with bwBeat := d1.beatOf t }
  if d.pzState k = pzLOST ∨ d.pzState k = pzDISABLED then d
  else d.loopUpdate (bwLoop k) demand (some (max 1 ((d.int (PTE_SERVO_BW k)).fdiv 4)))

/-! ### Messages received (R157, R168, R169) -/

/-- The oldest terminated message of a kind and type, and what remains. -/
def Dev.takeMsg (d : Dev) (kind typ : Nat) : Dev × Option Term :=
  match d.net.inbox.find? (fun t => t.kind == kind && pmType t.bytes == typ) with
  | none => (d, none)
  | some t => ({ d with net := { d.net with inbox := d.net.inbox.erase t } }, some t)

/-- The optic delays of a port from its user record (R168), in 2^-16 ns. -/
def Dev.opticRx (d : Dev) (i : Nat) : Int := if isTrunk i then 0 else d.int (CAL_OPTIC_RX (i - 0x100))
def Dev.opticTx (d : Dev) (i : Nat) : Int := if isTrunk i then 0 else d.int (CAL_OPTIC_TX (i - 0x100))

/-- A mean path or link delay shown, unsigned (R197). -/
def Dev.setMean (d : Dev) (i k : Nat) (m : Int) : Dev := d.putNum (if k = 1 then PTE_MEAN_DELAY_A i else PTE_MEAN_DELAY_B i) (if m < 0 then 0 else m.toNat)
def Dev.meanDelay (d : Dev) (i k : Nat) : Int := d.num (if k = 1 then PTE_MEAN_DELAY_A i else PTE_MEAN_DELAY_B i)

/-- A value, in 2^-16 ns, given to a Piste's servo by instance `i`, or by an edge (0). -/
def Dev.detector (d : Dev) (k i : Nat) (x : Int) : Dev := d.setPiste k { d.piste k with dets := (d.piste k).dets ++ [(x, i)] }

/-- Whether the engine of a Piste uses a port as its slave. -/
def Dev.slaveAt (d : Dev) (i k : Nat) : Bool := d.portState i k == psSLAVE || d.portState i k == psUNCALIBRATED

/-- A Sync whose t1 is known (R168): t2' - t1' is kept, and under a peer-to-peer profile it gives an offset. -/
def Dev.syncDone (d : Dev) (i k t1 : Nat) (s : SyncSt) : Dev :=
  let md : Int := ((s.t2 : Int) - t1) / 0x100000000 - s.corr - d.opticRx i
  let d1 := d.setCport i k { d.cport i k with sync := none, md := some md }
  if p2pProfile (d.profile k) then d1.detector k i (md - d.meanDelay i k) else d1

/-- SYNC_RX (R168): used where the port is SLAVE or UNCALIBRATED (R157), and its stamp is not flagged. -/
def Dev.syncRx (d : Dev) : Dev :=
  let r := d.takeMsg 0 mtSYNC
  match r.2 with
  | none => d
  | some t =>
    let i := 0x100 + t.lp
    let k := t.piste
    if !d.slaveAt i k || t.bad then r.1
    else
      let s : SyncSt := { seq := pmSeq t.bytes, t2 := t.stamp, bad := t.bad, corr := pmCorr t.bytes, t1 := none }
      if pmTwoStep t.bytes then r.1.setCport i k { r.1.cport i k with sync := some s } else r.1.syncDone i k (pmTime t.bytes 34) s

/-- FOLLOW_UP_RX (R168): t1 and the rest of the correction of a two-step Sync. -/
def Dev.followUpRx (d : Dev) : Dev :=
  let r := d.takeMsg 1 mtFOLLOW_UP
  match r.2 with
  | none => d
  | some t =>
    let i := 0x100 + t.lp
    match (d.cport i t.piste).sync with
    | some s =>
      if s.seq = pmSeq t.bytes then r.1.syncDone i t.piste (pmTime t.bytes 34) { s with corr := s.corr + pmCorr t.bytes } else r.1
    | none => r.1

/-- The egress time that RETURN gave for a request (R123), taken from what has come back. -/
def Dev.takeReturn (d : Dev) (typ dom seq lp : Nat) : Dev × Option Nat :=
  match d.net.returns.find? (fun r => r.1 == typ && r.2.1 == dom && r.2.2.1 == seq && r.2.2.2.1 == lp) with
  | some r => ({ d with net := { d.net with returns := d.net.returns.filter (fun x => !(x.1 == typ && x.2.1 == dom && x.2.2.2.1 == lp)) } }, some r.2.2.2.2.1)
  | none => (d, none)

/-- The domain of a Piste. -/
def Dev.domainOf (d : Dev) (k : Nat) : Nat := d.fld (PTE_PISTE_CTRL k) PTE_PISTE_CTRL_DOMAIN

/-- DELAY_RESP_RX (R168): an end-to-end exchange completes and gives an offset. -/
def Dev.delayRespRx (d : Dev) : Dev :=
  let r := d.takeMsg 1 mtDELAY_RESP
  match r.2 with
  | none => d
  | some t =>
    let i := 0x100 + t.lp
    let k := t.piste
    let c := d.cport i k
    if !d.slaveAt i k || c.dreq != some (pmSeq t.bytes) || pmAsked t.bytes != portIdent (t.lp + 1) then r.1
    else
      let e := r.1.takeReturn mtDELAY_REQ (d.domainOf k) (pmSeq t.bytes) t.lp
      match e.2, c.md with
      | some t3, some md =>
        let dm : Int := ((pmTime t.bytes 34 : Int) - t3) / 0x100000000 - pmCorr t.bytes - d.opticTx i
        let mean := (md + dm).fdiv 2
        ((e.1.setCport i k { c with dreq := none }).setMean i k mean).detector k i (md - mean)
      | _, _ => e.1.setCport i k { c with dreq := none }

/-- A link delay of one exchange (R159): the mean of the last 16 is shown, and loaded into TSU_RX_ADD of a peer-to-peer TC. -/
def Dev.linkDelay (d : Dev) (i k : Nat) (x : Int) : Dev :=
  let c := d.cport i k
  let l := (x :: c.pd).take 16
  let m := (l.foldl (· + ·) 0).fdiv l.length
  let d1 := (d.setCport i k { c with pd := l }).setMean i k m
  if d.role i k = roleTC ∧ p2pProfile (d.profile k) then
    { d1 with pte := { d1.pte with loads := Tbl.set d1.pte.loads none (i - 0x100) (some m) } }
  else d1

/-- Whether a role under a profile makes a transparent clock: 0 none, 1 end to end, 2 peer to peer. A disabled Piste makes none. -/
def tcKind (on : Bool) (role prof : Nat) : Nat := if on && role == roleTC then (if p2pProfile prof then 2 else 1) else 0

/-- Whether a port is a peer-to-peer TC of an enabled Piste (R159). -/
def Dev.p2pTc (d : Dev) (i : Nat) : Bool := [1, 2].any (fun k => tcKind (d.pzOn k) (d.role i k) (d.profile k) == 2)

/-- TSU_RX_ADD loaded at a refill tick (R159): the mean link delay, with PTE_ASYM as it then is (R167); 0 where the port is no peer-to-peer TC. -/
def Dev.loadRxAdd (d : Dev) (now : Nat → Bool) : Dev :=
  (d.pte.loads.filter (fun x => now x.1)).foldl
    (fun e x => match x.2 with
      | some v => e.putInt (TSU_RX_ADD x.1) (if e.p2pTc (0x100 + x.1) then v + e.int (PTE_ASYM (0x100 + x.1)) else 0)
      | none => e)
    { d with pte := { d.pte with loads := d.pte.loads.filter (fun x => !now x.1) } }

/-- PDELAY_RESP_RX (R159): a one-step response completes the exchange, a two-step one waits for its Follow_Up. -/
def Dev.pdelayRespRx (d : Dev) : Dev :=
  let r := d.takeMsg 0 mtPDELAY_RESP
  match r.2 with
  | none => d
  | some t =>
    let i := 0x100 + t.lp
    let k := t.piste
    let c := d.cport i k
    if c.preq != some (pmSeq t.bytes) || pmAsked t.bytes != portIdent (t.lp + 1) then r.1
    else
      let e := r.1.takeReturn mtPDELAY_REQ (d.domainOf k) (pmSeq t.bytes) t.lp
      match e.2 with
      | none => e.1
      | some t1 =>
        let rt : Int := ((t.stamp : Int) - t1) / 0x100000000 - pmCorr t.bytes
        if t.bad then e.1.setCport i k { c with preq := none }
        else if pmTwoStep t.bytes then
          e.1.setCport i k { c with preq := none, presp := some (pmSeq t.bytes, rt + (pmTime t.bytes 34 : Int) / 0x100000000) }
        else (e.1.setCport i k { c with preq := none }).linkDelay i k (rt.fdiv 2)

/-- PDELAY_RESP_FOLLOW_UP_RX (R157): terminated at a peer-to-peer port, it completes a two-step exchange. -/
def Dev.pdelayFollowUpRx (d : Dev) : Dev :=
  let r := d.takeMsg 1 mtPDELAY_FU
  match r.2 with
  | none => d
  | some t =>
    let i := 0x100 + t.lp
    let c := d.cport i t.piste
    match c.presp with
    | some (s, x) =>
      if s = pmSeq t.bytes then
        (r.1.setCport i t.piste { c with presp := none }).linkDelay i t.piste ((x - (pmTime t.bytes 34 : Int) / 0x100000000 - pmCorr t.bytes).fdiv 2)
      else r.1
    | none => r.1

/-! ### Messages sent (R152, R155, R158) -/

/-- The transport of a port for a Piste (R205). -/
def Dev.trans (d : Dev) (i k : Nat) : Nat := d.fld (PTE_PORT_ROLE i) (if k = 1 then PTE_PORT_ROLE_TRANS_A else PTE_PORT_ROLE_TRANS_B)

/-- A PTP message on its way out of port `n`: to the multicast addresses of its transport, or unicast to an address whose next hop Eodin
has resolved (R151, R155, R205). It is queued on Q7, a queue the manual leaves to the engine (DESIGN CHOICE). -/
def Dev.sendPtp (d : Dev) (n k : Nat) (event peer : Bool) (to_ : Option (Nat × Nat)) (msg : List Byte) (g : Frame → Frame) : Dev :=
  let i := 0x100 + n
  let port := if event then 319 else 320
  let tr := d.trans i k
  let low := d.fld (PTE_PORT_ROLE i) (if k = 1 then PTE_PORT_ROLE_MAC_A else PTE_PORT_ROLE_MAC_B) = 1 ∧ !p2pProfile (d.profile k)
  let src := beBytes 6 Config.mac.toNat
  let b :=
    if tr = 1 then
      (let dst := match to_ with | some x => x.1 | none => if peer then 0xE000006B else 0xE0000181
       let mac := match to_ with | some x => x.2 | none => 0x01005E000000 + dst % 0x800000
       beBytes 6 mac ++ src ++ beBytes 2 0x0800 ++ udp4 (d.num (PTE_PORT_IP4 n)) dst port (if peer then 1 else 64) msg)
    else if tr = 2 then
      (let dst := match to_ with | some x => x.1 | none => if peer then 0xFF02 * 2 ^ 112 + 0x6B else 0xFF0E * 2 ^ 112 + 0x181
       let mac := match to_ with | some x => x.2 | none => 0x333300000000 + dst % 2 ^ 32
       beBytes 6 mac ++ src ++ beBytes 2 0x86DD ++ udp6 (d.addr128 (PTE_PORT_IP6 n 0)) dst port (if peer then 1 else 64)
         (if event then msg ++ [0, 0] else msg))
    else beBytes 6 (if peer || low || d.profile k == 5 then 0x0180C200000E else 0x011B19000000) ++ src ++ beBytes 2 0x88F7 ++ msg
  (d.originate (qOf n 7) b g).1

/-- The header of a message that the engine sends on port `n` for Piste `k`. -/
def Dev.headOf (d : Dev) (n k typ seq : Nat) (log : Int) : PtpHead :=
  { typ := typ, sdo := if d.profile k = 5 then 1 else 0, domain := d.domainOf k, src := portIdent (n + 1), seq := seq, log := log }

/-- A log interval of a port (R207). -/
def Dev.logOf (d : Dev) (n k : Nat) (f : Fld) : Int := signedOf 4 (d.fld (if k = 1 then PTE_PORT_RATES_A n else PTE_PORT_RATES_B n) f)

/-- The Follow_Up information TLV of IEEE 802.1AS (R152): cumulativeScaledRateOffset from the Piste's f. -/
def Dev.asTlv (d : Dev) (k : Nat) : List Byte :=
  let r := (d.int (PTE_PISTE_FREQ k) * (2 ^ 41 : Nat)).fdiv ppbOne
  beBytes 2 3 ++ beBytes 2 28 ++ [0, 0x80, 0xC2, 0, 0, 1] ++ beBytes 4 (unsignedOf 32 r) ++ List.replicate 18 0

/-- The grants of a port that ask for a message type, and where each is sent. -/
def Dev.grantsFor (d : Dev) (n k typ : Nat) : List Grant := d.pte.grants.filter (fun g => g.piste == k && g.lp == n && g.typ == typ)

/-- SYNC_TX on port `n` for Piste `k` (R152, R158): a one-step Sync with ORIGIN from a MASTER port; under profile 0x4 one to each grant. -/
def Dev.syncTx (d : Dev) (n k : Nat) : Dev :=
  let i := 0x100 + n
  if d.portState i k ≠ psMASTER then d
  else
    let c := d.cport i k
    let d1 := d.setCport i k { c with seqSync := (c.seqSync + 1) % 0x10000 }
    let m := ptpBytes (d.headOf n k mtSYNC c.seqSync (d.logOf n k PTE_PORT_RATES_A_LOG_SYNC))
      (List.replicate 10 0 ++ if d.profile k = 5 then d.asTlv k else [])
    let g (f : Frame) : Frame := { f with op := opORIGIN }
    if d.profile k = 4 then (d.grantsFor n k mtSYNC).foldl (fun e x => e.sendPtp n k true false (some (x.addr, x.mac)) m g) d1
    else d1.sendPtp n k true false none m g

/-- ANNOUNCE_TX (R162, R166). -/
def Dev.announceTx (d : Dev) (n k : Nat) : Dev :=
  let i := 0x100 + n
  if d.portState i k ≠ psMASTER ∨ d.pwr.handOff then d
  else
    let c := d.cport i k
    let a := d.announced k
    let d1 := d.setCport i k { c with seqAnn := (c.seqAnn + 1) % 0x10000 }
    let m := ptpBytes { d.headOf n k mtANNOUNCE c.seqAnn (d.logOf n k PTE_PORT_RATES_A_LOG_ANNOUNCE) with flags := a.flags } a.body
    if d.profile k = 4 then (d.grantsFor n k mtANNOUNCE).foldl (fun e x => e.sendPtp n k false false (some (x.addr, x.mac)) m id) d1
    else d1.sendPtp n k false false none m id

/-- Whether entry `j` of a Piste's unicast master table is in use, its port and its address (R204). -/
def Dev.umtOn (d : Dev) (k j : Nat) : Bool := bitsAt (d.num (PTE_UMT k (4 * j))) 0 1 == 1
def Dev.umtPort (d : Dev) (k j : Nat) : Nat := bitsAt (d.num (PTE_UMT k (4 * j))) 8 8
def Dev.umtAddr (d : Dev) (k j : Nat) : Nat :=
  if bitsAt (d.num (PTE_UMT k (4 * j))) 1 1 = 1 then
    d.num (PTE_UMT k (4 * j + 1)) % 2 ^ 32 + d.num (PTE_UMT k (4 * j + 2)) * 2 ^ 32 + d.num (PTE_UMT k (4 * j + 3)) * 2 ^ 80
  else d.num (PTE_UMT k (4 * j + 1)) % 2 ^ 32

/-- The address of the unicast master table's entry for a port, its next hop being a free value (R155, R204). -/
def Dev.masterAddr (d : Dev) (n k : Nat) : Option Nat :=
  ((List.range 16).find? (fun j => d.umtOn k j && d.umtPort k j == n)).map (fun j => d.umtAddr k j)

/-- DELAY_REQ_TX (R158): with RETURN, from a port that follows a master under an end-to-end profile. -/
def Dev.delayReqTx (d : Dev) (n k : Nat) : Dev :=
  let i := 0x100 + n
  if !d.slaveAt i k || p2pProfile (d.profile k) then d
  else
    let c := d.cport i k
    let d1 := d.setCport i k { c with seqDel := (c.seqDel + 1) % 0x10000, dreq := some c.seqDel }
    let m := ptpBytes (d.headOf n k mtDELAY_REQ c.seqDel 0x7F) (List.replicate 10 0)
    let g (f : Frame) : Frame := { f with ret := true }
    if d.profile k = 4 then
      (match d.masterAddr n k with
       | some a => d1.took.sendPtp n k true false (some (a, d.free % 2 ^ 48)) m g
       | none => d1)
    else d1.sendPtp n k true false none m g

/-- Whether a port measures its link delay for a Piste: a clock role or TC under a peer-to-peer profile (R157). -/
def Dev.p2pPort (d : Dev) (n k : Nat) : Bool := d.pzOn k && p2pProfile (d.profile k) && d.role (0x100 + n) k != roleDISABLED

/-- PDELAY_REQ_TX (R158). -/
def Dev.pdelayReqTx (d : Dev) (n k : Nat) : Dev :=
  let i := 0x100 + n
  if !d.p2pPort n k || !d.lpUp n then d
  else
    let c := d.cport i k
    let d1 := d.setCport i k { c with seqPdel := (c.seqPdel + 1) % 0x10000, preq := some c.seqPdel }
    d1.sendPtp n k true true none (ptpBytes (d.headOf n k mtPDELAY_REQ c.seqPdel 0x7F) (List.replicate 20 0)) (fun f => { f with ret := true })

/-- DELAY_REQ_RX (R157, R168): a MASTER port answers with the ingress stamp, its fraction taken from correctionField. -/
def Dev.delayReqRx (d : Dev) : Dev :=
  let r := d.takeMsg 0 mtDELAY_REQ
  match r.2 with
  | none => d
  | some t =>
    let i := 0x100 + t.lp
    if d.portState i t.piste ≠ psMASTER ∨ t.bad then r.1
    else
      let h := { d.headOf t.lp t.piste mtDELAY_RESP (pmSeq t.bytes) (d.logOf t.lp t.piste PTE_PORT_RATES_A_LOG_DELAY) with
                 corr := pmCorr t.bytes - twFrac t.stamp }
      r.1.sendPtp t.lp t.piste false false (if d.profile t.piste = 4 then some (t.src, t.mac) else none)
        (ptpBytes h (ptpStamp t.stamp ++ beBytes 10 (pmSrc t.bytes))) id

/-- PDELAY_REQ_RX (R157, R169): a one-step Pdelay_Resp under TURNAROUND. -/
def Dev.pdelayReqRx (d : Dev) : Dev :=
  let r := d.takeMsg 0 mtPDELAY_REQ
  match r.2 with
  | none => d
  | some t =>
    if !p2pProfile (d.profile t.piste) then r.1
    else
      let h := { d.headOf t.lp t.piste mtPDELAY_RESP (pmSeq t.bytes) 0x7F with corr := pmCorr t.bytes }
      r.1.sendPtp t.lp t.piste true true none (ptpBytes h (List.replicate 10 0 ++ beBytes 10 (pmSrc t.bytes)))
        (fun f => { f with op := opTURNAROUND, reqStamp := t.stamp, reqSteps := t.steps, unc := t.bad })

/-! ### Announce and unicast negotiation (R155, R162, R163) -/

abbrev tAnn (i k : Nat) : Nat := tmr 8 (cpKey i k)

/-- Two to a log interval, in 2^-48 ns. -/
def logTime (l : Int) : Nat := if 0 ≤ l then 2 ^ l.toNat * sec1 else sec1 / 2 ^ l.natAbs

/-- An Announce of instance `i` taken for Piste `k` (R162): the receipt timer starts again, and a dataset that differs from the last of
its sender reruns selection. -/
def Dev.takeAnnounce (d : Dev) (i k : Nat) (a : Ann) (timeout : Nat) : Dev :=
  if d.portState i k = 0 ∨ d.portState i k = psFAULTY ∨ d.role i k = roleMASTER_ONLY then d
  else
    let c := d.cport i k
    let better := match c.ann with
      | some o => o.src == a.src || decide (a.rank (d.altSel k) 0 < o.rank (d.altSel k) 0)
      | none => true
    if better then
      let d1 := (d.setCport i k { c with ann := some a }).startT (tAnn i k) timeout
      if c.ann = some a then d1 else d1.select k
    else d

/-- ANNOUNCE_RX (R162). -/
def Dev.announceRx (d : Dev) : Dev :=
  let r := d.takeMsg 1 mtANNOUNCE
  match r.2 with
  | none => d
  | some t =>
    let n := d.fld (if t.piste = 1 then PTE_PORT_RATES_A t.lp else PTE_PORT_RATES_B t.lp) PTE_PORT_RATES_A_ANN_TIMEOUT
    r.1.takeAnnounce (0x100 + t.lp) t.piste { body := slice t.bytes 34 30, flags := pmFlags t.bytes, src := pmSrc t.bytes }
      (n * logTime (d.logOf t.lp t.piste PTE_PORT_RATES_A_LOG_ANNOUNCE))

/-- ANNOUNCE_RECEIPT_TIMEOUT (R163): the dataset is given up, and a SLAVE port goes to LISTENING. -/
def Dev.announceTimeout (d : Dev) (i k : Nat) : Dev :=
  if d.runsT (tAnn i k) then
    let d1 := d.dueT (tAnn i k)
    let d2 := d1.setCport i k { d1.cport i k with ann := none }
    if d2.slaveAt i k then (d2.setPortState i k psLISTENING).portsMoved d2 else d2
  else d

/-- TLV types of unicast negotiation (IEEE 1588, PRESUMED). -/
abbrev tlvREQUEST : Nat := 4
abbrev tlvGRANT : Nat := 5
abbrev tlvCANCEL : Nat := 6

/-- Whether a log interval lies in profile 0x4's range for a message type (R151). -/
def grantLogOk (typ : Nat) (l : Int) : Bool := decide ((if typ = mtANNOUNCE then -3 else -7) ≤ l ∧ l ≤ 0)

/-- A request for a unicast grant answered (R155): granted for 60 s to 1,000 s, or denied with a duration of 0. -/
def Dev.serveGrant (d : Dev) (t : Term) (v : List Byte) : Dev :=
  let typ := byteAt v 0 / 16
  let log := signedOf 8 (byteAt v 1)
  let i := 0x100 + t.lp
  let mine (g : Grant) : Bool := g.piste == t.piste && g.lp == t.lp && g.ident == pmSrc t.bytes && g.typ == typ
  let others := d.pte.grants.filter (fun g => !mine g)
  let ok := grantLogOk typ log && decide ((others.filter (fun g => g.piste == t.piste)).length < 512) && d.portState i t.piste == psMASTER
  let dur := if ok then min 1000 (max 60 (beNat (slice v 2 4))) else 0
  let c := d.cport i t.piste
  let d1 := if ok then
      { d with pte := { d.pte with grants := others ++ [⟨t.piste, t.lp, t.src, t.mac, pmSrc t.bytes, typ, log, d.tk.osc + dur * sec1⟩] } } else d
  let d2 := d1.setCport i t.piste { c with seqSig := (c.seqSig + 1) % 0x10000 }
  let tlv := beBytes 2 tlvGRANT ++ beBytes 2 8 ++ slice v 0 2 ++ beBytes 4 dur ++ [0, 1]
  d2.sendPtp t.lp t.piste false false (some (t.src, t.mac))
    (ptpBytes (d.headOf t.lp t.piste mtSIGNALING c.seqSig 0x7F) (beBytes 10 (pmSrc t.bytes) ++ tlv)) id

/-- A grant of messages that the module asked for as a slave: held for its duration, or denied with 0 (R155). -/
def Dev.takeGrant (d : Dev) (t : Term) (v : List Byte) : Dev :=
  let dur := beNat (slice v 2 4)
  let ends := if dur = 0 then none else some (d.tk.osc + dur * sec1)
  (List.range 16).foldl
    (fun e j => if e.umtOn t.piste j ∧ e.umtPort t.piste j = t.lp ∧ e.umtAddr t.piste j = t.src then
        { e with pte := { e.pte with held := Tbl.set e.pte.held none ((t.piste * 16 + j) * 16 + byteAt v 0 / 16) ends } } else e) d

/-- One TLV of a Signaling message (R155): a request is served or denied, a grant is held, a cancelled grant ends. -/
def Dev.signalingTlv (d : Dev) (t : Term) (typ : Nat) (v : List Byte) : Dev :=
  if typ = tlvREQUEST then d.serveGrant t v
  else if typ = tlvGRANT then d.takeGrant t v
  else if typ = tlvCANCEL then
    { d with pte := { d.pte with grants := d.pte.grants.filter (fun g =>
        !(g.piste == t.piste && g.lp == t.lp && g.ident == pmSrc t.bytes && g.typ == byteAt v 0 / 16)) } }
  else d

/-- The TLVs of a Signaling message in turn, at most `n` of them. -/
def Dev.signalingTlvs (d : Dev) (t : Term) (b : List Byte) : Nat → Dev
  | 0 => d
  | n + 1 => if b.length < 4 then d
    else (d.signalingTlv t (be16 b 0) (slice b 4 (be16 b 2))).signalingTlvs t (b.drop (4 + be16 b 2)) n

/-- SIGNALING_RX (R155). -/
def Dev.signalingRx (d : Dev) : Dev :=
  let r := d.takeMsg 1 mtSIGNALING
  match r.2 with
  | none => d
  | some t => if d.profile t.piste ≠ 4 then r.1 else r.1.signalingTlvs t (t.bytes.drop 44) t.bytes.length

/-- Whether a grant that the module asked for is held. -/
def Dev.holdsGrant (d : Dev) (k j typ : Nat) : Bool :=
  match Tbl.get d.pte.held none ((k * 16 + j) * 16 + typ) with | some e => decide (d.tk.osc < e) | none => false

/-- A request for a unicast grant in the form of IEEE 1588, its duration free within R155. -/
def requestTlv (typ : Nat) (log : Int) (dur : Nat) : List Byte :=
  beBytes 2 tlvREQUEST ++ beBytes 2 6 ++ beBytes 1 (typ * 16) ++ beBytes 1 (unsignedOf 8 log) ++ beBytes 4 dur

/-- The grants that entry `j` of a Piste's table does not yet hold requested of it (R155, R207). -/
def Dev.requestFrom (d : Dev) (k j : Nat) : Dev :=
  let n := d.umtPort k j
  let i := 0x100 + n
  let s := d.portState i k
  if !d.umtOn k j || s == 0 || s == psFAULTY || d.role i k == roleMASTER_ONLY then d
  else
    let dur := 60 + d.free % 941
    let want := [(mtANNOUNCE, PTE_PORT_RATES_A_LOG_ANNOUNCE), (mtSYNC, PTE_PORT_RATES_A_LOG_SYNC), (mtDELAY_RESP, PTE_PORT_RATES_A_LOG_DELAY)]
    let tlvs := ((want.filter (fun w => !d.holdsGrant k j w.1)).map (fun w => requestTlv w.1 (d.logOf n k w.2) dur)).flatten
    if tlvs = [] then d
    else
      let c := d.cport i k
      let d1 := d.took.setCport i k { c with seqSig := (c.seqSig + 1) % 0x10000 }
      d1.took.sendPtp n k false false (some (d.umtAddr k j, d1.free % 2 ^ 48))
        (ptpBytes (d.headOf n k mtSIGNALING c.seqSig 0x7F) (List.replicate 10 0xFF ++ tlvs)) id

/-- The grants that a Piste under profile 0x4 requests as a slave (R155). -/
def Dev.requestGrants (d : Dev) (k : Nat) : Dev :=
  if d.pzOn k ∧ d.profile k = 4 ∧ d.pwr.handOff = false ∧ d.bit GLB_STATE GLB_STATE_GAP = false then
    (List.range 16).foldl (fun e j => e.requestFrom k j) d
  else d

/-- GRANT_EXPIRY (R155): the grants whose duration ends first end at that time. -/
def Dev.grantExpiry (d : Dev) : Dev :=
  match d.pte.grants with
  | [] => d
  | g :: r =>
    let t := r.foldl (fun m x => min m x.until_) g.until_
    let d1 := d.passOsc (t - d.tk.osc)
    { d1 with pte := { d1.pte with grants := d1.pte.grants.filter (fun x => decide (t < x.until_)) } }

/-! ### External reference and sentences (R165, R190 to R194) -/

/-- TOD_LIVE (R199). -/
def Dev.todLive (d : Dev) : Dev :=
  d.live PTE_STATUS PTE_STATUS_TOD ([1, 2].any (fun k => d.pzOn k && d.pzExt k && !d.qualified k))

/-- The source of a Piste disqualified until three sentences in a row arrive again. -/
def Dev.disqualify (d : Dev) (k : Nat) : Dev := ((d.setPiste k { d.piste k with run := 0, named := none }).checkLost k).todLive.steerLive

/-- An edge, stamped `s` and corrected for its input delay, on the channel of a Piste's external source: it gives an offset where the
source is qualified, the second it begins being the one after the last named: that second minus the stamp (R165). -/
def Dev.extEdge (d : Dev) (k s : Nat) : Dev :=
  let x := d.piste k
  let d1 := d.setPiste k { x with edge := some s }
  match (if d.qualified k then x.named else none) with
  | some n => d1.detector k 0 ((((n + 1) * sec1 : Nat) - (s : Int)) / 0x100000000)
  | none => d1

/-- A sentence taken for a Piste (R165, R191): it must start 1 ms to 990 ms after an edge. -/
def Dev.todFor (d : Dev) (k : Nat) (x : Tod) : Dev :=
  let p := d.piste k
  let near := match p.edge with | some e => decide (e + ms1 ≤ d.tk.time ∧ d.tk.time ≤ e + 990 * ms1) | none => false
  if !near then d.disqualify k
  else
    let next := p.named = none ∨ p.named = some (x.sec - 1)
    if next then
      ((d.setPiste k { p with named := some x.sec, run := min 3 (p.run + 1), utc := some (x.utc.getD (signedOf 16 (d.num PTE_TOD_UTC_OFFSET))),
                              leap := x.leap }).todLive).steerLive
    else (d.disqualify k).setPiste k { (d.disqualify k).piste k with named := some x.sec, run := 1 }

/-- The Pistes whose source is external. -/
def Dev.extPistes (d : Dev) : List Nat := [1, 2].filter (fun k => d.pzOn k && d.pzExt k)

/-- TOD_SENTENCE_RX (R192, R193). -/
def Dev.todRx (d : Dev) (l : List Byte) : Dev :=
  let fmt := d.fld PTE_TOD_CTRL PTE_TOD_CTRL_IN_FMT
  let off := signedOf 16 (d.num PTE_TOD_UTC_OFFSET)
  if fmt = 0 then d
  else
    let r := if fmt = 1 then readOwn l else if fmt = 2 then readZda off l else if l.head? = some 35 then readOwn l else readZda off l
    match r with
    | some x => d.extPistes.foldl (fun e k => e.todFor k x) (d.bump PTE_TOD_RX_COUNT 1)
    | none => d.extPistes.foldl (fun e k => e.disqualify k) ((d.bump PTE_TOD_RX_BAD 1).stick PTE_STATUS PTE_STATUS_TOD)

/-- TOD_SENTENCE_MISSING (R165). -/
def Dev.todMissing (d : Dev) : Dev := d.extPistes.foldl (fun e k => e.disqualify k) d

/-- currentUtcOffset, leap flag and clockClass that the module sends (R194). -/
def Dev.sentUtc (d : Dev) : Int × Nat × Nat :=
  let dflt := signedOf 16 (d.num PTE_TOD_UTC_OFFSET)
  if d.active < 2 then
    let k := d.active + 1
    ((d.piste k).utc.getD dflt, (d.piste k).leap, d.gmCls k)
  else
    match d.pte.steer.last with
    | some k =>
      (d.pte.steer.utc, d.pte.steer.leap,
        if d.setLive then d.fld (PTE_GM_CLASS k) PTE_GM_CLASS_CLASS_HOLD else d.fld (PTE_GM_CLASS k) PTE_GM_CLASS_CLASS_FREE)
    | none => (dflt, 0, d.fld (PTE_GM_CLASS 1) PTE_GM_CLASS_CLASS_FREE)

/-- The state letter of a sentence (R192). -/
def Dev.todState (d : Dev) : Byte :=
  let lk (k : Nat) : Bool := d.pzState k == pzLOCKED
  if !d.setLive then 70
  else if d.bit (PTE_OUT_STATUS 0) PTE_OUT_STATUS_DEG ∧ (lk 1 ∨ lk 2) then 68
  else if d.active < 2 ∧ lk (d.active + 1) then 76 else 72

/-- The second whose edge the next sentence names (R191): the first after the last one named whose sentence need not start late. -/
def Dev.todNext (d : Dev) : Nat :=
  let now := (d.tk.time + sec1 - 1 - d.fld PTE_TOD_CTRL PTE_TOD_CTRL_OUT_DELAY * ms1) / sec1
  match d.pte.tod.at_ with
  | some t => if d.pte.tod.era = d.tk.era then max (t / sec1 + 1) now else now
  | none => now

/-- The text of a sentence of the module's own format that names the edge of second `sec` (R192). -/
def Dev.ownText (d : Dev) (sec : Nat) : List Byte :=
  let u := d.sentUtc
  joinComma [ascii ['G', 'T', 'O', 'D'], decimal sec, signedDec u.1, decimal u.2.1, [d.todState], decimal u.2.2,
    [if d.active = 0 then 65 else if d.active = 1 then 66 else 78]]

/-- The text of a ZDA sentence that names the edge of second `sec` (R193). -/
def Dev.zdaText (d : Dev) (sec : Nat) : List Byte :=
  let utc := ((sec : Int) - d.sentUtc.1).toNat
  let c := civilOf (utc / 86400)
  let s := utc % 86400
  joinComma [beBytes 2 (d.fld PTE_TOD_CTRL PTE_TOD_CTRL_TALKER) ++ ascii ['Z', 'D', 'A'],
    padded 2 (s / 3600) ++ padded 2 (s / 60 % 60) ++ padded 2 (s % 60) ++ ascii ['.', '0', '0'],
    padded 2 c.2.2, padded 2 c.2.1, padded 4 c.1, ascii ['0', '0'], ascii ['0', '0']]

/-- TOD_SENTENCE_TX (R191 to R193): one sentence a second, which starts OUT_DELAY ms after the edge that it names; none with OUT_FMT off. -/
def Dev.todTx (d : Dev) : Dev :=
  let fmt := d.fld PTE_TOD_CTRL PTE_TOD_CTRL_OUT_FMT
  if fmt = 1 ∨ fmt = 2 then
    let sec := d.todNext
    let d1 := d.advanceTo (sec * sec1 + d.fld PTE_TOD_CTRL PTE_TOD_CTRL_OUT_DELAY * ms1)
    let text := if fmt = 1 then sentence 35 (d1.ownText sec) else sentence 36 (d1.zdaText sec)
    { d1 with
      pte := { d1.pte with tod := d1.beatOf (sec * sec1) }
      out := .tod text :: d1.out }
  else d

/-- LEAP_FLAG_CLEAR (R194): the flag held while ACTIVE is none ends with its UTC day. -/
def Dev.leapClear (d : Dev) : Dev :=
  if d.active = 2 ∧ d.pte.steer.leap ≠ 0 then
    let d1 := d.advanceTo d.pte.steer.leapEnd
    { d1 with pte := { d1.pte with steer := { d1.pte.steer with leap := 0 } } }
  else d

/-! ### Trunks as time paths (R181 to R184) -/

def Dev.trkTime (d : Dev) (t : Nat) : TrkTime := if t = 0 then d.pte.trk0 else d.pte.trk1
def Dev.setTrkTime (d : Dev) (t : Nat) (x : TrkTime) : Dev :=
  if t = 0 then { d with pte := { d.pte with trk0 := x } } else { d with pte := { d.pte with trk1 := x } }

/-- The 36 bytes of a time word (R181). -/
def Dev.timeWord (d : Dev) (x : TrkTime) (tx : Nat) : List Byte :=
  let st := d.bit TK_STATUS TK_STATUS_SET |>.toNat
  let num := d.bit TK_STATUS TK_STATUS_NUMERIC |>.toNat
  let b := twBytes tx ++ (match x.rx with | some r => twBytes r.2 ++ leBytes 2 r.1 | none => List.replicate 14 0) ++ leBytes 2 x.txSeq ++
    leBytes 1 (st + num * 4 + d.active * 8) ++ [0, 0, 0]
  b ++ leBytes 4 (crc32c b)

/-! ### The symbol stream of a trunk (R554 to R556) -/

def Dev.trk (d : Dev) (t : Nat) : TrkSt := if t = 0 then d.trk0 else d.trk1
def Dev.setTrk (d : Dev) (t : Nat) (x : TrkSt) : Dev := if t = 0 then { d with trk0 := x } else { d with trk1 := x }

/-- A message frame from TYPE to CHECK (R555). -/
def msgFrame (typ : Nat) (pay : List Byte) : List Byte :=
  let b := leBytes 1 typ ++ [0] ++ leBytes 2 pay.length ++ pay ++ List.replicate ((4 - pay.length % 4) % 4) 0
  b ++ leBytes 4 (crc32c b)

/-- How long a message frame takes, its K27.7 and K29.7 included, at four bytes in a symbol slot of 4 ns (R550, R555). -/
def msgTime (f : List Byte) : Nat := (f.length / 4 + 2) * 4 * ns1

/-- The slot in which a frame that takes `n` starts at or after `t` (R556): outside the slots of a marker and its time word, and only where
it ends 64 ns or more before the next marker slot. Slots are counted from the multiples of 1 ms, DESIGN CHOICE (assumption 84). -/
def msgStart (t n : Nat) : Nat :=
  let s := (t + 4 * ns1 - 1) / (4 * ns1) * (4 * ns1)
  let m := s / ms1 * ms1
  if s < m + 40 * ns1 then m + 40 * ns1
  else if s + n + 64 * ns1 ≤ m + ms1 then s
  else m + ms1 + 40 * ns1

/-- The frame that a trunk sends next: an Announce record before a QL record, and either before a Cresor message; each kind in the order in
which it came (R556). -/
def TrkSt.next (x : TrkSt) : Option (Nat × List Byte) :=
  match x.msgs.find? (fun m => m.1 == 1), x.msgs.find? (fun m => m.1 == 2) with
  | some m, _ => some m
  | none, some m => some m
  | none, none => x.msgs.head?

/-- The frames of a trunk whose start has come, up to `n` of them. -/
def Dev.msgPump (d : Dev) (t : Nat) : Nat → Dev
  | 0 => d
  | n + 1 =>
    let x := d.trk t
    match x.next with
    | none => d
    | some m =>
      let s := msgStart (d.tk.time + x.free - d.tk.osc) (msgTime m.2)
      if d.tk.time < s then d
      else
        let d1 := d.setTrk t { x with msgs := x.msgs.erase m, free := d.tk.osc + s + msgTime m.2 - d.tk.time }
        ({ d1 with out := .message t s m.2 :: d1.out }).msgPump t n

/-- The stream of a trunk up to now. -/
def Dev.trkStream (d : Dev) (t : Nat) : Dev := d.msgPump t (d.trk t).msgs.length

/-- A message handed to a trunk in UP, whose frame starts in the first gap that is long enough for it (R556). -/
def Dev.trkSend (d : Dev) (t typ : Nat) (pay : List Byte) : Dev :=
  if !d.linkServes (0x300 + t) then d
  else
    let d1 := d.trkStream t
    let x := d1.trk t
    (d1.setTrk t { x with msgs := x.msgs ++ [(typ, msgFrame typ pay)], free := if x.msgs.isEmpty then max x.free d.tk.osc else x.free }).trkStream t

/-- TRUNK_MARKER_TX on trunk `t` (R181): the marker of the next whole millisecond goes at its time, launched ahead of it by the
output delay (R331), its time word after it. None falls in the 32 training sets that a trunk sends on entry to UP (R553). -/
def Dev.markerTx (d : Dev) (t : Nat) : Dev :=
  if !d.linkServes (0x300 + t) then d
  else
    let x := d.trkTime t
    let up := d.tk.time / ms1 * ms1 + (if d.tk.time % ms1 = 0 then 0 else ms1)
    let due := if up ≠ 0 ∧ up = Tbl.get x.sent 0 ((x.txSeq + 0xFFFF) % 0x10000) then up + ms1 else up
    let at_ := if d.tk.osc + due < (d.trk t).from_ + d.tk.time then due + ms1 else due
    let d1 := (d.advanceTo at_).trkStream t
    let y := { x with sent := Tbl.set (Tbl.erase x.sent ((x.txSeq + 0xFF00) % 0x10000)) 0 x.txSeq at_, txSeq := (x.txSeq + 1) % 0x10000 }
    let d2 := d1.setTrkTime t y
    { d2 with out := .trunk t 1 (d1.timeWord x at_) :: .trunk t 0 (leBytes 2 x.txSeq) :: .launch (3 + t) (d.launchAt (3 + t) at_) :: d2.out }

/-- TRUNK_MARKER_RX (R182): the marker stamped `s` by the EMU, COARSE or not; ports that were FAULTY for want of markers listen again. -/
def Dev.markerRx (d : Dev) (t s : Nat) (coarse : Bool) : Dev :=
  if d.linkServes (0x300 + t) then
    let d1 := (d.bump (TRK_MARKERS_RX t) 1).setTrkTime t { d.trkTime t with mark := some (s, coarse), seen := true, stopped := false }
    ([1, 2].foldl (fun e k => e.refreshPort (0x300 + t) k) d1).portsMoved d1
  else d

/-- TIME_WORD_RX (R181, R182, R557): a good word completes the exchange of its marker; a gap in TX_SEQ counts the markers missing. -/
def Dev.timeWordRx (d : Dev) (t : Nat) (w : List Byte) : Dev :=
  let x := d.trkTime t
  if !d.linkServes (0x300 + t) then d
  else if crc32c (slice w 0 32) ≠ leNat (slice w 32 4) then ((d.bump (TRK_TW_BAD t) 1).pulse (TRK_STATUS t) TRK_STATUS_ERR).setTrkTime t { x with mark := none }
  else
    match x.mark with
    | none => d
    | some (t2, coarse) =>
      let st := leNat (slice w 28 1)
      let gap := match x.rx with | some r => (leNat (slice w 26 2) + 0xFFFF - r.1) % 0x10000 | none => 0
      let d0 := if gap = 0 then d else (d.bump (TRK_MARKER_MISS t) gap).pulse (TRK_STATUS t) TRK_STATUS_ERR
      let d1 := d0.setTrkTime t { x with mark := none, rx := some (leNat (slice w 26 2), t2) }
      match twOfBytes (slice w 0 12), twOfBytes (slice w 12 12) with
      | some t1, some t4 =>
        let seq := leNat (slice w 24 2)
        let t3 := Tbl.get x.sent 0 seq
        if coarse || bitsAt st 1 1 == 1 || t4 == 0 || t3 == 0 then d1
        else
          let md : Int := ((t2 : Int) - t1) / 0x100000000
          let dm : Int := ((t4 : Int) - t3) / 0x100000000
          let mean := (md + dm).fdiv 2
          [1, 2].foldl (fun e k => if e.slaveAt (0x300 + t) k then
              (e.setMean (0x300 + t) k mean).detector k (0x300 + t) (md - mean) else e) d1
      | _, _ => d1

/-- TRUNK_MARKERS_STOPPED (R184): the trunk's clock ports go FAULTY. -/
def Dev.markersStopped (d : Dev) (t : Nat) : Dev :=
  let i := 0x300 + t
  let d1 := d.setTrkTime t { d.trkTime t with mark := none, rx := none, seen := false, stopped := true }
  ([1, 2].foldl
    (fun e k => if e.portState i k = 0 then e
      else ((e.refreshPort i k).setCport i k { e.cport i k with ann := none }).stopT (tAnn i k)) d1).portsMoved d1

/-- ANNOUNCE_RECORD_TX on trunk `t` (R183). -/
def Dev.annRecordTx (d : Dev) (t : Nat) : Dev :=
  if !d.linkServes (0x300 + t) || d.pwr.handOff then d
  else
    ([1, 2].filter (fun k => d.pzOn k)).foldl
      (fun e k => let a := d.announced k
                  e.trkSend t 1 (leBytes 1 (k - 1) ++ leBytes 1 (d.domainOf k) ++ beBytes 2 a.flags ++ a.body)) d

/-- ANNOUNCE_RECORD_RX on trunk `t` (R183, R184): the record of a Piste with the same domain takes part in selection. A trunk has no PTE_PORT_RATES and
the manual names no announce receipt timeout for it; it is three intervals of 125 ms, as the reset ANN_TIMEOUT has it for a port, DESIGN CHOICE
(assumption 79). -/
def Dev.annRecordRx (d : Dev) (t : Nat) (r : List Byte) : Dev :=
  let i := 0x300 + t
  [1, 2].foldl
    (fun e k => if e.pzOn k ∧ leNat (slice r 1 1) = e.domainOf k then
        e.takeAnnounce i k { body := slice r 4 30, flags := be16 r 2, src := 0x30000 + t } (3 * 125 * ms1) else e) d

end Sys2Proof.Machine
end

