-- ==== Sys2Proof/Machine/Samples.lean ====
section
/-! DEFINITION. What a calibration run takes from the EMU: its block, and the samples of INPUT and OUTPUT runs (R348, R351). -/

namespace Sys2Proof.Machine

/-! ### The run block (R348) -/

def crId (p : List Byte) : Nat := leNat (slice p 0 2)
def crKind (p : List Byte) : Nat := leNat (slice p 2 1)
def crFlags (p : List Byte) : Nat := leNat (slice p 3 1)
def crTarget (p : List Byte) : Nat := leNat (slice p 4 2)
def crWindow (p : List Byte) : Nat := leNat (slice p 6 2)
def crA (p : List Byte) : Int := signedOf 64 (leNat (slice p 8 8))
def crB (p : List Byte) : Int := signedOf 64 (leNat (slice p 16 8))
def crSplit (p : List Byte) : Nat := leNat (slice p 24 2)

abbrev crINPUT : Nat := 1
abbrev crOUTPUT : Nat := 2
abbrev crLANE : Nat := 3
abbrev crOPTIC : Nat := 4
abbrev crENTER : Nat := 5

/-! ### Samples of stamps (R215, R351) -/

/-- One µs in 2^-16 ns. -/
abbrev us16 : Nat := 65536000

/-- Whether two stamps lie within 1 µs of each other. -/
def CalEdge.near (a b : CalEdge) : Bool := decide ((a.at_ - b.at_).natAbs ≤ us16)

/-- One sample: kept with its error, unless a stamp of it is not to be used or a step fell within it. -/
def CalRun.sample (r : CalRun) (bad : Bool) (e : Int) : CalRun := if bad then r else { r with sum := r.sum.add e }

/-- A stamp of an INPUT run, on CAL or on the target: paired with the oldest stamp of the other within 1 µs, or kept until one comes. -/
def CalRun.input (r : CalRun) (x : CalEdge) (cal : Bool) : CalRun :=
  let err (t c : CalEdge) : Int := (t.at_ - c.at_) - (crB r.par - crA r.par)
  if cal then
    match r.tgts.find? (fun t => t.near x) with
    | some t => { r with tgts := r.tgts.erase t }.sample (x.bad || t.bad || x.era != t.era) (err t x)
    | none => { r with cals := r.cals.filter (fun c => c.near x) ++ [x] }
  else
    match r.cals.find? (fun c => c.near x) with
    | some c => { r with cals := r.cals.erase c }.sample (x.bad || c.bad || x.era != c.era) (err x c)
    | none => { r with tgts := r.tgts.filter (fun t => t.near x) ++ [x] }

/-- The named instant nearest to a network time of an output's grid, both in 2^-16 ns (R187). -/
def Grid.nearest (g : Grid) (t : Int) : Int :=
  let u := t * 0x100000000
  let k := ((u + psToU g.phase) * g.freq).fdiv (sec1 : Int)
  let c := [k - 1, k, k + 1].map g.edge
  roundDiv (c.foldl (fun a e => if (e - u).natAbs < (a - u).natAbs then e else a) (g.edge (k + 2))) 0x100000000

/-- A stamp of CAL in an OUTPUT run: each rising edge is a sample while the target's program is active (assumption 81). -/
def Dev.calOutput (d : Dev) (r : CalRun) (stamp : Int) (bad : Bool) : CalRun :=
  match d.gridOf (crTarget r.par) with
  | some g => let t := stamp - crA r.par; r.sample bad (t - g.nearest t)
  | none => r

/-- What a run whose window is open takes from an edge of EMU channel `c` stamped at `stamp`, `s` being the stamp as EMU entries hold it. -/
def Dev.calStamp (d : Dev) (c : Nat) (rise : Bool) (s : EdgeAt) (stamp : Int) : Dev :=
  match d.cal.run with
  | none => d
  | some r =>
    let bad := s.coarse || s.raw
    let set (x : CalRun) : Dev := { d with cal := { d.cal with run := some x } }
    if r.phase ≠ 2 then d
    else if crKind r.par = crINPUT ∧ (c = 2 ∨ c = crTarget r.par) then set (r.input ⟨s.at_, s.era, bad⟩ (c == 2))
    else if crKind r.par = crOUTPUT ∧ c = 2 ∧ rise then set (d.calOutput r stamp bad)
    else d

end Sys2Proof.Machine
end

