-- ==== Sys2Proof/Machine/Emu.lean ====
section
/-! DEFINITION. The Edge Measurement Unit: stamping an edge, its consumers, the three modes and the queues (R212 to R245). -/

namespace Sys2Proof.Machine

def Dev.emuCh (d : Dev) (c : Nat) : EmuCh := Tbl.get d.emu.chs {} c
def Dev.setEmuCh (d : Dev) (c : Nat) (x : EmuCh) : Dev := { d with emu := { d.emu with chs := Tbl.set d.emu.chs {} c x } }

/-! ### Status -/

/-- Whether stamps are COARSE (R225). -/
def Dev.coarse (d : Dev) : Bool := !d.bit EMU_GLB_STATUS EMU_GLB_STATUS_LOCK || d.timeBypass

def Dev.coarseLive (d : Dev) : Dev := d.liveEdge EMU_GLB_STATUS EMU_GLB_STATUS_COARSE d.coarse

/-- The CD2 cycles counted since the Timing die powered up (R226). -/
def Dev.emuCycles (d : Dev) : Nat := d.tk.cyc * 5 / (4 * ns1)

/-- How often the cycle counter has wrapped since power-up (R226). -/
def Dev.emuWraps (d : Dev) : Nat := d.emuCycles / 2 ^ 32

/-- What EMU_RAW_COUNT shows. -/
def Dev.rawCount (d : Dev) : Nat := d.emuCycles % 2 ^ 32

/-- Who owns a channel (R240): bit 0 a Piste with an external source, bit 1 a reference monitor, bit 2 a calibration run, bit 3 the
trunk servo of an enabled Piste that gives the trunk a clock role. -/
def Dev.emuOwner (d : Dev) (c : Nat) : Nat :=
  let ext (k : Nat) : Bool := d.pzOn k && d.pzExt k && (([0, 1, 5] : List Nat).getD (d.fld (PTE_PISTE_CTRL k) PTE_PISTE_CTRL_EXT_CH) 0 == c)
  let cand := if c = 0 then 1 else if c = 1 then 2 else if c = 5 then 3 else if c = 6 then 4 else if c = 7 then 5 else if 8 ≤ c then c else 0
  let mon := cand != 0 && d.fld (REFC_CTRL cand) REFC_CTRL_ENABLE == 1
  let cal := match d.cal.run with
    | some r => r.phase == 2 && (c == 2 || (crKind r.par == crINPUT && crTarget r.par == c))
    | none => false
  let trk := decide (c = 6 ∨ c = 7) && [1, 2].any (fun k => d.pzOn k && decide (2 ≤ d.role (0x300 + (c - 6)) k ∧ d.role (0x300 + (c - 6)) k ≤ 4))
  (ext 1 || ext 2).toNat + mon.toNat * 2 + cal.toNat * 4 + trk.toNat * 8

/-- OWNER of every channel shown. -/
def Dev.showOwners (d : Dev) : Dev :=
  (List.range 16).foldl (fun e c => e.setFld (EMU_CTRL c) EMU_CTRL_OWNER (d.emuOwner c)) d

/-! ### Stamps (R219 to R226) -/

/-- An interval of CD2 scaled by the applied frequency offset, the slew term included, and rounded (R57, R220). -/
def Dev.scaleOf (d : Dev) (x : Int) : Int :=
  roundDiv (x * ((ppbOne + d.rate) * (1024 * (ns1 : Int)) + d.slewNow * ppbOne)) (ppbOne * (1024 * (ns1 : Int)))

/-- An edge of channel `c` in raw bin `b` of the present CD2 cycle, stamped: a COARSE stamp stands at half the period of the clock
then counting. The stamp has steps excluded; `ns` is the nanoseconds of the stamp, or the cycle count of a RAW one. -/
def Dev.stampAt (d : Dev) (c b : Nat) : EdgeAt × Int :=
  let pos : Int := if d.coarse then (if d.timeBypass then 1310720 else 26214)
    else d.scaleOf (d.num (EMU_BIN_POS c b))
  let stamp : Int := (d.tk.time / 0x100000000 : Nat) + pos - d.int (EMU_IN_DELAY c)
  let raw := !d.setLive
  let cyc := d.emuCycles + (if d.coarse && d.timeBypass then 25 else 0)
  let fine := if d.coarse then (if d.timeBypass then 0 else 26214) else d.num (EMU_BIN_POS c b)
  ({ at_ := stamp - d.tk.stepSum.fdiv 0x100000000, cyc := cyc, count := (d.emuCh c).count, raw := raw, coarse := d.coarse, era := d.tk.era,
     ns := if raw then cyc % 2 ^ 32 else twNs (stamp.toNat * 0x100000000), fine := fine,
     osc := d.tk.osc / 0x100000000 + d.num (EMU_BIN_POS c b) }, stamp)

/-- The time between two edges in 2^-16 ns: from cycle counts at 800 ps where either end is RAW (R228). -/
def span (a b : EdgeAt) : Int :=
  if a.raw || b.raw then roundDiv (((b.cyc : Int) - a.cyc) * 524288) 10 else b.at_ - a.at_

/-! ### Queues (R235 to R238) -/

/-- The DMA channel that drains a queue, or none while the stream head does. -/
def Dev.emuDma (d : Dev) (c : Nat) : Option Nat :=
  let s := d.fld (EMU_CTRL c) EMU_CTRL_DMA_SEL
  if 8 ≤ s then some (40 + s) else none

/-- One entry produced: TYPE 0 stream, 1 interval, 2 frequency; `edge` and `flags` as in KIND and FLAGS, LOST and STEP aside. A full
queue discards it (R236). -/
def Dev.emuEntry (d : Dev) (c typ edge flags : Nat) (step : Bool) (body : List Byte) : Dev :=
  let x := d.emuCh c
  let st := step || x.era != d.tk.era
  let y := { x with seq := (x.seq + 1) % 0x10000, era := d.tk.era, had := true, wraps := d.emuWraps }
  if 4096 ≤ x.queue.length then
    (((d.setEmuCh c { y with lost := true }).bump (EMU_LOST c) 1).live (EMU_STATUS c) EMU_STATUS_OVF true).stick (EMU_STATUS c) EMU_STATUS_OVF
  else
    let e := body ++ leBytes 1 (c + typ * 16 + edge * 64) ++ leBytes 1 (flags + x.lost.toNat * 8 + st.toNat * 32) ++ leBytes 2 x.seq
    (d.setEmuCh c { y with lost := false, queue := x.queue ++ [e] }).live (EMU_STATUS c) EMU_STATUS_OVF (x.queue.length == 4095)

/-- The oldest `n` entries of a queue consumed. -/
def Dev.emuConsume (d : Dev) (c n : Nat) : Dev :=
  let x := d.emuCh c
  let l := x.queue.drop n
  (d.setEmuCh c { x with queue := l, rd := (x.rd + n) % 0x10000 }).live (EMU_STATUS c) EMU_STATUS_OVF (decide (4096 ≤ l.length))

/-- EMUH_RD written (R237): discarded where the value lies outside the entries held, or while a DMA channel drains the queue. -/
def Dev.emuhRd (d : Dev) (c v : Nat) : Dev :=
  let x := d.emuCh c
  let n := (v % 0x10000 + 0x10000 - x.rd) % 0x10000
  if (d.emuDma c).isSome ∨ x.queue.length < n then d else d.emuConsume c n

/-- The registers of a stream head (R237). -/
def Dev.emuhRead (d : Dev) (c off : Nat) : Nat :=
  let x := d.emuCh c
  if off = 0 then (x.rd + x.queue.length) % 0x10000
  else if off = 4 then x.rd
  else if 0x10 ≤ off ∧ off ≤ 0x1C then (match x.queue with | e :: _ => leNat (slice e (off - 0x10) 4) | [] => 0)
  else 0

/-! ### Modes (R229 to R234) -/

def flagsOf (e : EdgeAt) : Nat := e.coarse.toNat + e.raw.toNat * 2

abbrev tNoEdge (c : Nat) : Nat := tmr 10 c

/-- An interval entry of channel `c` from its start to a stop. -/
def Dev.intervalEntry (d : Dev) (c : Nat) (a b : EdgeAt) : Dev :=
  (d.setEmuCh c { d.emuCh c with start := none }).emuEntry c 1 0
    ((a.coarse || b.coarse).toNat + (a.raw || b.raw).toNat * 2) (a.era != b.era) (leBytes 8 (span a b).toNat ++ leBytes 4 a.ns)

/-- Channels whose interval an edge stamped on channel `s` stops (R231). -/
def Dev.stopped (d : Dev) (s : Nat) (e : EdgeAt) : List Nat :=
  (List.range 16).filter (fun c => d.fld (EMU_CTRL c) EMU_CTRL_MODE == 1 && d.fld (EMU_CTRL c) EMU_CTRL_QEN == 1 &&
    d.fld (EMU_CTRL c) EMU_CTRL_STOP_CH == s &&
    (match (d.emuCh c).start with
     | some a => if a.raw || e.raw then decide (a.osc < e.osc) else decide (a.at_ < e.at_)
     | none => false))

/-- What a channel's mode does with an edge that it takes: `e` is its stamp, none where the stamper leaves it out. -/
def Dev.modeEdge (d : Dev) (c : Nat) (rise : Bool) (e : Option (EdgeAt × Int)) (waiting : Bool) : Dev :=
  let ctl := EMU_CTRL c
  if d.fld ctl EMU_CTRL_QEN = 0 then d
  else
    let m := d.fld ctl EMU_CTRL_MODE
    let x := d.emuCh c
    if m = 2 then
      (match e with
       | some s => d.setEmuCh c { x with first := (match x.first with | some f => some f | none => some s.1), latest := some s.1 }
       | none => d)
    else
      let n := d.num (EMU_DECIM c)
      let k := x.dec + 1
      let d1 := d.setEmuCh c { x with dec := if n ≤ k then 0 else k }
      if k < n then d1
      else if m = 0 then
        (match e with
         | some s =>
           let body := if s.1.raw then leBytes 4 s.1.cyc ++ List.replicate 6 0 ++ leBytes 2 s.1.fine
             else twBytes (s.2.toNat * 0x100000000)
           d1.emuEntry c 0 (if rise then 1 else 2) (flagsOf s.1 + (if s.1.raw && decide (x.wraps < d.emuWraps) then 4 else 0)) false body
         | none => d1.bump (EMU_DEAD c) 1)
      else if waiting then d1
      else
        (match e with
         | some s => d1.setEmuCh c { d1.emuCh c with start := some s.1 }
         | none => d1.bump (EMU_DEAD c) 1)

/-- What the internal consumers of a channel take (R212, R215): a Piste with an external source its offset, from a stamp that is not COARSE, a
calibration run its sample, and the reference monitor its count and time. What monitors TOA and TOB on CH3 and CH4 has no effect that the manual
states. -/
def Dev.consume (d0 : Dev) (c : Nat) (rise : Bool) (s : EdgeAt × Int) : Dev :=
  let d := d0.calStamp c rise s.1 s.2
  let d1 := [1, 2].foldl
    (fun e k => if e.pzOn k && e.pzExt k && (([0, 1, 5] : List Nat).getD (e.fld (PTE_PISTE_CTRL k) PTE_PISTE_CTRL_EXT_CH) 0 == c) && !s.1.coarse
      then e.extEdge k (s.2.toNat * 0x100000000) else e) d
  let i := if c = 0 then 1 else if c = 1 then 2 else if c = 5 then 3 else if 8 ≤ c then c else 0
  if i = 0 then d1
  else
    let r := Tbl.get d1.refc.cands {} i
    let m := some (s.1.count, s.1.osc)
    { d1 with refc := { d1.refc with cands := Tbl.set d1.refc.cands {} i { r with m1 := m, m0 := (match r.m0 with | some a => some a | none => m) } } }

/-- EMU_EDGE: a qualified edge of channel `c`, rising or falling, in raw bin `b` of the present CD2 cycle (R213, R216 to R236). An edge
that EDGE does not select, or of a channel without a source, is none (assumption 7). -/
def Dev.emuEdge (d : Dev) (c b : Nat) (rise : Bool) : Dev :=
  let sel := bitsAt (d.fld (EMU_CTRL c) EMU_CTRL_EDGE) (if rise then 0 else 1) 1 = 1
  if !sel ∨ (8 ≤ c ∧ d.fld (EMU_SRC c) EMU_SRC_TYPE = 0) then d
  else
    let x := d.emuCh c
    let now := d.tk.osc + b * ns1 / 640
    let d1 := (d.setEmuCh c { x with count := x.count + 1, edge := some now }).live (EMU_STATUS c) EMU_STATUS_NOEDGE false |>.startT (tNoEdge c) (1100 * ms1)
    let stamped := match x.last with | some t => decide (t + 10 * ns1 ≤ now) | none => true
    let waiting := (x.start).isSome
    if stamped then
      let d2 := (d1.setEmuCh c { d1.emuCh c with last := some now }).bump (EMU_STAMPS c) 1
      let s := d2.stampAt c b
      let d3 := d2.consume c rise s
      let d4 := (d3.stopped c s.1).foldl
        (fun e k => match (e.emuCh k).start with | some a => e.intervalEntry k a s.1 | none => e) d3
      d4.modeEdge c rise (some s) waiting
    else d1.modeEdge c rise none waiting

/-- NO_EDGE_TIMEOUT (R218). -/
def Dev.noEdge (d : Dev) (c : Nat) : Dev :=
  if d.runsT (tNoEdge c) then (d.dueT (tNoEdge c)).liveEdge (EMU_STATUS c) EMU_STATUS_NOEDGE true else d

/-- INTERVAL_TIMEOUT (R232, R234): EMU_TIMEOUT of network time after the start, steps excluded. -/
def Dev.intervalTimeout (d : Dev) (c : Nat) : Dev :=
  match (d.emuCh c).start with
  | none => d
  | some a =>
    let rest : Int := a.at_ + (d.num (EMU_TIMEOUT c) : Int) * 65536000 - ((d.tk.time : Int) - d.tk.stepSum).fdiv 0x100000000
    let d1 := d.advanceTo (d.tk.time + rest.toNat * 0x100000000)
    let d2 := (d1.setEmuCh c { d1.emuCh c with start := none }).emuEntry c 1 0 (flagsOf a + 16) (a.era != d.tk.era)
      (leBytes 8 0 ++ leBytes 4 a.ns)
    (d2.bump (EMU_TIMEOUTS c) 1).pulse (EMU_STATUS c) EMU_STATUS_TMO

/-- GATE_END (R233): the gate ends at the next multiple of GATE ms after the end of the last one; an end that time has passed comes at once. -/
def Dev.gateEnd (d : Dev) (c : Nat) : Dev :=
  if d.fld (EMU_CTRL c) EMU_CTRL_QEN = 0 ∨ d.fld (EMU_CTRL c) EMU_CTRL_MODE ≠ 2 then d
  else
    let g := d.num (EMU_GATE c) * ms1
    let t := d.beatAt g (d.emuCh c).gate
    let d1 := d.advanceTo t
    let x := d1.emuCh c
    let d2 := d1.setEmuCh c { x with first := none, latest := none, gate := d1.beatOf t }
    match x.first, x.latest with
    | some a, some b =>
      if a = b then d2.emuEntry c 2 0 (flagsOf a) false (leBytes 12 0)
      else d2.emuEntry c 2 0 ((a.coarse || b.coarse).toNat + (a.raw || b.raw).toNat * 2) (a.era != b.era)
        (leBytes 6 (b.count - a.count) ++ leBytes 6 (span a b).toNat)
    | _, _ => d2.emuEntry c 2 0 0 false (leBytes 12 0)

/-! ### Code density, lock and the cycle counter (R221, R222, R226) -/

/-- BIN_POS of every bin from the counts of a test (R222): the position of bin `j` given the sum of those below it. -/
def binPos : Nat → Nat → List Nat → Tbl Nat
  | _, _, [] => []
  | j, s, h :: r => (j, (roundDiv (524288 * (2 * (s : Int) + h)) (20 * 1048576)).toNat) :: binPos (j + 1) (s + h) r

/-- Whether a test is rejected: a bin wider than 4 times or narrower than 0.25 times the nominal (R222). -/
def testBad (hits : List Nat) : Bool := hits.any (fun h => decide (4 * 2048 < h ∨ h * 4 < 2048))

/-- INTERPOLATOR_EXCHANGE of channel `c` at its next whole second, `hits` being the counts of the 512 bins (R222). -/
def Dev.interpolators (d : Dev) (c : Nat) (hits : List Nat) : Dev :=
  let t := d.beatAt sec1 (d.emuCh c).xchg
  let d0 := d.advanceTo t
  let x := { d0.emuCh c with xchg := d0.beatOf t }
  let bad := testBad hits
  let next := if bad then x.spare else binPos 0 0 hits
  let old := (List.range 512).filterMap (fun j => let v := d0.num (EMU_BIN_POS c j); if v = 0 then none else some (j, v))
  let d1 := (List.range 512).foldl (fun e j => e.putNum (EMU_BIN_POS c j) (Tbl.get next 0 j)) d0
  let d2 := d1.setEmuCh c { x with spare := old, rej0 := bad, rej1 := x.rej0 }
  let d3 := if bad then (d2.bump EMU_BINCAL_REJ 1).stick EMU_GLB_STATUS EMU_GLB_STATUS_BINCAL else d2
  d3.live EMU_GLB_STATUS EMU_GLB_STATUS_BINCAL ((List.range 16).any (fun k => (d3.emuCh k).rej0 || (d3.emuCh k).rej1))

/-- DELAY_LINE_LOCK (R221). -/
def Dev.lineLock (d : Dev) : Dev := (d.live EMU_GLB_STATUS EMU_GLB_STATUS_LOCK true).coarseLive

/-- DELAY_LINE_LOCK_LOSS (R221). -/
def Dev.lineLoss (d : Dev) : Dev :=
  if d.bit EMU_GLB_STATUS EMU_GLB_STATUS_LOCK then
    ((d.live EMU_GLB_STATUS EMU_GLB_STATUS_LOCK false).stick EMU_GLB_STATUS EMU_GLB_STATUS_LOCK).coarseLive
  else d

/-- RAW_COUNTER_WRAP (R226): the first wrap of the counter that has not been reported, while time is not set: one that time has passed is reported
at once, and else time moves on to it. -/
def Dev.rawWrap (d : Dev) : Dev :=
  if d.setLive then d
  else
    let n := (d.emu.wraps + 1) * 2 ^ 32
    let left : Int := ((n * 4 * ns1 + 4) / 5 - d.tk.cyc : Nat)
    let dt := if d.timeBypass then left else (left * ppbOne).fdiv (ppbOne + d.pll)
    let d1 := if n ≤ d.emuCycles then d else d.passOsc (dt.toNat + 1)
    ({ d1 with emu := { d1.emu with wraps := d1.emu.wraps + 1 } }.live EMU_GLB_STATUS EMU_GLB_STATUS_RAWOVF true).stick
      EMU_GLB_STATUS EMU_GLB_STATUS_RAWOVF

/-! ### Writes -/

/-- The status of a write of EMU_CTRL (R215, R239, R240). -/
def Dev.emuCtrlStatus (d : Dev) (c v : Nat) : Nat :=
  let old := d.get (EMU_CTRL c)
  let w := BitVec.ofNat 96 v
  let sel := EMU_CTRL_DMA_SEL.of w
  let changed (f : Fld) : Bool := f.of w != f.of old
  if (sel ≠ 0 ∧ sel < 8) ∨ EMU_CTRL_MODE.of w = 3 ∨ (5 ≤ c ∧ c ≤ 7 ∧ EMU_CTRL_EDGE.of w ≠ 1) then stBAD_PARAM
  else if (EMU_CTRL_QEN.of old = 1 ∧ (changed EMU_CTRL_MODE ∨ changed EMU_CTRL_STOP_CH)) ∨ (EMU_CTRL_OWNER.of old ≠ 0 ∧ changed EMU_CTRL_EDGE) then stBUSY
  else stOK

/-- A write of EMU_CTRL taking effect: the count of DECIM and the mode start again when QEN is set (R229, R227). -/
def Dev.emuCtrlTake (d : Dev) (c v : Nat) : Dev :=
  let was := d.fld (EMU_CTRL c) EMU_CTRL_QEN
  let d1 := d.writeWord (EMU_CTRL c) v
  let now := d1.fld (EMU_CTRL c) EMU_CTRL_QEN
  let x := d1.emuCh c
  if was = now then d1
  else d1.setEmuCh c { x with dec := 0, start := none, first := none, latest := none, gate := {},
                              wraps := if now = 1 ∧ !x.had then d.emuWraps else x.wraps }

/-- The status of a write of EMU_SRC (R213, R215). -/
def Dev.emuSrcStatus (d : Dev) (c v : Nat) : Nat :=
  let typ := bitsAt v 12 4
  let idx := bitsAt v 0 9
  let ok := match typ with
    | 0 => idx == 0
    | 1 => true
    | 2 => idx == 0
    | 3 => decide (idx ≤ 4)
    | 4 => decide (1 ≤ idx ∧ idx ≤ 9)
    | 5 => decide (idx ≤ 63)
    | _ => false
  if c < 8 ∨ !ok then stBAD_PARAM else if d.fld (EMU_CTRL c) EMU_CTRL_OWNER ≠ 0 then stBUSY else stOK

/-- The status of a write of EMU_INPUT (R215, R216, R239). -/
def Dev.emuInputStatus (d : Dev) (c v : Nat) : Nat :=
  let th := signedOf 13 v
  if 3 ≤ c ∨ 250 < bitsAt v 16 8 ∨ th < -1000 ∨ 3300 < th then stBAD_PARAM
  else if d.fld (EMU_CTRL c) EMU_CTRL_OWNER ≠ 0 then stBUSY else stOK

/-- The status of a write of EMU_DECIM, EMU_GATE or EMU_TIMEOUT (R233, R239). -/
def Dev.emuModeStatus (d : Dev) (c p v : Nat) : Nat :=
  if p = EMU_GATE c ∧ (v = 0 ∨ 1000 % v ≠ 0) then stBAD_PARAM
  else if d.fld (EMU_CTRL c) EMU_CTRL_QEN = 1 ∧ d.num p ≠ v then stBUSY else stOK

end Sys2Proof.Machine
end

