-- ==== Sys2Proof/Machine/Refc.lean ====
section
/-! DEFINITION. Reference candidates, their monitors, the oscillator model, the vote, the selector and holdover (R246 to R296). -/

namespace Sys2Proof.Machine

def Dev.cand (d : Dev) (i : Nat) : CandSt := Tbl.get d.refc.cands {} i
def Dev.setCand (d : Dev) (i : Nat) (x : CandSt) : Dev := { d with refc := { d.refc with cands := Tbl.set d.refc.cands {} i x } }

/-- Candidate states (R258), failure reasons and judgements (R292), selector states (R275). -/
abbrev rcDISABLED : Nat := 0
abbrev rcFAILED : Nat := 1
abbrev rcQUALIFYING : Nat := 2
abbrev rcQUALIFIED : Nat := 3
abbrev rcDISQUALIFIED : Nat := 4
abbrev selFREE : Nat := 0
abbrev selLOCKING : Nat := 1
abbrev selLOCKED : Nat := 2
abbrev selGLIDE : Nat := 3

def Dev.candState (d : Dev) (i : Nat) : Nat := d.fld (REFC_STATUS i) REFC_STATUS_STATE
def Dev.suspect (d : Dev) (i : Nat) : Bool := d.bit (REFC_STATUS i) REFC_STATUS_SUSPECT
def Dev.selState (d : Dev) : Nat := d.fld REFC_GLB_STATUS REFC_GLB_STATUS_SEL_STATE
def Dev.selCand (d : Dev) : Nat := d.fld REFC_GLB_STATUS REFC_GLB_STATUS_SELECTED
def Dev.qlEn (d : Dev) : Bool := d.fld REFC_GLB_CTRL REFC_GLB_CTRL_QL_EN == 1

/-- Candidates by number. -/
def candList : List Nat := (List.range 15).map (· + 1)

/-! ### Quality levels (R252 to R257) -/

/-- QL-DNU and QL-DUS. -/
abbrev qlDNU : Nat := 0xFFF

/-- The codes of both options in order of rank (R252). -/
def rankCodes (option2 : Bool) : List Nat :=
  if option2 then [0x211, 0x201, 0x231, 0xFF1, 0xFF0, 0xFF7, 0xFF4, 0xFFD, 0x22A, 0xFFA, 0xFFE]
  else [0x212, 0x202, 0x232, 0xFF2, 0xFF4, 0xFF8, 0x22B, 0xFFB]

/-- The rank of a level; a code not listed takes 0xF. -/
def Dev.rankQl (d : Dev) (ql : Nat) : Nat :=
  let l := rankCodes (d.fld REFC_GLB_CTRL REFC_GLB_CTRL_OPTION == 1)
  if l.idxOf ql < l.length then l.idxOf ql else 0xF

/-- The port that owns a cage lane in the present mode (R360). -/
def Dev.laneOwner (d : Dev) (lane : Nat) : Option Nat :=
  ((List.range 4).map (fun k => 4 * (lane / 8) + k)).find? (fun n => (d.lanesOf n).contains (lane % 8))

/-- The lane of a recovered-clock candidate and the port that owns it. -/
def Dev.candLane (d : Dev) (i : Nat) : Nat := d.fld (EMU_SRC i) EMU_SRC_INDEX
def Dev.candPort (d : Dev) (i : Nat) : Option Nat := d.laneOwner (d.candLane i)

/-- The level that the clockClass in PTE_GM_QUALITY maps to (R256): the module's own class for a Piste with an external source, which is its own
grandmaster (assumption 83). -/
def Dev.classLevel (d : Dev) (k : Nat) : Nat :=
  let c := bitsAt (d.gmQuality k) 32 8
  match (List.range 8).find? (fun e => d.fld (REFC_CLASS_MAP e) REFC_CLASS_MAP_VALID == 1 && d.fld (REFC_CLASS_MAP e) REFC_CLASS_MAP_CLASS == c) with
  | some e => d.fld (REFC_CLASS_MAP e) REFC_CLASS_MAP_QL
  | none => qlDNU

/-- The level of a candidate and whether it is QL-FAILED, as a port or trunk is until its first valid PDU or record (R247, R253, R255, R257). -/
def Dev.levelOf (d : Dev) (i : Nat) : Nat × Bool :=
  if i ≤ 3 then (d.fld (REFC_CTRL i) REFC_CTRL_QL_CFG, false)
  else if i = 4 then (d.refc.trkQl0, !(d.cand 4).qlGood)
  else if i = 5 then (d.refc.trkQl1, !(d.cand 5).qlGood)
  else if i ≤ 7 then (d.classLevel (i - 5), false)
  else
    match d.candPort i with
    | some n => (d.fld (REFC_ESMC_RX n) REFC_ESMC_RX_QL, !Tbl.get d.refc.esmcGood false n)
    | none => (qlDNU, false)

/-- The level in use shown, QL_STICKY being set when it changes (R292, R293); QL-FAILED shows as QL-DNU, of rank 0xF. -/
def Dev.showLevel (d : Dev) (i : Nat) : Dev :=
  let l := d.levelOf i
  let ql := if l.2 then qlDNU else l.1
  let r := if l.2 then 0xF else d.rankQl ql
  let old := d.fld (REFC_QL i) REFC_QL_QL
  let d1 := d.putNum (REFC_QL i) (r * 0x10000 + ql)
  if old = ql then d1 else d1.pulse (REFC_STATUS i) REFC_STATUS_QL

/-! ### Candidate states (R247, R258) -/

abbrev tWtr (i : Nat) : Nat := tmr 13 i

/-- A candidate in a state, with the LIVE bits that follow it. -/
def Dev.setCandState (d : Dev) (i s : Nat) : Dev :=
  let p := REFC_STATUS i
  let d1 := ((d.setFld p REFC_STATUS_STATE s).liveEdge p REFC_STATUS_FAIL (s == rcFAILED)).liveEdge p REFC_STATUS_DISQ (s == rcDISQUALIFIED)
  if s = rcQUALIFIED then d1 else d1.live p REFC_STATUS_SUSPECT false

/-- What a candidate's next x is measured from: the present (R249, R251). -/
def Dev.skipSample (d : Dev) (i : Nat) : Dev :=
  let d1 := d.setCand i { d.cand i with m0 := (d.cand i).m1, x := none }
  if i = 6 ∨ i = 7 then d1.setPiste (i - 5) { d1.piste (i - 5) with fSum := 0, fCount := 0 } else d1

/-- Every window of a candidate emptied (R250). -/
def Dev.emptyWindows (d : Dev) (i : Nat) : Dev :=
  let d1 := (d.setCand i { d.cand i with ys := [] }).skipSample i
  ([REFC_Y1 i, REFC_Y100 i, REFC_Y1000 i, REFC_D100 i, REFC_D1000 i].foldl (fun e p => e.putNum p 0) d1).setFld (REFC_STATUS i) REFC_STATUS_FULL 0

/-- A candidate entering QUALIFYING: wait-to-restore runs from its beginning. -/
def Dev.qualify (d : Dev) (i : Nat) : Dev := (d.setCandState i rcQUALIFYING).startT (tWtr i) (d.num (REFC_WTR i) * sec1)

/-- The EMU channel of an edge candidate that fails by SIGNAL. -/
def edgeChan (i : Nat) : Nat := if i ≤ 2 then i - 1 else 5

/-- The elapsed time at which an edge candidate without a further edge fails (R247); none where it has had no edge yet. -/
def Dev.edgeEnd (d : Dev) (i : Nat) : Option Nat :=
  let lim := if i ≤ 2 then max ms1 (11 * sec1 / (10 * max 1 (d.num (REFC_FREQ i)))) else 1100 * ms1
  (d.emuCh (edgeChan i)).edge.map (· + lim)

/-- The condition of R247 that holds for a candidate, as FAIL_REASON codes it, or that of its level under R258; 0 for none. -/
def Dev.candCond (d : Dev) (i : Nat) : Nat :=
  let own :=
    if i ≤ 3 then (match d.edgeEnd i with | some t => if t ≤ d.tk.osc then 1 else 0 | none => 1)
    else if i ≤ 5 then
      (if d.fld (TRK_STATUS (i - 4)) TRK_STATUS_STATE = 0 then 1 else if !(d.trkTime (i - 4)).seen then 2 else 0)
    else if i ≤ 7 then (if d.pzState (i - 5) = pzLOCKED then 0 else 4)
    else
      (match d.candPort i with
       | some n =>
         if d.fld (LANE_STATUS (d.candLane i)) LANE_STATUS_STATE < 3 ∨ !(Tbl.get d.net.link {} n).pcs then 2 else 0
       | none => 2)
  if own ≠ 0 then own else if d.qlEn && (d.levelOf i).2 then 3 else 0

/-- A candidate's state following its conditions: to FAILED when one begins, to QUALIFYING when the last one ends (R258). One disqualified for
AGING stays so (R267). -/
def Dev.refreshCand (d0 : Dev) (i : Nat) : Dev :=
  let d := d0.showLevel i
  let s := d.candState i
  let c := d.candCond i
  if s = rcDISABLED ∨ (s = rcDISQUALIFIED ∧ (d.cand i).aging) then d
  else if c ≠ 0 then
    if s = rcFAILED then d.setFld (REFC_STATUS i) REFC_STATUS_FAIL_REASON c
    else
      ((((d.setCandState i rcFAILED).setFld (REFC_STATUS i) REFC_STATUS_FAIL_REASON c).bump (REFC_FAILS i) 1).emptyWindows i).stopT (tWtr i)
  else if s = rcFAILED then ((d.emptyWindows i).qualify i).setFld (REFC_STATUS i) REFC_STATUS_FAIL_REASON 0
  else d

/-- CANDIDATE_FAIL (R247): for an edge candidate elapsed time reaches the end of what it may go without an edge; for the others the condition is
that of their source. -/
def Dev.candFail (d : Dev) (i : Nat) : Dev :=
  (match (if i ≤ 3 then d.edgeEnd i else none) with | some t => d.passOsc (t - d.tk.osc) | none => d).refreshCand i

/-- CANDIDATE_FAIL_END (R258): the condition has ended, for an edge candidate with an edge. -/
def Dev.candFailEnd (d : Dev) (i : Nat) : Dev := d.refreshCand i

/-- An edge of a channel ends what its candidate fails by (R247, R258). -/
def Dev.edgeCand (d : Dev) (c : Nat) : Dev :=
  if c = 0 then d.refreshCand 1 else if c = 1 then d.refreshCand 2 else if c = 5 then d.refreshCand 3 else d

/-- CANDIDATE_WTR_END (R258): REFC_WTR elapses, at a whole second where it is 0. -/
def Dev.candWtrEnd (d : Dev) (i : Nat) : Dev :=
  if d.runsT (tWtr i) ∧ d.candState i = rcQUALIFYING then
    let d1 := d.dueT (tWtr i)
    let d2 := if d.num (REFC_WTR i) = 0 then d1.advanceTo ((d1.tk.time + sec1 - 1) / sec1 * sec1) else d1
    (d2.setCandState i rcQUALIFIED).setCand i { d2.cand i with clean := 0 }
  else d

/-- A candidate disqualified under a judgement (R259, R267). -/
def Dev.disqualifyCand (d : Dev) (i judge : Nat) : Dev :=
  (((d.setCandState i rcDISQUALIFIED).setFld (REFC_STATUS i) REFC_STATUS_LAST_JUDGE judge).bump (REFC_DISQS i) 1).stopT (tWtr i)

/-- A candidate judged SUSPECT. -/
def Dev.judgeSuspect (d : Dev) (i judge : Nat) : Dev :=
  let d1 := (((d.live (REFC_STATUS i) REFC_STATUS_SUSPECT true).stick (REFC_STATUS i) REFC_STATUS_SUSPECT).setFld (REFC_STATUS i)
    REFC_STATUS_LAST_JUDGE judge)
  d1.setCand i { d1.cand i with clean := 0 }

/-! ### The model (R263 to R267) -/

def Dev.modelLive (d : Dev) : Bool := d.bit REFC_GLB_STATUS REFC_GLB_STATUS_MODEL

/-- M(t, θ) in 2^-16 ppb, `t` in seconds and `th` in mK (R263). -/
def Dev.modelAt (d : Dev) (t : Nat) (th : Int) : Int :=
  if d.modelLive then
    d.int REFC_MODEL_Y0 + (d.int REFC_MODEL_AGE * ((t : Int) - d.num REFC_MODEL_T0)).fdiv 86400 +
      (d.int REFC_MODEL_TEMP * (th - signedOf 24 (d.fld REFC_MODEL_FIT REFC_MODEL_FIT_THETA0))).fdiv 1000
  else 0

def sumOf (l : List Int) : Int := l.foldl (· + ·) 0

/-- Least squares over points given as time and temperature from the newest, and x: Y0 and D with K held at `k`, both in 2^-16 ppb (D per
day, K per kelvin) (R265). -/
def fit2 (pts : List (Int × Int × Int)) (k : Int) : Int × Int :=
  let n : Int := pts.length
  let xs := pts.map (fun p => p.2.2 - (k * p.2.1).fdiv 1000)
  let su := sumOf (pts.map (·.1))
  let suu := sumOf (pts.map (fun p => p.1 * p.1))
  let sx := sumOf xs
  let sux := sumOf ((pts.zip xs).map (fun q => q.1.1 * q.2))
  let det := n * suu - su * su
  if det = 0 then (roundDiv sx (max 1 n), 0)
  else (roundDiv (suu * sx - su * sux) det, roundDiv (86400 * (n * sux - su * sx)) det)

/-- Least squares for Y0, D and K together, none where the points do not tell them apart. -/
def fit3 (pts : List (Int × Int × Int)) : Option (Int × Int × Int) :=
  let n : Int := pts.length
  let s (f : Int × Int × Int → Int) : Int := sumOf (pts.map f)
  let su := s (·.1)
  let sv := s (·.2.1)
  let sx := s (·.2.2)
  let suu := s (fun p => p.1 * p.1)
  let suv := s (fun p => p.1 * p.2.1)
  let svv := s (fun p => p.2.1 * p.2.1)
  let sux := s (fun p => p.1 * p.2.2)
  let svx := s (fun p => p.2.1 * p.2.2)
  let det3 (a b c e f g h i j : Int) : Int := a * (f * j - g * i) - b * (e * j - g * h) + c * (e * i - f * h)
  let det := det3 n su sv su suu suv sv suv svv
  if det ≤ 0 then none
  else some (roundDiv (det3 sx su sv sux suu suv svx suv svv) det, roundDiv (86400 * det3 n sx sv su sux suv sv svx svv) det,
    roundDiv (1000 * det3 n su sx su suu sux sv suv svx) det)

/-- MODEL_LIVE following SPAN and the last fit (R266); MODEL_STICKY is set when it ends. -/
def Dev.judgeModel (d : Dev) : Dev :=
  let on := decide (d.fld REFC_MODEL_CTRL REFC_MODEL_CTRL_MODEL_MIN ≤ d.fld REFC_MODEL_FIT REFC_MODEL_FIT_SPAN) && d.refc.fitKept
  let d1 := d.live REFC_GLB_STATUS REFC_GLB_STATUS_MODEL on
  if d.modelLive && !on then d1.stick REFC_GLB_STATUS REFC_GLB_STATUS_MODEL else d1

/-- Hours covered by points, oldest last. -/
def spanHours (l : List LearnPt) : Nat :=
  match l with
  | [] => 0
  | p :: r => (p.t - (r.getLastD p).t) / 3600

/-- The model refitted over points of the last LEARN_WIN hours, newest first (R265, R267). -/
def Dev.refit (d : Dev) (old : List LearnPt) (p : LearnPt) : Dev :=
  let all := (p :: old).filter (fun q => decide (p.t ≤ q.t + 2160 * 3600))
  let win := all.filter (fun q => decide (p.t ≤ q.t + d.fld REFC_MODEL_CTRL REFC_MODEL_CTRL_LEARN_WIN * 3600))
  let pts := win.map (fun q => ((q.t : Int) - p.t, q.th - p.th, q.x))
  let ths := win.map (·.th)
  let wide := decide (2000 ≤ ths.foldl max p.th - ths.foldl min p.th)
  let k := d.int REFC_MODEL_TEMP
  let f := match (if wide then fit3 pts else none) with
    | some r => r
    | none => ((fit2 pts k).1, (fit2 pts k).2, k)
  let span := spanHours all
  if 24 ≤ span ∧ d.fld REFC_MODEL_CTRL REFC_MODEL_CTRL_AGE_MAX * 256 < f.2.1.natAbs then
    let d1 := ({ d with refc := { d.refc with fitKept := false } }.judgeModel).stick REFC_GLB_STATUS REFC_GLB_STATUS_MODEL
    let c := d1.selCand
    if c = 0 then d1 else (d1.disqualifyCand c 6).setCand c { d1.cand c with aging := true }
  else
    (((((({ d with refc := { d.refc with points := all, fitKept := true } }.putInt REFC_MODEL_Y0 f.1).putInt REFC_MODEL_AGE f.2.1).putInt
      REFC_MODEL_TEMP f.2.2).putNum REFC_MODEL_T0 p.t).setFld REFC_MODEL_FIT REFC_MODEL_FIT_THETA0 (unsignedOf 24 p.th)).setFld
      REFC_MODEL_FIT REFC_MODEL_FIT_SPAN span).judgeModel

/-- LEARNING_POINT at a multiple of 1,000 s (R264): a point is added where everything held over the whole 1,000 s. -/
def Dev.learn (d0 : Dev) : Dev :=
  let t := d0.beatAt (1000 * sec1) d0.refc.learnBeat
  let d := d0.advanceTo t
  let r := d.refc
  let d1 := { d with refc := { r with learnBeat := d.beatOf t, learnX := 0, learnTh := 0, learnN := 0, learnOk := true } }
  if r.learnOk ∧ r.learnN = 1000 then d1.refit r.points ⟨twSec d.tk.time, r.learnX.fdiv 1000, r.learnTh.fdiv 1000⟩ else d1

/-- MODEL_CLEAR (R266). -/
def Dev.modelClear (d : Dev) : Dev :=
  ([REFC_MODEL_Y0, REFC_MODEL_AGE, REFC_MODEL_TEMP, REFC_MODEL_T0, REFC_MODEL_FIT].foldl (fun (e : Dev) p => e.putNum p 0)
    { d with refc := { d.refc with points := [], fitKept := false } }).judgeModel

/-! ### PLL-T's target (R275, R312, R314) -/

/-- The mean of the applied PLL-T offset since the last whole second (R275). -/
def Dev.pllMean (d : Dev) : Int :=
  let c := d.cd
  if d.tk.osc ≤ c.pllFrom then d.pll
  else (c.pllSum + d.pll * ((d.tk.osc - c.pllAt : Nat) : Int)).fdiv ((d.tk.osc - c.pllFrom : Nat) : Int)

/-- The mean of the applied PLL-T offset begun again. -/
def Dev.pllSecond (d : Dev) : Dev := { d with cd := { d.cd with pllSum := 0, pllAt := d.tk.osc, pllFrom := d.tk.osc } }

/-- SLEW_LIVE and LIMIT_LIVE as target and applied offset stand. -/
def Dev.slewLive (d : Dev) : Dev :=
  let t := d.int CD_T_TARGET
  let lim : Int := 200000 * 65536
  (d.liveEdge (CD_STATUS 2) CD_STATUS_SLEW (t != d.pll)).liveEdge (CD_STATUS 2) CD_STATUS_LIMIT
    (decide ((lim < t ∧ d.pll = lim) ∨ (t < -lim ∧ d.pll = -lim)))

def Dev.setTarget (d : Dev) (t : Int) : Dev := (d.putInt CD_T_TARGET t).slewLive

/-! ### Selection (R271 to R279) -/

/-- Whether a candidate is selectable (R271). -/
def Dev.selectable (d : Dev) (i : Nat) : Bool :=
  d.candState i == rcQUALIFIED && d.fld (REFC_CTRL i) REFC_CTRL_PRIORITY != 0 && (!d.qlEn || d.fld (REFC_QL i) REFC_QL_RANK != 0xF)

/-- The rank of a candidate under AUTO as one number (R272). -/
def Dev.candRank (d : Dev) (i : Nat) : Nat :=
  ((if d.qlEn then d.fld (REFC_QL i) REFC_QL_RANK else 0) * 0x100 + d.fld (REFC_CTRL i) REFC_CTRL_PRIORITY) * 2 + (d.suspect i).toNat

/-- The choice of R272 among some candidates. -/
def Dev.autoChoice (d : Dev) (l : List Nat) : Option Nat :=
  let ok := l.filter (fun i => d.selectable i)
  let best := ok.foldl (fun (b : Option Nat) i => match b with | some j => if d.candRank i < d.candRank j then some i else b | none => some i) none
  let cur := d.selCand
  if ok.contains cur then (match best with | some b => if d.candRank b < d.candRank cur then some b else some cur | none => some cur) else best

/-- The candidate that MODE names or chooses (R273). -/
def Dev.chosen (d : Dev) : Option Nat :=
  let m := d.fld REFC_GLB_CTRL REFC_GLB_CTRL_MODE
  let man := d.fld REFC_GLB_CTRL REFC_GLB_CTRL_MAN_CAND
  if m = 0 then d.autoChoice candList
  else if m = 1 then (if d.selectable man then some man else d.autoChoice (candList.filter (· != man)))
  else if m = 2 then (if 2 ≤ d.candState man then some man else none)
  else none

/-- OUT (R279). -/
def Dev.showOut (d : Dev) : Dev :=
  let s := d.selState
  let q := if s = selGLIDE then d.fld REFC_OUT_QL REFC_OUT_QL_HOLD_QL
    else if s = selFREE then d.fld REFC_OUT_QL REFC_OUT_QL_FREE_QL else d.fld (REFC_QL d.selCand) REFC_QL_QL
  d.setFld REFC_OUT_QL REFC_OUT_QL_OUT q

/-- SEL_STATE with its LIVE bits. -/
def Dev.setSelState (d : Dev) (s : Nat) : Dev :=
  ((d.setFld REFC_GLB_STATUS REFC_GLB_STATUS_SEL_STATE s).liveEdge REFC_GLB_STATUS REFC_GLB_STATUS_GLIDE (s == selGLIDE)).liveEdge
    REFC_GLB_STATUS REFC_GLB_STATUS_FREE (s == selFREE)

/-- SELECTED changed (R285). -/
def Dev.setSelected (d : Dev) (c : Nat) : Dev :=
  let o := d.selCand
  if o = c then d
  else
    let d1 := if o = 0 then d else d.setFld (REFC_STATUS o) REFC_STATUS_SELECTED 0
    let d2 := if c = 0 then d1 else d1.setFld (REFC_STATUS c) REFC_STATUS_SELECTED 1
    let d3 := { d2 with refc := { d2.refc with learnOk := false, within := 0 } }
    (d3.setFld REFC_GLB_STATUS REFC_GLB_STATUS_SELECTED c).pulse REFC_GLB_STATUS REFC_GLB_STATUS_SEL

/-- Entry to FREE_RUN: H is cleared, and PLL-T's target is the nominal frequency (R276, R278). -/
def Dev.enterFree (d : Dev) : Dev :=
  if d.selState = selFREE then d
  else
    ((({ d with refc := { d.refc with hist := [] } }.setSelected 0).setSelState selFREE).putNum REFC_HO_HIST 0).setTarget 0

/-- The module with no candidate: Glide where it is permitted, else free run (R276). -/
def Dev.enterNone (d : Dev) : Dev :=
  let m := d.fld REFC_GLB_CTRL REFC_GLB_CTRL_MODE
  if m = 4 then d.enterFree
  else if d.selState = selGLIDE ∨ d.selState = selFREE then d
  else if d.fld REFC_HO_CTRL REFC_HO_CTRL_HO_MIN ≤ d.num REFC_HO_HIST then
    (((d.setSelected 0).setSelState selGLIDE).putNum REFC_HO_ELAPSED 0).bump REFC_GLIDE_COUNT 1
  else d.enterFree

/-- A candidate taken (R274). -/
def Dev.takeCand (d : Dev) (c : Nat) : Dev :=
  if d.selCand = c then d
  else
    let d1 := ((d.setSelected c).setSelState selLOCKING).bump REFC_SWITCH_COUNT 1
    match (d1.cand c).x with
    | some x => d1.setTarget x
    | none => d1

/-- SELECTOR_SWITCH (R246, R251, R272 to R279): none while stamps are COARSE. -/
def Dev.selectorAct (d : Dev) : Dev :=
  if d.bit EMU_GLB_STATUS EMU_GLB_STATUS_COARSE then d
  else (match d.chosen with | some c => d.takeCand c | none => d.enterNone).showOut

/-- SELECTOR_LOCKED (R275). -/
def Dev.selectorLocked (d : Dev) : Dev :=
  if d.selState = selLOCKING ∧ 16 ≤ d.refc.within then (d.setSelState selLOCKED).showOut else d

/-- HO_MAX_EXPIRY (R275): a candidate that is selectable in that second is taken, else free run. -/
def Dev.hoMax (d : Dev) : Dev :=
  if d.selState = selGLIDE ∧ d.num REFC_HO_MAX ≤ d.num REFC_HO_ELAPSED then
    (match (if d.bit EMU_GLB_STATUS EMU_GLB_STATUS_COARSE then none else d.chosen) with | some c => d.takeCand c | none => d.enterFree).showOut
  else d

/-- CD2 back from bypass: a LOCKED selector enters LOCKING (R251). -/
def Dev.selectorRelock (d : Dev) : Dev :=
  if d.selState = selLOCKED then ({ d with refc := { d.refc with within := 0 } }).setSelState selLOCKING else d

/-! ### The whole second (R249, R250, R259 to R261, R268 to R270, R276, R277) -/

/-- The nominal rate of an edge candidate, in edges taken per second, as a fraction (R213, R247). -/
def Dev.nominal (d : Dev) (i : Nat) : Nat × Nat :=
  let both := if d.fld (EMU_CTRL (if i ≤ 2 then i - 1 else i)) EMU_CTRL_EDGE = 3 then 2 else 1
  if i ≤ 2 then (both * d.num (REFC_FREQ i), 1)
  else if i = 3 then (1, 1)
  else if i ≤ 5 then (1250000000, 1)
  else
    let s := match d.candPort i with | some n => (d.speedOf n).getD 0 | none => 0
    (both * (if s ≤ 3 then 106250000000 else if s ≤ 5 then 25781250000 else 10312500000), 2048)

/-- x of a candidate over the second that ends, in 2^-16 ppb, where it has been measured; and the module with its measurement begun
again (R249). -/
def Dev.sampleX (d : Dev) (i : Nat) : Dev × Option Int :=
  if i = 6 ∨ i = 7 then
    let p := d.piste (i - 5)
    let x := if p.fCount = 0 then none else some (p.fSum.fdiv p.fCount)
    (d.setPiste (i - 5) { p with fSum := 0, fCount := 0 }, x)
  else
    let c := d.cand i
    match c.m0, c.m1 with
    | some a, some b =>
      if a.1 < b.1 ∧ a.2 < b.2 then
        let f := d.nominal i
        let num : Int := ((b.1 - a.1) * f.2 * 65536000000000 : Nat) * ppbOne
        (d.setCand i { c with m0 := some b }, some (roundDiv num ((f.1 * (b.2 - a.2) : Nat) : Int) - ppbOne))
      else (d, none)
    | _, _ => (d, none)

def meanTo (l : List Int) : Int := (sumOf l).fdiv (max 1 l.length)

/-- The five quantities of R250 where they are full, in 2^-16 ppb or ppb per day. -/
def quantities (ys : List Int) : List (Option Int) :=
  let y100 := meanTo (ys.take 100)
  let y1000 := meanTo (ys.take 1000)
  let f (n : Nat) (x : Int) : Option Int := if n ≤ ys.length then some x else none
  [f 1 (ys.headD 0), f 100 y100, f 1000 y1000, f 200 ((y100 - meanTo ((ys.drop 100).take 100)) * 864),
   f 2000 (((y1000 - meanTo ((ys.drop 1000).take 1000)) * 864).fdiv 10)]

/-- The items that show the quantities, and those of their limits. -/
def quantItems (i : Nat) : List (Nat × Nat) :=
  [(REFC_Y1 i, REFC_LIM_OFF1 i), (REFC_Y100 i, REFC_LIM_OFF100 i), (REFC_Y1000 i, REFC_LIM_OFF1000 i), (REFC_D100 i, REFC_LIM_DRIFT100 i),
   (REFC_D1000 i, REFC_LIM_DRIFT1000 i)]

/-- The lowest code (from 1) of a full quantity beyond its SOFT or HARD limit, 0 for none. -/
def Dev.beyond (d : Dev) (i : Nat) (f : Fld) (qs : List (Option Int)) : Nat :=
  match ((quantItems i).zip qs).findIdx? (fun q => match q.2 with | some x => decide (d.fld q.1.2 f * 256 < x.natAbs) | none => false) with
  | some k => k + 1
  | none => 0

/-- A candidate sampled and judged at a whole second. -/
def Dev.monitorCand (d : Dev) (th : Int) (i : Nat) : Dev :=
  let s := d.candState i
  if s ≤ rcFAILED then d.skipSample i
  else
    let r := d.sampleX i
    match r.2 with
    | none => r.1.setCand i { r.1.cand i with x := none }
    | some x =>
      let c := r.1.cand i
      let ys := ((x - d.modelAt (twSec d.tk.time) th) :: c.ys).take 2000
      let qs := quantities ys
      let full := qs.foldr (fun q n => 2 * n + q.isSome.toNat) 0
      let d1 := (((quantItems i).zip qs).foldl (fun e q => e.putInt q.1.1 (q.2.getD 0)) (r.1.setCand i { c with ys := ys, x := some x })).setFld
        (REFC_STATUS i) REFC_STATUS_FULL full
      let soft := d1.beyond i REFC_LIM_SOFT qs
      let hard := d1.beyond i REFC_LIM_HARD qs
      if s = rcDISQUALIFIED then (if soft = 0 ∧ !c.aging then d1.qualify i else d1)
      else if hard ≠ 0 then d1.disqualifyCand i soft
      else if s = rcQUALIFIED then
        (if soft ≠ 0 then d1.judgeSuspect i soft else d1.setCand i { d1.cand i with clean := (d1.cand i).clean + 1 })
      else d1

/-- y100 of a QUALIFIED candidate where it is full. -/
def Dev.y100? (d : Dev) (i : Nat) : Option Int :=
  if d.candState i = rcQUALIFIED ∧ bitsAt (d.fld (REFC_STATUS i) REFC_STATUS_FULL) 1 1 = 1 then some (d.int (REFC_Y100 i)) else none

/-- Whether two values differ by at most REFC_DISAGREE. -/
def Dev.agree (d : Dev) (a b : Int) : Bool := decide ((a - b).natAbs ≤ d.num REFC_DISAGREE * 256)

/-- The outcome of a disagreeing pair (R269): the member outvoted, 0 for none. -/
def Dev.voteOn (d : Dev) (i j : Nat) (a b : Int) : Nat :=
  let voters := candList.filterMap (fun k => if k = i ∨ k = j ∨ d.suspect k then none else d.y100? k)
  let count (x : Int) : Nat := (voters.filter (fun v => d.agree v x)).length + (d.modelLive && d.agree x 0).toNat
  if count b < count a then j else if count a < count b then i else 0

/-- A candidate outvoted (R269): where a quantity was beyond its limit in the same second, LAST_JUDGE keeps that one, whose code is lower (R259). -/
def Dev.outvote (d : Dev) (i : Nat) : Dev :=
  let c := d.cand i
  let soft := if c.x.isSome then d.beyond i REFC_LIM_SOFT (quantities c.ys) else 0
  d.judgeSuspect i (if soft = 0 then 7 else soft)

/-- The vote of a whole second (R268 to R270), on the state that the limits left. -/
def Dev.vote (d : Dev) : Dev :=
  let pairs := candList.flatMap (fun i => (candList.filter (fun j => decide (i < j))).filterMap (fun j =>
    match d.y100? i, d.y100? j with
    | some a, some b => if d.agree a b then none else some (d.voteOn i j a b)
    | _, _ => none))
  let d1 := pairs.foldl (fun e k => if k = 0 then e else e.outvote k) d
  d1.liveEdge REFC_GLB_STATUS REFC_GLB_STATUS_DIS (pairs.contains 0)

/-- p_ho (R277). -/
def Dev.glideTarget (d : Dev) (th : Int) : Int :=
  let g := d.fld REFC_HO_CTRL REFC_HO_CTRL_HO_GUARD
  let l := (d.refc.hist.drop g).take (d.fld REFC_HO_CTRL REFC_HO_CTRL_HO_AVG)
  meanTo (l.map (·.1)) +
    (match l with
     | x :: _ => if d.modelLive then d.modelAt (twSec d.tk.time) th - d.modelAt x.2.2 (meanTo (l.map (·.2.1))) else 0
     | [] => 0)

/-- Whether everything a learning point asks for holds now (R264). A y1000 that is not full lies within nothing (assumption 83). -/
def Dev.learnHolds (d : Dev) : Bool :=
  let c := d.selCand
  let full (i : Nat) : Option Int :=
    if bitsAt (d.fld (REFC_STATUS i) REFC_STATUS_FULL) 2 1 = 1 then some (d.int (REFC_Y1000 i)) else none
  d.selState == selLOCKED && c != 0 && d.candState c == rcQUALIFIED && !d.suspect c &&
    candList.all (fun j => if j = c ∨ d.candState j ≠ rcQUALIFIED ∨ d.suspect j then true
      else (match full c, full j with | some a, some b => d.agree a b | _, _ => false))

/-- What the second does to the selector: tracking, history, Glide and learning. The tracking error is the mean over the second of x less the
applied PLL-T offset; a second without a sample breaks the run within REFC_LOCK_THR (R275). -/
def Dev.selectorSecond (d : Dev) (th : Int) : Dev :=
  let c := d.selCand
  let s := d.selState
  let d1 :=
    if s = selLOCKING ∨ s = selLOCKED then
      (match (d.cand c).x with
       | some x =>
         let ok := decide ((x - d.pllMean).natAbs ≤ d.num REFC_LOCK_THR * 256)
         ({ d with refc := { d.refc with within := if ok then min 16 (d.refc.within + 1) else 0 } }).setTarget x
       | none => { d with refc := { d.refc with within := 0 } })
    else if s = selGLIDE then
      let d0 := d.putNum REFC_HO_ELAPSED (d.num REFC_HO_ELAPSED + 1)
      let p := d0.glideTarget th
      (d0.putInt REFC_HO_FREQ p).setTarget p
    else d
  let n := d.fld REFC_HO_CTRL REFC_HO_CTRL_HO_AVG + d.fld REFC_HO_CTRL REFC_HO_CTRL_HO_GUARD
  let d2 := if s = selLOCKED then
      ({ d1 with refc := { d1.refc with hist := ((d1.pll, th, twSec d1.tk.time) :: d1.refc.hist).take n } }).putNum REFC_HO_HIST (d1.num REFC_HO_HIST + 1)
    else d1
  let r := d2.refc
  match (d2.cand c).x with
  | some x => { d2 with refc := { r with learnX := r.learnX + x, learnTh := r.learnTh + th, learnN := r.learnN + 1,
                                         learnOk := r.learnOk && d2.learnHolds } }
  | none => { d2 with refc := { r with learnOk := false } }

/-- MONITOR_SECOND with the ambient temperature θ in mK (R246, R250, R251): time reaches the whole second; no sample is taken and nothing
judged while stamps are COARSE. -/
def Dev.monitorSecond (d0 : Dev) (th : Int) : Dev :=
  let t := d0.beatAt sec1 d0.refc.beat
  let e := d0.advanceTo t
  let d := { e with refc := { e.refc with beat := e.beatOf t } }
  let d1 := candList.foldl (fun e i => e.refreshCand i) d
  let d2 := if d.bit EMU_GLB_STATUS EMU_GLB_STATUS_COARSE then candList.foldl (fun e i => e.skipSample i) d1 else (candList.foldl (fun e i => e.monitorCand th i) d1).vote
  (d2.selectorSecond th).pllSecond.showOut

/-- SUSPECT_CLEAR (R260). -/
def Dev.suspectClear (d : Dev) (i : Nat) : Dev :=
  if d.suspect i ∧ 1000 ≤ (d.cand i).clean then d.live (REFC_STATUS i) REFC_STATUS_SUSPECT false else d

/-! ### ESMC and trunk records (R253 to R255) -/

abbrev tEsmc (n : Nat) : Nat := tmr 14 n
abbrev tQl (t : Nat) : Nat := tmr 15 t

/-- The level of an ESMC PDU, its originator and its eEEC count, where it is valid (R253; the layout is that of G.8264, PRESUMED). -/
def esmcOf (b : List Byte) : Option (Nat × Nat × Nat) :=
  if byteAt b 0 = 0x0A ∧ beNat (slice b 1 3) = 0x0019A7 ∧ be16 b 4 = 1 ∧ byteAt b 6 / 16 = 1 ∧ byteAt b 10 = 1 ∧ be16 b 11 = 4 then
    let ext := byteAt b 14 = 2 ∧ be16 b 15 = 20
    some ((if ext then byteAt b 17 else 0xFF) * 16 + byteAt b 13 % 16, if ext then beNat (slice b 18 8) else 0, if ext then byteAt b 27 else 0)
  else none

/-- ESMC_PDU_RX: the oldest PDU that a slice has terminated (R253). -/
def Dev.esmcRx (d : Dev) : Dev :=
  match d.net.inbox.find? (fun t => t.kind == 2) with
  | none => d
  | some t =>
    let d1 := { d with net := { d.net with inbox := d.net.inbox.erase t } }
    match esmcOf t.bytes with
    | none => d1
    | some (ql, id, cnt) =>
      let d2 := (d1.startT (tEsmc t.lp) (5 * sec1)).putNum (REFC_ESMC_RX t.lp) ql
      let d3 := { d2 with refc := { d2.refc with esmcId := Tbl.set d2.refc.esmcId (0, 0) t.lp (id, cnt),
                                                  esmcGood := Tbl.set d2.refc.esmcGood false t.lp true,
                                                  esmcAt := Tbl.set d2.refc.esmcAt none t.lp (some d2.tk.osc) } }
      (candList.foldl (fun e i => if 8 ≤ i ∧ e.candPort i = some t.lp then e.refreshCand i else e) d3).showOut

/-- AGE of REFC_ESMC_RX (R296). -/
def Dev.esmcAge (d : Dev) (n : Nat) : Nat :=
  match Tbl.get d.refc.esmcAt none n with
  | some t => min 255 ((d.tk.osc - t) / sec1)
  | none => 255

/-- ESMC_TIMEOUT (R253). -/
def Dev.esmcTimeout (d : Dev) (n : Nat) : Dev :=
  if d.runsT (tEsmc n) then
    let d1 := d.dueT (tEsmc n)
    let d2 := { d1 with refc := { d1.refc with esmcGood := Tbl.set d1.refc.esmcGood false n false } }
    (candList.foldl (fun e i => if 8 ≤ i ∧ e.candPort i = some n then e.refreshCand i else e) d2).showOut
  else d

/-- The level sent on a port (R254, R732). -/
def Dev.esmcLevel (d : Dev) (n : Nat) : Nat :=
  if d.pte.handOff ∨ (8 ≤ d.selCand ∧ d.candPort d.selCand = some n) then qlDNU else d.fld REFC_OUT_QL REFC_OUT_QL_OUT

/-- An ESMC PDU sent on a port (R254; the layout is that of G.8264, PRESUMED). -/
def Dev.esmcSend (d : Dev) (n : Nat) (event : Bool) : Dev :=
  let q := d.esmcLevel n
  let from_ := if 8 ≤ d.selCand then d.candPort d.selCand else none
  let org := match from_ with
    | some m => let e := Tbl.get d.refc.esmcId (0, 0) m; (e.1, min 255 (e.2 + 1))
    | none => (Config.clockIdentity.toNat, 0)
  let b := beBytes 6 0x0180C2000002 ++ beBytes 6 Config.mac.toNat ++ beBytes 2 0x8809 ++ [0x0A, 0x00, 0x19, 0xA7, 0, 1] ++
    beBytes 1 (0x10 + event.toNat * 8) ++ [0, 0, 0] ++ [1, 0, 4] ++ beBytes 1 (q % 16) ++ [2, 0, 20] ++ beBytes 1 (q / 16) ++
    beBytes 8 org.1 ++ [0] ++ beBytes 1 org.2 ++ List.replicate 6 0
  let d1 := (d.originate (qOf n 7) b id).1
  { d1 with refc := { d1.refc with esmcSent := Tbl.set d1.refc.esmcSent 0 n q } }

/-- ESMC_INFO_TX and ESMC_EVENT_TX (R254): the second only where the level differs from the last sent. -/
def Dev.esmcInfo (d : Dev) (n : Nat) : Dev := if d.fld (REFC_ESMC_CTRL n) REFC_ESMC_CTRL_TX_EN = 1 then d.esmcSend n false else d
def Dev.esmcEvent (d : Dev) (n : Nat) : Dev :=
  if d.fld (REFC_ESMC_CTRL n) REFC_ESMC_CTRL_TX_EN = 1 ∧ Tbl.get d.refc.esmcSent 0 n ≠ d.esmcLevel n then d.esmcSend n true else d

/-- QL_RECORD_TX (R255). -/
def Dev.qlTx (d : Dev) (t : Nat) : Dev :=
  if !d.linkServes (0x300 + t) then d
  else
    let q := if d.pte.handOff ∨ d.selCand = 4 + t then qlDNU else d.fld REFC_OUT_QL REFC_OUT_QL_OUT
    d.trkSend t 2 (leBytes 1 (q % 16) ++ leBytes 1 (q / 16) ++ [0, 0])

/-- A trunk's level (R255). -/
def Dev.setTrkQl (d : Dev) (t ql : Nat) (failed : Bool) : Dev :=
  let r := if t = 0 then { d.refc with trkQl0 := ql } else { d.refc with trkQl1 := ql }
  let d1 := { d with refc := r }
  ((d1.setCand (4 + t) { d1.cand (4 + t) with qlGood := !failed }).refreshCand (4 + t)).showOut

/-- QL_RECORD_RX (R255): a record whose four bytes are `b`. -/
def Dev.qlRx (d : Dev) (t : Nat) (b : List Byte) : Dev := (d.startT (tQl t) (5 * sec1)).setTrkQl t (byteAt b 1 * 16 + byteAt b 0 % 16) false

/-- QL_RECORD_TIMEOUT (R255). -/
def Dev.qlTimeout (d : Dev) (t : Nat) : Dev :=
  if d.runsT (tQl t) then (d.dueT (tQl t)).setTrkQl t (if t = 0 then d.refc.trkQl0 else d.refc.trkQl1) true else d

/-! ### Writes -/

/-- The status of a write of REFC_CTRL (R248). -/
def Dev.refcCtrlStatus (d : Dev) (i v : Nat) : Nat :=
  if 8 ≤ i ∧ v % 2 = 1 ∧ d.fld (EMU_SRC i) EMU_SRC_TYPE ≠ 1 then stBAD_PARAM else stOK

/-- A write of REFC_CTRL taking effect (R248, R258, R267). -/
def Dev.refcCtrlTake (d : Dev) (i v : Nat) : Dev :=
  let was := d.fld (REFC_CTRL i) REFC_CTRL_ENABLE
  let d1 := d.writeWord (REFC_CTRL i) v
  let now := d1.fld (REFC_CTRL i) REFC_CTRL_ENABLE
  let d2 :=
    if was = 0 ∧ now = 1 then (d1.emptyWindows i).qualify i
    else if was = 1 ∧ now = 0 then
      let e := (((d1.setCandState i rcDISABLED).emptyWindows i).stopT (tWtr i)).setFld (REFC_STATUS i) REFC_STATUS_FAIL_REASON 0
      e.setCand i { e.cand i with aging := false }
    else d1
  (d2.refreshCand i).showOwners

/-- The status of a write of REFC_GLB_CTRL (R273). -/
def Dev.refcGlbStatus (d : Dev) (v : Nat) : Nat :=
  let m := bitsAt v 0 3
  let c := bitsAt v 12 4
  if 5 ≤ m ∨ ((m = 1 ∨ m = 2) ∧ (c = 0 ∨ d.candState c = rcDISABLED)) then stBAD_PARAM else stOK

/-- A write of REFC_GLB_CTRL taking effect: ranks and levels follow OPTION and QL_EN. -/
def Dev.refcGlbTake (d : Dev) (v : Nat) : Dev := candList.foldl (fun e i => e.refreshCand i) (d.writeWord REFC_GLB_CTRL v)

end Sys2Proof.Machine
end

