-- ==== Sys2Proof/Machine/Ports.lean ====
section
/-! DEFINITION. Port lanes, chiplet links, and the link state of logical ports with its flush (R364 to R369, R476, R477, R541 to R549,
R558 to R565). -/

namespace Sys2Proof.Machine

/-! ### Lanes (R541 to R546) -/

abbrev lnOFF : Nat := 0
abbrev lnWAIT : Nat := 1
abbrev lnCDR : Nat := 2
abbrev lnTRAIN : Nat := 3
abbrev lnADAPT : Nat := 4
abbrev lnREADY : Nat := 5
abbrev lnFAILED : Nat := 6

def Dev.lane (d : Dev) (l : Nat) : LaneSt := Tbl.get d.lanes {} l
def Dev.setLane (d : Dev) (l : Nat) (x : LaneSt) : Dev := { d with lanes := Tbl.set d.lanes {} l x }
def Dev.laneState (d : Dev) (l : Nat) : Nat := d.fld (LANE_STATUS l) LANE_STATUS_STATE

/-- ADMIN of a port. -/
def Dev.admin (d : Dev) (n : Nat) : Bool := d.fld (MAC_CTRL n) MAC_CTRL_ADMIN == 1

/-- Whether a lane is under test (R559). -/
def Dev.laneTest (d : Dev) (l : Nat) : Bool :=
  d.fld (LANE_CTRL l) LANE_CTRL_LOOPBACK != 0 || d.fld (LANE_PRBS_CTRL l) LANE_PRBS_CTRL_GEN_EN == 1 ||
    d.fld (LANE_PRBS_CTRL l) LANE_PRBS_CTRL_CHK_EN == 1

/-- Whether the lanes of the module run: it is in S0 and not on its way out of it but for a hand-off, and its core package is not in reset,
and no restart of the CD1 and CD5 dividers is awaited (R317). -/
def Dev.lanesRun (d : Dev) : Bool := d.fld PWR_STATUS PWR_STATUS_STATE == 0 && !d.pwr.coreOff && !d.pwr.oscFail &&
  !d.cd.syncPort && (d.pwr.target.isNone || d.pwr.handOff)

/-- The condition under which a lane leaves OFF (R541): owned by an ADMIN port, under test or lent to a calibration run, powered, and
PLL-P in lock. -/
def Dev.laneWanted (d : Dev) (l : Nat) : Bool :=
  (match d.laneOwner l with | some n => d.admin n | none => false) || d.laneTest l || d.cal.cages.contains (l / 8)

def Dev.laneMay (d : Dev) (l : Nat) : Bool := d.laneWanted l && d.lanesRun && !d.cd.pLost

abbrev tLane (l : Nat) : Nat := tmr 16 l

/-- RX_INV and TX_INV together (R543). -/
abbrev LANE_POLARITY : Fld := ⟨3, 2⟩

/-- The bits inverted under INJ_RATE since the last change, one in every 2^(n + 9) bits that the lane sends at its nominal rate (R361, R563;
assumption 85). -/
def Dev.injRun (d : Dev) (l : Nat) : Nat :=
  match (d.lane l).inj with
  | none => 0
  | some (t, n) =>
    let f := tbFrac (match d.laneOwner l with | some q => (d.speedOf q).getD 0 | none => 0)
    (d.tk.osc - t) * f.2.toNat / (f.1.toNat * ns1 * 2 ^ (n + 9))

/-- INJ_RATE in force on a lane: while GEN_EN is 1 and the lane transmits (R563). -/
def Dev.injFollow (d : Dev) (l : Nat) : Dev :=
  let n := d.fld (LANE_PRBS_CTRL l) LANE_PRBS_CTRL_INJ_RATE
  let want := if d.fld (LANE_PRBS_CTRL l) LANE_PRBS_CTRL_GEN_EN = 1 ∧ n ≠ 0 ∧ d.laneState l ≠ lnOFF then some n else none
  if (d.lane l).inj.map (fun x => x.2) = want then d
  else (d.bump (LANE_PRBS_INJ l) (d.injRun l)).setLane l { d.lane l with inj := want.map (fun m => (d.tk.osc, m)) }

/-- A lane in a state: its limit runs from entry (R541), and leaving READY sets LOSS_STICKY and ends an eye scan (R565);
its polarity is taken at entry to SIGNAL_WAIT (R543), and a checker relocks once clock recovery is lost (R562). -/
def Dev.setLaneState (d : Dev) (l s : Nat) : Dev :=
  let p := LANE_STATUS l
  let was := d.laneState l
  let d1 := (d.setFld p LANE_STATUS_STATE s).live p LANE_STATUS_LOSS (s != lnOFF && s != lnREADY)
  let d2 := if was = lnREADY ∧ s ≠ lnREADY then d1.stick p LANE_STATUS_LOSS else d1
  let d3 := if was = lnREADY ∧ s ≠ lnREADY ∧ (d.lane l).eye then
      ((d2.setFld (LANE_EYE_RESULT l) LANE_EYE_RESULT_DONE 1).setFld (LANE_EYE_RESULT l) LANE_EYE_RESULT_ABORTED 1).setLane l { d2.lane l with eye := false }
    else d2
  let lim := if s = lnCDR then 5 * ms1 else if s = lnTRAIN then 500 * ms1 else if s = lnADAPT then 50 * ms1 else 0
  let d4 := if lim = 0 then d3.stopT (tLane l) else d3.startT (tLane l) lim
  let d5 := if s = lnWAIT ∧ l < 512 then d4.setLane l { d4.lane l with polarity := d4.fld (LANE_CTRL l) LANE_POLARITY } else d4
  if 512 ≤ l then d5
  else (if s ≤ lnCDR then d5.setFld (LANE_PRBS_CTRL l) LANE_PRBS_CTRL_CHK_LOCK 0 else d5).injFollow l

/-- The stages of the equaliser (R544). -/
def eqLoop (l s : Nat) : LoopItems := ⟨LANE_EQ_BOUNDS l s, LANE_EQ_HELD l s, LANE_EQ_HELD_TIME l s, LANE_EQ_VALUE l s⟩

/-- Entry to ADAPT (R546): each stage starts from its last code, or from the mid-point of its bounds after power-up. -/
def Dev.enterAdapt (d : Dev) (l : Nat) : Dev :=
  let d1 := (List.range 6).foldl
    (fun (e : Dev) s => let q := eqLoop l s
                        let x := if (d.lane l).adapted then e.int q.value else (e.loopLo q + e.loopHi q).fdiv 2
                        e.putInt q.value (clampTo (e.loopLo q) (e.loopHi q) x)) d
  (d1.setLane l { d1.lane l with adapted := true, demands := [] }).setLaneState l lnADAPT

/-! ### Links (R364, R365) -/

def Dev.link (d : Dev) (n : Nat) : LinkSt := Tbl.get d.net.link {} n
def Dev.setLink (d : Dev) (n : Nat) (x : LinkSt) : Dev := { d with net := { d.net with link := Tbl.set d.net.link {} n x } }

abbrev tDebounce (n : Nat) : Nat := tmr 3 n
abbrev tHold (n : Nat) : Nat := tmr 7 n

/-- A port in a state, with the LIVE bits of R396. -/
def Dev.setLp (d : Dev) (n s : Nat) : Dev :=
  let p := MAC_STATUS n
  (((d.setFld p MAC_STATUS_STATE s).liveEdge p MAC_STATUS_UP (s == lkUP))).live p MAC_STATUS_DOWN (d.admin n && s != lkUP)

/-- A flush of a port begins (R476): where the link has failed the copy under commitment goes with it. -/
def Dev.startFlush (d : Dev) (n : Nat) (failed : Bool) : Dev :=
  let d1 := (d.setLink n { d.link n with flushing := true }).live RINK_STATUS RINK_STATUS_FLUSH true
  match (if failed then Tbl.get d1.net.tx none n else none) with
  | some x =>
    let d2 := { d1 with net := { d1.net with tx := Tbl.set d1.net.tx none n none } }
    if x.copy.kind = 4 then d2 else (d2.bump (Q_FLUSHED x.copy.q) 1).dropCopy x.copy drFLUSHED
  | none => d1

/-- A port leaves UP (R366, R396): the departure is counted, receiving ends, and its clock ports go FAULTY. -/
def Dev.leaveUp (d : Dev) (n s : Nat) (failed : Bool) : Dev :=
  let d1 := (((d.setLp n s).stick (MAC_STATUS n) MAC_STATUS_DOWN).bump (MAC_LINK_DOWNS n) 1).startFlush n failed
  (d1.ingressDown n).clockLink (0x100 + n)

/-- VAR_LIVE of a port (R142): its variable terms are not tracked (R117), or its link is down. -/
def Dev.varLive (d : Dev) (n : Nat) : Dev :=
  d.liveEdge (TSU_STATUS n) TSU_STATUS_VAR (!((d.link n).tracked && (d.link n).good))

/-- The MAC of a port sending remote fault while its reconciliation sublayer receives local fault (R365). -/
def Dev.sendRf (d : Dev) (n : Nat) (on : Bool) : Dev :=
  if (d.link n).sendRf = on then d
  else
    let d1 := d.setLink n { d.link n with sendRf := on }
    { d1 with out := .remoteFault n on :: d1.out }

/-- The link of a port down: its timers end with it. -/
def Dev.linkDown (d : Dev) (n : Nat) : Dev :=
  (((d.setLink n { d.link n with good := false, broken := false }).stopT (tDebounce n)).stopT (tHold n)).varLive n

/-- The link of a port fails (R364). -/
def Dev.linkFail (d : Dev) (n : Nat) : Dev :=
  let s := d.lpState n
  let d1 := d.linkDown n
  if s = lkUP then d1.leaveUp n lkDOWN true
  else if s = lkHOLD ∨ s = lkFLUSHING then d1.setLp n lkDOWN
  else d1

/-- A condition that breaks the link of a port begins (R365): it fails at once in FLUSHING, and in HOLD and UP after DOWN_DEBOUNCE. -/
def Dev.linkBreak (d : Dev) (n : Nat) : Dev :=
  let s := d.lpState n
  if !(d.link n).good then d
  else if s = lkHOLD ∨ s = lkUP then
    let t := d.fld (MAC_TIMERS n) MAC_TIMERS_DOWN_DEBOUNCE
    if t = 0 then d.linkFail n
    else if d.runsT (tDebounce n) then d
    else (((d.setLink n { d.link n with broken := true }).startT (tDebounce n) (t * ms1))).stopT (tHold n)
  else d.linkFail n

/-- LINK_BREAK. -/
def Dev.linkBreakBy (d : Dev) (n : Nat) (b : Break) : Dev :=
  let d1 := match b with
    | .lanes | .pcs => (d.setLink n { d.link n with tracked := false, pcs := false }).varLive n
    | .remoteFault => d.liveEdge (MAC_STATUS n) MAC_STATUS_RF true
    | .localFault => if lkDOWN ≤ d.lpState n then d.sendRf n true else d
  d1.linkBreak n

/-- Whether the chiplet link that carries a port has failed or is training (R548): its instance of class 0x13 is 0x300 + 16 × (port / 16). -/
def Dev.chipletOut (d : Dev) (n : Nat) : Bool := let s := d.laneState (0x300 + 16 * (n / 16)); s == lnFAILED || s == lnTRAIN

/-- Whether every lane of a used port has completed bring-up. -/
def Dev.lanesReady (d : Dev) (n : Nat) : Bool :=
  (d.speedOf n).isSome && (d.lanesOf n).all (fun k => d.laneState (8 * (n / 4) + k) == lnREADY) && !d.chipletOut n

/-- LINK_GOOD (R364, R365): the link of a port becomes good, or a break shorter than DOWN_DEBOUNCE ends. -/
def Dev.linkGood (d : Dev) (n : Nat) : Dev :=
  let s := d.lpState n
  if !d.lanesReady n ∨ s = lkUNUSED ∨ s = lkADMIN_DOWN then d
  else
    let l := d.link n
    let d1 := ((((d.setLink n { l with good := true, broken := false, pcs := true }).sendRf n false).live (MAC_STATUS n) MAC_STATUS_RF false).stopT
      (tDebounce n)).varLive n
    let hold := d.fld (MAC_TIMERS n) MAC_TIMERS_UP_HOLD * ms1
    if s = lkDOWN then (if l.flushing then d1.setLp n lkFLUSHING else (d1.setLp n lkHOLD).startT (tHold n) hold)
    else if s = lkHOLD ∧ l.broken then d1.startT (tHold n) hold
    else d1

/-- DOWN_DEBOUNCE_EXPIRY (R365). -/
def Dev.debounceEnd (d : Dev) (n : Nat) : Dev := if d.runsT (tDebounce n) then (d.dueT (tDebounce n)).linkFail n else d

/-- FLUSH_COMPLETE (R476 to R478): every copy in the port's queues is dropped with FLUSHED, and a port in FLUSHING goes to HOLD. -/
def Dev.flushComplete (d : Dev) (n : Nat) : Dev :=
  if !(d.link n).flushing then d
  else
    let d1 := (List.range 9).foldl
      (fun e q => (e.queue (qOf n q)).foldl (fun f _ => (f.bump (Q_FLUSHED (qOf n q)) 1).dropHead (qOf n q) drFLUSHED) e) d
    let d2 := d1.setLink n { d1.link n with flushing := false }
    let d3 := (d2.live RINK_STATUS RINK_STATUS_FLUSH (d2.net.link.any (fun l => l.2.flushing))).stick RINK_STATUS RINK_STATUS_FLUSH
    if d3.lpState n = lkFLUSHING then (d3.setLp n lkHOLD).startT (tHold n) (d3.fld (MAC_TIMERS n) MAC_TIMERS_UP_HOLD * ms1) else d3

/-- UP_HOLD_EXPIRY (R364). -/
def Dev.holdEnd (d : Dev) (n : Nat) : Dev :=
  if d.runsT (tHold n) ∧ d.lpState n = lkHOLD ∧ (d.link n).good ∧ !(d.link n).broken then
    ((d.dueT (tHold n)).setLp n lkUP).clockLink (0x100 + n)
  else d

/-- VAR_UNKNOWN_END (R117): the port's variable terms are tracked again. -/
def Dev.varEnd (d : Dev) (n : Nat) : Dev :=
  if d.lanesReady n then (d.setLink n { d.link n with tracked := true, pcs := true }).varLive n else d

/-! ### Lanes and the links that they carry -/

/-- A lane leaves its state for `s`; leaving READY breaks the link of the port that owns it. -/
def Dev.laneTo (d : Dev) (l s : Nat) : Dev :=
  let d1 := d.setLaneState l s
  if d.laneState l = lnREADY ∧ s ≠ lnREADY then
    (match d.laneOwner l with | some n => d1.linkBreakBy n .lanes | none => d1)
  else d1

/-- A lane following the condition of R541. -/
def Dev.refreshLane (d : Dev) (l : Nat) : Dev :=
  if d.laneMay l then (if d.laneState l = lnOFF then d.setLaneState l lnWAIT else d)
  else if d.laneState l = lnOFF then d else d.laneTo l lnOFF

/-- The Twin lane of a cage (R546): READY while its loop is locked, which follows power and PLL-P. -/
def Dev.refreshTwin (d : Dev) (c : Nat) : Dev :=
  let s := if d.lanesRun && !d.cd.pLost && d.pwr.started then lnREADY else lnOFF
  if d.laneState (0x200 + c) = s then d else d.setLaneState (0x200 + c) s

/-- Every lane of a cage, and of the module. -/
def Dev.refreshCage (d : Dev) (c : Nat) : Dev := (List.range 8).foldl (fun e k => e.refreshLane (8 * c + k)) d
def Dev.refreshLanes (d : Dev) : Dev := (List.range 64).foldl (fun e c => (e.refreshCage c).refreshTwin c) d

/-- A lane returning to SIGNAL_WAIT (R542). -/
def Dev.laneRestart (d : Dev) (l : Nat) : Dev :=
  if d.laneState l ≤ lnWAIT ∨ lnFAILED ≤ d.laneState l then d
  else ((d.laneTo l lnWAIT).bump (LANE_RESTARTS l) 1).pulse (LANE_STATUS l) LANE_STATUS_RESTART

/-- SIGNAL_DETECT, CDR_LOCK, LINK_TRAINING_DONE (R541): `ffe` is LANE_TX_FFE as the peer's requests have left it (R543). -/
def Dev.signalDetect (d : Dev) (l : Nat) : Dev := if d.laneState l = lnWAIT then d.setLaneState l lnCDR else d
def Dev.cdrLock (d : Dev) (l : Nat) : Dev :=
  if d.laneState l = lnCDR then
    (if d.fld (LANE_CTRL l) LANE_CTRL_TRAIN_EN = 1 then d.setLaneState l lnTRAIN else d.enterAdapt l)
  else d
def Dev.trainingDone (d : Dev) (l ffe : Nat) : Dev :=
  if d.laneState l = lnTRAIN then (d.putNum (LANE_TX_FFE l) ffe).enterAdapt l else d

/-- LANE_LIMIT_EXPIRY (R541, R542), SIGNAL_LOSS and LANE_RESTART (R542). -/
def Dev.laneLimit (d : Dev) (l : Nat) : Dev := if d.runsT (tLane l) then (d.dueT (tLane l)).laneRestart l else d

/-- LANE_EQ_UPDATE with the demand of each stage (R544, R545): at most one code at an update. -/
def Dev.eqUpdate (d : Dev) (l : Nat) (dem : List Int) : Dev :=
  if d.laneState l = lnADAPT ∨ d.laneState l = lnREADY then
    let d1 := (List.range 6).foldl (fun e s => e.loopUpdate (eqLoop l s) (dem.getD s 0) (some 1)) d
    d1.setLane l { d1.lane l with demands := (dem :: (d1.lane l).demands).take 64 }
  else d

/-- Whether no demand that is not held has moved by more than one code over 64 updates (R545). -/
def Dev.converged (d : Dev) (l : Nat) : Bool :=
  let h := (d.lane l).demands
  h.length == 64 && (List.range 6).all (fun s =>
    d.bit (LANE_EQ_HELD l s) HELD_HELD ||
      (let x : List Int := h.map (fun v => v.getD s 0)
       decide (x.foldl max (x.headD 0) - x.foldl min (x.headD 0) ≤ 1)))

/-- ADAPT_CONVERGED (R545). -/
def Dev.adaptDone (d : Dev) (l : Nat) : Dev := if d.laneState l = lnADAPT ∧ d.converged l then d.setLaneState l lnREADY else d

/-! ### Tests (R558 to R565) -/

/-- A test of a lane ends (R560): its bring-up starts again. -/
def Dev.endTest (d : Dev) (l : Nat) : Dev :=
  if d.laneTest l then
    let d1 := ((d.setFld (LANE_CTRL l) LANE_CTRL_LOOPBACK 0).setFld (LANE_PRBS_CTRL l) LANE_PRBS_CTRL_GEN_EN 0).setFld
      (LANE_PRBS_CTRL l) LANE_PRBS_CTRL_CHK_EN 0
    (((d1.setFld (LANE_PRBS_CTRL l) LANE_PRBS_CTRL_CHK_LOCK 0).injFollow l).laneRestart l).refreshLane l
  else d

/-- Whether the port that owns a lane has ADMIN at 1 (R559). -/
def Dev.laneBusy (d : Dev) (l : Nat) : Bool := match d.laneOwner l with | some n => d.admin n | none => false

/-! ### ADMIN and cage modes (R363, R364, R367, R368) -/

/-- ADMIN of a port following its bit (R364, R366, R367): set, the port goes to DOWN and its lanes start; cleared, it goes to ADMIN_DOWN. -/
def Dev.adminTake (d : Dev) (n : Nat) : Dev :=
  let s := d.lpState n
  if s = lkUNUSED then d.setLp n lkUNUSED
  else
    let lanes := (d.lanesOf n).map (fun k => 8 * (n / 4) + k)
    if d.admin n then
      (if s = lkADMIN_DOWN then
        (let d1 := (lanes.foldl (fun e l => e.endTest l) d).setLp n lkDOWN
         lanes.foldl (fun e l => e.refreshLane l) d1)
       else d)
    else if s = lkADMIN_DOWN then d
    else
      let d1 := (d.linkDown n).sendRf n false
      let d2 := if s = lkUP then d1.leaveUp n lkADMIN_DOWN false
        else if s = lkHOLD then (d1.setLp n lkADMIN_DOWN).startFlush n false else d1.setLp n lkADMIN_DOWN
      lanes.foldl (fun e l => e.refreshLane l) d2

/-- ADMIN set or cleared by command or action (R368). -/
def Dev.adminSet (d : Dev) (n : Nat) (v : Bool) : Dev := (d.setFld (MAC_CTRL n) MAC_CTRL_ADMIN v.toNat).adminTake n

/-- Whether every used port of a cage is in ADMIN_DOWN with its flush complete (R363). -/
def Dev.cageIdle (d : Dev) (c : Nat) : Bool :=
  (List.range 4).all (fun k => let s := d.lpState (4 * c + k); (s == lkUNUSED || s == lkADMIN_DOWN) && !(d.link (4 * c + k)).flushing)

/-- The status of a MAC_CAGE_CTRL write (R363, R394). -/
def Dev.cageStatus (d : Dev) (c v : Nat) : Nat :=
  if 5 ≤ bitsAt v 0 3 ∨ bitsAt v 4 2 = 3 ∨ bitsAt v 6 2 = 3 then stBAD_PARAM else if d.cageIdle c then stOK else stBUSY

/-- A MAC_CAGE_CTRL write taking effect (R360, R363, R364, R560). -/
def Dev.cageTake (d : Dev) (c v : Nat) : Dev :=
  let lanes := (List.range 8).map (fun k => 8 * c + k)
  let d1 := (lanes.foldl (fun e l => (e.endTest l).setLaneState l lnOFF) d).writeWord (MAC_CAGE_CTRL c) v
  let d2 := (List.range 4).foldl
    (fun e k => let n := 4 * c + k
                if (e.speedOf n).isNone then e.setLp n lkUNUSED
                else if e.lpState n = lkUNUSED then e.setLp n (if e.admin n then lkDOWN else lkADMIN_DOWN) else e) d1
  d2.refreshCage c

/-! ### Chiplet links (R547 to R549) -/

/-- The first bundle instance of a chiplet link: links are numbered 2c + h. -/
abbrev clBase (k : Nat) : Nat := 0x300 + 16 * k
abbrev tBundle (k : Nat) : Nat := tmr 19 k

/-- Every bundle of a link in a state. -/
def Dev.setBundles (d : Dev) (k s : Nat) : Dev := (List.range 16).foldl (fun e b => e.setLaneState (clBase k + b) s) d

abbrev tTrainCl (k : Nat) : Nat := tmr 39 k

/-- Training of a link's bundles begins, to be completed within 10 ms (R548). -/
def Dev.trainBundles (d : Dev) (k : Nat) : Dev := (d.setBundles k lnTRAIN).startT (tTrainCl k) (10 * ms1)

/-- A chiplet link failed: every bundle of it, and with it the links of its cages' ports (R548). -/
def Dev.linkFailed (d : Dev) (k : Nat) : Dev :=
  let d1 := ((d.setBundles k lnFAILED).startT (tBundle k) sec1).stopT (tTrainCl k)
  ((List.range 16).foldl (fun e i => e.linkBreakBy (16 * k + i) .lanes) d1).signal 0 67

/-- BUNDLE_FAIL of bundle instance 0x300 + `b` (R548): `crc` flits have failed their CRC within 1 ms, which fails the whole link where they are more
than 16; a bundle in training fails at the end of its 10 ms. -/
def Dev.bundleFail (d : Dev) (b crc : Nat) : Dev :=
  let k := b / 16
  let d1 := d.bump (LANE_CL_CRC_ERR b) crc
  let s := d.laneState (0x300 + b)
  if s = lnTRAIN then (d1.dueT (tTrainCl k)).linkFailed k
  else if s = lnREADY ∧ 16 < crc then d1.linkFailed k
  else d1

/-- BUNDLE_RETRAIN of a link (R548): every 1 s until it succeeds, counted on every bundle. -/
def Dev.bundleRetrain (d : Dev) (k : Nat) : Dev :=
  if d.runsT (tBundle k) then
    let d1 := ((d.dueT (tBundle k)).trainBundles k).startT (tBundle k) sec1
    ((List.range 16).foldl
      (fun e b => (e.bump (LANE_RESTARTS (clBase k + b)) 1).pulse (LANE_STATUS (clBase k + b)) LANE_STATUS_RESTART) d1).signal 0 67
  else d

/-- CHIPLET_LINK_TRAINED (R547): the corrections of its bundles are shown, and they become READY. -/
def Dev.linkTrained (d : Dev) (k : Nat) (maps : List Nat) : Dev :=
  if d.laneState (clBase k) = lnTRAIN then
    let d1 := ((d.setBundles k lnREADY).stopT (tBundle k)).stopT (tTrainCl k)
    (List.range 16).foldl (fun e b => e.putNum (LANE_CL_MAP (16 * k + b)) (maps.getD b 0 % 0x20000)) d1
  else d

/-- MARGIN_SCAN of a bundle (R549): margins in 1/64 UI and mV. -/
def Dev.marginScan (d : Dev) (b left right top bottom : Nat) : Dev :=
  (d.putNum (LANE_CL_MARGIN b) (left * 2 ^ 40 + right * 2 ^ 32 + top * 0x100 + bottom)).liveEdge (LANE_STATUS (0x300 + b)) LANE_STATUS_MARGIN
    (decide (left < 12 ∨ right < 12 ∨ top < 20 ∨ bottom < 20))

end Sys2Proof.Machine
end

