-- ==== Sys2Proof/Machine/Cal.lean ====
section
/-! DEFINITION. Calibration: records, delays in force, the Twin lanes and runs against a user reference (R329 to R359). -/

namespace Sys2Proof.Machine

/-! ### Records (R337 to R346) -/

/-- A copy of a record: 0 factory A, 1 factory B, 2 user A, 3 user B, as STORE_STATUS numbers them (R693). -/
def Dev.copyOf (d : Dev) (c : Nat) : CalCopy :=
  if c = 0 then d.cal.factA else if c = 1 then d.cal.factB else if c = 2 then d.cal.userA else d.cal.userB
def Dev.setCopy (d : Dev) (c : Nat) (x : CalCopy) : Dev :=
  let k := d.cal
  { d with cal := if c = 0 then { k with factA := x } else if c = 1 then { k with factB := x } else if c = 2 then { k with userA := x }
                  else { k with userB := x } }

/-- TYPE of the region of a copy (R337). -/
def copyType (c : Nat) : Nat := if c < 2 then ctFACTORY else ctUSER

/-- The record of a copy, where it is valid (R340). -/
def Dev.validCopy (d : Dev) (c : Nat) : Option CalRec := (d.copyOf c).ok? (copyType c)

/-- What a copy holds that is in use: copy `u` (0 none, 1 A, 2 B) of the pair that begins at `base`. -/
def Dev.usedRec (d : Dev) (base u : Nat) : Option CalRec :=
  if u = 0 then none else match d.copyOf (base + u - 1) with | .held r => some r | _ => none

/-- The factory record and the user record in use. -/
def Dev.factRec (d : Dev) : Option CalRec := d.usedRec 0 d.cal.factUsed
def Dev.userRec (d : Dev) : Option CalRec := d.usedRec 2 d.cal.userUsed

/-- A value of the factory record in use. -/
def Dev.factE (d : Dev) (item : Nat) : Int := match d.factRec with | some r => r.entry item | none => 0

/-- No valid factory record is in use. -/
def Dev.noFact (d : Dev) : Bool := d.bit CAL_STATUS CAL_STATUS_FACT

/-- Fixed terms are fall-back values: without a factory record, and until the records are loaded (R341, R346). -/
def Dev.fallBack (d : Dev) : Bool := d.noFact || !d.cal.loaded

/-- The value of a user entry; 0 where there is none, and until the records are loaded. Without a factory record only optic entries count (R346). -/
def Dev.userVal (d : Dev) (item : Nat) : Int :=
  if !d.cal.loaded ∨ (d.noFact ∧ item < 0x7000) then 0
  else match d.userRec with | some r => r.entry item | none => 0

/-- CAL_RECORDS and REPAIR_LIVE as the copies stand: the latter while a record in use is held in one valid copy only (R356, R357). -/
def Dev.showRecords (d : Dev) : Dev :=
  let ok (c : Nat) : Bool := (d.validCopy c).isSome
  let a := ok 0
  let b := ok 1
  let x := ok 2
  let y := ok 3
  let gen (r : Option CalRec) : Nat := match r with | some r => r.gen % 0x10000 | none => 0
  (d.putNum CAL_RECORDS
    (gen d.userRec * 2 ^ 32 + gen d.factRec * 2 ^ 16 + d.cal.userUsed * 2 ^ 10 + (x.toNat + y.toNat * 2) * 2 ^ 8 + d.cal.factUsed * 4 + a.toNat +
      b.toNat * 2)).live CAL_STATUS CAL_STATUS_REPAIR ((d.cal.factUsed != 0 && a != b) || (d.cal.userUsed != 0 && x != y))

/-- Writes made to a copy: 0 factory A, 1 factory B, 2 user A, 3 user B (R692). -/
def Dev.copyWrites (d : Dev) (c : Nat) : Nat := Tbl.get d.cal.writes 0 c

/-- One copy write counted, as the Keep commit that it is (R343, R692). -/
def Dev.countCopy (d : Dev) (c : Nat) : Dev :=
  ({ d with cal := { d.cal with writes := Tbl.set d.cal.writes 0 c (d.copyWrites c + 1) } }).bump TRUST_KEEP_COMMITS 1

/-- One copy repaired from the other (R341). -/
def Dev.repaired (d : Dev) (c : Nat) : Dev := ((d.countCopy c).bump CAL_REPAIRS 1).stick CAL_STATUS CAL_STATUS_REPAIR

/-- Whether fixed terms of a cage are fall-back values (R335, R341, R346). -/
def Dev.fallback (d : Dev) (g : Nat) : Bool := d.fallBack || Tbl.get d.cal.stale false g

/-- CALFB_LIVE of the ports of a cage (R142). -/
def Dev.calfb (d : Dev) (g : Nat) : Dev :=
  (List.range 4).foldl (fun e k => e.liveEdge (TSU_STATUS (4 * g + k)) TSU_STATUS_CALFB (d.fallback g)) d

/-- The delay of a lane in force (R330): `rx` for the receive side. The product is held to 2^-32 ns, the sum rounded to 2^-16 ns. It is a
fall-back value without a factory record, and until the records are loaded (R341, R346). -/
def Dev.laneDelay (d : Dev) (l : Nat) (rx : Bool) : Int :=
  if d.fallBack then nsU 7
  else
    let s := d.factE (0x4000 + l / 8)
    let share := if rx then s else 0x10000 - s
    let it := (if rx then 0x1000 else 0x2000) + l
    let fine := (share * Tbl.get d.cal.twin 0 (l / 8)).fdiv 0x10000
    roundDiv ((d.factE it + d.userVal it) * 0x10000 + fine) 0x10000

/-- The fixed terms of a cage put in force: a lane that a port does not own reads 0 (R139). -/
def Dev.forceCage (d : Dev) (g : Nat) : Dev :=
  (List.range 8).foldl
    (fun e k => (List.range 4).foldl
      (fun f j => let n := 4 * g + j
                  let own := (d.lanesOf n).contains k
                  (f.putInt (TSU_RX_FIXED n k) (if own then d.laneDelay (8 * g + k) true else 0)).putInt (TSU_TX_FIXED n k)
                    (if own then d.laneDelay (8 * g + k) false else 0)) e) (d.calfb g)

/-- The items of lanes that a port of cage `g` no longer owns read 0 from its change of mode on (R139). -/
def Dev.dropFixed (d : Dev) (g : Nat) : Dev :=
  (List.range 8).foldl
    (fun e k => (List.range 4).foldl
      (fun f j => let n := 4 * g + j
                  if (d.lanesOf n).contains k then f else (f.putInt (TSU_RX_FIXED n k) 0).putInt (TSU_TX_FIXED n k) 0) e) d

/-- The delay of an EMU input and of an output in force (R330, R346). -/
def Dev.inDelay (d : Dev) (c : Nat) : Int :=
  if d.fallBack then ([163840, 163840, 163840, 196608, 196608, 393216, 98304, 98304] : List Int).getD c 0
  else d.factE (0x5000 + c) + d.userVal (0x5000 + c)
def Dev.outDelay (d : Dev) (k : Nat) : Int :=
  if d.fallBack then (if k < 3 then 131072 else 98304) else d.factE (0x6000 + k) + d.userVal (0x6000 + k)

/-- Every delay put in force (R341 step 3), those of lanes where the core package is up. -/
def Dev.forceAll (d : Dev) : Dev :=
  let d1 := if d.blockUp bkCORE then (List.range 64).foldl (fun e g => e.forceCage g) d else d
  let d2 := (List.range 8).foldl (fun e c => e.putInt (EMU_IN_DELAY c) (d.inDelay c)) d1
  let d3 := (List.range 5).foldl (fun e k => e.putInt (CAL_OUT_DELAY k) (d.outDelay k)) d2
  (List.range 256).foldl (fun e n => (e.putInt (CAL_OPTIC_RX n) (d.userVal (0x7000 + n))).putInt (CAL_OPTIC_TX n) (d.userVal (0x8000 + n))) d3

abbrev tStale (g : Nat) : Nat := tmr 22 g

/-- One of two copies repaired from the other (R341): the copies `c` and `c + 1`, of which one is valid and the other has been written, or is the
factory's. -/
def Dev.repairPair (d : Dev) (c : Nat) : Dev :=
  match d.validCopy c, d.validCopy (c + 1) with
  | some r, none => (d.setCopy (c + 1) (.held r)).repaired (c + 1)
  | none, some r => (d.setCopy c (.held r)).repaired c
  | _, _ => d

/-- The copy in use of the pair that begins at `c` (R341). -/
def Dev.pickCopy (d : Dev) (c : Nat) : Nat := usedCopy ((d.validCopy c).map (·.gen)) ((d.validCopy (c + 1)).map (·.gen))

/-- Every Δa at 0, as it is held without a factory record (R346). -/
def Dev.noTwin (d : Dev) : Dev := (List.range 64).foldl (fun e g => e.putInt (CAL_TWIN_DELTA g) 0) { d with cal := { d.cal with twin := [] } }

/-- The groups that have not been measured since the Timing die powered up count from now (R335, assumption 46). -/
def Dev.staleStart (d : Dev) : Dev :=
  (List.range 64).foldl
    (fun e g => if (Tbl.get e.cal.lastOk none g).isSome then e
      else ({ e with cal := { e.cal with lastOk := Tbl.set e.cal.lastOk none g (some e.tk.osc) } }).startT (tStale g)
        (e.fld CAL_CTRL CAL_CTRL_TWIN_STALE * sec1)) d

/-- The records loaded at a start of Eodin (R341): copies are checked and repaired, and their values take effect at the next refill tick. -/
def Dev.calLoad (d : Dev) : Dev :=
  let f := d.pickCopy 0
  let u := d.pickCopy 2
  let wrote := d.cal.userA.written || d.cal.userB.written
  let d1 := ({ d with cal := { d.cal with factUsed := f, userUsed := u, loaded := true, apply := true } }.repairPair 0).repairPair 2
  let d2 := (d1.liveEdge CAL_STATUS CAL_STATUS_FACT (f == 0)).liveEdge CAL_STATUS CAL_STATUS_USER (wrote && u == 0)
  (if f = 0 then d2.noTwin else d2).staleStart.showRecords

/-- The records of a module whose Eodin is about to start from the boot ROM: until they are loaded every fixed term is a fall-back value, from the
next refill tick on (R341). Writes of a record that have not ended are lost. -/
def Dev.calUnload (d : Dev) : Dev := { d with cal := { d.cal with loaded := false, apply := true, queue := [] } }

/-! ### Writes of the user record (R343 to R345) -/

/-- Whether a user record may be written: neither copy has reached its limit with the writes that wait (R343, R692). -/
def Dev.userWear (d : Dev) : Bool :=
  decide (100000 ≤ d.copyWrites 2 + d.cal.queue.length ∨ 100000 ≤ d.copyWrites 3 + d.cal.queue.length)

/-- WEAR_LIVE judged (R692): `keep` says that some Keep item has used 90 % of its endurance. -/
def Dev.wearLive (d : Dev) (keep : Bool) : Dev :=
  d.liveEdge TRUST_STATUS TRUST_STATUS_WEAR (keep || d.bit TRUST_STATUS TRUST_STATUS_WEAR || [0, 1, 2, 3].any (fun c => decide (90000 ≤ d.copyWrites c)))

/-- A copy write begun (R343): until it ends the copy is cut. -/
def Dev.copyBegin (d : Dev) (c : Nat) : Dev := (((d.setCopy c .cut).countCopy c).showRecords).wearLive false

/-- The first write that waits begun, if it has not (R343): into the copy not in use, or into A. -/
def Dev.calNext (d : Dev) : Dev :=
  match d.cal.queue with
  | w :: l =>
    if w.stage ≠ 0 then d
    else
      let old := if w.merge then (match d.userRec with | some r => r.entries | none => []) else []
      let all := w.new.foldl (fun t e => Tbl.insert t e.1 e.2) old
      let gen := match d.userRec with | some r => (r.gen + 1) % 2 ^ 32 | none => 1
      let r := calRecord ctUSER gen (if d.setLive then twBytes (twTrunc d.tk.time) else List.replicate 12 0) all
      let c := if d.cal.userUsed = 1 then 3 else 2
      ({ d with cal := { d.cal with queue := { w with stage := 1, copy := c, what := some r } :: l } }).copyBegin c
  | [] => d

/-- A write of the user record asked for, to be begun when those before it have ended. -/
def Dev.calWrite (d : Dev) (w : CalWrite) : Dev := ({ d with cal := { d.cal with queue := d.cal.queue ++ [w] } }).calNext

/-! ### The Twin lanes (R332 to R336) -/

/-- STALE_LIVE of the module. -/
def Dev.staleLive (d : Dev) : Dev := d.live CAL_STATUS CAL_STATUS_STALE ((List.range 64).any (fun g => Tbl.get d.cal.stale false g))

/-- A group becomes stale, or no longer is. -/
def Dev.setStale (d : Dev) (g : Nat) (v : Bool) : Dev :=
  let d1 := ({ d with cal := { d.cal with stale := Tbl.set d.cal.stale false g v } }).liveEdge (CAL_TWIN_STATUS g) CAL_TWIN_STATUS_STALE v
  ((if v then d1.stick CAL_STATUS CAL_STATUS_STALE else d1).staleLive).calfb g

/-- Δa of a group moved toward a demand in 2^-16 ns (R333). -/
def Dev.twinMove (d : Dev) (g : Nat) (dem : Int) : Dev :=
  let cur := Tbl.get d.cal.twin 0 g
  let m : Int := d.fld CAL_CTRL CAL_CTRL_TWIN_STEP_MAX * 0x100000000 / 64000
  let t := dem * 0x10000
  let v := if cur + m < t then cur + m else if t < cur - m then cur - m else t
  ({ d with cal := { d.cal with twin := Tbl.set d.cal.twin 0 g v, apply := true } }).putInt (CAL_TWIN_DELTA g) (roundDiv v 0x10000)

/-- A measurement of a Twin lane at its next whole second (R332 to R335): τ in 2^-16 ns, the round trips that returned, their rms spread in
2^-16 ns, and whether a step fell within it. -/
def Dev.twinMeasure (d0 : Dev) (g tau back rms : Nat) (stepped : Bool) : Dev :=
  if d0.laneState (0x200 + g) ≠ lnREADY then d0
  else
    let at_ := d0.beatAt sec1 (Tbl.get d0.cal.beats {} g)
    let e := d0.advanceTo at_
    let d := { e with cal := { e.cal with beats := Tbl.set e.cal.beats {} g (e.beatOf at_) } }
    if back ≠ 256 ∨ 5 * 65536 < rms * 1000 ∨ stepped ∨ d.coarse then d.bump (CAL_TWIN_BAD g) 1
    else
      let d1 := (d.bump (CAL_TWIN_MEAS g) 1).putNum (CAL_TWIN_TAU g) tau
      if d1.fallBack then d1
      else
        let dem : Int := (tau : Int) - d1.factE (0x3000 + g)
        if 32768 < dem.natAbs then (d1.live (CAL_TWIN_STATUS g) CAL_TWIN_STATUS_RANGE true).stick (CAL_TWIN_STATUS g) CAL_TWIN_STATUS_RANGE
        else
          let d2 := ((d1.live (CAL_TWIN_STATUS g) CAL_TWIN_STATUS_RANGE false).setStale g false).startT (tStale g)
            (d1.fld CAL_CTRL CAL_CTRL_TWIN_STALE * sec1)
          let d3 := { d2 with cal := { d2.cal with lastOk := Tbl.set d2.cal.lastOk none g (some d2.tk.osc) } }
          if d3.fld CAL_CTRL CAL_CTRL_TWIN_EN = 0 then d3 else d3.twinMove g dem

/-- TWIN_STALE of CAL_CTRL changed (R335): a group is stale where its last valid measurement lies further back than that, and its deadline moves
(assumption 46). -/
def Dev.staleTake (d : Dev) : Dev :=
  let n := d.fld CAL_CTRL CAL_CTRL_TWIN_STALE * sec1
  (List.range 64).foldl
    (fun e g => match Tbl.get e.cal.lastOk none g with
      | none => e
      | some t =>
        let late := decide (t + n < e.tk.osc)
        let e1 := if late != Tbl.get e.cal.stale false g then e.setStale g late else e
        if late then e1.stopT (tStale g) else e1.startT (tStale g) (t + n - e1.tk.osc)) d

/-- TWIN_STALE (R335). -/
def Dev.twinStale (d : Dev) (g : Nat) : Dev := if d.runsT (tStale g) then (d.dueT (tStale g)).setStale g true else d

/-! ### Runs (R348 to R353) -/

/-- The cage of a LANE or OPTIC run. -/
def crCage (p : List Byte) : Nat := if crKind p = crLANE then crTarget p else crTarget p / 4

/-- Whether a run block's fields are in range (R348). -/
def crOk (p : List Byte) : Bool :=
  let k := crKind p
  let t := crTarget p
  let sched := crFlags p % 2 == 1
  decide (1 ≤ k ∧ k ≤ 5 ∧ 1 ≤ crId p ∧ crFlags p < 4) && (slice p 26 14).all (· == 0) &&
    (if k = crINPUT then t == 0 || t == 1 || t == 5 else if k = crOUTPUT then decide (t ≤ 1)
     else if k = crLANE then decide (t < 64) else decide (t < 256)) &&
    (if k = crENTER then crWindow p == 0 else if sched then crWindow p == 0 else decide (1 ≤ crWindow p ∧ crWindow p ≤ 60000)) &&
    (k == crINPUT || k == crENTER || crB p == 0) && (k == crOPTIC || crSplit p == 0)

/-- The checks of R349 before acceptance. -/
def Dev.calStatus (d : Dev) (p : List Byte) : Nat :=
  let k := crKind p
  if !crOk p then stBAD_PARAM
  else if d.noFact ∨ (k ≠ crENTER ∧ (!d.setLive ∨ d.bit EMU_GLB_STATUS EMU_GLB_STATUS_COARSE)) then stNOT_PERMITTED
  else if (k = crLANE ∨ k = crOPTIC) ∧ (List.range 4).any (fun j => d.admin (4 * crCage p + j)) then stNOT_PERMITTED
  else if d.cal.run.isSome then stBUSY
  else stOK

abbrev tCalLink : Nat := tmr 20 0
abbrev tCalWin : Nat := tmr 21 0

/-- The run replaced. -/
def Dev.setRun (d : Dev) (r : Option CalRun) : Dev := { d with cal := { d.cal with run := r } }

/-- A run ends: its outcome is shown, its cage given back, and its completion posted where there is one (R352, R353). -/
def Dev.endRun (d : Dev) (r : CalRun) (o : CalOut) (status : Option Nat) : Dev :=
  let d1 := ((d.setRun none).stopT tCalLink).stopT tCalWin
  let d2 := d1.putNum CAL_LAST_RUN (crId r.par * 2 ^ 32 + crKind r.par * 2 ^ 28 + o.result * 2 ^ 24 + min o.samples (2 ^ 24 - 1))
  let d3 := (List.range 8).foldl (fun e k => e.putInt (CAL_LAST_ERR k) (o.errs.getD k 0)) (d2.putNum CAL_LAST_RMS o.rms)
  let d4 := (({ d3 with cal := { d3.cal with cages := [] } }.live CAL_STATUS CAL_STATUS_RUN false).stick CAL_STATUS CAL_STATUS_RUN).showOwners
  let d5 := d.cal.cages.foldl (fun e c => e.refreshCage c) d4
  match status, r.owner with
  | some s, some (ring, tag) => d5.finish ring tag { status := s }
  | _, _ => d5

/-- The entries that a run gives from its mean errors (R351). -/
def Dev.calEntries (d : Dev) (p : List Byte) (es : List Int) : Tbl Int :=
  let k := crKind p
  let t := crTarget p
  let e := es.headD 0
  if k = crINPUT then [(0x5000 + t, d.userVal (0x5000 + t) + e)]
  else if k = crOUTPUT then [(0x6000 + t, d.userVal (0x6000 + t) + e)]
  else if k = crLANE then
    let s := d.factE (0x4000 + t)
    let f (base : Nat) (share : Int) : Tbl Int :=
      (List.range 8).map (fun j => (base + 8 * t + j, d.userVal (base + 8 * t + j) + roundDiv (share * es.getD j 0) 0x10000))
    f 0x1000 s ++ f 0x2000 (0x10000 - s)
  else if k = crOPTIC then
    let rx := roundDiv ((crSplit p : Int) * e) 0x10000
    [(0x7000 + t, rx), (0x8000 + t, e - rx)]
  else [(0x7000 + t, crA p), (0x8000 + t, crB p)]

/-- The samples of a LANE or OPTIC run on one lane, each S less E in 2^-16 ns and whether it is discarded for a flag or a step (R351). -/
def laneSum (p : List Byte) (l : List (Int × Bool)) : CalSum := l.foldl (fun x m => if m.2 then x else x.add (m.1 - crA p)) {}

/-- What a run has kept when its window closes: for INPUT and OUTPUT the samples of its stamps, for LANE those of each of the eight lanes, for OPTIC
those of its frames. -/
def CalRun.sums (r : CalRun) (raw : List (List (Int × Bool))) : List CalSum :=
  if crKind r.par = crLANE then (List.range 8).map (fun j => laneSum r.par (raw.getD j []))
  else if crKind r.par = crOPTIC then [laneSum r.par (raw.headD [])]
  else if crKind r.par = crENTER then []
  else [r.sum]

/-- A run at the close of its window, or at once for ENTER (R353): its result, and the user record that an accepted one writes. -/
def Dev.closeRun (d : Dev) (r : CalRun) (raw : List (List (Int × Bool))) : Dev :=
  let p := r.par
  let k := crKind p
  let ms := r.sums raw
  let es := ms.map (·.mean)
  let kept := (ms.map (·.n)).foldl min ((ms.map (·.n)).headD 0)
  let lim := if k = crINPUT ∨ k = crOUTPUT then 20 else 10
  let new := d.calEntries p es
  let range := new.all (fun e => match userRange e.1 with | some x => decide (x.1 ≤ e.2 ∧ e.2 ≤ x.2) | none => false) &&
    !(k == crLANE && es.any (fun e => decide (32768 < e.natAbs)))
  let o (res : Nat) : CalOut := { result := res, samples := kept, errs := es, rms := (ms.map (·.rms)).foldl max 0 }
  if k ≠ crENTER ∧ kept < 16 then d.endRun r (o 1) (some stDEGRADED)
  else if ms.any (·.above lim) then d.endRun r (o 2) (some stDEGRADED)
  else if !range then d.endRun r (o 3) (some stDEGRADED)
  else if 2 ≤ crFlags p then d.endRun r (o 6) (some stOK)
  else if d.userWear then (d.bump TRUST_KEEP_REFUSED 1).endRun r (o 0) (some stWEAR_LIMIT)
  else ((d.setRun (some { r with phase := 3 })).showOwners.stopT tCalWin).calWrite
    { new := new, merge := !d.bit CAL_STATUS CAL_STATUS_USER, out := some (o 0), owner := r.owner }

/-- The command that waits for a write of the user record completes: during a management gap once Eodin runs again (R353, R635). -/
def Dev.calAnswer (d : Dev) (w : CalWrite) : Dev :=
  match w.owner with
  | some (r, tag) =>
    if d.bit GLB_STATE GLB_STATE_GAP then d.setCmd r tag (fun x => { x with doneInHw := true }) else d.finish r tag { status := stOK }
  | none => d

/-- A refill tick in the calibration unit (R116, R343): delays that wait take effect, and the run whose record has been checked ends. -/
def Dev.calTick (d : Dev) : Dev :=
  let d1 := if d.cal.apply then ({ d with cal := { d.cal with apply := false } }).forceAll else d
  match d1.cal.queue with
  | w :: l =>
    if w.stage < 2 then d1
    else
      let d2 := match w.out, d1.cal.run with | some o, some r => d1.endRun r o none | _, _ => d1
      if w.stage = 2 then { d2 with cal := { d2.cal with queue := { w with out := none } :: l } }
      else (({ d2 with cal := { d2.cal with queue := l } }).calAnswer w).calNext
  | [] => d1

/-- The end of a write of copy `c` (R343): of the first copy, read back and checked, whose values take effect at the next refill tick, and then the
other copy is written; of the second, with which the write is done. -/
def Dev.copyDone (d : Dev) (c : Nat) : Dev :=
  match d.cal.queue with
  | w :: l =>
    match (if w.copy = c ∧ (w.stage = 1 ∨ w.stage = 2) then w.what else none) with
    | none => d
    | some r =>
      let d1 := d.setCopy c (.held r)
      if w.stage = 1 then
        (({ d1 with cal := { d1.cal with userUsed := c - 1, apply := true, queue := { w with stage := 2, copy := 5 - c } :: l } }).live CAL_STATUS
          CAL_STATUS_USER false).copyBegin (5 - c)
      else if w.out.isSome then ({ d1 with cal := { d1.cal with queue := { w with stage := 3 } :: l } }).showRecords
      else ((({ d1 with cal := { d1.cal with queue := l } }).showRecords).calAnswer w).calNext
  | [] => d

/-- The record write of an aborted run given up: the copy in which its first write was under way stays cut (R343, R352). -/
def Dev.writeDrop (d : Dev) : Dev :=
  let keep (w : CalWrite) : Option CalWrite :=
    if w.out.isNone then some w else if w.stage < 2 then none else some { w with out := none, owner := none }
  ({ d with cal := { d.cal with queue := d.cal.queue.filterMap keep } }).calNext

/-- The write of a copy that is under way ends, and none after it begins (R690, R721). -/
def Dev.writeEnd (d : Dev) : Dev :=
  let d1 := { d with cal := { d.cal with queue := [] } }
  match d.cal.queue with
  | w :: _ => (match (if w.stage = 1 ∨ w.stage = 2 then w.what else none) with | some r => (d1.setCopy w.copy (.held r)).showRecords | none => d1)
  | [] => d

/-- A run's window opens for `ms` (R350). -/
def Dev.openWindow (d : Dev) (r : CalRun) (ms : Nat) : Dev :=
  ((d.setRun (some { r with phase := 2, cals := [], tgts := [], sum := {} })).startT tCalWin (ms * ms1)).showOwners

/-- A window that is to open now: an OPTIC run first brings its loop link up (R351). -/
def Dev.beginWindow (d : Dev) (r : CalRun) (ms : Nat) : Dev :=
  if crKind r.par = crOPTIC then
    (d.setRun (some { r with phase := 1, par := patch r.par 6 (leBytes 2 ms) })).startT tCalLink (2 * sec1)
  else d.openWindow r ms

/-- CAL_RUN checked and accepted (R349, R350, R560): no answer yet once it is accepted. -/
def Dev.calRun (d : Dev) (p : List Byte) (owner : Option (Nat × Nat)) : Dev × Option Ans :=
  let st := d.calStatus p
  if st ≠ stOK then (d, some { status := st })
  else
    let r : CalRun := { par := p, owner := owner, phase := 0 }
    let k := crKind p
    let d1 := (d.setRun (some r)).live CAL_STATUS CAL_STATUS_RUN true
    if k = crENTER then (d1.closeRun r [], none)
    else
      let d2 := if k = crLANE ∨ k = crOPTIC then
          (let c := crCage p
           let e := (List.range 8).foldl (fun e j => e.endTest (8 * c + j)) { d1 with cal := { d1.cal with cages := [c] } }
           e.refreshCage c)
        else d1
      (if crFlags p % 2 = 1 then d2 else d2.beginWindow r (crWindow p), none)

/-- Whether a run waits for a CAL_WINDOW of this run ID (R350). -/
def Dev.runWaits (d : Dev) (id : Nat) : Bool :=
  match d.cal.run with
  | some r => r.phase == 0 && crId r.par == id && crFlags r.par % 2 == 1
  | none => false

/-- A CAL_WINDOW action taking effect (R350): none where its run has ended. -/
def Dev.calWindow (d : Dev) (args : List Byte) : Dev :=
  match d.cal.run with
  | some r => if d.runWaits (leNat (slice args 0 2)) then d.beginWindow r (leNat (slice args 2 2)) else d
  | none => d

/-- CAL_WINDOW_OPEN (R351): the loop of an OPTIC run gives stamps without a flag. -/
def Dev.calOpen (d : Dev) : Dev :=
  match d.cal.run with
  | some r =>
    let n := crTarget r.par
    if r.phase = 1 ∧ d.lanesReady n ∧ d.flagBits n = 0 then (d.stopT tCalLink).openWindow r (crWindow r.par) else d
  | none => d

/-- CAL_LINK_TIMEOUT (R351). -/
def Dev.calLink (d : Dev) : Dev :=
  match d.cal.run with
  | some r => if r.phase = 1 ∧ d.runsT tCalLink then (d.dueT tCalLink).endRun r { result := 5 } (some stDEGRADED) else d
  | none => d

/-- CAL_WINDOW_CLOSE (R353). -/
def Dev.calClose (d : Dev) (raw : List (List (Int × Bool))) : Dev :=
  match d.cal.run with
  | some r => if r.phase = 2 ∧ d.runsT tCalWin then (d.dueT tCalWin).closeRun r raw else d
  | none => d

/-- The run aborted (R352): the completion's status, or none where none is posted. -/
def Dev.calAbort (d : Dev) (status : Option Nat) : Dev :=
  match d.cal.run with
  | some r => (d.endRun r { result := 4 } status).writeDrop
  | none => d

/-- A port set administratively up ends a LANE or OPTIC run of its cage (R352). -/
def Dev.calPortUp (d : Dev) (n : Nat) : Dev :=
  match d.cal.run with
  | some r => if (crKind r.par = crLANE ∨ crKind r.par = crOPTIC) ∧ crCage r.par = n / 4 ∧ d.admin n then d.calAbort (some stDEGRADED) else d
  | none => d

/-- ADMIN of a port set or cleared by a command or an action (R368). -/
def Dev.portAdmin (d : Dev) (n : Nat) (v : Bool) : Dev := (d.adminSet n v).calPortUp n

/-- USER_CLEAR (R344, R345, R355): the status, and the module; while USER_LIVE is 1 only an accepted run writes a record. -/
def Dev.userClear (d : Dev) : Dev × Nat :=
  if d.cal.run.isSome then (d, stBUSY)
  else if d.bit CAL_STATUS CAL_STATUS_USER then (d, stOK)
  else if d.userWear then (d.bump TRUST_KEEP_REFUSED 1, stWEAR_LIMIT)
  else (d.calWrite { new := [], merge := false }, stOK)

/-- A write of CAL_CTRL taking effect (R335, R344, R355). -/
def Dev.calCtrlTake (d : Dev) (v : Nat) : Dev :=
  let d1 := d.writeWord CAL_CTRL v
  let d2 := if d1.fld CAL_CTRL CAL_CTRL_TWIN_STALE = d.fld CAL_CTRL CAL_CTRL_TWIN_STALE then d1 else d1.staleTake
  if bitsAt v 32 1 = 1 then d2.userClear.1 else d2

end Sys2Proof.Machine
end

