-- ==== Sys2Proof/Machine/Trunk.lean ====
section
/-! DEFINITION. Tests of lanes and trunks, and the timing trunk: training, markers and message frames (R550 to R577). -/

namespace Sys2Proof.Machine

/-! ### Tests and eye scans (R558 to R565, R569 to R572) -/

/-- Whether a lane carries PAM4: lanes of the 10G and 25G ports carry NRZ (R361); one that no port owns is taken as PAM4. -/
def Dev.lanePam4 (d : Dev) (l : Nat) : Bool :=
  match d.laneOwner l with | some n => decide ((d.speedOf n).getD 0 ≤ 3) | none => true

/-- Whether a pattern exists on a port lane, or on a trunk (R561). -/
def patOk (trunk pam4 : Bool) (p : Nat) : Bool :=
  if trunk then p == 0 || p == 5 || p == 7 else decide (p ≤ 5) || p == 7 || (p == 6 && pam4)

/-- The status of a write of LANE_PRBS_CTRL or TRK_PRBS_CTRL (R559, R561, R563). -/
def prbsStatus (trunk pam4 busy : Bool) (v : Nat) : Nat :=
  if !patOk trunk pam4 (bitsAt v 8 4) || !patOk trunk pam4 (bitsAt v 12 4) then stBAD_PARAM
  else if v % 2 = 0 ∧ (bitsAt v 19 1 = 1 ∨ bitsAt v 20 4 ≠ 0) then stBAD_PARAM
  else if v % 4 ≠ 0 ∧ busy then stBUSY
  else stOK

/-- The status of a write of LANE_EYE_CTRL or TRK_EYE_CTRL (R564, R571). -/
def eyeStatus (pam4 : Bool) (v : Nat) : Nat :=
  let dw := bitsAt v 24 6
  if (signedOf 8 (bitsAt v 16 8)).natAbs ≤ 63 ∧ (signedOf 8 (bitsAt v 8 8)).natAbs ≤ 32 ∧ 20 ≤ dw ∧ dw ≤ 40 ∧
      (if pam4 then bitsAt v 1 2 ≠ 3 else bitsAt v 1 2 = 1) then stOK else stBAD_PARAM

/-- The status of a write of LANE_TX_FFE (R569). -/
def ffeStatus (v : Nat) : Nat :=
  let m (lo : Nat) : Nat := (signedOf 8 (bitsAt v lo 8)).natAbs
  if 64 < m 24 + m 16 + m 8 + m 0 ∨ signedOf 8 (bitsAt v 8 8) < 16 then stBAD_PARAM else stOK

/-- A write of a lane's test controls taking effect: a lane that comes under test starts its bring-up, and one that leaves it restarts
(R559, R560); RESTART restarts it (R542). -/
def Dev.laneCtrlTake (d : Dev) (l p v : Nat) : Dev :=
  let was := d.laneTest l
  let d1 := d.writeWord p v
  let now := d1.laneTest l
  let d2 := if d1.fld (LANE_PRBS_CTRL l) LANE_PRBS_CTRL_CHK_EN = 0 then d1.setFld (LANE_PRBS_CTRL l) LANE_PRBS_CTRL_CHK_LOCK 0 else d1
  let d3 := if was && !now then d2.laneRestart l else d2
  let d4 := d3.refreshLane l
  if p = LANE_CTRL l ∧ v % 2 = 1 then d4.laneRestart l else d4

def Dev.laneCtrlStatus (d : Dev) (l v : Nat) : Nat := if bitsAt v 6 2 ≠ 0 ∧ d.laneBusy l then stBUSY else stOK

/-- One bit inverted (R563): counted on a lane. -/
def Dev.injOne (d : Dev) (l : Nat) : Dev := d.bump (LANE_PRBS_INJ l) 1

/-- A write of LANE_PRBS_CTRL taking effect. -/
def Dev.lanePrbsTake (d : Dev) (l v : Nat) : Dev :=
  let d1 := (d.laneCtrlTake l (LANE_PRBS_CTRL l) v).injFollow l
  if bitsAt v 19 1 = 1 then d1.injOne l else d1

/-- A write of LANE_EYE_CTRL taking effect: START clears the result and starts a scan, again where one runs (R564, R565), and also on a lane that is
not READY (assumption 85). -/
def Dev.laneEyeTake (d : Dev) (l v : Nat) : Dev :=
  let d1 := d.writeWord (LANE_EYE_CTRL l) v
  if v % 2 = 1 then (d1.putNum (LANE_EYE_RESULT l) 0).setLane l { d1.lane l with eye := true } else d1

/-- EYE_SCAN_DONE of a lane with the disagreements counted. -/
def Dev.laneEyeDone (d : Dev) (l errors : Nat) : Dev :=
  if (d.lane l).eye then
    (d.putNum (LANE_EYE_RESULT l) (2 ^ 47 + min errors (2 ^ 40 - 1))).setLane l { d.lane l with eye := false }
  else d

/-- PRBS_CHECKER_LOCK of a lane whose clock recovery has locked (R562). -/
def Dev.laneChkLock (d : Dev) (l : Nat) : Dev :=
  if d.fld (LANE_PRBS_CTRL l) LANE_PRBS_CTRL_CHK_EN = 1 ∧ lnTRAIN ≤ d.laneState l ∧ d.laneState l ≤ lnREADY then
    d.setFld (LANE_PRBS_CTRL l) LANE_PRBS_CTRL_CHK_LOCK 1
  else d

/-- PRBS_LOCK_LOSS of a lane (R562): the bits compared since the lock or the last report, and the mismatches among them, are counted; more than
64 mismatches end the lock, and the checker relocks (assumption 85). -/
def Dev.laneChkLoss (d : Dev) (l bits errors : Nat) : Dev :=
  if d.fld (LANE_PRBS_CTRL l) LANE_PRBS_CTRL_CHK_LOCK = 1 then
    let d1 := (d.bump (LANE_PRBS_BITS l) bits).bump (LANE_PRBS_ERR l) errors
    if 64 < errors then (d1.bump (LANE_PRBS_RELOCK l) 1).setFld (LANE_PRBS_CTRL l) LANE_PRBS_CTRL_CHK_LOCK 0 else d1
  else d

/-! ### Trunk state (R552, R575, R576) -/

abbrev tsDOWN : Nat := 0
abbrev tsCLOCK : Nat := 1
abbrev tsTRAIN : Nat := 2
abbrev tsUP : Nat := 3

def Dev.trkState (d : Dev) (t : Nat) : Nat := d.fld (TRK_STATUS t) TRK_STATUS_STATE
def Dev.trkOn (d : Dev) (t : Nat) : Bool := d.fld (TRK_CTRL t) TRK_CTRL_ENABLE == 1

/-- Whether a trunk is under test (R559). -/
def Dev.trkTest (d : Dev) (t : Nat) : Bool :=
  d.fld (TRK_CTRL t) TRK_CTRL_LOOPBACK != 0 || d.fld (TRK_PRBS_CTRL t) TRK_PRBS_CTRL_GEN_EN == 1 || d.fld (TRK_PRBS_CTRL t) TRK_PRBS_CTRL_CHK_EN == 1

abbrev tAlign (t : Nat) : Nat := tmr 17 t
abbrev tTrain (t : Nat) : Nat := tmr 18 t

/-- DOWN_LIVE following ENABLE and STATE (R576). -/
def Dev.trkLive (d : Dev) (t : Nat) : Dev := d.live (TRK_STATUS t) TRK_STATUS_DOWN (d.trkOn t && d.trkState t != tsUP)

/-- An eye scan of a trunk ends ABORTED (R565). -/
def Dev.trkEyeAbort (d : Dev) (t : Nat) : Dev :=
  if (d.trk t).eye then (d.putNum (TRK_EYE_RESULT t) (2 ^ 47 + 2 ^ 46)).setTrk t { d.trk t with eye := false } else d

/-- A trunk in a state: the limits of CLOCK and TRAIN run from entry, training starts over, on entry to UP 32 more training sets of 16 ns are sent
before the symbol stream, and leaving UP discards what is in flight (R552, R553, R557, R565, R576). -/
def Dev.setTrkState (d : Dev) (t s : Nat) : Dev :=
  let was := d.trkState t
  let d1 := (d.setFld (TRK_STATUS t) TRK_STATUS_STATE s).trkLive t
  let d2 := if was = tsUP ∧ s ≠ tsUP then
      (let e := (d1.stick (TRK_STATUS t) TRK_STATUS_DOWN).trkEyeAbort t
       if (e.trkTime t).mark.isSome then
         ((e.bump (TRK_TW_BAD t) 1).pulse (TRK_STATUS t) TRK_STATUS_ERR).setTrkTime t { e.trkTime t with mark := none }
       else e)
    else d1
  let start := d.tk.osc + 512 * ns1
  let d3 := if s = tsUP then d2.setTrk t { d2.trk t with from_ := start, free := start }
    else d2.setTrk t { d2.trk t with decided := false, known := false, valid := 0, acks := 0, msgs := [] }
  let d4 := (d3.stopT (tAlign t)).stopT (tTrain t)
  let d5 := if s = tsCLOCK then d4.startT (tAlign t) (50 * us1)
    else if s = tsTRAIN then (d4.bump (TRK_TRAINS t) 1).startT (tTrain t) (10 * ms1) else d4
  (d5.clockLink (0x300 + t)).refreshCand (4 + t)

/-- A trunk following the conditions of R552: DOWN while ENABLE is 0, its clock is not qualified or PLL-P is out of lock, whose checkers then
relock; out of DOWN once none of them holds. -/
def Dev.trkFollow (d : Dev) (t : Nat) : Dev :=
  if d.trkOn t && (d.trk t).qual && !d.cd.pLost then (if d.trkState t = tsDOWN then d.setTrkState t tsCLOCK else d)
  else if d.trkState t = tsDOWN then d
  else d.setTrkState t tsDOWN

/-- TRUNK_CLOCK_QUALIFIED: the forwarded clock has run for 10 µs within its band (R552). -/
def Dev.trkClock (d : Dev) (t : Nat) : Dev := (d.setTrk t { d.trk t with qual := true }).trkFollow t

/-- TRUNK_CLOCK_LOST (R552). -/
def Dev.trkClockLost (d : Dev) (t : Nat) : Dev := (d.setTrk t { d.trk t with qual := false }).trkFollow t

/-- PLL-P leaving or regaining lock (R319, R552): every trunk follows, and the checkers of a trunk under test relock. -/
def Dev.trksFollow (d : Dev) : Dev :=
  ([0, 1].foldl (fun (e : Dev) t => if d.cd.pLost then (e.setTrk t { e.trk t with locks := 0 }).setFld (TRK_PRBS_CTRL t) TRK_PRBS_CTRL_CHK_LOCK 0
    else e) d |>.trkFollow 0).trkFollow 1

/-- TRUNK_ALIGNMENT_DONE (R552). -/
def Dev.trkAligned (d : Dev) (t : Nat) : Dev := if d.trkState t = tsCLOCK then d.setTrkState t tsTRAIN else d

/-- TRUNK_ALIGNMENT_TIMEOUT (R552): the training restarts. -/
def Dev.trkAlignTimeout (d : Dev) (t : Nat) : Dev :=
  if d.runsT (tAlign t) then ((d.dueT (tAlign t)).bump (TRK_TRAINS t) 1).setTrkState t tsCLOCK else d

/-- TRUNK_TRAIN_TIMEOUT (R552, R553): the training restarts, and is counted. -/
def Dev.trkTrainTimeout (d : Dev) (t : Nat) : Dev := if d.runsT (tTrain t) then (d.dueT (tTrain t)).setTrkState t tsTRAIN else d

def TrainSet.sym (s : TrainSet) (k i : Nat) : Nat := bitsAt s.syms.toNat (24 * k + 8 * (i - 1)) 8
/-- Whether every pair's symbol 1 is D10.2 or its inverse. -/
def TrainSet.whole (s : TrainSet) : Bool := (List.range 4).all (fun k => s.sym k 1 == 0x4A || s.sym k 1 == 0xB5)
def TrainSet.inv (s : TrainSet) : Nat := (List.range 4).foldl (fun a k => a + (if s.sym k 1 = 0xB5 then 2 ^ k else 0)) 0
def TrainSet.lanes (s : TrainSet) : List Nat := (List.range 4).map (fun k => s.sym k 2)
def TrainSet.normal (s : TrainSet) : Bool := s.lanes == [0xA0, 0xA1, 0xA2, 0xA3]
def TrainSet.reversed (s : TrainSet) : Bool := s.lanes == [0xA3, 0xA2, 0xA1, 0xA0]

/-- The lane map decided on the first complete training set (R553). -/
def Dev.decideMap (d : Dev) (t : Nat) (s : TrainSet) : Dev :=
  let ok := s.aligned && (s.normal || s.reversed)
  let d1 := d.setTrk t { d.trk t with decided := true, known := ok }
  if ok then (d1.putNum (TRK_MAP t) (s.reversed.toNat * 0x100 + s.inv)).live (TRK_STATUS t) TRK_STATUS_MAP false
  else (d1.live (TRK_STATUS t) TRK_STATUS_MAP true).stick (TRK_STATUS t) TRK_STATUS_MAP

/-- Whether a set is valid after the corrections decided. -/
def Dev.setValid (d : Dev) (t : Nat) (s : TrainSet) : Bool :=
  let rev := d.fld (TRK_MAP t) TRK_MAP_REVERSED == 1
  s.aligned && s.whole && s.inv == d.fld (TRK_MAP t) TRK_MAP_INVERTED && (if rev then s.reversed else s.normal) &&
    (List.range 4).all (fun k => s.sym k 3 == 0 || s.sym k 3 == 0x5A)

/-- TRAINING_SET_RX (R553, R557). -/
def Dev.trainingSet (d : Dev) (t : Nat) (s : TrainSet) : Dev :=
  if d.trkState t = tsUP then d.setTrkState t tsTRAIN
  else if d.trkState t ≠ tsTRAIN then d
  else
    let d1 := if (d.trk t).decided ∨ !s.whole then d else d.decideMap t s
    let x := d1.trk t
    let ok := x.decided && x.known && d1.setValid t s
    let ack := ok && (List.range 4).all (fun k => s.sym k 3 == 0x5A)
    let y := { x with valid := if ok then min 64 (x.valid + 1) else if x.valid < 64 then 0 else 64,
                      acks := if ack then x.acks + 1 else 0 }
    let d2 := d1.setTrk t y
    if y.valid = 64 ∧ 16 ≤ y.acks then d2.setTrkState t tsUP else d2

/-- TRUNK_RESTART and the RESTART bit (R575): back to CLOCK, counted as a restart. -/
def Dev.trkRestart (d : Dev) (t : Nat) : Dev :=
  if d.trkState t = tsDOWN then d else (d.bump (TRK_TRAINS t) 1).setTrkState t tsCLOCK

/-- CODE_ERROR_BURST: `n` code errors within 1 ms (R557). -/
def Dev.codeErrors (d : Dev) (t n : Nat) : Dev :=
  if n = 0 then d
  else
    let d1 := (d.bump (TRK_CODE_ERR t) n).pulse (TRK_STATUS t) TRK_STATUS_ERR
    if d1.trkState t = tsUP ∧ 64 < n then d1.setTrkState t tsTRAIN else d1

/-! ### Markers and message frames (R182, R249, R554, R555) -/

/-- TRUNK_MARKER_RX (R182, R249, R554): the clock edge that starts the marker's slot, in raw bin `b` of the present CD2 cycle, is stamped on
CH6 or CH7, and `cyc` clock cycles have passed since the previous marker's edge. -/
def Dev.trunkMarker (d : Dev) (t b cyc : Nat) : Dev :=
  if d.trkState t ≠ tsUP then d
  else
    let s := d.stampAt (6 + t) b
    let d1 := d.emuEdge (6 + t) b true
    let d2 := d1.markerRx t (s.2.toNat * 0x100000000) s.1.coarse
    let c := d2.cand (4 + t)
    let m := some ((match c.m1 with | some a => a.1 + cyc | none => 0), s.1.osc)
    (d2.setCand (4 + t) { c with m1 := m, m0 := (match c.m0 with | some a => some a | none => m) }).refreshCand (4 + t)

/-- MESSAGE_FRAME_RX (R555): a frame taken whole, from TYPE to CHECK. A good one is counted and goes to the unit that its TYPE names. -/
def Dev.messageFrame (d : Dev) (t : Nat) (l : List Byte) : Dev :=
  if d.trkState t ≠ tsUP then d
  else
    let typ := byteAt l 0
    let len := leNat (slice l 2 2)
    let whole := 4 + (len + 3) / 4 * 4 + 4
    let ok := l.length == whole && decide (1 ≤ len ∧ len ≤ 2048) && crc32c (l.take (whole - 4)) == leNat (slice l (whole - 4) 4) &&
      (if typ = 1 then len == 34 else if typ = 2 then len == 4 else typ == 0x10)
    if !ok then d.bump (TRK_MSG_BAD t) 1
    else
      let kind := if typ = 1 then 5 else if typ = 2 then 6 else 3
      let d1 := d.bump (TRK_MSG_RX t) 1
      { d1 with net := { d1.net with inbox := d1.net.inbox ++ [{ kind := kind, lp := 256 + t, bytes := slice l 4 len }] } }

/-- The first message of a kind that came on a trunk, taken. -/
def Dev.takeTrk (d : Dev) (kind t : Nat) : Dev × Option (List Byte) :=
  match d.net.inbox.find? (fun x => x.kind == kind && x.lp == 256 + t) with
  | some x => ({ d with net := { d.net with inbox := d.net.inbox.erase x } }, some x.bytes)
  | none => (d, none)

/-- ANNOUNCE_RECORD_RX and QL_RECORD_RX: the engine takes the record that waits. -/
def Dev.annRecord (d : Dev) (t : Nat) : Dev :=
  match d.takeTrk 5 t with | (e, some b) => e.annRecordRx t b | (e, none) => e
def Dev.qlRecord (d : Dev) (t : Nat) : Dev :=
  match d.takeTrk 6 t with | (e, some b) => e.qlRx t b | (e, none) => e

/-! ### Writes of a trunk's controls (R559 to R565, R575) -/

/-- A trunk's tests end (R560). -/
def Dev.trkEndTest (d : Dev) (t : Nat) : Dev :=
  if d.trkTest t then
    let d1 := (d.setFld (TRK_CTRL t) TRK_CTRL_LOOPBACK 0).setFld (TRK_PRBS_CTRL t) TRK_PRBS_CTRL_GEN_EN 0
    let d2 := (d1.setFld (TRK_PRBS_CTRL t) TRK_PRBS_CTRL_CHK_EN 0).setFld (TRK_PRBS_CTRL t) TRK_PRBS_CTRL_CHK_LOCK 0
    (d2.setTrk t { d2.trk t with locks := 0 }).trkRestart t
  else d

/-- The status of a write of TRK_CTRL: a loopback is refused while ENABLE is, and stays, 1. -/
def Dev.trkCtrlStatus (d : Dev) (t v : Nat) : Nat := if bitsAt v 6 2 ≠ 0 ∧ d.trkOn t then stBUSY else stOK

/-- A write of TRK_CTRL taking effect: setting ENABLE ends every test, and ENABLE at 0 takes the trunk DOWN. -/
def Dev.trkCtrlTake (d : Dev) (t v : Nat) : Dev :=
  let was := d.trkOn t
  let d1 := (d.writeWord (TRK_CTRL t) v).trkLive t
  let d2 := if d1.trkOn t && !was then d1.trkEndTest t else d1
  let d3 := d2.trkFollow t
  if bitsAt v 1 1 = 1 then d3.trkRestart t else d3

/-- A write of TRK_PRBS_CTRL taking effect. -/
def Dev.trkPrbsTake (d : Dev) (t v : Nat) : Dev :=
  let was := d.trkTest t
  let d1 := d.writeWord (TRK_PRBS_CTRL t) v
  let d2 := if d1.fld (TRK_PRBS_CTRL t) TRK_PRBS_CTRL_CHK_EN = 0 then
      (d1.setFld (TRK_PRBS_CTRL t) TRK_PRBS_CTRL_CHK_LOCK 0).setTrk t { d1.trk t with locks := 0 } else d1
  if was && !d2.trkTest t then d2.trkRestart t else d2

/-- A write of TRK_EYE_CTRL taking effect. -/
def Dev.trkEyeTake (d : Dev) (t v : Nat) : Dev :=
  let d1 := d.writeWord (TRK_EYE_CTRL t) v
  if v % 2 = 1 then (d1.putNum (TRK_EYE_RESULT t) 0).setTrk t { d1.trk t with eye := true } else d1

def Dev.trkEyeDone (d : Dev) (t errors : Nat) : Dev :=
  if (d.trk t).eye then
    (d.putNum (TRK_EYE_RESULT t) (2 ^ 47 + min errors (2 ^ 40 - 1))).setTrk t { d.trk t with eye := false }
  else d

/-- PRBS_CHECKER_LOCK and PRBS_LOCK_LOSS of pair `k` of a trunk: CHK_LOCK is 1 while all four are locked (R562, R570). -/
def Dev.trkChkLock (d : Dev) (t k : Nat) : Dev :=
  if d.fld (TRK_PRBS_CTRL t) TRK_PRBS_CTRL_CHK_EN = 1 ∧ !d.cd.pLost then
    let n := (d.trk t).locks ||| 2 ^ k
    (d.setTrk t { d.trk t with locks := n }).setFld (TRK_PRBS_CTRL t) TRK_PRBS_CTRL_CHK_LOCK (n == 15).toNat
  else d
def Dev.trkChkLoss (d : Dev) (t k bits errors : Nat) : Dev :=
  if bitsAt (d.trk t).locks k 1 = 1 then
    let d1 := (d.bump (TRK_PRBS_BITS t k) bits).bump (TRK_PRBS_ERR t k) errors
    if errors ≤ 64 then d1 else (d1.setTrk t { d1.trk t with locks := (d1.trk t).locks - 2 ^ k }).setFld (TRK_PRBS_CTRL t) TRK_PRBS_CTRL_CHK_LOCK 0
  else d

end Sys2Proof.Machine
end

