-- ==== Sys2Proof/Machine/Cd.lean ====
section
/-! DEFINITION. Clock domains: dividers, bypass and lock, the slew of PLL-T and divider alignment (R297 to R328). -/

namespace Sys2Proof.Machine

/-- The utility domains (R297). -/
def cdUtility (i : Nat) : Bool := i == 0 || i == 3 || i == 4 || i == 6
/-- A utility PLL's reference, which is also its bypass, in Hz (R297, R303). -/
def cdRef (i : Nat) : Nat := if i = 4 then 100000000 else 25000000
/-- The range of a utility domain's output in Hz (R297). -/
def cdRange (i : Nat) : Nat × Nat :=
  if i = 0 then (400000000, 1600000000) else if i = 3 then (500000000, 2000000000)
  else if i = 4 then (1000000000, 1000000000) else (50000000, 200000000)

/-- 2^24 times N of a divider word (R303). -/
def divN (v : Nat) : Nat := bitsAt v 24 8 * 2 ^ 24 + bitsAt v 0 24

/-- The status of a CD_PLL_DIV write (R303, R305). -/
def pllDivStatus (i v : Nat) : Nat :=
  let vco := cdRef i * divN v
  let od := bitsAt v 32 7
  let m := bitsAt v 40 2
  let r := cdRange i
  if 8 ≤ bitsAt v 24 8 ∧ 1 ≤ od ∧ od ≤ 64 ∧ 3200000000 * 2 ^ 24 ≤ vco ∧ vco ≤ 6400000000 * 2 ^ 24 ∧
      r.1 * od * 2 ^ 24 ≤ vco ∧ vco ≤ r.2 * od * 2 ^ 24 ∧ ¬(m = 0 ∧ bitsAt v 0 24 ≠ 0) ∧ ¬(m = 3 ∧ bitsAt v 24 8 < 11) then stOK
  else stBAD_PARAM

/-- Whether domain `i` is on bypass. -/
def Dev.onBypass (d : Dev) (i : Nat) : Bool := d.bit (CD_STATUS i) CD_STATUS_BYPASS

/-- The frequency a domain delivers, in Hz, truncated (R297, R300 to R303, R319, R324). -/
def Dev.cdFreq (d : Dev) (i : Nat) : Nat :=
  let p (f : Nat) : Nat := (((f : Int) * (ppbOne + d.pll)).fdiv ppbOne).toNat
  if cdUtility i then
    (if d.onBypass i then cdRef i else cdRef i * divN (d.num (CD_PLL_DIV i)) / (2 ^ 24 * max 1 (d.fld (CD_PLL_DIV i) CD_PLL_DIV_OUTDIV)))
  else if i = 1 then (if d.cd.pLost then 0 else p 156250000)
  else if i = 2 then (if d.onBypass 2 then 25000000 else p 1250000000)
  else if i = 5 then (if d.cd.pLost then 0 else p 1250000000)
  else 25000000

/-- CD_FREQ of every domain shown. -/
def Dev.showFreq (d : Dev) : Dev := (List.range 8).foldl (fun e i => e.putNum (CD_FREQ i) (d.cdFreq i)) d

abbrev tLock (i : Nat) : Nat := tmr 23 i
abbrev tRelock (i : Nat) : Nat := tmr 24 i

/-- A PLL starting to lock, with 10 ms for it (R306, R308). -/
def Dev.startLock (d : Dev) (i : Nat) : Dev := (d.stopT (tRelock i)).startT (tLock i) (10 * ms1)

/-- A domain moving to its bypass (R298, R309, R326). -/
def Dev.toBypass (d : Dev) (i : Nat) : Dev :=
  if d.onBypass i then d
  else
    let d1 := (d.liveEdge (CD_STATUS i) CD_STATUS_BYPASS true).startTimer (CD_BYPASS_TIME i)
    if i = 0 then d1.snowEntry else d1

/-- A domain starting on its bypass as it gets power, its PLL locking: no history of it is set (R299). On CD0 that is Snowplough (R309). -/
def Dev.bypassStart (d : Dev) (i : Nat) : Dev :=
  let d1 := ((d.live (CD_STATUS i) CD_STATUS_BYPASS true).startTimer (CD_BYPASS_TIME i)).startLock i
  if i = 0 then d1.snowEntry else d1

/-- CD_PLL_DIV_WRITE accepted (R306): the domain goes to bypass and its PLL locks at the new word, again from the start where it was
locking. -/
def Dev.pllDivTake (d : Dev) (i v : Nat) : Dev := (((d.writeWord (CD_PLL_DIV i) v).toBypass i).startLock i).showFreq

/-- LOCKFAIL_TIMEOUT (R308). -/
def Dev.lockFail (d : Dev) (i : Nat) : Dev :=
  if d.runsT (tLock i) then ((d.dueT (tLock i)).liveEdge (CD_STATUS i) CD_STATUS_LOCKFAIL true).startT (tRelock i) (100 * ms1) else d

/-- PLL_RELOCK_RETRY (R308): again every 100 ms. -/
def Dev.relockRetry (d : Dev) (i : Nat) : Dev := if d.runsT (tRelock i) then (d.dueT (tRelock i)).startT (tRelock i) (100 * ms1) else d

/-- A PLL back in use: its LIVE bits fall and its timers end (R308, R318). -/
def Dev.pllBack (d : Dev) (i : Nat) : Dev :=
  ((((d.live (CD_STATUS i) CD_STATUS_LOL false).live (CD_STATUS i) CD_STATUS_LOCKFAIL false).stopT (tLock i)).stopT (tRelock i))

/-- CD2 returning to PLL-T (R251, R321, R322, R327): PLL-P returns to CD2 with it, and a divider restart that fell on bypass is repeated. -/
def Dev.cd2Back (d : Dev) : Dev :=
  if d.cd.tReady && d.onBypass 2 && d.bit EMU_GLB_STATUS EMU_GLB_STATUS_LOCK then
    let c := { d.cd with tReady := false, syncEmu := d.cd.syncEmu || d.cd.emuRepeat, emuRepeat := false,
                           syncAsked := if d.cd.emuRepeat && !d.cd.syncPort then d.tk.time else d.cd.syncAsked }
    let d1 := ((({ d with cd := c }.pllBack 2).live (CD_STATUS 2) CD_STATUS_BYPASS false).stopTimer (CD_BYPASS_TIME 2)).live (CD_STATUS 1)
      CD_STATUS_BYPASS false
    ((((d1.live TK_STATUS TK_STATUS_NUMERIC false).coarseLive).steerLive).selectorRelock).showFreq
  else d

/-- RETURN_FROM_BYPASS: 4,096 comparisons in a row are in lock (R306, R319, R321, R480). CD2 goes back at a refill tick. -/
def Dev.returnBypass (d : Dev) (i : Nat) : Dev :=
  if i = 1 then
    (if d.cd.pLost then ((({ d.pllBack 1 with cd := { d.cd with pLost := false } }).refreshLanes).trksFollow).showFreq else d)
  else if !d.onBypass i || (i == 0 && d.pwr.coreOff) then d
  else if i = 2 then (({ d with cd := { d.cd with tReady := true } }).stopT (tLock 2)).stopT (tRelock 2)
  else
    let d1 := ((d.pllBack i).live (CD_STATUS i) CD_STATUS_BYPASS false).stopTimer (CD_BYPASS_TIME i)
    (if i = 0 then d1.live RINK_STATUS RINK_STATUS_SNOW false else d1).showFreq

/-- LOSS_OF_LOCK of a connected PLL (R318 to R322). -/
def Dev.lossOfLock (d : Dev) (i : Nat) : Dev :=
  if (if i = 1 then d.cd.pLost else d.onBypass i) || (i == 0 && d.pwr.coreOff) then d
  else
    let d1 := (((d.live (CD_STATUS i) CD_STATUS_LOL true).stick (CD_STATUS i) CD_STATUS_LOL).bump (CD_LOL_COUNT i) 1).startLock i
    if i = 1 then
      (({ d1 with cd := { d1.cd with pLost := true } }.refreshLanes).trksFollow).showFreq
    else if i = 2 then
      let d2 := ({ d1.outTick.toBypass 2 with cd := { d1.cd with tReady := false } }).liveEdge (CD_STATUS 1) CD_STATUS_BYPASS true
      (((d2.liveEdge TK_STATUS TK_STATUS_NUMERIC true).coarseLive).steerLive).showFreq
    else (d1.toBypass i).showFreq

/-! ### Slewing (R312 to R315) -/

/-- The network time of PLL-T's next move: the multiple of 1 ms after the last (R312, assumption 8). -/
def Dev.nextMs (d : Dev) : Nat := d.beatAt ms1 d.cd.msBeat

/-- The applied offset after one move, with what the moves so far have left below one unit of R25, in thousandths of it (R312 to R314). -/
def Dev.slewTo (d : Dev) : Int × Int :=
  let p := d.pll * 1000 + d.cd.slewRest
  let t := d.int CD_T_TARGET
  let lim : Int := 200000 * 65536
  let t1 := (if t < -lim then -lim else if lim < t then lim else t) * 1000
  let acq := d.selState = selLOCKING ∧ d.int CD_ACQ_THR < (t - d.pll).natAbs
  let step := d.int (if acq then CD_ACQ_RATE else CD_SLEW_RATE)
  let x := if (t1 - p).natAbs ≤ step then t1 else if p < t1 then p + step else p - step
  (x.fdiv 1000, x % 1000)

/-- The offset a' for which (1 + p')(1 + a') = (1 + p)(1 + a), to the step of R25 (R315). -/
def compensated (p p' a : Int) : Int := roundDiv ((ppbOne + p) * (ppbOne + a)) (ppbOne + p') - ppbOne

/-- PLL_T_SLEW_UPDATE (R312 to R315, R320): none while CD2 is on bypass. -/
def Dev.pllSlew (d : Dev) : Dev :=
  let n := d.nextMs
  let d1 := d.advanceTo n
  let c := d1.cd
  let d2 := { d1 with cd := { c with msBeat := d1.beatOf n, pllSum := c.pllSum + d1.pll * ((d1.tk.osc - c.pllAt : Nat) : Int), pllAt := d1.tk.osc } }
  if d2.onBypass 2 then d2
  else
    let p := d2.pll
    let p' := d2.slewTo.1
    let d3 := { d2 with cd := { d2.cd with slewRest := d2.slewTo.2 } }.putInt CD_T_APPLIED p'
    let d4 :=
      if p ≠ p' ∧ d2.steered ∧ !d2.bit PTE_STATUS PTE_STATUS_NONE then
        let a := d2.int TK_FREQ_ADJ
        let dl := compensated p p' a - a
        let e := ({ d3 with tk := { d3.tk with freq := d3.tk.freq + dl } }).putInt TK_FREQ_ADJ (a + dl)
        let e1 := { e with pte := { e.pte with steer := { e.pte.steer with base := e.pte.steer.base + dl } } }
        [1, 2].foldl (fun (g : Dev) k => if g.pzOn k then g.putInt (PTE_PISTE_FREQ k) (g.int (PTE_PISTE_FREQ k) + dl) else g) e1
      else d3
    d4.slewLive.showFreq

/-- The status of a write of CD_ACQ_RATE beside the slew rate in force after it, and of CD_SLEW_RATE beside the acquisition rate (R313). -/
def acqRateStatus (slew v : Nat) : Nat := if v ≤ 50000 * 65536 ∧ slew ≤ v then stOK else stBAD_PARAM
def slewRateStatus (acq v : Nat) : Nat := if 655 ≤ v ∧ v ≤ 50000 * 65536 ∧ v ≤ acq then stOK else stBAD_PARAM

/-! ### Divider alignment (R316, R317, R327) -/

/-- The refusal of a PORTDIV request (R316): unless the core package is unpowered or in data-plane reset. -/
def Dev.syncPortStatus (d : Dev) : Nat := if d.pwr.coreOff ∨ d.pwr.resetting = 5 ∨ 2 ≤ d.fld PWR_STATUS PWR_STATUS_STATE then stOK else stBUSY

def Dev.syncEmu (d : Dev) : Dev := { d with cd := { d.cd with syncEmu := true, syncAsked := d.tk.time } }
def Dev.syncPort (d : Dev) : Dev := if d.syncPortStatus = stOK then { d with cd := { d.cd with syncPort := true, syncAsked := d.tk.time } } else d

/-- A write of CD_SYNC_CTRL (R327): refused as a whole where its PORTDIV bit is. -/
def Dev.syncCtrlStatus (d : Dev) (v : Nat) : Nat := if v % 2 = 1 then d.syncPortStatus else stOK
def Dev.syncCtrlTake (d : Dev) (v : Nat) : Dev :=
  let d1 := if v % 2 = 1 then d.syncPort else d
  if bitsAt v 1 1 = 1 then d1.syncEmu else d1

/-- Where the first CD1 divider edge at or after the present instant falls, in 2^-16 ns (R317). -/
def Dev.syncPhase (d : Dev) : Nat :=
  let per := 8 * ns1 * 4 / 5
  (per - 1 - (d.tk.cd2 + per - 1 - d.cd.portBase % per) % per) / 0x100000000

/-- The position measured at a whole second. -/
def Dev.showSync (d : Dev) : Dev := d.putNum CD_SYNC_PHASE d.syncPhase

/-- The first CD2 edge at or after the present instant: how far CD2 time is from it. On bypass the oscillator's edges stand for CD2's. -/
def Dev.toEdge (d : Dev) : Nat :=
  if d.timeBypass then (40 * ns1 - d.tk.osc % (40 * ns1)) % (40 * ns1)
  else let per := ns1 * 4 / 5; (per - d.tk.cd2 % per) % per

/-- The EMU observation dividers restarted now: where the count from which their edges follow begins (R213, R316). -/
def Dev.emuRestart (d : Dev) : Dev := { d with cd := { d.cd with emuBase := d.tk.cd2 + d.toEdge } }

/-- DIVIDER_SYNC (R316, R317): the requested dividers restart at the first CD2 edge at or after the next whole second after the request. A lane that
waited for PORTDIV may start. -/
def Dev.dividerSync (d : Dev) : Dev :=
  if d.cd.syncEmu || d.cd.syncPort then
    let d1 := d.advanceTo ((min d.tk.time d.cd.syncAsked / sec1 + 1) * sec1)
    let c := { d1.cd with syncEmu := false, syncPort := false, portBase := if d1.cd.syncPort then d1.tk.cd2 + d1.toEdge else d1.cd.portBase }
    let d2 := { d1 with cd := c }
    (if d1.cd.syncEmu then d2.emuRestart else d2).showSync.refreshLanes
  else d

/-- EMUDIV alignment after a Timekeeper step (R317): the dividers restart at the refill tick that follows it, on bypass by the oscillator grid; that
is repeated at the next whole second once CD2 returns. -/
def Dev.emuDivStep (d : Dev) : Dev := { d with cd := { d.cd with emuTick := true, emuRepeat := d.cd.emuRepeat || d.onBypass 2 } }

/-- A refill tick, as the EMU observation dividers take it. -/
def Dev.emuDivTick (d : Dev) : Dev := if d.cd.emuTick then { d.emuRestart with cd := { d.emuRestart.cd with emuTick := false } } else d

/-- OSC_FAIL (R323): the standby controller reports it and asserts ALERT_N; the module is out of service until a power reset. -/
def Dev.oscFail (d : Dev) : Dev := ({ d with pwr := { d.pwr with oscFail := true } }).alertN.refreshLanes

end Sys2Proof.Machine
end

