-- ==== Sys2Proof/Machine/Obs.lean ====
section
/-! DEFINITION. Observation: stamped reads of counters, the counter window, sweeps and the export (R578 to R612). -/

namespace Sys2Proof.Machine

/-! ### Items that follow other state -/

/-- TEST_AGE: hours since the last spare test, saturating (R706). -/
def Dev.testAge (d : Dev) : Nat := min 0xFFFF ((d.tk.time - d.trust.testAt.getD 0) / (3600 * sec1))

/-- The age of the head copy of a queue in µs (R472, R474). -/
def Dev.headAge (d : Dev) (q : Nat) : Nat :=
  match d.queue q with
  | c :: _ => min 0xFFFFF ((d.net.ticks - c.enq) * 1024 / 1000)
  | [] => 0

/-- A credit in 2^-16 byte as a 48-bit word, from 2^-32 byte. -/
def creditWord (c : Int) : Wide := BitVec.ofNat 96 (unsignedOf 48 (clampS 48 (c.fdiv 0x10000)))

/-- What a read of an item returns (R13): a few items show other state as it stands. SHP_P_CREDIT shows 0 while the peak bucket does not exist,
DESIGN CHOICE (assumption 87). -/
def Dev.shown (d : Dev) (p : Nat) : Wide :=
  let i := p / 0x1000 % 0x1000
  let n := p % 0x1000
  let word (x : Nat) : Wide := BitVec.ofNat 96 x
  match p / 0x1000000 with
  | 0x01 =>
    if p = GLB_STATE then
      GLB_STATE_POWER.into (GLB_STATE_SET.into (d.readItem p) d.setLive.toNat) d.pwrState
    else if p = GLB_HEARTBEAT then word ((d.readItem HB_US).toNat / 1000 % 2 ^ 32)
    else d.readItem p
  | 0x02 => if p = TK_SLEW_REMAIN then word (unsignedOf 48 (clampS 48 (uToPs d.tk.remain))) else d.readItem p
  | 0x05 =>
    if (i = 1 ∨ i = 2) ∧ n = 6 then word (d.gmQuality i)
    else if (i = 1 ∨ i = 2) ∧ (n = 4 ∨ n = 5) then word (d.gmIdentity i (n - 4))
    else d.readItem p
  | 0x06 => if p = EMU_RAW_COUNT then word d.rawCount else d.readItem p
  | 0x07 => if 0x100 ≤ i ∧ n = 1 then REFC_ESMC_RX_AGE.into (d.readItem p) (d.esmcAge (i - 0x100)) else d.readItem p
  | 0x0F => if n = 3 then word (d.headAge i) else d.readItem p
  | 0x10 => if n = 0x21 then creditWord (d.shpGet i).c else if n = 0x22 then (if d.shpPeak i then creditWord (d.shpGet i).p else 0) else d.readItem p
  | 0x11 =>
    if 0x100 ≤ n ∧ n < 0x500 ∧ n % 0x40 = 0x10 then creditWord (d.polGet (16 * i + (n - 0x100) / 0x40)).1
    else if 0x100 ≤ n ∧ n < 0x500 ∧ n % 0x40 = 0x11 then creditWord (d.polGet (16 * i + (n - 0x100) / 0x40)).2
    else d.readItem p
  | 0x12 =>
    if n = 0xA then (let g := (Tbl.get d.net.gates none i).getD {}; word (g.cur * 2 ^ 36 + g.open_ * 2 ^ 27)) else d.readItem p
  | 0x13 => if n = 0x43 ∧ i < 512 then BitVec.ofNat 96 (min (d.num p + d.injRun i) (2 ^ 96 - 1)) else d.readItem p
  | 0x17 => if n = 0 then (let c := Tbl.get d.dma {} i; word (c.pending.toNat * 8 + c.state)) else d.readItem p
  | 0x19 =>
    if p = TRUST_PATROL then TRUST_PATROL_TEST_AGE.into (d.readItem p) d.testAge
    else if 0x10 ≤ n ∧ n < 0x30 then word (leNat (slice (digestBytes (d.att.reg ((n - 0x10) / 8))) (6 * (n % 8)) 6))
    else d.readItem p
  | 0x1A => if p = PWR_VCORE ∨ p = PWR_VCORE_HELD ∨ p = PWR_VCORE_HELD_TIME then d.vcoreRamp.readItem p else d.readItem p
  | _ => d.readItem p

/-- The replica whose time stamps a read: that of the lane chiplet of a port's own items, else the Core die's (R37, R582); bundles, which have an
end on each, are read in the Core die, DESIGN CHOICE (assumption 88). -/
def replicaOf (p : Nat) : Nat :=
  let c := p / 0x1000000
  let i := p / 0x1000 % 0x1000
  if c = 2 then i
  else if c = 4 then repOfLp (i % 256)
  else if c = 0x0A then (if i < 256 then repOfLp i else 1 + (i - 256) / 8)
  else if c = 0x13 then (if i < 512 then 1 + i / 64 else if i < 0x300 then 1 + (i - 0x200) / 8 else 9)
  else 9

/-- The sample time of a read (R582): the replica's or the master's time at the cycle, whose own error is the ±1 ns of the table, DEDUCED
(assumption 88); across the Patrol die's boundary it lies within ±8 ns, where the manual leaves it free. -/
def Dev.sampleTime (d : Dev) (p : Nat) : Nat :=
  let b := blockOf p
  if b = bkCORE then d.repTime (replicaOf p)
  else if b = bkTIMING then d.tk.time
  else ((d.tk.time : Int) + (d.free % (16 * ns1 + 1) : Nat) - 8 * (ns1 : Int)).toNat

/-- How many resets have cleared a parameter's block since the Timing die powered up (R583). -/
def Dev.genOf (d : Dev) (p : Nat) : Nat := Tbl.get d.obs.gens 0 (blockOf p) % 256

/-- Whether an ID names an RS item that can be read now (R584). -/
def Dev.readable (d : Dev) (p : Nat) : Bool :=
  (match itemDef p with | some i => i.kind == .ctr || i.kind == .rs | none => false) && d.blockUp (blockOf p)

/-- The width of an RS item (R579). -/
def rsWidth (p : Nat) : Nat := match itemDef p with | some i => (if i.kind = .rs then 48 else 96) | none => 96

/-- The FLAGS of a read, END aside (R584). -/
def Dev.recFlags (d : Dev) (p : Nat) (v : Nat) : Nat :=
  (v == 2 ^ rsWidth p - 1).toNat + (!d.setLive).toNat * 2 + (d.bit TK_STATUS TK_STATUS_STEP).toNat * 4 +
    (blockOf p == bkCORE && d.repFault (replicaOf p)).toNat * 8

/-- A 40-byte record (R583). -/
def recBytes (id flags gen v t idx : Nat) : List Byte :=
  leBytes 4 id ++ leBytes 1 flags ++ leBytes 1 gen ++ [0, 0] ++ leBytes 8 (v % 2 ^ 48) ++ leBytes 8 (v / 2 ^ 48) ++ twBytes t ++ leBytes 4 idx

/-- The record of a read of `p`, at a sample time not before `low`, with the time it carries (R582 to R584). -/
def Dev.record (d : Dev) (p idx low : Nat) : Dev × List Byte × Nat :=
  if d.readable p then
    let t := max low (d.sampleTime p)
    let v := (d.shown p).toNat
    (d.took, recBytes p (d.recFlags p v) (d.genOf p) v t idx, t)
  else (d, recBytes p 16 (d.genOf p) 0 0 idx, low)

/-- COUNTER_READ (R583, R636). -/
def Dev.counterRead (d : Dev) (p : List Byte) : Dev × Ans :=
  let id := leNat (slice p 0 4)
  if !zeros (slice p 4 4) || !zeros (slice p 16 24) then (d, { status := stBAD_PARAM })
  else
    let r := d.record id 0 0
    let d1 := r.1.hostWrite (leNat (slice p 8 8)) r.2.1
    (d1, { status := if d.readable id then stOK else stBAD_PARAM })

/-! ### The counter window (R585 to R587) -/

def Dev.cntSlot (d : Dev) (k : Nat) : CntSlot := Tbl.get d.obs.slots {} k
def Dev.setCntSlot (d : Dev) (k : Nat) (x : CntSlot) : Dev := { d with obs := { d.obs with slots := Tbl.set d.obs.slots {} k x } }

/-- CNTW_ID_WRITE: a capture starts, in place of one that is pending (R586). -/
def Dev.cntIdWrite (d : Dev) (k v : Nat) : Dev :=
  let x := d.cntSlot k
  d.setCntSlot k { x with id := v % 2 ^ 32, seq := (x.seq + 1) % 256, done := false, wait := true }

/-- COUNTER_CAPTURE_DONE (R586, R587). -/
def Dev.captureDone (d : Dev) (k : Nat) : Dev :=
  let x := d.cntSlot k
  if !x.wait then d
  else if d.readable x.id then
    let t := d.sampleTime x.id
    let v := (d.shown x.id).toNat
    d.took.setCntSlot k { x with value := v, ns := twNs t, sec := twSec t, frac := twFrac t, gen := d.genOf x.id, flags := d.recFlags x.id v,
                                 done := true, wait := false }
  else d.setCntSlot k { x with value := 0, ns := 0, sec := 0, frac := 0, gen := d.genOf x.id, flags := 16, done := true, wait := false }

/-- A register of a slot (R585). -/
def CntSlot.read (x : CntSlot) (off : Nat) : Nat :=
  if off = 0 then x.id
  else if off = 4 then x.seq * 0x1000000 + x.gen * 0x10000 + x.done.toNat * 0x100 + x.flags
  else if off = 8 then bitsAt x.value 0 32
  else if off = 0xC then bitsAt x.value 32 32
  else if off = 0x10 then bitsAt x.value 64 32
  else if off = 0x14 then x.ns
  else if off = 0x18 then x.sec % 2 ^ 32
  else if off = 0x1C then x.frac * 0x10000 + x.sec / 2 ^ 32 % 0x10000
  else 0

/-! ### Sweeps (R588 to R593) -/

/-- Whether a COUNTER_SWEEP block's fields are in range (R588). A field marked `DEFINE only` is 0 in the other operations, DESIGN CHOICE
(assumption 88). -/
def sweepOk (p : List Byte) : Bool :=
  let op := byteAt p 2
  let dest := byteAt p 3
  decide (leNat (slice p 0 2) ≤ 63) && zeros (slice p 16 24) &&
    (if op = 1 then (decide (0x30 ≤ dest ∧ dest ≤ 0x37) || dest == 0xFE) && decide (1 ≤ leNat (slice p 4 4) ∧ leNat (slice p 4 4) ≤ 1048576)
     else (op == 2 || op == 3) && dest == 0 && zeros (slice p 4 12))

def Dev.sweepOf (d : Dev) (k : Nat) : Option Sweep := Tbl.get d.obs.sweeps none k
/-- Whether a sweep is queued or running. -/
def Dev.sweepBusy (d : Dev) (k : Nat) : Bool := d.obs.runs.any (fun r => r.sweep == k)

/-- The status of a COUNTER_SWEEP (R589). -/
def Dev.sweepStatus (d : Dev) (p : List Byte) : Nat :=
  let k := leNat (slice p 0 2)
  let op := byteAt p 2
  if !sweepOk p then stBAD_PARAM
  else if op ≠ 1 ∧ (d.sweepOf k).isNone then stNOT_PERMITTED
  else if op ≠ 3 ∧ d.sweepBusy k then stBUSY
  else if op = 1 ∧ d.tl.held.any (fun a => a.typ == actCOUNTER_SWEEP_START && leNat (slice a.args 0 2) == k) then stBUSY
  else stOK

/-- CNT_SWEEP_LAST of a sweep (R609). -/
def Dev.sweepLast (d : Dev) (k result lost written : Nat) : Dev := d.putNum (CNT_SWEEP_LAST k) (result * 2 ^ 44 + lost * 2 ^ 21 + written)

/-- SWEEP_LIVE following the queue (R608). -/
def Dev.sweepLive (d : Dev) : Dev := d.live CNT_STATUS CNT_STATUS_SWEEP (!d.obs.runs.isEmpty)

/-- The sweep at the front begins, if there is one and it has not. -/
def Dev.sweepFront (d : Dev) : Dev :=
  match d.obs.runs with
  | r :: _ => if r.pos = 0 then d.sweepLast r.sweep 2 0 0 else d
  | [] => d

/-- SWEEP_DEFINE with the list of IDs that the host holds at ADDR (R588, R589). -/
def Dev.sweepDefine (d : Dev) (p : List Byte) (ids : List Nat) : Dev × Ans :=
  let st := d.sweepStatus p
  if st ≠ stOK then (d, { status := st })
  else
    let k := leNat (slice p 0 2)
    let n := leNat (slice p 4 4)
    let l := (ids.take n) ++ List.replicate (n - ids.length) 0
    let d1 := { d with obs := { d.obs with sweeps := Tbl.set d.obs.sweeps none k (some ⟨byteAt p 3, l⟩) } }
    (d1.sweepLast k 0 0 0, { status := stOK })

/-- A sweep queued (R591), by a command or by an action; a command's START completes with the trailer. -/
def Dev.sweepQueue (d : Dev) (k : Nat) (owner : Option (Nat × Nat)) : Dev :=
  let r : SweepRun := { sweep := k, owner := owner }
  let d1 := { d with obs := { d.obs with runs := d.obs.runs ++ [r] } }
  ((d1.sweepLast k 1 0 0).sweepFront).sweepLive

/-- SWEEP_START: no answer yet once it is queued. -/
def Dev.sweepStart (d : Dev) (p : List Byte) (owner : Option (Nat × Nat)) : Dev × Option Ans :=
  let st := d.sweepStatus p
  if st ≠ stOK then (d, some { status := st }) else (d.sweepQueue (leNat (slice p 0 2)) owner, none)

/-- A START by an action: nothing is added for a sweep that is queued or running (R591). The manual does not say what one that is not defined
adds: nothing, DESIGN CHOICE (assumption 88). -/
def Dev.sweepAction (d : Dev) (k : Nat) : Dev := if (d.sweepOf k).isNone || d.sweepBusy k then d else d.sweepQueue k none

/-- A record of a sweep delivered, or lost where it finds no room (R592). -/
def Dev.sweepGive (d : Dev) (dest : Nat) (b : List Byte) : Dev × Bool :=
  if dest = 0xFE then d.toEodin ⟨2, b⟩ else d.toDma dest ⟨2, b⟩

/-- A record of a sweep lost (R592, R608). -/
def Dev.sweepLost (d : Dev) : Dev := (d.bump CNT_SWEEP_LOST 1).pulse CNT_STATUS CNT_STATUS_SWLOST

/-- A sweep ends with its trailer, which is lost like any record where it finds no room: a START by command completes, and the next sweep
begins (R591 to R593). -/
def Dev.sweepEnd (d : Dev) (q : SweepRun) (dest : Nat) (aborted : Bool) : Dev :=
  let t := max q.last (d.repTime 9)
  let n := q.pos - q.lost
  let b := recBytes 0 (32 + d.recFlags (pid 0x15 0 0x40) 0) (d.genOf (pid 0x15 0 0x40)) 0 t n
  let g0 := d.sweepGive dest b
  let e := if g0.2 then g0.1 else g0.1.sweepLost
  let r := if g0.2 then q else { q with lost := q.lost + 1 }
  let d2 := { e with obs := { e.obs with runs := e.obs.runs.filter (fun x => !(x.sweep == r.sweep)) } }
  let d3 := d2.sweepLast r.sweep (if aborted then 5 else if r.lost = 0 then 3 else 4) r.lost n
  let d4 := (d3.stick CNT_STATUS CNT_STATUS_SWEEP).sweepFront.sweepLive
  match r.owner with
  | some (ring, tag) =>
    d4.finish ring tag { status := if aborted || r.lost != 0 then stDEGRADED else stOK, result := n }
  | none => d4

/-- SWEEP_READ (R591, R592): the running sweep reads its next ID, 10 ns after the last for an item of the core package and 200 ns for
another, and after the last ID writes its trailer. -/
def Dev.sweepRead (d : Dev) : Dev :=
  match d.obs.runs with
  | [] => d
  | r :: rest =>
    match d.sweepOf r.sweep with
    | none => d
    | some s =>
      let d1 := d.passOsc (r.next - d.tk.osc)
      let id := s.ids.getD r.pos 0
      let x := d1.record id r.pos (if r.era = d1.tk.era then r.last else 0)
      let g := x.1.sweepGive s.dest x.2.1
      let d2 := if g.2 then g.1 else g.1.sweepLost
      let r' := { r with pos := r.pos + 1, lost := if g.2 then r.lost else r.lost + 1, last := x.2.2, era := d1.tk.era,
                         next := d1.tk.osc + (if blockOf id = bkCORE then 10 else 200) * ns1 }
      if s.ids.length ≤ r'.pos then d2.sweepEnd r' s.dest false
      else ({ d2 with obs := { d2.obs with runs := r' :: rest } }).sweepLast r.sweep 2 r'.lost (r'.pos - r'.lost)

/-- SWEEP_ABORT (R593): the trailer is written, and the START completes DEGRADED. A sweep still queued ends likewise, with no record before its
trailer, DESIGN CHOICE (assumption 88). -/
def Dev.sweepAbort (d : Dev) (p : List Byte) : Dev × Ans :=
  let st := d.sweepStatus p
  if st ≠ stOK then (d, { status := st })
  else
    let k := leNat (slice p 0 2)
    match d.obs.runs.find? (fun r => r.sweep == k), d.sweepOf k with
    | some r, some s => (d.sweepEnd r s.dest true, { status := stOK })
    | _, _ => (d, { status := stOK })

/-- What a data-plane reset does to sweeps (R593): the running one is aborted and the queue emptied, without a trailer. -/
def Dev.sweepReset (d : Dev) : Dev :=
  let l := d.obs.runs
  let d1 := ({ d with obs := { d.obs with runs := [] } }).sweepLive
  l.foldl (fun e r =>
    let e1 := e.sweepLast r.sweep 5 r.lost (r.pos - r.lost)
    match r.owner with | some (ring, tag) => e1.finish ring tag { status := stABORTED_BY_RESET } | none => e1) d1

/-! ### Export (R604, R605) -/

/-- The fields of a postcard and of a sweep record that are exported: offset and length. -/
def pcFields : List (Nat × Nat) :=
  [(0, 12), (12, 12), (24, 2), (26, 2), (28, 1), (29, 1), (30, 1), (31, 1), (32, 4), (36, 2), (38, 2), (40, 4), (44, 2)]
def swFields : List (Nat × Nat) := [(0, 4), (4, 1), (5, 1), (8, 8), (16, 8), (24, 12), (36, 4)]

/-- An IPFIX message with one set (RFC 7011): Export Time and the domain as R604 states. -/
def Dev.ipfixMsg (d : Dev) (set : Nat) (body : List Byte) : List Byte :=
  let t := unsignedOf 32 ((twSec d.tk.time : Int) - d.sentUtc.1)
  beBytes 2 10 ++ beBytes 2 (20 + body.length) ++ beBytes 4 t ++ beBytes 4 d.obs.ixSeq ++ beBytes 4 (d.num ID_NODE) ++
    beBytes 2 set ++ beBytes 2 (4 + body.length) ++ body

/-- A message sent to the collector (R604): the next hop's address is resolved by Eodin, and is free. -/
def Dev.ipfixSend (d : Dev) (m : List Byte) : Dev :=
  let c := d.num CNT_IPFIX_CTRL
  let port := bitsAt c 32 16
  let hd (t : Nat) : List Byte := beBytes 6 (d.free % 2 ^ 48) ++ beBytes 6 Config.mac.toNat ++ beBytes 2 t
  let b := if bitsAt c 1 1 = 1 then hd 0x86DD ++ udp6 (d.addr128 (CNT_IPFIX_SRC 0)) (d.addr128 (CNT_IPFIX_DST 0)) port 64 m
    else hd 0x0800 ++ udp4 (d.num (CNT_IPFIX_SRC 0) % 2 ^ 32) (d.num (CNT_IPFIX_DST 0) % 2 ^ 32) port 64 m
  (d.took.originate (qOf (bitsAt c 8 8) (bitsAt c 2 3)) b id).1

/-- Both templates, with one enterprise element for each field (R605). -/
def ipfixTemplates : List Byte :=
  let tmpl (id base : Nat) (fs : List (Nat × Nat)) : List Byte :=
    beBytes 2 id ++ beBytes 2 fs.length ++
      fs.flatMap (fun f => beBytes 2 (0x8000 + f.1 + base) ++ beBytes 2 f.2 ++ beBytes 4 Config.enterprise.toNat)
  tmpl 256 1 pcFields ++ tmpl 257 65 swFields

/-- The templates sent. -/
def Dev.ipfixTemplate (d : Dev) : Dev :=
  if d.bit CNT_IPFIX_CTRL 0 && d.serving then d.ipfixSend (d.ipfixMsg 2 ipfixTemplates) else d

/-- One data record sent in a message of its own. -/
def Dev.ipfixRecord (d : Dev) (r : Rec) : Dev :=
  let fs := if r.kind = 3 then pcFields else swFields
  let body := fs.flatMap (fun f => slice r.bytes f.1 f.2)
  let d1 := (d.ipfixSend (d.ipfixMsg (if r.kind = 3 then 256 else 257) body)).bump CNT_IPFIX_SENT 1
  { d1 with obs := { d1.obs with ixSeq := (d1.obs.ixSeq + 1) % 2 ^ 32 } }

/-- The records that have reached Eodin exported. -/
def Dev.ipfixExport (d : Dev) : Dev :=
  d.net.eodinRecs.foldl (fun e r => e.ipfixRecord r) { d with net := { d.net with eodinRecs := [] } }

/-! ### Writes (R601, R607, R610, R612) -/

def cntPcStatus (v : Nat) : Nat :=
  let s := bitsAt v 0 5
  if (25 ≤ s ∧ s ≤ 30) ∨ (bitsAt v 20 1 = 1 ∧ bitsAt v 16 4 < 8) then stBAD_PARAM else stOK
def ipfixStatus (v : Nat) : Nat := let r := bitsAt v 16 16; if r < 10 ∨ 3600 < r then stBAD_PARAM else stOK
/-- Bits of MIR_DROP_MASK that may be set (R601): the codes of R485 but those that a mirror copy cannot follow. -/
def mirMaskStatus (v : Nat) : Nat := if v &&& 0x7E0003FFFFE = v % 2 ^ 48 then stOK else stBAD_PARAM
def mirCtrlStatus (v : Nat) : Nat :=
  let t := bitsAt v 34 14
  if (1 ≤ t ∧ t ≤ 63) ∨ 10000 < t ∨ bitsAt v 16 2 = 3 then stBAD_PARAM else stOK

abbrev tIpfix : Nat := tmr 25 0

/-- A write of CNT_IPFIX_CTRL taking effect: while ENABLE is 1, templates go every REFRESH seconds, counted from the write, DESIGN CHOICE
(assumption 88). -/
def Dev.ipfixTake (d : Dev) (v : Nat) : Dev :=
  let d1 := d.writeWord CNT_IPFIX_CTRL v
  if v % 2 = 1 then d1.startT tIpfix (bitsAt v 16 16 * sec1) else d1.stopT tIpfix

/-- IPFIX_TEMPLATE_REFRESH (R604). -/
def Dev.ipfixRefresh (d : Dev) : Dev :=
  if d.runsT tIpfix then
    ((d.dueT tIpfix).startT tIpfix (bitsAt (d.num CNT_IPFIX_CTRL) 16 16 * sec1)).ipfixTemplate.ipfixExport
  else d

end Sys2Proof.Machine
end

