-- ==== Sys2Proof/Machine/Trust.lean ====
section
/-! DEFINITION. Trust: the Keep store, images and starts of Eodin, attestation, the spare core and fail-over (R683 to R706). -/

namespace Sys2Proof.Machine

/-! ### Keep items (R688 to R693) -/

/-- The endurance of a Keep item and of a calibration copy (R691, R692). -/
abbrev keepLimit : Nat := 1600000
abbrev copyLimit : Nat := 100000

def Dev.keepRec (d : Dev) (p : Nat) : Option KeepRec := Tbl.get d.trust.keep none p
def Dev.keepSeq (d : Dev) (p : Nat) : Nat := match d.keepRec p with | some r => r.seq | none => 0

/-- Whether an ID names a Keep item: an RWK item, a key slot by its CRS_KEY_INFO, or the BOOT count by TRUST_BOOT. The spec gives the last two no ID:
DESIGN CHOICE (assumption 46). -/
def keepItem (p : Nat) : Bool :=
  (match itemDef p with | some i => i.kind == .keep | none => false) || p == TRUST_BOOT || [0, 1, 2, 3].any (fun k => p == CRS_KEY_INFO k)

/-- Commits of an item not yet ended. -/
def Dev.keepPending (d : Dev) (p : Nat) : Nat := (d.trust.commits.filter (fun c => c.item == p)).length

/-- Whether an item accepts no further commit (R691). -/
def Dev.keepWorn (d : Dev) (p : Nat) : Bool := decide (keepLimit ≤ d.keepSeq p + d.keepPending p)

/-- A commit begun, or queued behind an earlier one of its item (R690). -/
def Dev.keepStart (d : Dev) (p v : Nat) (owner : Option (Nat × Nat)) : Dev :=
  { d with trust := { d.trust with commits := d.trust.commits ++ [⟨p, v, owner⟩] } }

/-- WEAR_LIVE judged over Keep items and copies (R692). -/
def Dev.judgeWear (d : Dev) : Dev := d.wearLive (d.trust.keep.any (fun e => match e.2 with | some r => decide (keepLimit * 9 / 10 ≤ r.seq) | none => false))

/-- A commit's record written (R688, R689). SECONDS is network time's count also before it is set: DESIGN CHOICE (assumption 91). -/
def Dev.keepPut (d : Dev) (p v : Nat) : Dev :=
  let r : KeepRec := ⟨d.keepSeq p + 1, twSec d.tk.time, v⟩
  (({ d with trust := { d.trust with keep := Tbl.set d.trust.keep none p (some r) } }).bump TRUST_KEEP_COMMITS 1).judgeWear

/-- A key slot as the number that its 52-byte VALUE spells, 0 for an empty one (R688). -/
def KeySlot.num (k : KeySlot) : Nat := leNat (k.key ++ leBytes 2 k.id ++ leBytes 1 k.perm ++ leBytes 1 k.flags)
def slotOf (v : Nat) : Option KeySlot :=
  let l := leBytes 52 v
  if leNat (slice l 48 2) = 0 then none
  else some ⟨slice l 0 48, leNat (slice l 48 2), byteAt l 50, byteAt l 51⟩

/-- A field of CRS_CTRL as it is in force: a write takes effect at the next HELLO (R678). -/
def Dev.crsCtl (d : Dev) (f : Fld) : Nat := bitsAt d.crs.ctrl f.lo f.w

/-- The key slot used to send, where it holds a key with TX (R660, R661). -/
def Dev.txKey (d : Dev) : Option KeySlot :=
  match Tbl.get d.crs.keys none (d.crsCtl CRS_CTRL_TX_SLOT) with
  | some k => if bitsAt k.flags 1 1 = 1 then some k else none
  | none => none

/-- NOKEY_LIVE (R661, R680). -/
def Dev.keyLive (d : Dev) : Dev := d.liveEdge CRS_STATUS CRS_STATUS_NOKEY d.txKey.isNone

/-- A committed value taking effect (R689). -/
def Dev.keepApply (d : Dev) (p v : Nat) : Dev :=
  match [0, 1, 2, 3].find? (fun k => p == CRS_KEY_INFO k) with
  | some k =>
    let s := slotOf v
    let d1 := { d with crs := { d.crs with keys := Tbl.set d.crs.keys none k s } }
    (d1.putNum p (match s with | some x => x.flags % 4 * 2 ^ 24 + x.perm % 32 * 2 ^ 16 + x.id | none => 0)).keyLive
  | none => d.putNum p v

/-- The status of a write of a Keep item (R691): a value equal to the one in force, with no commit before it, needs none. -/
def Dev.keepStatus (d : Dev) (p v : Nat) : Nat :=
  if d.num p = v ∧ d.keepPending p = 0 then stOK else if d.keepWorn p then stWEAR_LIMIT else stOK

/-- A write of a Keep item accepted: true where a commit begins. -/
def Dev.keepTake (d : Dev) (p v : Nat) (owner : Option (Nat × Nat)) : Dev × Bool :=
  if d.num p = v ∧ d.keepPending p = 0 then (d, false) else (d.keepStart p v owner, true)

/-! ### Flash (R694 to R697) -/

/-- The image of a bank: from the factory bank 0 holds the factory's and bank 1 none (DESIGN CHOICE). -/
def Dev.flash (d : Dev) (k : Nat) : Option Image :=
  (if k = 0 then d.trust.flash0 else d.trust.flash1).getD
    (if k = 0 then some ⟨Config.eodinBuild.toNat, 0x0C, Config.programDigest (4 * Config.eodinBuild.toNat)⟩ else none)
def Dev.setFlash (d : Dev) (k : Nat) (i : Option Image) : Dev :=
  if k = 0 then { d with trust := { d.trust with flash0 := some i } } else { d with trust := { d.trust with flash1 := some i } }

def Dev.runBank (d : Dev) : Nat := d.fld TRUST_IMAGE TRUST_IMAGE_RUN_BANK
def Dev.ptrBank (d : Dev) : Nat := d.fld TRUST_IMAGE TRUST_IMAGE_PTR_BANK

/-- The boot pointer naming a bank: the next sector with SEQ + 1 (R694). -/
def Dev.writePtr (d : Dev) (k : Nat) : Dev :=
  let d1 := { d with trust := { d.trust with ptrSeq := d.trust.ptrSeq + 1 } }
  (d1.setFld TRUST_IMAGE TRUST_IMAGE_PTR_BANK k).setFld TRUST_IMAGE TRUST_IMAGE_PTR_LEVEL (match d.flash k with | some i => i.level | none => 0)

/-- A staging discarded, unless its pointer has been written (R698). -/
def Dev.dropStaging (d : Dev) : Dev :=
  let d1 := { d with trust := { d.trust with staged := [], erase := none } }
  if d.fld TRUST_IMAGE TRUST_IMAGE_STAGE = 3 then d1
  else (d1.setFld TRUST_IMAGE TRUST_IMAGE_STAGE 0).setFld TRUST_IMAGE TRUST_IMAGE_STAGED 0

/-- An IMAGE command is in flight: an erase or an ACTIVATE that waits (R696, R697). -/
def Dev.imageBusy (d : Dev) : Bool := d.trust.erase.isSome || d.trust.activate.isSome

/-- A chunk written (R696). -/
def Dev.stageChunk (d : Dev) (l : List Byte) (last : Bool) : Dev :=
  let s := d.trust.staged ++ l
  (({ d with trust := { d.trust with staged := s } }).setFld TRUST_IMAGE TRUST_IMAGE_STAGED s.length).setFld TRUST_IMAGE TRUST_IMAGE_STAGE
    (if last then 2 else 1)

/-- IMAGE_STAGE of the bytes that the host holds at ADDR (R696): no answer yet where the bank is being erased. Bytes that host memory does not give
are 0, and bytes beyond the bank give NO_SPACE: DESIGN CHOICE (assumption 91). -/
def Dev.imageStage (d : Dev) (p : List Byte) (data : List Byte) (owner : Nat × Nat) : Dev × Option Ans :=
  let len := leNat (slice p 8 4)
  let off := leNat (slice p 12 4)
  let fl := byteAt p 16
  let first := fl % 2 == 1
  let last := fl / 2 == 1
  let no (s : Nat) : Dev × Option Ans := (d, some { status := s })
  if len = 0 ∨ 1048576 < len ∨ 4 ≤ fl ∨ !zeros (slice p 17 23) then no stBAD_PARAM
  else if d.imageBusy then no stBUSY
  else if (first && off != 0) || (!first && (d.fld TRUST_IMAGE TRUST_IMAGE_STAGE != 1 || off != d.trust.staged.length)) then no stNOT_PERMITTED
  else if 31 * 1048576 < off + len then no stNO_SPACE
  else
    let l := slice data 0 len ++ List.replicate (len - (slice data 0 len).length) 0
    if first then
      let d1 := ((d.setFlash (1 - d.runBank) none).setFld TRUST_IMAGE TRUST_IMAGE_STAGE 1).setFld TRUST_IMAGE TRUST_IMAGE_STAGED 0
      ({ d1 with trust := { d1.trust with staged := [], erase := some (owner.1, owner.2, l, last) } }, none)
    else (d.stageChunk l last, some { status := stOK })

/-- STAGE_ERASE_COMPLETE (R696). -/
def Dev.eraseDone (d : Dev) : Dev :=
  match d.trust.erase with
  | some (r, tag, l, last) => (({ d with trust := { d.trust with erase := none } }).stageChunk l last).finish r tag { status := stOK }
  | none => d

/-- The image that bytes spell, where FORMAT, LENGTH, DIGEST and SIGNATURE all check (R695). -/
def imageOf (l : List Byte) : Option Image :=
  let n := leNat (slice l 4 4)
  let dg := beNat (slice l 16 48)
  if n = l.length ∧ 224 ≤ n ∧ n ≤ 31 * 1048576 ∧ leNat (slice l 0 4) = 0x00016480 ∧
      Config.sha384 ((l.take (n - 96)).drop 128) = BitVec.ofNat 384 dg ∧
      Config.imageSigned (Config.sha384 (l.take (n - 96))) (l.drop (n - 96)) then
    some ⟨leNat (slice l 12 4), leNat (slice l 8 2), BitVec.ofNat 384 dg⟩
  else none

/-- VERIFY (R697). -/
def Dev.imageVerify (d : Dev) (p : List Byte) : Dev × Ans :=
  if byteAt p 0 ≠ 1 ∨ !zeros (slice p 1 39) then (d, { status := stBAD_PARAM })
  else if d.imageBusy then (d, { status := stBUSY })
  else if d.fld TRUST_IMAGE TRUST_IMAGE_STAGE ≠ 2 then (d, { status := stNOT_PERMITTED })
  else
    match imageOf d.trust.staged with
    | none => (d, { status := stBAD_PARAM })
    | some i =>
      if keepLimit ≤ d.trust.ptrSeq then (d.bump TRUST_KEEP_REFUSED 1, { status := stWEAR_LIMIT })
      else
        let k := 1 - d.runBank
        let d1 := (((d.setFlash k (some i)).writePtr k).setFld TRUST_IMAGE TRUST_IMAGE_STAGE 3).bump TRUST_INSTALLS 1
        ({ d1 with trust := { d1.trust with staged := [] } }, { status := stOK, result := i.build, value := i.level })

/-! ### Starts of Eodin (R683 to R685, R695, R699) -/

abbrev tReady : Nat := tmr 26 0
abbrev tWatchdog : Nat := tmr 28 0

/-- GAP_LIVE at 1 and READY at 0: no Patrol core runs Eodin, and the heartbeat is held. -/
def Dev.gapBegin (d : Dev) : Dev := ((d.liveEdge GLB_STATE GLB_STATE_GAP true).setFld GLB_STATE GLB_STATE_READY 0).stopTimer HB_US

/-- BOOT increased and committed (R662), at once and outside the order of other commits: DESIGN CHOICE (assumption 91). -/
def Dev.bootCount (d : Dev) : Dev :=
  let b := (d.num TRUST_BOOT + 1) % 0x10000
  let d1 := d.putNum TRUST_BOOT b
  let d2 := if d.keepWorn TRUST_BOOT then d1 else d1.keepPut TRUST_BOOT b
  { d2 with crs := { d2.crs with seq := 0, lsrSeq := 0 } }

/-- Servo programs of an image measured as they are loaded (R34, R685). -/
def Dev.loadServo (d : Dev) (k : Nat) : Dev :=
  let b := match d.flash d.runBank with | some i => i.build | none => 0
  let d1 := { d with trust := if k = 0 then { d.trust with progA := b } else { d.trust with progB := b } }
  d1.extend 1 2 k 0 (Config.programDigest (4 * b + 1 + k))

/-- The image of the bank that a start runs measured, and Eodin loaded (R683 steps 4 and 5). -/
def Dev.runImage (d : Dev) (k event : Nat) (i : Image) : Dev :=
  let d1 := ((d.setFld TRUST_IMAGE TRUST_IMAGE_RUN_BANK k).extend 0 event k i.build i.digest).bootCount
  let d2 := d1.setFld ID_EODIN_LEVEL ⟨0, 32⟩ (i.build % 0x10000 * 0x10000 + i.level)
  ({ d2 with trust := { d2.trust with booting := true } }).startT tReady (30 * sec1)

/-- A start of Eodin by the boot ROM from bank `k` (R683, R695): from its beginning (event 1), or by the warm path (event 3). Falls back where
the bank holds no valid image, and reports NO_IMAGE where neither does. A bank newly running is neither staged nor one fallen back to. -/
def Dev.eodinStart (d : Dev) (k event : Nat) : Dev :=
  let d0 := d.dropStaging
  let d1 := if event = 1 then
      { d0 with att := { d0.att with reg0 := 0, reg1 := 0, reg2 := 0, reg3 := 0, ext0 := 0, ext1 := 0, ext2 := 0, ext3 := 0, log := [] },
                trust := { d0.trust with rom := true } }.live
        TRUST_STATUS TRUST_STATUS_LOGOVF false
    else d0
  match d.flash k, d.flash (1 - k) with
  | some i, _ =>
    let e := d1.runImage k event i
    if k = d.runBank then e else (e.setFld TRUST_IMAGE TRUST_IMAGE_STAGE 0).live TRUST_STATUS TRUST_STATUS_FALLBACK false
  | none, some i =>
    ((((d1.setFld TRUST_IMAGE TRUST_IMAGE_STAGE 0).writePtr (1 - k)).live TRUST_STATUS TRUST_STATUS_FALLBACK true).stick
      TRUST_STATUS TRUST_STATUS_FALLBACK).runImage (1 - k) event i
  | none, none => ({ d1 with pwr := { d1.pwr with noImage := true } }).alertN

/-- A start from the boot ROM: the spare is tested, no core is fenced, and Eodin runs on core 0 (R699, R701). -/
def Dev.coldBoot (d : Dev) : Dev :=
  let d1 := (((d.gapBegin.setFld TRUST_PATROL TRUST_PATROL_SPARE 3).setFld TRUST_PATROL TRUST_PATROL_FENCED 0).setFld GLB_STATE GLB_STATE_EODIN_CORE 0).live
    TRUST_STATUS TRUST_STATUS_FAILOVER false
  let d2 := { d1 with trust := { d1.trust with activate := none, failing := false, servoA := false, servoB := false },
                      pwr := { d1.pwr with noImage := false } }
  ((d2.putNum GLB_HEARTBEAT 0).stopT tWatchdog).eodinStart d.ptrBank 1

/-- READY_TIMEOUT (R695): the image is restarted from its beginning (EVENT 1: DESIGN CHOICE, assumption 91), and after three failures in a row of
its bank the ROM falls back. -/
def Dev.readyTimeout (d : Dev) : Dev :=
  if d.runsT tReady then
    let d1 := d.dueT tReady
    let n := d1.trust.fails + 1
    let k := d1.runBank
    let back := decide (3 ≤ n) && (d1.flash (1 - k)).isSome
    let d2 := { d1 with trust := { d1.trust with fails := if 3 ≤ n then 0 else n } }
    if back then
      (((d2.writePtr (1 - k)).eodinStart (1 - k) 1).live TRUST_STATUS TRUST_STATUS_FALLBACK true).stick TRUST_STATUS TRUST_STATUS_FALLBACK
    else d2.eodinStart k 1
  else d

/-! ### ACTIVATE and fail-over (R697, R700, R701) -/

/-- A checkpoint written (R700): one of two alternating regions. -/
def Dev.checkpoint (d : Dev) : Dev :=
  { d with trust := { d.trust with ckptRegion := 1 - d.trust.ckptRegion, ckpts := d.trust.ckpts + 1, ckptAt := d.tk.osc } }

/-- CHECKPOINT (R700): 100 ms after the last one, or after Eodin began to run. -/
def Dev.checkpointDue (d : Dev) : Dev :=
  if d.bit GLB_STATE GLB_STATE_GAP then d else (d.passOsc (d.trust.ckptAt + 100 * ms1 - d.tk.osc)).checkpoint

/-- The activation itself, its commits ended (R697): a checkpoint, and the warm path into the image that the pointer names. -/
def Dev.activateNow (d : Dev) (r tag : Nat) : Dev :=
  let d1 := (d.checkpoint.setCmd r tag (fun c => { c with doneInHw := true })).markGap.gapBegin
  let d2 := { d1 with trust := { d1.trust with activate := none, servoA := true, servoB := true, fails := 0 } }
  d2.eodinStart d.ptrBank 3

/-- ACTIVATE (R697): no answer yet once it is accepted. -/
def Dev.imageActivate (d : Dev) (p : List Byte) (r tag : Nat) : Dev × Option Ans :=
  if byteAt p 0 ≠ 2 ∨ !zeros (slice p 1 39) then (d, some { status := stBAD_PARAM })
  else if d.imageBusy ∨ d.cal.run.isSome then (d, some { status := stBUSY })
  else if d.ptrBank = d.runBank then (d, some { status := stNOT_PERMITTED })
  else if d.trust.commits.isEmpty ∧ d.cal.queue.isEmpty then (d.activateNow r tag, none)
  else ({ d with trust := { d.trust with activate := some (r, tag) } }, none)

/-- An ACTIVATE that waits goes on once no commit and no write of a calibration copy is left (R697). -/
def Dev.activateReady (d : Dev) : Dev :=
  match d.trust.activate with
  | some (r, tag) => if d.trust.commits.isEmpty ∧ d.cal.queue.isEmpty then d.activateNow r tag else d
  | none => d

/-- KEEP_COMMIT_DONE of a calibration copy, by its number of R693: 2 user A, 3 user B (R343). -/
def Dev.copyCommit (d : Dev) (c : Nat) : Dev := (d.copyDone c).activateReady

/-- KEEP_COMMIT_DONE (R688 to R690): the oldest commit of an item has been read back, and its value takes effect. The command that waits
for it completes with its last commit, and an ACTIVATE goes on once none is left. -/
def Dev.keepDone (d : Dev) (p : Nat) : Dev :=
  match d.trust.commits.find? (fun c => c.item == p) with
  | none => d
  | some c =>
    let rest := d.trust.commits.erase c
    let d1 := (({ d with trust := { d.trust with commits := rest } }).keepPut p c.value).keepApply p c.value
    let d2 := match c.owner with
      | some (r, tag) =>
        if rest.any (fun x => x.owner == c.owner) then d1
        else
          let n := match d.cmdOf r tag with | some x => if x.op = 2 then byteAt x.par 4 else 0 | none => if r = regOwner then 1 else 0
          if d1.bit GLB_STATE GLB_STATE_GAP ∧ r < 0x10000 then d1.setCmd r tag (fun x => { x with doneInHw := true })
          else d1.finish r tag { status := stOK, result := n, time := d1.when d1.tk.time }
      | none => d1
    d2.activateReady

/-- Whether a failure is one (R701): of the watchdog while Eodin runs, which is suspended while CD3 is on bypass (R311); of core `k` where it is
active and not fenced, also while Eodin starts (DESIGN CHOICE, assumption 91). -/
def Dev.failure (d : Dev) (cause k : Nat) : Bool :=
  let gap := d.bit GLB_STATE GLB_STATE_GAP
  if cause = 1 then !gap && !d.bit (CD_STATUS 3) CD_STATUS_BYPASS
  else (!gap || d.trust.booting) && bitsAt (d.fld TRUST_PATROL TRUST_PATROL_FENCED) k 1 == 0 &&
    (k != 4 || d.fld TRUST_PATROL TRUST_PATROL_SPARE == 2)

/-- FAIL_OVER (R701): the watchdog (cause 1) or a core check of core `k` (cause 2). The spare runs the image of the running bank, a test of it being
abandoned (R699). Without a spare management stays down, and with AUTO_RESET a WATCHDOG reset follows 10 s later (R724). -/
def Dev.failOver (d : Dev) (cause k : Nat) : Dev :=
  if !d.failure cause k then d
  else
    let bad := if cause = 1 then d.fld GLB_STATE GLB_STATE_EODIN_CORE else k
    let free := !d.bit TRUST_STATUS TRUST_STATUS_SPARE && d.fld TRUST_PATROL TRUST_PATROL_SPARE != 2
    let d1 := (d.setFld TRUST_PATROL TRUST_PATROL_FENCED (d.fld TRUST_PATROL TRUST_PATROL_FENCED ||| 2 ^ bad)).markGap.gapBegin
    let d2 := (d1.setFld TRUST_PATROL TRUST_PATROL_LAST_CAUSE cause).stick GLB_STATE GLB_STATE_GAP
    let d3 := ({ d2.dropStaging with trust := { d2.dropStaging.trust with activate := none, booting := false, failing := false } }).stopT tReady
    if free then
      let e := (d3.bump TRUST_FAILOVERS 1).setFld TRUST_PATROL TRUST_PATROL_SPARE 2
      ({ e with trust := { e.trust with failing := true } }).eodinStart d.runBank 3
    else
      let d4 := if d.fld TRUST_PATROL TRUST_PATROL_SPARE = 3 then d3.setFld TRUST_PATROL TRUST_PATROL_SPARE 1 else d3
      if d.fld PWR_CTRL PWR_CTRL_AUTO_RESET = 1 then d4.startT tWatchdog (10 * sec1) else d4

/-! ### The spare core (R699, R706) -/

/-- SPARE_SELF_TEST: TEST_PERIOD hours of network time after the end of the last test. -/
def Dev.spareTest (d : Dev) : Dev :=
  match d.trust.testAt with
  | some t =>
    if d.fld TRUST_PATROL TRUST_PATROL_SPARE < 2 then
      (d.advanceTo (t + d.fld TRUST_CTRL TRUST_CTRL_TEST_PERIOD * 3600 * sec1)).setFld TRUST_PATROL TRUST_PATROL_SPARE 3
    else d
  | none => d

/-- SPARE_TEST_END. -/
def Dev.spareEnd (d : Dev) (pass : Bool) : Dev :=
  if d.fld TRUST_PATROL TRUST_PATROL_SPARE = 3 then
    let d1 := ((d.bump TRUST_SPARE_TESTS 1).setFld TRUST_PATROL TRUST_PATROL_SPARE (!pass).toNat).live TRUST_STATUS TRUST_STATUS_SPARE (!pass)
    let d2 := if pass then d1 else d1.stick TRUST_STATUS TRUST_STATUS_SPARE
    { d2 with trust := { d2.trust with testAt := some d2.tk.time } }
  else d

/-- Eodin completes its start (R635, R695, R701): what concerns trust. -/
def Dev.trustReady (d : Dev) : Dev :=
  let d1 := ({ d with trust := { d.trust with booting := false, fails := 0, ckptAt := d.tk.osc } }).stopT tReady
  if d.trust.failing then
    (({ d1 with trust := { d1.trust with failing := false } }).setFld GLB_STATE GLB_STATE_EODIN_CORE 4).live TRUST_STATUS TRUST_STATUS_FAILOVER true
      |>.stick TRUST_STATUS TRUST_STATUS_FAILOVER
  else d1

/-! ### Attestation (R686, R687) -/

/-- The programs active or loaded, as entries of a report (R36, R685, R687): a servo program that waits for its Piste's next update, and a verified
image with its servo programs, are loaded and not yet active. -/
def Dev.programs (d : Dev) : List LogEntry :=
  let t := if d.setLive then twSec d.tk.time else 0
  let i := match d.flash d.runBank with | some x => x | none => ⟨0, 0, 0⟩
  let servo (k b e : Nat) : LogEntry := ⟨1, e, k, 0, Config.programDigest (4 * b + 1 + k), t⟩
  let next (wait : Bool) (k : Nat) : List LogEntry := if wait then [servo k i.build 2] else []
  let staged : List LogEntry :=
    match (if d.fld TRUST_IMAGE TRUST_IMAGE_STAGE = 3 then d.flash (1 - d.runBank) else none) with
    | some x => [⟨0, 2, 1 - d.runBank, x.build, x.digest, t⟩, servo 0 x.build 2, servo 1 x.build 2]
    | none => []
  let bank (k : Nat) : List LogEntry :=
    let b := d.bank k
    if 2 ≤ b.state ∧ b.state ≤ 5 then
      let e := if b.state = bkACTIVE then 1 else 2
      [⟨2, e, k, b.ruleset, if k = 0 then d.att.graph0 else d.att.graph1, t⟩, ⟨3, e, k, b.ruleset, if k = 0 then d.att.acts0 else d.att.acts1, t⟩]
    else []
  [⟨0, 1, d.runBank, i.build, i.digest, t⟩, servo 0 d.trust.progA 1, servo 1 d.trust.progB 1] ++ next d.trust.servoA 0 ++ next d.trust.servoB 1 ++
    staged ++ bank 0 ++ bank 1

/-- A report with its signature (R687). -/
def Dev.report (d : Dev) (nonce : List Byte) : List Byte :=
  let ps := d.programs
  let fl := (!d.setLive).toNat + (d.fld GLB_STATE GLB_STATE_EODIN_CORE == 4).toNat * 2 + (d.bit TRUST_STATUS TRUST_STATUS_FALLBACK).toNat * 4 +
    (d.bit TRUST_STATUS TRUST_STATUS_LOGOVF).toNat * 8
  let b := leBytes 2 1 ++ leBytes 1 ps.length ++ leBytes 1 fl ++ leBytes 4 (256 + 64 * ps.length + 96) ++ leBytes 8 Config.serial.toNat ++
    (if d.setLive then twBytes d.tk.time else List.replicate 12 0) ++ leBytes 2 (d.num TRUST_BOOT) ++ [0, 0] ++ nonce ++
    leBytes 2 d.att.ext0 ++ leBytes 2 d.att.ext1 ++ leBytes 2 d.att.ext2 ++ leBytes 2 d.att.ext3 ++
    digestBytes d.att.reg0 ++ digestBytes d.att.reg1 ++ digestBytes d.att.reg2 ++ digestBytes d.att.reg3 ++ ps.flatMap LogEntry.bytes
  b ++ beBytes 96 (Config.attestSign (Config.sha384 b)).toNat

/-- ATTEST (R686): the status and the bytes returned, written to ADDR by the caller. -/
def Dev.attest (d : Dev) (p : List Byte) : Nat × List Byte :=
  let op := byteAt p 0
  let st := leNat (slice p 4 4)
  if !zeros (slice p 1 3) || !(decide (1 ≤ op ∧ op ≤ 3)) || (op != 3 && st != 0) || (op != 1 && !zeros (slice p 8 24)) then (stBAD_PARAM, [])
  else if op = 1 then (stOK, d.report (slice p 8 24))
  else if op = 2 then (stOK, Config.certificate.take 1024)
  else if d.att.log.length ≤ st then (stBAD_PARAM, [])
  else (stOK, ((d.att.log.drop st).take 30).flatMap LogEntry.bytes)

/-- ATTEST of a ring: the output goes to host memory, and RESULT is its length. -/
def Dev.attestCmd (d : Dev) (p : List Byte) : Dev × Ans :=
  let r := d.attest p
  if r.1 = stOK then (d.hostWrite (leNat (slice p 32 8)) r.2, { status := stOK, result := r.2.length }) else (d, { status := r.1 })

/-- STORE_STATUS (R693). -/
def Dev.storeStatus (d : Dev) (p : List Byte) : Ans :=
  let id := leNat (slice p 0 4)
  let what := byteAt p 4
  let least : Nat := [0, 1, 2, 3].foldl (fun m c => min m (copyLimit - d.copyWrites c))
    (d.trust.keep.foldl (fun m e => match e.2 with | some r => min m (keepLimit - r.seq) | none => m) keepLimit)
  if !zeros (slice p 5 35) ∨ 3 ≤ what then { status := stBAD_PARAM }
  else if what = 0 then
    (if keepItem id then { result := d.keepSeq id, value := keepLimit - d.keepSeq id, time := (d.keepRec id).map (fun r => r.secs * sec1) }
     else { status := stBAD_PARAM })
  else if what = 1 then (if id ≤ 3 then { result := d.copyWrites id, value := copyLimit - d.copyWrites id } else { status := stBAD_PARAM })
  else if id = 0 then { result := (d.trust.keep.filter (fun e => e.2.isSome)).length, value := least }
  else { status := stBAD_PARAM }

end Sys2Proof.Machine
end

