-- ==== Sys2Proof/Machine/Cresor.lean ====
section
/-! DEFINITION. Cresor: links, messages and their authentication, neighbours, node IDs, the database and routes, and outstanding requests
(R656 to R682). What a carried command does is with the commands. -/

namespace Sys2Proof.Machine

/-! ### Links (R656, R657) -/

abbrev csHELLO : Nat := 1
abbrev csLSR : Nat := 2
abbrev csREQUEST : Nat := 0x10
abbrev csRESPONSE : Nat := 0x11
abbrev csRESET : Nat := 0x13

/-- The instance of class 0x18 that a link index names. -/
def crsInst (i : Nat) : Nat := if i < 0x100 then 0x100 + i else 0x200 + i

/-- Every link index. -/
def crsLinks : List Nat := (List.range 256) ++ [0x100, 0x101]

/-- Whether Cresor runs: ENABLE is 1, and Eodin runs (R661, R679). -/
def Dev.crsOn (d : Dev) : Bool := d.crsCtl CRS_CTRL_ENABLE == 1 && !d.bit GLB_STATE GLB_STATE_GAP && decide (d.pwrState ≤ 2)

/-- Whether a link carries Cresor (R656). -/
def Dev.crsLinkUp (d : Dev) (i : Nat) : Bool :=
  d.fld (CRS_LINK_CTRL (crsInst i)) CRS_LINK_CTRL_LINK_EN == 1 && (if i < 0x100 then d.lpUp i else d.trkState (i - 0x100) == tsUP)

abbrev adDOWN : Nat := 0
abbrev adINIT : Nat := 1
abbrev adFULL : Nat := 2

/-- The adjacency of a link (R663, R678). -/
def Dev.adj (d : Dev) (i : Nat) : Nat := bitsAt (d.num (CRS_LINK_STATE (crsInst i))) 18 2
def Dev.adjNode (d : Dev) (i : Nat) : Nat := bitsAt (d.num (CRS_LINK_STATE (crsInst i))) 0 16
def Dev.crsLink (d : Dev) (i : Nat) : CrsLink := Tbl.get d.crs.links {} i
def Dev.setAdj (d : Dev) (i st : Nat) (multi : Bool) (node : Nat) : Dev :=
  d.putNum (CRS_LINK_STATE (crsInst i)) (st * 2 ^ 18 + multi.toNat * 2 ^ 16 + node)
def Dev.fullLinks (d : Dev) : List Nat := (d.crs.links.map (fun e => e.1)).filter (fun i => d.adj i == adFULL && d.crsLinkUp i)

abbrev tDead (i : Nat) : Nat := tmr 30 i
abbrev tLsr : Nat := tmr 31 0
abbrev tAge (n : Nat) : Nat := tmr 32 n
abbrev tReq (c : Nat) : Nat := tmr 33 (c % 0x10000)
abbrev tClaim : Nat := tmr 35 0
abbrev tHello : Nat := tmr 35 1

/-! ### Messages (R658 to R662) -/

/-- The tag of a message without one, its HOPS taken as 0 (R660). -/
def crsTag (key m : List Byte) : List Byte := beBytes 48 (Config.hmacSha384 key (patch m 3 [0])).toNat

/-- A message sent on one link (R657): as a frame on the link's queue, or as a message frame of a trunk. -/
def Dev.crsPut (d : Dev) (i : Nat) (m : List Byte) : Dev :=
  let d1 := (d.bump CRS_TX 1).bump (CRS_LINK_TX (crsInst i)) 1
  if i < 0x100 then
    let b := beBytes 6 0x0180C200000E ++ beBytes 6 Config.mac.toNat ++ beBytes 2 0x88B7 ++ beBytes 3 (Config.mac.toNat / 0x1000000) ++
      beBytes 2 0x4352 ++ m
    (d1.originate (qOf i (d.fld (CRS_LINK_CTRL (crsInst i)) CRS_LINK_CTRL_Q)) b id).1
  else d1.trkSend (i - 0x100) 0x10 m

/-- A message that this node originates (R658, R662): its SEQ is counted, and the tag made with the TX slot's key. No key, no message (R661). -/
def Dev.crsMake (d : Dev) (typ flags dst corr frag frags : Nat) (pay : List Byte) : Dev × Option (List Byte) :=
  match d.txKey with
  | none => (d, none)
  | some k =>
    let m := leBytes 1 1 ++ leBytes 1 typ ++ leBytes 1 flags ++ leBytes 1 (d.crsCtl CRS_CTRL_HOPS) ++ leBytes 2 d.crs.id ++ leBytes 2 dst ++
      leBytes 2 (d.num TRUST_BOOT) ++ leBytes 2 k.id ++ leBytes 4 d.crs.seq ++ leBytes 2 pay.length ++ leBytes 1 frag ++ leBytes 1 frags ++
      leBytes 4 corr ++ pay
    ({ d with crs := { d.crs with seq := (d.crs.seq + 1) % 2 ^ 32 } }, some (m ++ crsTag k.key m))

/-- A message on every FULL adjacency but one (R667). -/
def Dev.crsFlood (d : Dev) (but : Option Nat) (m : List Byte) : Dev :=
  (d.fullLinks.filter (fun i => but != some i)).foldl (fun e i => e.crsPut i m) d

/-- The route to a node (R668), while the adjacency of its first hop is FULL (R663). -/
def Dev.route (d : Dev) (n : Nat) : Option Route := d.crs.routes.find? (fun r => r.node == n && d.fullLinks.contains r.link)

/-- A message of this node sent by its route, or flooded; one for a node that is not reachable is discarded (R669). -/
def Dev.crsSend (d : Dev) (typ dst corr frag frags : Nat) (pay : List Byte) : Dev :=
  match d.crsMake typ (if dst = 0xFFFF then 1 else 0) dst corr frag frags pay with
  | (e, some m) =>
    if dst = 0xFFFF then e.crsFlood none m
    else (match e.route dst with | some r => e.crsPut r.link m | none => e.bump CRS_NO_ROUTE 1)
  | (e, none) => e

/-- Payload in fragments of at most 1,421 bytes (R658). -/
def fragsOf : Nat → List Byte → List (List Byte)
  | 0, l => [l]
  | n + 1, l => if l.length ≤ 1421 then [l] else l.take 1421 :: fragsOf n (l.drop 1421)

/-- A payload sent in as many fragments as it needs. -/
def Dev.crsSendAll (d : Dev) (typ dst corr : Nat) (pay : List Byte) : Dev :=
  let fs := fragsOf 255 pay
  ((List.range fs.length).zip fs).foldl (fun e x => e.crsSend typ dst corr x.1 fs.length x.2) d

/-- The fields of a message. -/
def cmType (m : List Byte) : Nat := byteAt m 1
def cmFlood (m : List Byte) : Bool := byteAt m 2 % 2 == 1
def cmHops (m : List Byte) : Nat := byteAt m 3
def cmSrc (m : List Byte) : Nat := leNat (slice m 4 2)
def cmDst (m : List Byte) : Nat := leNat (slice m 6 2)
def cmBoot (m : List Byte) : Nat := leNat (slice m 8 2)
def cmKey (m : List Byte) : Nat := leNat (slice m 10 2)
def cmSeq (m : List Byte) : Nat := leNat (slice m 12 4)
def cmLen (m : List Byte) : Nat := leNat (slice m 16 2)
def cmFrag (m : List Byte) : Nat := byteAt m 18
def cmFrags (m : List Byte) : Nat := byteAt m 19
def cmCorr (m : List Byte) : Nat := leNat (slice m 20 4)
def cmPay (m : List Byte) : List Byte := slice m 24 (cmLen m)

/-- Whether a message keeps the form of R658 and R659. -/
def crsForm (m : List Byte) : Bool :=
  decide (72 ≤ m.length) && byteAt m 0 == 1 && [csHELLO, csLSR, csREQUEST, csRESPONSE, csRESET].contains (cmType m) && decide (cmLen m ≤ 1421) &&
    m.length == 72 + cmLen m

/-- The key slot under which a message is authentic, by its PERM (R660). -/
def Dev.crsAuth (d : Dev) (m : List Byte) : Option Nat :=
  match d.crs.keys.find? (fun e => match e.2 with | some k => k.id == cmKey m && k.flags % 2 == 1 | none => false) with
  | some (_, some k) => if crsTag k.key (m.take (24 + cmLen m)) = slice m (24 + cmLen m) 48 then some k.perm else none
  | _ => none

/-- The judgement of R662 on a message's BOOT and SEQ, in modulo order: 0 taken with the window that follows, 1 a replay, 2 a duplicate. -/
def crsJudge (w : Option CrsWin) (boot seq : Nat) : Nat × CrsWin :=
  match w with
  | none => (0, ⟨boot, seq, 1⟩)
  | some w =>
    let b := signedOf 16 ((boot + 0x10000 - w.boot) % 0x10000)
    let s := signedOf 32 ((seq + 2 ^ 32 - w.top) % 2 ^ 32)
    if b < 0 then (1, w)
    else if 0 < b then (0, ⟨boot, seq, 1⟩)
    else if 0 < s then (0, ⟨boot, seq, if 64 ≤ s then 1 else (w.bits * 2 ^ s.toNat + 1) % 2 ^ 64⟩)
    else if s ≤ -64 then (1, w)
    else if bitsAt w.bits s.natAbs 1 = 1 then (2, w)
    else (0, { w with bits := w.bits + 2 ^ s.natAbs })

/-- Whether one more message may be forwarded in the present second (R669), counted. -/
def Dev.crsRate (d : Dev) : Dev × Bool :=
  let sec := twSec d.tk.time
  let n := if d.crs.fwdSec = sec then d.crs.fwdN else 0
  if 20000 ≤ n then (d.bump CRS_DROP 1, false) else ({ d with crs := { d.crs with fwdSec := sec, fwdN := n + 1 } }, true)

/-- A message forwarded on some links (R669): HOPS falls by 1, and at 0 it is discarded. -/
def Dev.crsForward (d : Dev) (m : List Byte) (f : Dev → List Byte → Dev) : Dev :=
  if cmHops m ≤ 1 then d.bump CRS_HOPS_OUT 1
  else
    match d.crsRate with
    | (e, true) => f e (patch m 3 (leBytes 1 (cmHops m - 1)))
    | (e, false) => e

/-- A message to be consumed here. -/
def Dev.crsKeep (d : Dev) (i perm : Nat) (m : List Byte) : Dev :=
  { d with crs := { d.crs with inbox := d.crs.inbox ++ [(i, perm, m)] } }

/-- CRESOR_MESSAGE_RX: the first message that the slices have sent to Eodin (R657, R659 to R662, R669). What is not a HELLO is carried only by
FULL adjacencies (R663), and is discarded on any other without a count, DEDUCED (assumption 90). -/
def Dev.cresorRx (d : Dev) : Dev :=
  if d.bit GLB_STATE GLB_STATE_GAP then d
  else
    match d.net.inbox.find? (fun t => t.kind == 3) with
    | none => d
    | some t =>
      let i := t.lp
      let m := t.bytes
      let d0 := { d with net := { d.net with inbox := d.net.inbox.erase t } }
      if !d0.crsOn ∨ !d0.crsLinkUp i then d0
      else
        let d1 := d0.bump (CRS_LINK_RX (crsInst i)) 1
        if !crsForm m then d1.bump CRS_BAD 1
        else
          match d1.crsAuth m with
          | none => (d1.bump CRS_AUTH_FAIL 1).pulse CRS_STATUS CRS_STATUS_AUTH
          | some perm =>
            if cmType m ≠ csHELLO ∧ d1.adj i ≠ adFULL then d1
            else
            let j := crsJudge (Tbl.get d1.crs.wins none (cmSrc m)) (cmBoot m) (cmSeq m)
            if j.1 = 1 then d1.bump CRS_REPLAY 1
            else if j.1 = 2 then d1.bump CRS_DUP 1
            else
              let d2 := { d1.bump CRS_RX 1 with crs := { d1.crs with wins := Tbl.set d1.crs.wins none (cmSrc m) (some j.2) } }
              let dst := cmDst m
              if cmType m = csHELLO then d2.crsKeep i perm m
              else if dst = 0xFFFF then
                let d3 := if cmType m = csLSR then d2 else d2.crsForward m (fun e x => e.crsFlood (some i) x)
                if d2.crs.id = 0 then d3 else d3.crsKeep i perm m
              else if dst = d2.crs.id ∧ dst ≠ 0 then d2.crsKeep i perm m
              else
                match d2.route dst with
                | none => d2.bump CRS_NO_ROUTE 1
                | some r => d2.crsForward m (fun e x => e.crsPut r.link x)

/-- The first message of a TYPE that waits to be consumed. -/
def Dev.takeCrs (d : Dev) (typ : Nat) : Dev × Option (Nat × Nat × List Byte) :=
  match d.crs.inbox.find? (fun x => cmType x.2.2 == typ) with
  | some x => ({ d with crs := { d.crs with inbox := d.crs.inbox.erase x } }, some x)
  | none => (d, none)

/-! ### Node IDs (R664, R665) -/

/-- The ID that the node's parameters give. -/
def Dev.crsWant (d : Dev) : Nat :=
  let v := if d.crsCtl CRS_CTRL_ID_MODE = 1 then (d.num CRS_AUTO_BASE + d.pwr.slot) % 0x10000 else d.num CRS_NODE_ID % 0x10000
  if v = 0xFFFF then 0 else v

def Dev.maxAge (d : Dev) : Nat := d.fld CRS_TIMERS CRS_TIMERS_LSR_MAXAGE * sec1

/-- The ID in force shown (R619, R678). -/
def Dev.setId (d : Dev) (n : Nat) : Dev :=
  (({ d with crs := { d.crs with id := n } }).putNum ID_NODE n).putNum CRS_ID_STATE n

/-- A withdrawal (R665). -/
def Dev.crsWithdraw (d : Dev) : Dev :=
  let d1 := (({ d with crs := { d.crs with lost := true } }).setId 0).startT tClaim d.maxAge
  (d1.live CRS_STATUS CRS_STATUS_COLLIDE true).stick CRS_STATUS CRS_STATUS_COLLIDE

/-- The node's own ID claimed by another serial: the lower serial keeps it (R665). -/
def Dev.crsCollide (d : Dev) (node serial : Nat) : Dev :=
  if node = d.crs.id ∧ node ≠ 0 ∧ serial ≠ Config.serial.toNat ∧ serial < Config.serial.toNat then d.crsWithdraw else d

/-- The withdrawn ID claimed again: the host has written it, or no LSR with it has been held for LSR_MAXAGE (R665). -/
def Dev.crsReclaim (d : Dev) : Dev :=
  let free := match Tbl.get d.net.timers none tClaim with | some t => decide (t ≤ d.tk.osc) | none => true
  if d.crs.lost && free && !d.crs.db.any (fun l => l.node == d.crsWant) then
    (({ d with crs := { d.crs with lost := false } }).stopT tClaim).live CRS_STATUS CRS_STATUS_COLLIDE false
  else d

/-- CRS_NODE_ID or CRS_AUTO_BASE written by the host (R665). -/
def Dev.crsIdWritten (d : Dev) : Dev :=
  (({ d with crs := { d.crs with lost := false } }).stopT tClaim).live CRS_STATUS CRS_STATUS_COLLIDE false

/-! ### LSRs and routes (R666 to R668) -/

/-- stepsRemoved of a Piste's grandmaster as an LSR gives it. -/
def Dev.crsSteps (d : Dev) (k : Nat) : Nat :=
  if d.pzState k ≠ pzLOCKED then 0xFF
  else match (if d.pzExt k then none else (d.piste k).parent) with | some a => min 0xFE a.steps | none => 0

/-- The adjacency entries of this node's LSR. -/
def Dev.crsEntries (d : Dev) : List CrsAdj :=
  d.fullLinks.map (fun i =>
    let c := if i < 0x100 then 0x100 + i else 0x200 + i
    ⟨d.adjNode i, d.fld (CRS_LINK_CTRL (crsInst i)) CRS_LINK_CTRL_COST, i,
      (d.portState c 1 == psSLAVE).toNat + (d.portState c 2 == psSLAVE).toNat * 2⟩)

def CrsAdj.bytes (a : CrsAdj) : List Byte := leBytes 2 a.node ++ leBytes 2 a.cost ++ leBytes 2 a.link ++ leBytes 1 a.slave ++ [0]

/-- DEEP_LIVE (R677); 0xFF is no number of steps. -/
def Dev.crsDeep (d : Dev) : Dev :=
  let deep (s : Nat) : Bool := decide (32 < s) && s != 0xFF
  d.liveEdge CRS_STATUS CRS_STATUS_DEEP (deep (d.crsSteps 1) || deep (d.crsSteps 2))

/-- This node's LSR flooded with the given entries (R666). -/
def Dev.lsrFlood (d : Dev) (es : List CrsAdj) : Dev :=
  if !d.crsOn ∨ d.crs.id = 0 ∨ d.txKey.isNone then d
  else
    let seq := (d.crs.lsrSeq + 1) % 2 ^ 32
    let d1 := ({ d with crs := { d.crs with lsrSeq := seq, lsr := es } }).crsDeep
    let head := leBytes 8 Config.serial.toNat ++ leBytes 4 seq ++ leBytes 1 (d.crsSteps 1) ++ leBytes 1 (d.crsSteps 2) ++ leBytes 2 es.length ++
      List.replicate 8 0
    let body (l : List CrsAdj) : List Byte := head ++ l.flatMap CrsAdj.bytes
    let d2 := if es.length ≤ 174 then d1.crsSend csLSR 0xFFFF 0 0 1 (body es)
      else (d1.crsSend csLSR 0xFFFF 0 0 2 (body (es.take 174))).crsSend csLSR 0xFFFF 0 1 2 (body (es.drop 174))
    (d2.stopT tLsr).startT tLsr (d.fld CRS_TIMERS CRS_TIMERS_LSR_REFRESH * sec1)

/-- Links that no longer meet R656 lose their adjacency, and a change of what this node's LSR lists floods it (R663, R666); in a management gap
Eodin does neither. -/
def Dev.crsCheck (d : Dev) : Dev :=
  if d.bit GLB_STATE GLB_STATE_GAP then d
  else
  let d0 := if d.crsOn then d.crsDeep else d
  let d1 := d0.crs.links.foldl
    (fun e l => if e.crsLinkUp l.1 && e.crsOn then e
                else ({ e.setAdj l.1 adDOWN false 0 with crs := { e.crs with links := Tbl.set e.crs.links {} l.1 {} } }).stopT (tDead l.1)) d0
  if d1.crsEntries = d1.crs.lsr then d1 else d1.lsrFlood d1.crsEntries

/-- LSR_REFRESH (R666). -/
def Dev.lsrRefresh (d : Dev) : Dev :=
  let d1 := (d.dueT tLsr).lsrFlood (d.dueT tLsr).crsEntries
  if d1.runsT tLsr then d1 else d1.startT tLsr (d1.fld CRS_TIMERS CRS_TIMERS_LSR_REFRESH * sec1)

/-- The HELLOs of one instant: the ID in force follows the parameters, and each link gets its message (R663, R664). -/
def Dev.helloNow (d : Dev) : Dev :=
    let d1 := d.crsReclaim
    let n := if d1.crs.lost then 0 else d1.crsWant
    let d2 := if d1.crs.id = n then d1 else d1.setId n
    let d3 := d2.crsCheck
    (crsLinks.filter (fun i => d3.crsLinkUp i)).foldl
      (fun e i =>
        let pay := leBytes 8 Config.serial.toNat ++ leBytes 2 e.crs.id ++ leBytes 2 i ++ leBytes 4 ((e.crsLink i).heard.headD 0 % 2 ^ 32)
        match e.crsMake csHELLO 0 0 0 0 1 pay with
        | (f, some m) => f.crsPut i m
        | (f, none) => f) d3

/-- HELLO_TX (R663, R664, R678): HELLO_MS after the HELLO before it, what was written to CRS_CTRL, CRS_NODE_ID or CRS_AUTO_BASE takes effect, and a
HELLO goes out on each link. While Cresor does not run the command is the instant at which it would; HELLOs that a management gap has held up
are not made good, DESIGN CHOICE (assumption 90). -/
def Dev.helloTx (d : Dev) : Dev :=
  if d.bit GLB_STATE GLB_STATE_GAP ∨ 2 < d.pwrState then d
  else
    let at_ := (Tbl.get d.net.timers none tHello).getD d.tk.osc
    let d0 := d.dueT tHello
    let d1 := ({ d0 with crs := { d0.crs with ctrl := d0.num CRS_CTRL } }).keyLive
    if !d1.crsOn then d1.crsCheck
    else
      let p := d1.fld CRS_TIMERS CRS_TIMERS_HELLO_MS * ms1
      let d2 := d1.helloNow
      d2.startT tHello (if at_ + p ≤ d2.tk.osc then p else at_ + p - d2.tk.osc)

/-- HELLO_RX (R663, R665). -/
def Dev.helloRx (d : Dev) : Dev :=
  match d.takeCrs csHELLO with
  | (e, none) => e
  | (e, some (i, _, m)) =>
    let p := cmPay m
    let s := leNat (slice p 0 8)
    let n := leNat (slice p 8 2)
    let h := (e.crsLink i).heard
    let h' := if h.contains s then s :: h.filter (fun x => x != s) else s :: h
    let multi := decide (2 ≤ h'.length)
    let named := leNat (slice p 12 4) == Config.serial.toNat % 2 ^ 32
    let st := if multi then adINIT else if named || e.adj i == adFULL then adFULL else adINIT
    let e1 := ({ e with crs := { e.crs with links := Tbl.set e.crs.links {} i { heard := h' } } }).setAdj i st multi n
    let e2 := (e1.stopT (tDead i)).startT (tDead i) (e.fld CRS_TIMERS CRS_TIMERS_DEAD_MS * ms1)
    if e.txKey.isNone then e else (e2.crsCollide n s).crsCheck

/-- DEAD_MS_EXPIRY of a link (R663). -/
def Dev.deadExpiry (d : Dev) (i : Nat) : Dev :=
  if d.runsT (tDead i) ∧ !d.bit GLB_STATE GLB_STATE_GAP then
    let d1 := d.dueT (tDead i)
    ({ d1.setAdj i adDOWN false 0 with crs := { d1.crs with links := Tbl.set d1.crs.links {} i {} } }).crsCheck
  else d

/-- The adjacency entries that bytes spell. -/
def adjsOf : Nat → List Byte → List CrsAdj
  | 0, _ => []
  | n + 1, l =>
    if l.length < 8 then []
    else ⟨leNat (slice l 0 2), leNat (slice l 2 2), leNat (slice l 4 2), byteAt l 6 % 4⟩ :: adjsOf n (l.drop 8)

/-- CRS_DB (R667, R678). -/
def Dev.showDb (d : Dev) : Dev := d.putNum CRS_DB (min 0xFFFF d.crs.db.length * 0x10000 + min 0xFFFF d.crs.routes.length)

/-- Whether an LSR of a start and number is newer than one held (R667), and whether it is the same one. -/
def lsrNewer (boot seq : Nat) (l : Lsr) : Bool :=
  let b := signedOf 16 ((boot + 0x10000 - l.boot) % 0x10000)
  decide (0 < b) || (b == 0 && decide (l.seq < seq))
def lsrSame (boot seq : Nat) (l : Lsr) : Bool := l.boot == boot && l.seq == seq

/-- LSR_RX (R665, R667): a newer LSR, or the other fragment of the one held, is stored and flooded on. -/
def Dev.lsrRx (d : Dev) : Dev :=
  match d.takeCrs csLSR with
  | (e, none) => e
  | (e, some (i, _, m)) =>
    let p := cmPay m
    let node := cmSrc m
    let serial := leNat (slice p 0 8)
    let seq := leNat (slice p 8 4)
    let boot := cmBoot m
    let adjs := adjsOf 174 (p.drop 24)
    let e0 := e.crsCollide node serial
    if serial = Config.serial.toNat ∨ node = 0 ∨ node = 0xFFFF ∨ node = e0.crs.id then e0
    else
      let held := e0.crs.db.find? (fun l => l.node == node)
      let base : Option Lsr :=
        match held with
        | none => if e0.crs.db.length < 65534 then some ⟨node, serial, boot, seq, byteAt p 12, byteAt p 13, leNat (slice p 14 2), [], [], 0⟩ else none
        | some l =>
          if serial < l.serial ∨ (serial = l.serial ∧ lsrNewer boot seq l) then
            some ⟨node, serial, boot, seq, byteAt p 12, byteAt p 13, leNat (slice p 14 2), [], [], 0⟩
          else if serial = l.serial ∧ lsrSame boot seq l ∧ cmFrags m = 2 ∧ (if cmFrag m = 0 then l.frag0 else l.frag1).isEmpty then some l
          else none
      match base with
      | none => e0
      | some l =>
        let l' := if cmFrag m = 0 then { l with frag0 := adjs, at_ := e0.tk.osc } else { l with frag1 := adjs, at_ := e0.tk.osc }
        let e1 := ({ e0 with crs := { e0.crs with db := l' :: e0.crs.db.filter (fun x => x.node != node) } }).showDb
        let e2 := (e1.stopT (tAge node)).startT (tAge node) e1.maxAge
        let e3 := if node = e2.crsWant ∧ e2.crs.lost then (e2.stopT tClaim).startT tClaim e2.maxAge else e2
        e3.crsForward m (fun f x => f.crsFlood (some i) x)

/-- LSR_MAXAGE_EXPIRY of a node (R667): its LSR is removed, and it is unreachable. -/
def Dev.lsrExpiry (d : Dev) (n : Nat) : Dev :=
  if d.runsT (tAge n) ∧ !d.bit GLB_STATE GLB_STATE_GAP then
    let d1 := d.dueT (tAge n)
    let c : CrsSt := { d1.crs with db := d1.crs.db.filter (fun l => l.node != n), routes := d1.crs.routes.filter (fun r => r.node != n) }
    let d2 : Dev := ({ d1 with crs := c } : Dev).showDb
    if n = d2.crsWant ∧ d2.crs.lost then (d2.stopT tClaim).startT tClaim d2.maxAge else d2
  else d

/-- What a node lists: its LSR's entries, or this node's own. -/
def Dev.listed (d : Dev) (own : List CrsAdj) (n : Nat) : List CrsAdj :=
  if n = d.crs.id then own
  else match d.crs.db.find? (fun l => l.node == n) with | some l => l.frag0 ++ l.frag1 | none => []

/-- The better of two routes to one node: the lower cost, then the lower first hop, then the lower link (R668). -/
def Route.better (a b : Route) : Bool :=
  decide (a.cost < b.cost ∨ (a.cost = b.cost ∧ (a.hop < b.hop ∨ (a.hop = b.hop ∧ a.link < b.link))))

/-- A route taken into a set where it is better than the one there. -/
def takeRoute (l : List Route) (r : Route) : List Route :=
  match l.find? (fun x => x.node == r.node) with
  | some x => if r.better x then r :: l.filter (fun y => y.node != r.node) else l
  | none => r :: l

/-- One round of shortest paths: every route of the set extended by the links of its end. -/
def Dev.extendRoutes (d : Dev) (own : List CrsAdj) (l : List Route) : List Route :=
  l.foldl (fun acc r =>
    ((d.listed own r.node).filter (fun a => a.node != d.crs.id && (d.listed own a.node).any (fun b => b.node == r.node))).foldl
      (fun acc a => takeRoute acc ⟨a.node, r.cost + a.cost, r.hop, r.link⟩) acc) l

/-- The rounds, as many as there are nodes. -/
def Dev.shortest (d : Dev) (own : List CrsAdj) : Nat → List Route → List Route
  | 0, l => l
  | n + 1, l => let l' := d.extendRoutes own l; if l' = l then l else Dev.shortest d own n l'

/-- ROUTE_COMPUTATION (R668). -/
def Dev.routeCompute (d : Dev) : Dev :=
  if d.bit GLB_STATE GLB_STATE_GAP then d
  else if !d.crsOn ∨ d.crs.id = 0 then ({ d with crs := { d.crs with routes := [] } }).showDb
  else
    let own := d.crsEntries
    let init := (own.filter (fun a => (d.listed own a.node).any (fun b => b.node == d.crs.id))).foldl
      (fun l a => takeRoute l ⟨a.node, a.cost, a.node, a.link⟩) []
    ({ d with crs := { d.crs with routes := d.shortest own d.crs.db.length init } }).showDb

/-! ### Keys (R670, R673) -/

/-- The PARAMS of a CRESOR_SEND. -/
def csOp (p : List Byte) : Nat := byteAt p 0
def csSlot (p : List Byte) : Nat := byteAt p 1
def csDest (p : List Byte) : Nat := leNat (slice p 2 2)
def csTimeout (p : List Byte) : Nat := leNat (slice p 4 2)
def csKeyId (p : List Byte) : Nat := leNat (slice p 6 2)
def csPerm (p : List Byte) : Nat := byteAt p 28
def csFlags (p : List Byte) : Nat := byteAt p 29

/-- The opcodes that may be carried, with the PERM bit each needs (R671). -/
def crsPermOf (op : Nat) : Option Nat :=
  if op = 0x01 ∨ op = 0x30 ∨ op = 0x43 then some 0
  else if op = 0x02 ∨ op = 0x50 then some 1
  else if op = 0x11 ∨ op = 0x20 ∨ op = 0x21 then some 2
  else if op = 0x40 then some 3 else none

/-- The checks of R673 but the wear limit; `carried` is the opcode of the entry that a REQUEST carries. -/
def Dev.cresorStatus (d : Dev) (p : List Byte) (carried : Nat) : Nat :=
  let op := csOp p
  if !(decide (1 ≤ op ∧ op ≤ 3)) ∨ !zeros (slice p 30 10) ∨ 32 ≤ csPerm p ∨ 4 ≤ csFlags p ∨
      (if op = 1 then csSlot p ≠ 0 ∨ !(decide (1 ≤ csTimeout p ∧ csTimeout p ≤ 60000)) ∨ (crsPermOf carried).isNone
       else 4 ≤ csSlot p ∨ (op = 2 ∧ csKeyId p = 0)) then stBAD_PARAM
  else if d.crsCtl CRS_CTRL_ENABLE = 0 ∨ (op = 1 ∧ (d.crs.id = 0 ∨ d.txKey.isNone)) then stNOT_PERMITTED
  else if op = 1 ∧ (csDest p = d.crs.id ∨ (csDest p ≠ 0xFFFF ∧ (d.route (csDest p)).isNone)) then stBAD_PARAM
  else if 64 ≤ d.crs.reqs.length then stBUSY
  else if op ≠ 1 ∧ d.keepWorn (CRS_KEY_INFO (csSlot p)) then stWEAR_LIMIT
  else stOK

/-- KEY_LOAD with the key read from host memory, and KEY_CLEAR (R670, R691): completed once committed. -/
def Dev.keyCommand (d : Dev) (p key : List Byte) (owner : Nat × Nat) : Dev × Option Ans :=
  let st := d.cresorStatus p 0
  if st ≠ stOK then (if st = stWEAR_LIMIT then d.bump TRUST_KEEP_REFUSED 1 else d, some { status := st })
  else
    let item := CRS_KEY_INFO (csSlot p)
    let v := if csOp p = 2 then (KeySlot.mk (slice key 0 48) (csKeyId p) (csPerm p) (csFlags p)).num else 0
    let now := match Tbl.get d.crs.keys none (csSlot p) with | some k => k.num | none => 0
    if now = v ∧ d.keepPending item = 0 then (d, some { status := stOK }) else (d.keepStart item v (some owner), none)

/-! ### Outstanding requests (R673 to R675) -/

/-- CRESOR_SEND REQUEST with the command entry read from ADDR: its TAG is replaced by one that the manual leaves to the module. With no node
reachable a flooded one has no answer to wait for (R675). -/
def Dev.requestSend (d : Dev) (p entry : List Byte) (owner : Nat × Nat) : Dev × Option Ans :=
  let st := d.cresorStatus p (byteAt entry 0)
  if st ≠ stOK then (d, some { status := st })
  else
    let corr := d.crs.corr
    let all := csDest p == 0xFFFF
    let nodes := if all then d.crs.routes.map (fun r => r.node) else []
    let e := patch entry 2 (leBytes 1 (d.free % 256))
    let r : CrsReq := { corr := corr, owner := owner, dest := csDest p, addr := leNat (slice p 16 8), len := leNat (slice p 24 4), silent := nodes }
    if all ∧ nodes.isEmpty then (d.took.crsSend csREQUEST (csDest p) corr 0 1 e, some { status := stOK })
    else
      let d1 := { d.took with crs := { d.crs with corr := (corr + 1) % 2 ^ 32, reqs := d.crs.reqs ++ [r] } }
      ((d1.crsSend csREQUEST (csDest p) corr 0 1 e).startT (tReq corr) (csTimeout p * ms1), none)

/-- An outstanding request ends with an answer. -/
def Dev.reqEnd (d : Dev) (r : CrsReq) (a : Ans) : Dev :=
  (({ d with crs := { d.crs with reqs := d.crs.reqs.filter (fun x => x.corr != r.corr) } }).stopT (tReq r.corr)).finish r.owner.1 r.owner.2 a

/-- What a REQUEST to all nodes answers (R675). -/
def CrsReq.allAns (r : CrsReq) : Ans :=
  { status := if r.bad = 0 ∧ r.silent.isEmpty then stOK else stDEGRADED, result := r.good, value := r.bad * 0x10000 + r.silent.length }

/-- The whole of a response, once every fragment has come. -/
def CrsReq.whole (r : CrsReq) : Option (List Byte) :=
  if r.count ≠ 0 ∧ (List.range r.count).all (fun k => r.frags.any (fun e => e.1 == k)) then
    some ((List.range r.count).flatMap (fun k => Tbl.get r.frags [] k))
  else none

/-- RESPONSE_RX (R674, R675). -/
def Dev.responseRx (d : Dev) : Dev :=
  match d.takeCrs csRESPONSE with
  | (e, none) => e
  | (e, some (_, _, m)) =>
    match e.crs.reqs.find? (fun r => r.corr == cmCorr m && (r.dest == 0xFFFF || r.dest == cmSrc m)) with
    | none => e
    | some r =>
      let p := cmPay m
      if r.dest = 0xFFFF then
        if !r.silent.contains (cmSrc m) then e
        else
          let st := byteAt p 1
          let rec8 := leBytes 2 (cmSrc m) ++ leBytes 1 st ++ [0] ++ slice p 4 4
          let room := decide (r.written + 8 ≤ r.len)
          let e1 := if room then e.hostWrite (r.addr + r.written) rec8 else e
          let r1 := { r with silent := r.silent.erase (cmSrc m), written := if room then r.written + 8 else r.written,
                             good := if st = 0 then r.good + 1 else r.good, bad := if st = 0 then r.bad else r.bad + 1 }
          if r1.silent.isEmpty then e1.reqEnd r1 r1.allAns
          else { e1 with crs := { e1.crs with reqs := e1.crs.reqs.map (fun x => if x.corr = r.corr then r1 else x) } }
      else
        let r1 := { r with frags := Tbl.insert r.frags (cmFrag m) p, count := cmFrags m }
        match r1.whole with
        | none => { e with crs := { e.crs with reqs := e.crs.reqs.map (fun x => if x.corr = r.corr then r1 else x) } }
        | some b =>
          let e1 := e.hostWrite r.addr (b.take r.len)
          let t := if byteAt b 3 / 2 % 2 = 1 then twOfBytes (slice b 16 12) else none
          e1.reqEnd r { status := if r.len < b.length then stDEGRADED else stOK, result := byteAt b 1, value := leNat (slice b 8 8), time := t }

/-- CRESOR_REQUEST_TIMEOUT of a request (R674, R675). -/
def Dev.requestTimeout (d : Dev) (corr : Nat) : Dev :=
  match d.crs.reqs.find? (fun r => r.corr == corr) with
  | none => d
  | some r =>
    let d1 := d.dueT (tReq corr)
    if r.dest = 0xFFFF then d1.reqEnd r r.allAns else d1.reqEnd r { status := stDEGRADED, result := 0xFFFFFFFF }

end Sys2Proof.Machine
end

