-- ==== Sys2Proof/Machine/Actions.lean ====
section
/-! DEFINITION. What each type of Timeline action does when it fires, arming a swap of rule sets, and cancelling (R81, R87, R88, R95, R98,
R186, R438, R439, R522, R525, R716). -/

namespace Sys2Proof.Machine

/-- A program of TOA or TOB becoming active (R186, R188, R210): a pulse in progress ends, and edges are those of the new program. -/
def Dev.outProgram (d0 : Dev) (o : Nat) : Dev :=
  let d := (d0.outUpTo o d0.tk.time).outCut o
  let d1 := (d.put (PTE_OUT_ACTIVE0 o) (d.get (PTE_OUT_PEND0 o))).put (PTE_OUT_ACTIVE1 o) (d.get (PTE_OUT_PEND1 o))
  (d1.live (PTE_OUT_STATUS o) PTE_OUT_STATUS_PROG false).stick (PTE_OUT_STATUS o) PTE_OUT_STATUS_PROG

/-- PROG_LIVE: whether a pending word of an output differs from its active word (R210). -/
def Dev.outLive (d : Dev) (o : Nat) : Dev :=
  d.live (PTE_OUT_STATUS o) PTE_OUT_STATUS_PROG
    (d.get (PTE_OUT_PEND0 o) != d.get (PTE_OUT_ACTIVE0 o) || d.get (PTE_OUT_PEND1 o) != d.get (PTE_OUT_ACTIVE1 o))

/-- An armed action with its slot's copy as the store holds it now. -/
def Dev.actIn (d : Dev) (a : Action) : Action := (d.tl.acts.find? (fun b => b.slot == a.slot)).getD a

/-- The stage at T - 4 µs of a SHADOW_HANDOVER (R522), or what stands for it where the action is late (R525): a set sealed after T - 4 µs does not
count, whenever the stage is judged. -/
def Dev.captureStage (d : Dev) (a : Action) (late : Bool) : Dev :=
  if a.captured ∨ a.missed then d
  else
    let d1 := d.capture a (if late then 4000 * ns1 else d.coreTime - (a.trigger - 4000 * ns1))
    { d1 with tl := { d1.tl with acts := d1.tl.acts.map (fun b => if b.slot = a.slot ∧ !b.captured then { b with missed := true } else b) } }

/-- ADMIN of port `n` decided by an action in this cycle (R98). -/
def Dev.adminDecided (d : Dev) (n : Nat) : Dev :=
  { d with tl := { d.tl with setPorts := n :: (if d.tl.setAt = d.tk.osc then d.tl.setPorts.filter (fun m => m != n) else []), setAt := d.tk.osc } }

/-- Whether an action has decided ADMIN of port `n` in this cycle, after which a command does not change it (R98). -/
def Dev.adminHeld (d : Dev) (n : Nat) : Bool := d.tl.setAt == d.tk.osc && d.tl.setPorts.contains n

/-- The effect of an action at the present instant, and whether it was MISSED. A swap is chosen by stamp from its TRIGGER on, late or not
(R101, R103). -/
def Dev.actEffect (d : Dev) (a : Action) : Dev × Bool :=
  if a.typ = actEPOCH_SWAP then (d.swapTo (byteAt a.args 0 % 2) a.trigger, false)
  else if a.typ = actSHADOW_HANDOVER then
    (if a.captured then (a.targets.foldl (fun e t => e.handOver t.1 t.2) d, false)
     else (a.targets.foldl (fun e t => e.handMissed t.1 t.2) d, true))
  else if a.typ = actPORT_ADMIN then
    (a.targets.foldl (fun e t => (e.portAdmin t.2 (byteAt a.args 0 == 1)).adminDecided t.2) d, false)
  else if a.typ = actTIME_OUTPUT_PROGRAM then (d.outProgram (byteAt a.args 0 % 2), false)
  else if a.typ = actCOUNTER_SWEEP_START then (d.sweepAction (leNat (slice a.args 0 2)), false)
  else (d.calWindow a.args, false)

/-- An action firing: `lag` is how far after TRIGGER the firing cycle lies in its store's time, `late` that TRIGGER has been passed by a step or a
power state (R68, R88, R716). It leaves its store, acts, and writes its record. -/
def Dev.fire (d : Dev) (a : Action) (late : Bool) (lag : Nat) : Dev :=
  let t := effectTime a lag
  let d1 := if late then d else d.advanceTo (d.tk.time + d.untilStore a.typ t)
  let d2 := if a.typ = actSHADOW_HANDOVER then d1.captureStage a (late || a.late) else d1
  let r := (d2.disarm a 1).actEffect (d2.actIn a)
  r.1.fireRecord a (if r.2 then outMISSED else a.outcome late) (if late then d1.storeTime a.typ else t)

/-- Whether the store of an action can fire it: the core package runs, for those of the Core die (R716). -/
def Dev.storeUp (d : Dev) (a : Action) : Bool := if coreStore a.typ then d.blockUp bkCORE else decide (d.pwrState ≤ 3)

/-- The order of two actions of one firing instant: by rank, then by TRIGGER (R81). -/
def Action.ranked (a b : Action) : Bool :=
  decide (rankOf a.typ < rankOf b.typ ∨ (rankOf a.typ = rankOf b.typ ∧ (a.trigger < b.trigger ∨ (a.trigger = b.trigger ∧ a.slot ≤ b.slot))))

/-- The order in which actions fire in the course of time: by TRIGGER, then by rank (R81, R716). -/
def Action.before (a b : Action) : Bool := decide (a.trigger < b.trigger) || (a.trigger == b.trigger && a.ranked b)

/-- An action put in its place under an order. -/
def placeAct (le : Action → Action → Bool) (a : Action) : List Action → List Action
  | [] => [a]
  | b :: r => if le a b then a :: b :: r else b :: placeAct le a r

/-- Actions in an order. -/
def inOrder (le : Action → Action → Bool) (l : List Action) : List Action := l.foldr (placeAct le) []

/-- Every armed action of the chosen ones whose TRIGGER lies in the past of its store fires at the present instant, DONE_LATE: at a step, which is
one firing instant, by rank (R68, R81); on a return to S0 in TRIGGER order (R716). -/
def Dev.fireOverdue (d : Dev) (sel : Action → Bool) (atStep : Bool) : Dev :=
  (inOrder (if atStep then Action.ranked else Action.before)
      (d.tl.acts.filter (fun a => decide (a.trigger ≤ d.storeTime a.typ) && d.storeUp a && sel a))).foldl
    (fun e a => if e.tl.acts.any (fun b => b.slot == a.slot) then e.fire (e.actIn a) true 0 else e) d

/-- One armed action firing at its instant, its targets captured 4 µs before it where that has not been done yet (R522). -/
def Dev.fireOne (d : Dev) (a : Action) (lag : Nat) : Dev :=
  if a.typ = actSHADOW_HANDOVER ∧ !a.captured ∧ !a.missed ∧ !a.late then
    let d1 := (d.advanceTo (d.tk.time + d.untilStore a.typ (a.trigger - 4000 * ns1))).captureStage a false
    d1.fire (d1.actIn a) false lag
  else d.fire a false lag

/-- The next action of a type firing at its instant: armed actions of equal TRIGGER and lower rank fire first (R81). -/
def Dev.fireNext (d : Dev) (typ lag : Nat) : Dev :=
  match inOrder Action.before (d.tl.acts.filter (fun a => a.typ == typ && d.storeUp a)) with
  | a :: _ =>
    let first := inOrder Action.ranked (d.tl.acts.filter (fun b => b.trigger == a.trigger && decide (rankOf b.typ < rankOf typ) && d.storeUp b))
    let d1 := first.foldl (fun e b => e.fireOne (e.actIn b) lag) d
    d1.fireOne (d1.actIn a) lag
  | [] => d

/-- HANDOVER_CAPTURE: the next SHADOW_HANDOVER not yet judged reaches T - 4 µs (R522). -/
def Dev.captureNext (d : Dev) : Dev :=
  match inOrder Action.before
      (d.tl.acts.filter (fun a => a.typ == actSHADOW_HANDOVER && !a.captured && !a.missed && !a.late && d.storeUp a)) with
  | a :: _ => (d.advanceTo (d.tk.time + d.untilCore (a.trigger - 4000 * ns1))).captureStage a false
  | [] => d

/-- An action cancelled or aborted gives back what it held (R439, R522). -/
def Dev.release (d : Dev) (a : Action) : Dev :=
  if a.typ = actEPOCH_SWAP then
    let k := byteAt a.args 0 % 2
    (if (d.bank k).state = bkARMED then d.bankState k bkSEALED else d).clsLive
  else if a.typ = actSHADOW_HANDOVER then d.uncapture a else d

/-- TIMELINE_CANCEL of a handle (R93, R95). -/
def Dev.timelineCancel (d : Dev) (p : List Byte) : Dev × Ans :=
  let h := leNat (slice p 0 4)
  if !zeros (slice p 4 36) then (d, { status := stBAD_PARAM })
  else
    let st := d.cancelStatus h
    match (if st = stOK then d.actionOf h else none) with
    | some a => (((d.release a).disarm a 0).fireRecord a outCANCELLED 0, { status := stOK, time := d.when d.tk.time })
    | none => (d, { status := st })

/-- The checks of EPOCH_ARM (R85, R97, R438). -/
def Dev.armStatus (d : Dev) (par : List Byte) : Nat :=
  let flags := leNat (slice par 13 1)
  let args := slice par 28 12
  match twOfBytes (slice par 0 12) with
  | none => stBAD_PARAM
  | some trig =>
    if byteAt par 12 ≠ 1 ∨ 4 ≤ flags ∨ !zeros (slice par 14 2) ∨ !zeros (slice par 22 2) ∨ leNat (slice par 16 4) ≠ 0x0D000000 ∨
        leNat (slice par 20 2) ≠ 1 ∨ 2 ≤ byteAt args 0 ∨ !zeros (slice args 1 3) ∨ !zeros (slice args 8 4) then stBAD_PARAM
    else if d.tl.held.any (fun a => a.typ == actEPOCH_SWAP) then stBUSY
    else if (d.bank (byteAt args 0)).state ≠ bkSEALED ∨ (d.bank (byteAt args 0)).ruleset ≠ leNat (slice args 4 4) then stNOT_PERMITTED
    else if !d.setLive then stNOT_PERMITTED
    else if decide (trig < d.tk.time + minLead actEPOCH_SWAP) && flags % 2 == 0 then stTOO_LATE
    else if decide (4096 ≤ d.tl.held.length) then stNO_SPACE
    else stOK

/-- EPOCH_ARM (R87, R438): the swap is armed and the bank becomes ARMED. -/
def Dev.epochArm (d : Dev) (par : List Byte) (fab : Bool) : Dev × Ans :=
  let now := d.tk.time
  let st := d.armStatus par
  if st ≠ stOK then (d, { status := st, time := d.when now })
  else
    let flags := leNat (slice par 13 1)
    let trig := (twOfBytes (slice par 0 12)).getD 0
    let short := decide (trig < now + minLead actEPOCH_SWAP)
    let k := byteAt par 28
    let a : Action :=
      { slot := 0, gen := 0, trigger := if short then now + minLead actEPOCH_SWAP else trig, typ := actEPOCH_SWAP, notify := flags / 2 % 2 == 1,
        fabric := fab, target := 0x0D000000, count := 1, userTag := leNat (slice par 24 4), args := slice par 28 12, late := short }
    let r := d.arm a
    ((r.1.bankState k bkARMED).clsLive, { status := stOK, result := r.2.handle, time := d.when now })

/-- Every armed action of both stores discarded without records (R100, R714). -/
def Dev.discardActs (d : Dev) : Dev := { d with tl := { d.tl with acts := [], cleared := [] } }

/-- The Core die store cleared by a data-plane reset, its actions kept aside by Eodin (R100). -/
def Dev.clearCoreActs (d : Dev) : Dev :=
  { d with tl := { d.tl with acts := d.tl.acts.filter (fun a => !coreStore a.typ),
                             cleared := d.tl.cleared ++ d.tl.acts.filter (fun a => coreStore a.typ) } }

/-- The cleared actions loaded again where their TRIGGER lies at least the minimum lead ahead; the others are ABORTED (R100). -/
def Dev.reloadActs (d : Dev) : Dev :=
  let l := inOrder Action.before d.tl.cleared
  let ok (a : Action) : Bool := decide (d.tk.time + minLead a.typ ≤ a.trigger)
  let back := (l.filter ok).map (fun a => { a with captured := false, missed := false })
  let d1 := { d with tl := { d.tl with acts := back ++ d.tl.acts, cleared := [] } }
  (l.filter (fun a => !ok a)).foldl (fun e a => (e.release a).fireRecord a outABORTED 0) d1

end Sys2Proof.Machine
end

