-- ==== Sys2Proof/Machine/Optics.lean ====
section
/-! DEFINITION. The power switches of the optics (R739, R774, R775). -/

namespace Sys2Proof.Machine

/-- STATE of HLT_OPTIC (R775). -/
abbrev opEMPTY : Nat := 0
abbrev opLOW : Nat := 1
abbrev opHIGH : Nat := 2
abbrev opOVER : Nat := 3
abbrev opFAULT : Nat := 4
abbrev opOFF : Nat := 5

def Dev.optic (d : Dev) (c : Nat) : Option Optic := Tbl.get d.optics none c
def Dev.setOptic (d : Dev) (c : Nat) (x : Option Optic) : Dev := { d with optics := Tbl.set d.optics none c x }
/-- The BUDGET in force at a cage (R774); its reset value before any insertion. -/
def Dev.budget (d : Dev) (c : Nat) : Nat := Tbl.get d.pwr.budgets 0x48 c
def Dev.takeBudget (d : Dev) (c : Nat) : Dev :=
  { d with pwr := { d.pwr with budgets := Tbl.set d.pwr.budgets 0x48 c (d.fld (HLT_OPT_CTRL c) HLT_OPT_CTRL_BUDGET) } }

def Dev.opticState (d : Dev) (c : Nat) : Nat := d.fld (HLT_OPTIC c) HLT_OPTIC_STATE

/-- A cage's switch in a state, drawing a power: STATE, POWER, the FAULT triplet, the count of faults, and OPT of HLT_STATUS
(R739, R772, R775). -/
def Dev.setOpticState (d : Dev) (c s drawn : Nat) : Dev :=
  let p := HLT_OPTIC c
  let was := d.opticState c
  let d1 := ((d.setFld p HLT_OPTIC_STATE s).setFld p HLT_OPTIC_POWER drawn).live p HLT_OPTIC_FAULT (s == opFAULT)
  let d2 := if s = opFAULT ∧ was ≠ opFAULT then
      ((d1.stick p HLT_OPTIC_FAULT).bump (HLT_OPT_FAULTS c) 1).stick HLT_STATUS HLT_STATUS_OPT
    else d1
  d2.live HLT_STATUS HLT_STATUS_OPT ((List.range 64).any (fun k => d2.bit (HLT_OPTIC k) HLT_OPTIC_FAULT))

/-- A switch turned on, where it may be: low-power mode, and high-power mode within BUDGET (R739); OFF while POWER_EN is 0 or the
optics are unpowered, in S2 to S4 (R713, R775). A switch in FAULT stays so. -/
def Dev.opticPower (d : Dev) (c : Nat) : Dev :=
  match d.optic c with
  | none => d.setOpticState c opEMPTY 0
  | some o =>
    if d.fld (HLT_OPT_CTRL c) HLT_OPT_CTRL_POWER_EN = 0 then d.setOpticState c opOFF 0
    else if d.opticState c = opFAULT then d
    else if 2 ≤ d.fld PWR_STATUS PWR_STATUS_STATE then d.setOpticState c opOFF 0
    else if o.max ≤ d.budget c then d.setOpticState c opHIGH o.high
    else d.setOpticState c opOVER o.low

/-- The switches after a change of power state: those on stay as they are, those off follow it. -/
def Dev.opticsRefresh (d : Dev) : Dev :=
  d.optics.foldl (fun e k =>
    if 2 ≤ e.fld PWR_STATUS PWR_STATUS_STATE ∨ e.opticState k.1 = opOFF then e.opticPower k.1 else e) d

/-- OPTIC_INSERTION (R739): an optic is plugged, its advertised maximum power and what it draws in each mode given. -/
def Dev.opticInsert (d : Dev) (c : Nat) (o : Optic) : Dev :=
  if (d.optic c).isSome then d else (((d.setOptic c (some o)).setFld (HLT_OPTIC c) HLT_OPTIC_PRESENT 1).takeBudget c).opticPower c

/-- OPTIC_REMOVAL (R739): the switch's FAULT is released. -/
def Dev.opticRemove (d : Dev) (c : Nat) : Dev :=
  ((d.setOptic c none).setFld (HLT_OPTIC c) HLT_OPTIC_PRESENT 0).setOpticState c opEMPTY 0

/-- OPTIC_OVERCURRENT (R739): the switch turns off. A switch that is off draws no current. -/
def Dev.opticOver (d : Dev) (c : Nat) : Dev :=
  let s := d.opticState c
  if s = opLOW ∨ s = opHIGH ∨ s = opOVER then d.setOpticState c opFAULT 0 else d

/-- A write of HLT_OPT_CTRL: clearing POWER_EN turns the switch off; setting it powers the cage, with the BUDGET now in force
(R739, R774). -/
def Dev.opticCtrlTake (d : Dev) (c v : Nat) : Dev :=
  let was := d.fld (HLT_OPT_CTRL c) HLT_OPT_CTRL_POWER_EN
  let d1 := d.writeWord (HLT_OPT_CTRL c) v
  if was = d1.fld (HLT_OPT_CTRL c) HLT_OPT_CTRL_POWER_EN then d1 else (if was = 0 then d1.takeBudget c else d1).opticPower c

end Sys2Proof.Machine
end

