-- ==== Sys2Proof/Machine/Writes.lean ====
section
/-! DEFINITION. Writes of parameters: for each item, the status of a write and what an accepted write does (R640, and the rules of each
item's own chapter). -/

namespace Sys2Proof.Machine

/-- The class, instance and item of a parameter ID (R19). -/
def idClass (p : Nat) : Nat := p / 0x1000000
def idInst (p : Nat) : Nat := p / 0x1000 % 0x1000
def idItem (p : Nat) : Nat := p % 0x1000

/-- The value an item will hold once a write of several items takes effect. -/
def Dev.after (d : Dev) (ws : List (Nat × Nat)) (p : Nat) : Nat :=
  match ws.find? (fun w => w.1 == p) with
  | some w => w.2
  | none => d.num p

/-- Whether a field of a written word lies outside its range. -/
def FldRange.bad (r : FldRange) (v : Nat) : Bool :=
  let x : Int := if r.signed then signedOf r.w (bitsAt v r.lo r.w) else (bitsAt v r.lo r.w : Int)
  decide (x < r.min ∨ r.max < x)

/-- Whether an item belongs to a shadow set (R517). -/
def shadowItem (p : Nat) : Bool :=
  let n := idItem p
  if idClass p = 0x10 then decide (2 ≤ n ∧ n ≤ 5)
  else if idClass p = 0x11 then decide (0x100 ≤ n ∧ n < 0x500 ∧ n % 0x40 ≤ 3)
  else if idClass p = 0x12 then decide ((2 ≤ n ∧ n ≤ 5) ∨ (0x400 ≤ n ∧ n ≤ 0x7FF))
  else false

/-- Whether an item is a _SHADOW item (R518). -/
def shadowCtl (p : Nat) : Bool := decide (0x10 ≤ idClass p ∧ idClass p ≤ 0x12 ∧ idItem p = 0)

/-! ### Roles and profiles (R147, R151, R156, R159, R160) -/

/-- Whether the two Pistes would make one port a transparent clock of both kinds (R159). -/
def tcClash (a b : Nat) : Bool := (a == 1 && b == 2) || (a == 2 && b == 1)

/-- The status of a write of PTE_PISTE_CTRL (R147, R151, R159). R156 refuses the write of a port's role that SOURCE or PROFILE does not allow; it
says nothing of a write here over ports that already hold such a role, which is not refused and leaves their roles in force, DESIGN CHOICE
(assumption 80). -/
def Dev.pisteCtrlStatus (d : Dev) (k v : Nat) : Nat :=
  let old := d.get (PTE_PISTE_CTRL k)
  let w := BitVec.ofNat 96 v
  let prof := PTE_PISTE_CTRL_PROFILE.of w
  let dom := PTE_PISTE_CTRL_DOMAIN.of w
  let on := PTE_PISTE_CTRL_ENABLE.of w == 1
  let changed (f : Fld) : Bool := f.of w != f.of old
  let o := 3 - k
  let clash (i : Nat) : Bool := tcClash (tcKind on (d.role i k) prof) (tcKind (d.pzOn o) (d.role i o) (d.profile o))
  if 6 ≤ prof ∨ PTE_PISTE_CTRL_EXT_CH.of w = 3 then stBAD_PARAM
  else if !(if prof = 3 then decide (24 ≤ dom ∧ dom ≤ 43) else if prof = 4 then decide (44 ≤ dom ∧ dom ≤ 63) else decide (dom ≤ 127)) then stBAD_PARAM
  else if d.pzOn k && on && (changed PTE_PISTE_CTRL_PROFILE || changed PTE_PISTE_CTRL_DOMAIN || changed PTE_PISTE_CTRL_SOURCE ||
      changed PTE_PISTE_CTRL_EXT_CH) then stBUSY
  else if on && d.pzOn o && PTE_PISTE_CTRL_SOURCE.of w == 0 && !d.pzExt o && dom == d.fld (PTE_PISTE_CTRL o) PTE_PISTE_CTRL_DOMAIN then stBAD_PARAM
  else if on && cpInsts.any clash then stBAD_PARAM
  else stOK

/-- What a Piste keeps of its sources forgotten, as its servo starts again. -/
def PisteSt.restart (x : PisteSt) : PisteSt :=
  { x with dets := [], within := 0, beyond := 0, empty := 0, wasLocked := false, parent := none, edge := none, named := none, run := 0 }

/-- A port that is no peer-to-peer TC of an enabled Piste adds nothing on receipt, from the next refill tick (R159). -/
def Dev.rxAddOff (d : Dev) (i : Nat) : Dev :=
  if isTrunk i || d.p2pTc i then d
  else { d with pte := { d.pte with loads := Tbl.set d.pte.loads none (i - 0x100) (some 0) } }

/-- A write of PTE_PISTE_CTRL taking effect (R147, R149, R159, R161). -/
def Dev.pisteCtrlTake (d : Dev) (k v : Nat) : Dev :=
  let was := d.pzOn k
  let d1 := d.writeWord (PTE_PISTE_CTRL k) v
  let now := d1.pzOn k
  let d2 := if was = now then d1
    else if now then (d1.setPiste k (d1.piste k).restart).setPzState k pzACQUIRING
    else ((d1.setPzState k pzDISABLED).setPiste k (d1.piste k).restart).showParent k none
  let d3 := cpInsts.foldl (fun e i => (e.refreshPort i k).rxAddOff i) d2
  (d3.showOwners.portsMoved d).todLive

/-- The status of a write of PTE_PORT_ROLE of port or trunk `i` (R151, R156, R159, R160). -/
def Dev.portRoleStatus (d : Dev) (i v : Nat) : Nat :=
  let w := BitVec.ofNat 96 v
  let role (k : Nat) : Nat := (if k = 1 then PTE_PORT_ROLE_ROLE_A else PTE_PORT_ROLE_ROLE_B).of w
  let tr (k : Nat) : Nat := (if k = 1 then PTE_PORT_ROLE_TRANS_A else PTE_PORT_ROLE_TRANS_B).of w
  let bad (k : Nat) : Bool :=
    let prof := d.profile k
    decide (5 ≤ role k) ||
    (d.pzExt k && !(role k == roleDISABLED || role k == roleTC || role k == roleMASTER_ONLY)) ||
    (role k == roleTC && (isTrunk i || prof == 5)) ||
    (if prof = 3 ∨ prof = 5 then tr k != 0 else if prof = 4 then !(tr k == 1 || tr k == 2) else tr k == 3)
  let t (k : Nat) : Nat := tcKind (d.pzOn k) (role k) (d.profile k)
  if bad 1 || bad 2 || tcClash (t 1) (t 2) then stBAD_PARAM
  else if PTE_PORT_ROLE_TC_OTHER.of w = 1 ∧ (t 1 = 2 ∨ t 2 = 2) then stBAD_PARAM
  else stOK

/-- A write of PTE_PORT_ROLE taking effect: states follow the roles, and a port that is no peer-to-peer TC adds nothing on receipt (R159). -/
def Dev.portRoleTake (d : Dev) (i v : Nat) : Dev :=
  let d1 := [1, 2].foldl (fun e k => e.refreshPort i k) (d.writeWord (PTE_PORT_ROLE i) v)
  (d1.rxAddOff i).showOwners.portsMoved d

/-- The status of a write of PTE_PORT_RATES for Piste `k` (R151, R207): LOG_DELAY counts under an end-to-end profile, LOG_PDELAY under a peer-to-peer
one. -/
def Dev.ratesStatus (d : Dev) (k v : Nat) : Nat :=
  let f (lo : Nat) : Int := signedOf 4 (bitsAt v lo 4)
  let within (x lo hi : Int) : Bool := decide (lo ≤ x ∧ x ≤ hi)
  let prof := d.profile k
  let ok :=
    if prof = 3 then f 0 == -4 && f 4 == -4 && f 8 == -3
    else if prof = 4 then within (f 0) (-7) 0 && within (f 4) (-7) 0 && within (f 8) (-3) 0
    else if prof = 5 then within (f 0) (-7) 1 && within (f 12) (-4) 3 && within (f 8) (-3) 4
    else within (f 0) (-7) 1 && within (f (if prof = 1 then 12 else 4)) (-7) 5 && within (f 8) (-3) 4
  let to_ := bitsAt v 16 8
  if ok ∧ 2 ≤ to_ ∧ to_ ≤ 10 then stOK else stBAD_PARAM

/-! ### Statuses by class -/

def Dev.pteStatus (d : Dev) (ws : List (Nat × Nat)) (i n v : Nat) : Nat :=
  if i = 0 then (if n = 0 ∧ 4 ≤ PTE_CTRL_STEER_MODE.of (BitVec.ofNat 96 v) then stBAD_PARAM else stOK)
  else if i = 1 ∨ i = 2 then
    (if n = 0 then d.pisteCtrlStatus i v else if n = 0x10 then boundsStatus v 1 1000 else stOK)
  else if i = 0x200 ∨ i = 0x201 then
    (if n = 0 then (if bitsAt v 27 2 = 3 ∧ (bitsAt v 0 27 = 0 ∨ 125000000 < bitsAt v 0 27) then stBAD_PARAM else stOK)
     else if n = 1 then
       (let wd := bitsAt v 0 24
        if 5000000 < wd ∨ (wd = 0 ∧ bitsAt (d.after ws (PTE_OUT_PEND0 (i - 0x200))) 27 2 ≠ 3) then stBAD_PARAM else stOK)
     else stOK)
  else if n = 0 then d.portRoleStatus i v
  else if n = 2 then (if (signedOf 48 v).natAbs ≤ 100000 * 65536 then stOK else stBAD_PARAM)
  else if n = 3 then d.ratesStatus 1 v
  else if n = 4 then d.ratesStatus 2 v
  else stOK

def Dev.emuStatus (d : Dev) (i n v : Nat) : Nat :=
  if i = 16 then stOK
  else if n = 0 then d.emuCtrlStatus i v
  else if n = 2 then d.emuSrcStatus i v
  else if n = 3 then d.emuInputStatus i v
  else if 4 ≤ n ∧ n ≤ 6 then d.emuModeStatus i (pid 6 i n) v
  else stOK

/-- REFC items (R248, R262, R273, R283, R286). -/
def Dev.refcStatus (d : Dev) (i n v : Nat) : Nat :=
  if i = 0 then
    (if n = 0 then d.refcGlbStatus v
     else if n = 4 ∧ bitsAt v 0 24 < bitsAt v 32 16 + bitsAt v 24 8 then stBAD_PARAM
     else stOK)
  else if 0x100 ≤ i then stOK
  else if n = 0 then d.refcCtrlStatus i v
  else if n = 2 then (if d.fld (REFC_CTRL i) REFC_CTRL_ENABLE = 1 then stBUSY else stOK)
  else if 5 ≤ n ∧ n ≤ 9 then (if bitsAt v 24 24 < bitsAt v 0 24 then stBAD_PARAM else stOK)
  else stOK

/-- Clock domains (R305, R312, R313, R316). -/
def Dev.cdStatus (d : Dev) (ws : List (Nat × Nat)) (i n v : Nat) : Nat :=
  if n = 0 then pllDivStatus i v
  else if n = 0x12 then slewRateStatus (d.after ws CD_ACQ_RATE) v
  else if n = 0x13 then acqRateStatus (d.after ws CD_SLEW_RATE) v
  else if n = 0x15 then d.syncCtrlStatus v
  else stOK

/-- Whether a REPARTITION may be made (R460). -/
def Dev.mayRepartition (d : Dev) : Bool :=
  (List.range 64).all (fun c => d.cageIdle c) &&
  (List.range 2336).all (fun q => d.queue q == []) &&
  (List.range 16).all (fun k => !(Tbl.get d.dma {} (32 + k)).run)

/-- The Rink (R459, R460, R463, R490, R492). -/
def Dev.rinkStatus (d : Dev) (ws : List (Nat × Nat)) (i n v : Nat) : Nat :=
  if i = 0 then (if n = 0 ∧ v % 2 = 1 ∧ !d.mayRepartition then stBUSY else stOK)
  else if i ≤ 4 then
    (if n = 0 then
       (let sum := (List.range 4).foldl
          (fun a k => a + (if k + 1 = i then bitsAt v 0 8 else bitsAt (d.after ws (RINK_POOL_CTRL (k + 1))) 0 8) * 1024 * bufSize k) 0
        if 266338304 < sum ∨ (i = 1 ∧ bitsAt v 8 1 = 1) then stBAD_PARAM else stOK)
     else if n = 1 then (if (d.pool (i - 1)).count < bitsAt v 0 18 ∨ bitsAt v 24 18 = 0 then stBAD_PARAM else stOK)
     else stOK)
  else if n = 0 then (if bitsAt v 12 12 < bitsAt v 0 12 then stBAD_PARAM else stOK)
  else stOK

/-- SHP, POL and SLW (R519, R520, R534, R537, R715). -/
def Dev.shadowStatus (d : Dev) (ws : List (Nat × Nat)) (c i n v : Nat) : Nat :=
  if n = 0 then
    (if !d.blockUp bkCORE then stNOT_PERMITTED
     else if v % 2 = 1 then (d.shSeal c i (bitsAt v 2 1 == 1) (bitsAt v 1 1 == 1)).2
     else if bitsAt v 1 1 = 1 then (d.shOpen c i).2
     else stOK)
  else if c = 0x10 ∧ n = 4 then (if bitsAt v 24 24 < 64 ∧ d.after ws (SHP_PIR i) ≠ 0 then stBAD_PARAM else stOK)
  else if c = 0x11 ∧ 0x100 ≤ n ∧ n % 0x40 = 3 then (if 8 ≤ bitsAt v 4 4 ∧ bitsAt v 4 4 ≤ 14 then stBAD_PARAM else stOK)
  else stOK

/-- The hardware range of an equaliser stage's bounds (R544). -/
def eqRange (s : Nat) : Int × Int :=
  (([(0, 31), (0, 15), (0, 63), (-32, 31), (-64, 63), (-32, 31)] : List (Int × Int)).getD s (0, 0))

/-- Lanes (R49, R559, R561, R563, R564, R569). -/
def Dev.laneStatus (d : Dev) (i n v : Nat) : Nat :=
  if n = 0 then d.laneCtrlStatus i v
  else if n = 2 then ffeStatus v
  else if n = 3 then prbsStatus false (d.lanePam4 i) (d.laneBusy i) v
  else if n = 4 then eyeStatus (d.lanePam4 i) v
  else if 0x10 ≤ n ∧ n ≤ 0x15 then boundsStatus v (eqRange (n - 0x10)).1 (eqRange (n - 0x10)).2
  else stOK

/-- Trunks (R559, R561, R563, R564). -/
def Dev.trkStatus (d : Dev) (i n v : Nat) : Nat :=
  if n = 0 then d.trkCtrlStatus i v
  else if n = 3 then prbsStatus true false (d.trkOn i) v
  else if n = 4 then eyeStatus false v
  else stOK

/-- Sensor limits (R770). -/
def hltLimStatus (i v : Nat) : Nat :=
  let trip := signedOf 16 (bitsAt v 16 16)
  let rst := signedOf 16 (bitsAt (itemReset (HLT_LIM i)).toNat 16 16)
  if trip < signedOf 16 (bitsAt v 0 16) ∨ rst < trip ∨ (trip = 0x7FFF ∧ i ≠ 14) then stBAD_PARAM else stOK

/-- What the chapters refuse beyond access codes and ranges. -/
def Dev.specialStatus (d : Dev) (ws : List (Nat × Nat)) (p v : Nat) : Nat :=
  let i := idInst p
  let n := idItem p
  match idClass p with
  | 0x02 => if n = 2 then d.freqAdjStatus v else if n = 3 then d.phaseAdjStatus (signedOf 48 v) else if n = 6 ∨ n = 7 then stBAD_PARAM else stOK
  | 0x05 => d.pteStatus ws i n v
  | 0x06 => d.emuStatus i n v
  | 0x07 => d.refcStatus i n v
  | 0x08 => d.cdStatus ws i n v
  | 0x09 => if p = CAL_CTRL ∧ bitsAt v 32 1 = 1 then d.userClear.2 else stOK
  | 0x0A =>
    if 0x100 ≤ i then d.cageStatus (i - 0x100) v
    else if n = 0 ∧ bitsAt v 2 1 = 1 ∧ bitsAt v 4 8 ≠ 0 then stBAD_PARAM else stOK
  | 0x0E => d.rinkStatus ws i n v
  | 0x10 => d.shadowStatus ws 0x10 i n v
  | 0x11 => d.shadowStatus ws 0x11 i n v
  | 0x12 => d.shadowStatus ws 0x12 i n v
  | 0x13 => d.laneStatus i n v
  | 0x14 => d.trkStatus i n v
  | 0x15 => if p = CNT_PC_CTRL then cntPcStatus v else if p = CNT_IPFIX_CTRL then ipfixStatus v else stOK
  | 0x16 => if n = 0 then mirCtrlStatus v else if n = 1 then mirMaskStatus v else stOK
  | 0x18 =>
    if p = CRS_TIMERS then
      (if bitsAt v 16 16 < 4 * bitsAt v 32 8 ∨ bitsAt v 8 8 < 2 * bitsAt v 0 8 then stBAD_PARAM else stOK)
    else stOK
  | 0x1A => if p = PWR_VCORE_BOUNDS then boundsStatus v 650 900 else stOK
  | 0x1B => if 1 ≤ i ∧ i ≤ 16 ∧ n = 1 then hltLimStatus i v else stOK
  | _ => stOK

/-- The bits of a written word that the item gives a meaning; the others are reserved and ignored (R12). -/
def ItemDef.mask (i : ItemDef) : Nat := i.rw ||| i.w1c ||| i.wo

/-- The refusal of a BOUNDS pair (R49), which needs nothing of the loop but its hardware range. -/
def boundsOf (p v : Nat) : Nat :=
  if idClass p = 0x13 ∧ 0x10 ≤ idItem p ∧ idItem p ≤ 0x15 then boundsStatus v (eqRange (idItem p - 0x10)).1 (eqRange (idItem p - 0x10)).2 else stOK

/-- The status of a write of `v` to item `p`, one of the items `ws` written together (R19, R640, R519, R715). -/
def Dev.itemStatus (d : Dev) (ws : List (Nat × Nat)) (p v : Nat) : Nat :=
  match itemDef p with
  | none => stBAD_PARAM
  | some i =>
    if i.kind = .ro ∨ i.kind = .ctr ∨ i.kind = .rs then stNOT_PERMITTED
    else if shadowItem p && d.shState (idClass p) (idInst p) != shOPEN then stSEALED
    else if (p = TK_FREQ_ADJ ∨ p = TK_PHASE_ADJ) ∧ d.steered then stNOT_PERMITTED
    else if i.rng.any (fun r => r.bad v) then stBAD_PARAM
    else if !d.blockUp (blockOf p) && !shadowCtl p then boundsOf p (v &&& i.mask)
    else d.specialStatus ws p (v &&& i.mask)

/-! ### Writes taking effect -/

/-- A write of TK_CTRL: STEER returning to servo makes a switch-over to the Piste in ACTIVE (R177). -/
def Dev.tkCtrlTake (d : Dev) (v : Nat) : Dev :=
  let was := d.steered
  let d1 := d.writeWord TK_CTRL v
  if !was && d1.steered && decide (d1.active < 2) then d1.switchOver (d1.active + 1) else d1

def Dev.pteTake (d : Dev) (i n p v : Nat) : Dev :=
  if i = 1 ∨ i = 2 then
    (if n = 0 then d.pisteCtrlTake i v else if n = 0x10 then d.boundsTake (bwLoop i) v true else (d.writeWord p v).steerLive)
  else if i = 0x200 ∨ i = 0x201 then (d.writeWord p v).outLive (i - 0x200)
  else if 0x100 ≤ i ∧ n = 0 then d.portRoleTake i v
  else d.writeWord p v

/-- A write of CLS_PUNT_CTRL clips the limiter's credit to the new BURST (R443). -/
def Dev.puntCtrlTake (d : Dev) (r v : Nat) : Dev :=
  let c := d.puntCredit r
  let d1 := d.writeWord (CLS_PUNT_CTRL r) v
  { d1 with cls := { d1.cls with punt := Tbl.set d1.cls.punt none r (some (min c (d1.fld (CLS_PUNT_CTRL r) CLS_PUNT_CTRL_BURST * 0x100000000))) } }

/-- A write of FRER_CTRL: a change of ALG, HISTORY or RECOVER resets recovery (R401). -/
def Dev.frerCtrlTake (d : Dev) (s v : Nat) : Dev :=
  let p := FRER_CTRL s
  let d1 := d.writeWord p v
  let changed (f : Fld) : Bool := d1.fld p f != d.fld p f
  if changed FRER_CTRL_ALG || changed FRER_CTRL_HISTORY || changed FRER_CTRL_RECOVER then d1.rcvyReset s else d1

def Dev.shadowTake (d : Dev) (c i n p v : Nat) : Dev :=
  if n = 0 then
    (if v % 2 = 1 then (d.shSeal c i (bitsAt v 2 1 == 1) (bitsAt v 1 1 == 1)).1
     else if bitsAt v 1 1 = 1 then (d.shOpen c i).1 else d)
  else if c = 0x10 ∧ n = 0x20 then (if v % 2 = 1 then d.shpPut i { d.shpGet i with reset := true } else d)
  else d.writeWord p v

def Dev.laneTake (d : Dev) (i n p v : Nat) : Dev :=
  if n = 0 then d.laneCtrlTake i p v
  else if n = 3 then d.lanePrbsTake i v
  else if n = 4 then d.laneEyeTake i v
  else if 0x10 ≤ n ∧ n ≤ 0x15 then d.boundsTake (eqLoop i (n - 0x10)) v true
  else d.writeWord p v

def Dev.crsTake (d : Dev) (p v : Nat) : Dev :=
  let d1 := d.writeWord p v
  if idItem p = 0 ∧ 0x100 ≤ idInst p then d1.crsCheck else d1

/-- An accepted write of `v` to item `p` taking effect. PWR_RESET, TK_SET and Keep items are not written here. -/
def Dev.itemTake (d : Dev) (p v0 : Nat) : Dev :=
  match itemDef p with
  | none => d
  | some it =>
    let v := v0 &&& it.mask
    let i := idInst p
    let n := idItem p
    match idClass p with
    | 0x02 => if p = TK_CTRL then d.tkCtrlTake v else if p = TK_PHASE_ADJ then d.addAdj (psToU (signedOf 48 v)) else d.writeWord p v
    | 0x05 => d.pteTake i n p v
    | 0x06 => if i < 16 ∧ n = 0 then d.emuCtrlTake i v else d.writeWord p v
    | 0x07 =>
      if p = REFC_GLB_CTRL then d.refcGlbTake v
      else if p = REFC_MODEL_CTRL then (let d1 := d.writeWord p v; if bitsAt v 47 1 = 1 then d1.modelClear else d1.judgeModel)
      else if i = 0 then (candList.foldl (fun e j => e.refreshCand j) (d.writeWord p v)).showOut
      else if i < 0x100 ∧ n = 0 then d.refcCtrlTake i v
      else d.writeWord p v
    | 0x08 => if n = 0 then d.pllDivTake i v else if n = 0x15 then d.syncCtrlTake v else d.writeWord p v
    | 0x09 => if p = CAL_CTRL then d.calCtrlTake v else d.writeWord p v
    | 0x0A =>
      if 0x100 ≤ i then (let d1 := (d.cageTake (i - 0x100) v).dropFixed (i - 0x100); { d1 with cal := { d1.cal with apply := true } })
      else if n = 0 then ((d.writeWord p v).adminTake i).calPortUp i
      else d.writeWord p v
    | 0x0B => if n = 0 then d.frerCtrlTake i v else d.writeWord p v
    | 0x0D => if 0x100 ≤ i ∧ n = 0 then d.puntCtrlTake (i - 0x100) v else d.writeWord p v
    | 0x0E =>
      if p = RINK_CTRL then (if v % 2 = 1 then d.buildPools else d)
      else if 1 ≤ i ∧ i ≤ 4 ∧ n = 1 then (d.writeWord p v).judgeExh (i - 1)
      else d.writeWord p v
    | 0x10 => d.shadowTake 0x10 i n p v
    | 0x11 => d.shadowTake 0x11 i n p v
    | 0x12 => d.shadowTake 0x12 i n p v
    | 0x13 => d.laneTake i n p v
    | 0x14 => if n = 0 then d.trkCtrlTake i v else if n = 3 then d.trkPrbsTake i v else if n = 4 then d.trkEyeTake i v else d.writeWord p v
    | 0x15 => if p = CNT_IPFIX_CTRL then d.ipfixTake v else d.writeWord p v
    | 0x18 => d.crsTake p v
    | 0x1A => if p = PWR_VCORE_BOUNDS then d.vcoreBoundsTake v else if p = PWR_RESET then d else d.writeWord p v
    | 0x1B => if 0x100 ≤ i ∧ n = 0 then d.opticCtrlTake (i - 0x100) v else d.writeWord p v
    | _ => d.writeWord p v

/-- A write by itself of one item that is not Keep: refused, or taken at once. -/
def Dev.writeOne (d : Dev) (p v : Nat) : Dev × Nat :=
  let s := d.itemStatus [(p, v)] p v
  if s = stOK then (d.itemTake p v, s) else (d, s)

end Sys2Proof.Machine
end

