-- ==== Sys2Proof/Machine/Power.lean ====
section
/-! DEFINITION. Power states, resets, starts and removal (R707 to R737). -/

namespace Sys2Proof.Machine

/-- Timers: REMOVE_TIMEOUT, the 60 s for which a tripped module has been cool, and for each sensor the ms to its next comparison and the ms for which
it has lain at TRIP. -/
abbrev tRemove : Nat := tmr 29 0
abbrev tCool : Nat := tmr 36 0
abbrev tSense (i : Nat) : Nat := tmr 40 i
abbrev tTrip (i : Nat) : Nat := tmr 41 i

/-! ### Clearing a block (R707, R708) -/

/-- The block whose clearing stops a timer of the model. -/
def timerBlock (key : Nat) : Nat :=
  let k := key / 0x10000
  let i := key % 0x10000
  if k = 23 ∨ k = 24 then (if i = 0 then bkCORE else if i = 1 ∨ i = 2 ∨ i = 5 ∨ i = 7 then bkTIMING else bkPATROL)
  else if (1 ≤ k ∧ k ≤ 7) ∨ k = 16 ∨ k = 19 ∨ k = 25 then bkCORE
  else if (8 ≤ k ∧ k ≤ 15) ∨ k = 17 ∨ k = 18 ∨ (20 ≤ k ∧ k ≤ 22) then bkTIMING
  else if k = 29 ∨ k = 36 ∨ k = 40 ∨ k = 41 then bkSTANDBY
  else bkPATROL

/-- The items of a block taking the values that `f` gives, Keep items aside; its counters of time stop, its timers and the bits that
stand for a second end, and the reset is counted (R583). -/
def Dev.clearItems (d : Dev) (b : Nat) (f : Nat → Wide → Wide) : Dev :=
  let d1 := d.params.foldl (fun e k => if blockOf k.1 = b ∧ !keepItem k.1 then e.put k.1 (f k.1 k.2) else e) d
  { d1 with
    accums := d.accums.filter (fun e => blockOf e.1 != b)
    pulses := d.pulses.filter (fun q => blockOf q.item != b)
    net := { d1.net with timers := d.net.timers.filter (fun e => timerBlock e.1 != b) }
    obs := { d1.obs with gens := Tbl.set d.obs.gens 0 b (Tbl.get d.obs.gens 0 b + 1) } }

/-- Every item to its reset value. -/
def toReset (p : Nat) (_ : Wide) : Wide := itemDefault p

/-- RW bits kept and every other bit at its reset value. -/
def keepRw (p : Nat) (v : Wide) : Wide :=
  match itemDef p with
  | some i => (v &&& BitVec.ofNat 96 i.rw) ||| (itemDefault p &&& ~~~(BitVec.ofNat 96 i.rw))
  | none => itemDefault p

/-- Clock ports, candidates and levels after links of the core package have gone. -/
def Dev.linksGone (d : Dev) : Dev :=
  let d1 := ((List.range 256).foldl (fun (e : Dev) n => e.clockDrop (0x100 + n)) d).portsMoved d
  (candList.foldl (fun (e : Dev) i => e.refreshCand i) d1).crsCheck

/-- The core package cleared, its items taking the values that `f` gives (R40, R707, R720). -/
def Dev.clearCore (d : Dev) (f : Nat → Wide → Wide) : Dev :=
  let d1 := d.clearItems bkCORE f
  let n := d1.net
  let d2 := { d1 with
    lanes := [], cls := {}
    net := { timers := n.timers, ticks := n.ticks, tele := n.tele, eodinRecs := n.eodinRecs, inbox := n.inbox, returns := n.returns,
             ptpSec := n.ptpSec, ptpEvt := n.ptpEvt, ptpGen := n.ptpGen }
    tk := { d1.tk with reps := [] } }
  d2.linksGone.showFreq

/-- The Timing die cleared: it is so only where it has lost power (R709, R720). Elapsed time, by which the model measures, goes on. -/
def Dev.clearTiming (d : Dev) : Dev :=
  let d1 := d.clearItems bkTIMING toReset
  let c := d.cal
  { d1 with
    tk := { osc := d.tk.osc }, pte := {}, emu := {}, refc := {}, cd := {}, trk0 := {}, trk1 := {}
    cal := { factA := c.factA, factB := c.factB, userA := c.userA, userB := c.userB, writes := c.writes } }

/-- The Patrol die cleared (R707, R720): the store, flash and key slots are kept, and the boot pointer with them. The latch slots of the Timekeeper
window are emptied with it, and by no PERST or DATA_PLANE reset: R72 says "since reset" and names no reset, DESIGN CHOICE (assumption 92). -/
def Dev.clearPatrol (d : Dev) : Dev :=
  let t := d.trust
  let k := d.ptrBank
  let l := d.fld TRUST_IMAGE TRUST_IMAGE_PTR_LEVEL
  let d1 := d.clearItems bkPATROL toReset
  let d2 := { d1 with
    tl := {}, dma := [], crs := { keys := d.crs.keys }
    tk := { d1.tk with win := [] }
    obs := { gens := d1.obs.gens }
    trust := { keep := t.keep, flash0 := t.flash0, flash1 := t.flash1, ptrSeq := t.ptrSeq, fails := t.fails, cold := t.cold } }
  (((d2.setFld TRUST_IMAGE TRUST_IMAGE_PTR_BANK k).setFld TRUST_IMAGE TRUST_IMAGE_PTR_LEVEL l).judgeWear).keyLive

/-- Ring registers at reset and DMA channels in IDLE, commands fetched running on without posting (R617, R720). -/
def Dev.ringReset (d : Dev) : Dev :=
  let d0 := d.dma.foldl (fun e k => ((e.stopTimer (DMA_PARKED_TIME k.1)).stopT (tmr 37 k.1)).stopT (tmr 38 k.1)) d
  let d1 := d0.params.foldl (fun e k => if idClass k.1 = 0 ∧ idItem k.1 < 2 then e.put k.1 (itemDefault k.1) else e) d0
  let d2 := { d1 with dma := [], host := { d1.host with rings := [], held := [], splitRead := [], splitHeld := [], intsumSel := 0 } }
  d.host.rings.foldl (fun e k => e.setRing k.1 { inflight := k.2.inflight.map (fun c => { c with noPost := true }) }) d2

/-- The PCIe core at reset: configuration space, MSI-X tables and whatever waits to be posted (R720). -/
def Dev.pcieReset (d : Dev) : Dev :=
  { d with msix := [], host := { d.host with bme0 := false, bme1 := false, bme2 := false, held := [] } }

/-- The host link with no command in flight: nothing is posted after a restart of Eodin from the boot ROM (R635). -/
def Dev.hostGone (d : Dev) : Dev := { d with host := { d.host with rings := [], held := [], splitRead := [], splitHeld := [], intsumSel := 0 } }

/-! ### Stores and commits -/

/-- Both Timeline stores emptied without records (R714, R720): what the actions held is given back. -/
def Dev.dropActs (d : Dev) : Dev := (d.tl.acts.foldl (fun e a => e.release a) d).discardActs

/-- Running Keep commits end, and those that wait behind them are not begun (R690, R721). -/
def Dev.endCommits (d : Dev) : Dev :=
  let run := d.trust.commits.foldl (fun l c => if l.any (fun (x : Commit) => x.item == c.item) then l else l ++ [c]) []
  let d1 := { d with trust := { d.trust with commits := run, activate := none } }
  (run.foldl (fun e c => e.keepDone c.item) d1).writeEnd

/-! ### What outlives a data-plane reset or S2 (R441, R497, R530, R713) -/

/-- Items that Eodin restores after a data-plane reset: those of the Rink and its queues, and the active and shadow values of the Slalom. -/
def restored (p : Nat) (v : Wide) : Wide :=
  let c := idClass p
  if c = 0x0E ∨ c = 0x0F then keepRw p v
  else if c = 0x10 ∨ c = 0x11 ∨ c = 0x12 then (if (shPairs c).any (fun x => x.1 == idItem p || x.2 == idItem p) then v else itemDefault p)
  else itemDefault p

/-- Items that Patrol holds through S2: every RW parameter, and the active values of the Slalom. -/
def heldInS2 (p : Nat) (v : Wide) : Wide :=
  let c := idClass p
  if c = 0x10 ∨ c = 0x11 ∨ c = 0x12 then restored p v else keepRw p v

/-- A bank as it is restored (R441). -/
def Bank.restored (b : Bank) : Bank :=
  if b.state = bkSEALED ∨ b.state = bkARMED ∨ b.state = bkACTIVE then { b with inflight := 0, owner := none }
  else if b.state = bkDRAINING then { b with state := bkLOADABLE, inflight := 0, owner := none }
  else {}

/-- The core package cleared and restored: rule sets with their rules, items by `f`, buckets and gates (R441, R530). -/
def Dev.clearRestore (d : Dev) (f : Nat → Wide → Wide) : Dev :=
  let c := d.cls
  let lost (k : Nat) : Bool := let s := (d.bank k).state; s == bkLOADABLE || s == bkSEALING || s == bkCLONING
  let d0 := [0, 1].foldl
    (fun (e : Dev) k => match (d.bank k).owner with
      | some (r, t) => e.finish r t { status := stABORTED_BY_RESET }
      | none => e) d
  let d1 := d0.clearCore f
  let hide (l : Nat) : Nat := [0, 1].foldl (fun x k => if lost k then lessBank x k else x) l
  let d2 := { d1 with cls :=
    { bank0 := c.bank0.restored, bank1 := c.bank1.restored, active := c.active, swapT := c.swapT, swapEra := c.swapEra,
      exact_ := (c.exact_.map (fun e => { e with banks := hide e.banks })).filter (fun e => e.banks != 0),
      tern := c.tern.foldl (fun t r => Tbl.set t {} r.1 { r.2 with banks := hide r.2.banks }) [] } }
  let d3 := if c.bank0.state = bkDRAINING ∨ c.bank1.state = bkDRAINING then d2.stick CLS_STATUS CLS_STATUS_DRAIN else d2
  let shapers := (d.params.filter (fun k => k.1 == SHP_MODE_ACT (idInst k.1))).map (fun k => idInst k.1)
  let d4 := shapers.foldl (fun (e : Dev) s => if e.shpOn s then e.shpPut s { c := 0, p := 0 } else e) d3
  let gates := (d.params.filter (fun k => k.1 == SLW_CTRL_ACT (idInst k.1))).map (fun k => idInst k.1)
  let d5 := gates.foldl
    (fun (e : Dev) n => if e.slwOn n then ({ e with net := { e.net with gates := Tbl.set e.net.gates none n (some {}) } }).gateStep n else e) d4
  d5.clsLive

/-- Every bank that holds a sealed rule set measured (R722). -/
def Dev.measureBanks (d : Dev) : Dev :=
  [0, 1].foldl (fun e k => let b := e.bank k; if 2 ≤ b.state ∧ b.state ≤ 5 then e.measureBank k b.ruleset 2 else e) d

/-! ### Starts of the core package (R317, R441, R458, R726) -/

/-- The hardware of the core package starting: pools take their counts, chiplet links train and delays are put in force. After a power-up CD0 starts
on its bypass (R299), and CD1 and CD5 are asked to restart before any lane starts (R317). -/
def Dev.coreUp (d : Dev) : Dev :=
  let d0 := if d.pwr.corePower then ({ d with cd := { d.cd with syncPort := true, syncAsked := d.tk.time } }.bypassStart 0).showFreq else d
  let d1 := ({ d0 with pwr := { d0.pwr with coreOff := false, started := true, corePower := false },
                       cal := { d0.cal with apply := true }, trust := { d0.trust with cold := false } }).buildPools
  let d2 := (List.range 8).foldl (fun (e : Dev) k => e.uncertPorts (k + 1)) d1
  ((List.range 16).foldl (fun (e : Dev) k => e.trainBundles k) d2).opticsRefresh

/-- A start of the core package from its beginning. -/
def Dev.coreStart (d : Dev) : Dev := d.startBanks.coreUp.refreshLanes

/-- A start with what Patrol has held of it, sealing its banks again. -/
def Dev.coreBack (d : Dev) : Dev := d.measureBanks.coreUp

/-- Writes held while the core package was down taking effect in order (R715): each as if it were written now. -/
def Dev.applyHeld (d : Dev) : Dev :=
  let l := d.pwr.heldW
  l.foldl (fun e w => (e.writeOne w.1 w.2).1) { d with pwr := { d.pwr with heldW := [] } }

/-! ### Power states (R709 to R717) -/

/-- STATE taking a value; a change sets STATE_STICKY (R736). -/
def Dev.setPower (d : Dev) (s : Nat) : Dev :=
  let d1 := d.setFld PWR_STATUS PWR_STATUS_STATE s
  if d.pwrState = s then d1 else d1.stick PWR_STATUS PWR_STATUS_STATE_T

/-- The transition in progress, if any, shown in STATE_LIVE. -/
def Dev.setTarget? (d : Dev) (t : Option Nat) (owner : Option (Nat × Nat)) : Dev :=
  ({ d with pwr := { d.pwr with target := t, owner := owner } }).live PWR_STATUS PWR_STATUS_STATE_T t.isSome

/-- Every used port taken DOWN, ADMIN being kept; the flush of those that were UP begins (R713). -/
def Dev.portsDown (d : Dev) : Dev :=
  ((List.range 256).foldl (fun (e : Dev) n => if lkFLUSHING ≤ e.lpState n then e.linkFail n else e) d).refreshLanes.crsCheck

/-- Every flush completed. -/
def Dev.flushAll (d : Dev) : Dev := (List.range 256).foldl (fun (e : Dev) n => e.flushComplete n) d

/-- The removal hand-off begun (R732 step 1): the last Announces, with clockClass 255, QL-DNU, and an LSR without adjacencies. From then on no
Announce is sent, TOA and TOB are low and nothing is admitted. -/
def Dev.handOffBegin (d : Dev) : Dev :=
  let d1 := { d with pte := { d.pte with handOff := true } }
  let d2 := (List.range 256).foldl (fun (e : Dev) n => (e.announceTx n 1).announceTx n 2) d1
  let d3 := [0, 1].foldl (fun (e : Dev) t => (e.annRecordTx t).qlTx t) d2
  let d4 := (List.range 256).foldl (fun (e : Dev) n => if e.lpUp n then e.esmcEvent n else e) d3
  let d5 := d4.lsrFlood []
  ({ d5 with pwr := { d5.pwr with handOff := true } }).stopT tRemove

/-- A transition begun (R713, R732): on the way out of S0 ports go DOWN, or the hand-off runs first. -/
def Dev.moveBegin (d : Dev) (t : Nat) (owner : Option (Nat × Nat)) (removal : Bool) : Dev :=
  let d1 := d.setTarget? (some t) owner
  if removal then d1.handOffBegin else if d.pwrState = 0 then d1.portsDown else d1

/-- POWER_STATE (R712): no answer yet once it is accepted. -/
def Dev.powerState (d : Dev) (p : List Byte) (owner : Nat × Nat) : Dev × Option Ans :=
  let t := byteAt p 0
  let rm := byteAt p 1
  if 4 < t ∨ 2 ≤ rm ∨ (rm = 1 ∧ t ≠ 4) ∨ !zeros (slice p 2 38) then (d, some { status := stBAD_PARAM })
  else if d.pwr.target.isSome ∨ d.imageBusy ∨ d.cal.run.isSome then (d, some { status := stBUSY })
  else if t = d.pwrState then (d, some { status := stOK })
  else (d.moveBegin t (some owner) (rm == 1), none)

/-- Entry to S1: queues are flushed, CD0 stops, and the core voltage is LO (R711, R713). -/
def Dev.enterS1 (d : Dev) : Dev :=
  let d1 := (d.flushAll.vcoreStop.setPower 1).refreshLanes
  d1.putInt PWR_VCORE (d1.loopLo vcoreLoop)

/-- Entry to S2: tables, banks and parameters go to Patrol, and the core package and the optics lose power (R713). -/
def Dev.enterS2 (d : Dev) : Dev :=
  let d1 := (d.vcoreStop.setPower 2).clearRestore heldInS2 |>.opticsRefresh
  { d1 with pwr := { d1.pwr with corePower := true } }

/-- The completion of POWER_STATE towards S3 or S4, posted before the PCIe core loses power (R713). -/
def Dev.moveAnswer (d : Dev) (a : Ans) : Dev :=
  match d.pwr.owner with
  | some (r, t) => ({ d with pwr := { d.pwr with owner := none } }).finish r t a
  | none => d

/-- Patrol and the PCIe core lose power. -/
def Dev.patrolOff (d : Dev) : Dev :=
  let d1 := d.dropActs.hostGone.pcieReset.clearPatrol
  { d1 with host := { d1.host with linkUp := false }, trust := { d1.trust with cold := true, rom := false, booting := false }, pwr := { d1.pwr with heldW := [] } }

/-- Entry to S3 (R713, R714). -/
def Dev.enterS3 (d : Dev) : Dev := ((d.endCommits.moveAnswer {}).setPower 3).patrolOff

/-- S4: everything but the standby converter and controller has lost power (R709, R714, R720). `auto` says that the module may start again by
itself (R717). -/
def Dev.powerGone (d : Dev) (auto : Bool) (ready : Bool) : Dev :=
  let d1 := (((d.accums.foldl (fun e k => e.stopTimer k.1) d.vcoreStop).setPower 4).patrolOff.clearCore toReset).clearTiming
  let d2 := { d1 with
    host := { linkUp := false, perst := d.host.perst }
    obs := {}
    pwr := { d1.pwr with started := false, await := auto, coreOff := false, handOff := false, ready := ready, pressWait := false, autoWait := false, resetting := 0, corePower := true,
                         restore := [], crsReset := [], noImage := false, oscFail := false, heldW := [] } }
  (((d2.setTarget? none none).live PWR_STATUS PWR_STATUS_REMOVE false).stopT tRemove).opticsRefresh

/-- Entry to S4 as POWER_STATE asks for it (R713); at the end of a hand-off READY is shown and ALERT_N falls (R732, R758). -/
def Dev.enterS4 (d : Dev) : Dev :=
  let d1 := (if d.pwrState = 0 then d.flushAll else d).endCommits.moveAnswer {}
  if d.pwr.handOff then (d1.powerGone false true).alertN else d1.powerGone false false

/-- S4 at once, without hand-off and without a completion (R729, R733, R763); `cause` is what PWR_LAST_RESET shows, 0 for a trip. A commit
that runs ends: of UNDERVOLT and a trip the spec does not say so, DESIGN CHOICE (assumption 91). -/
def Dev.enterS4Now (d : Dev) (cause : Nat) (ready : Bool) : Dev :=
  if d.pwrState = 4 then d
  else
    let d1 := ({ d with pwr := { d.pwr with owner := none } }).hostGone.endCommits.powerGone true ready
    if cause = 0 then d1
    else ({ d1 with pwr := { d1.pwr with cause := cause } }).putNum PWR_LAST_RESET (0x1000000 + cause * 0x100000)

/-- Return from S2 to S1, the core package starting with what Patrol held, or from its beginning where that is lost (R713, R716, R722). -/
def Dev.leaveS2 (d : Dev) : Dev :=
  let d1 := if d.trust.cold then d.startBanks.coreUp else d.coreBack
  (({ d1 with tl := { d1.tl with acts := d1.tl.acts.map (fun (a : Action) => if coreStore a.typ then { a with captured := false, missed := false } else a) } }).setPower 1)

/-- Return from S1 to S0 (R713, R715, R716): held writes take effect, then actions whose trigger has passed, and lanes start bring-up. -/
def Dev.leaveS1 (d : Dev) : Dev := (((d.setPower 0).applyHeld.fireOverdue (fun a => coreStore a.typ) false).opticsRefresh).refreshLanes.crsCheck

/-- The request to leave that waited for a transition to end (R730). -/
def Dev.removeRaise (d : Dev) : Dev :=
  let d1 := ((({ d with pwr := { d.pwr with pressWait := false } }).live PWR_STATUS PWR_STATUS_REMOVE true).stick PWR_STATUS PWR_STATUS_REMOVE).bump
    PWR_REMOVE_REQS 1
  let t := d1.fld PWR_CTRL PWR_CTRL_REMOVE_TIMEOUT
  (if t = 0 then d1 else d1.startT tRemove (t * sec1)).alertN

/-- What follows the end of a transition: its completion, and a removal request that waited. -/
def Dev.moveEnd (d : Dev) (t : Nat) : Dev :=
  let d1 := d.moveAnswer { result := t, time := d.when d.tk.time }
  let d2 := d1.setTarget? none none
  if d2.pwr.autoWait then ({ d2 with pwr := { d2.pwr with autoWait := false } }).moveBegin 4 none true
  else if d2.pwr.pressWait ∧ d2.pwrState ≠ 4 then d2.removeRaise else d2

/-- STATE_TRANSITION_DONE (R713): the steps between the present state and TARGET, in ladder order. On the way up from S3 Eodin must run. -/
def Dev.moveDone (d : Dev) : Dev :=
  match (if d.pwr.oscFail then none else d.pwr.target) with
  | none => d
  | some t =>
    let s := d.pwrState
    if t = 4 then d.enterS4
    else if s ≤ t then
      let d1 := if s < 1 ∧ 1 ≤ t then d.enterS1 else d
      let d2 := if s < 2 ∧ 2 ≤ t then d1.enterS2 else d1
      (if s < 3 ∧ 3 ≤ t then d2.enterS3 else d2).moveEnd t
    else if d.fld GLB_STATE GLB_STATE_READY = 0 then d
    else
      let d0 := { d with pwr := { d.pwr with target := none } }
      let d1 := if 2 ≤ s ∧ t ≤ 1 then d0.leaveS2 else d0
      let d2 := if t = 0 then d1.leaveS1 else d1
      ({ d2 with pwr := { d2.pwr with target := some t } }).moveEnd t

/-! ### Starts of Eodin from the boot ROM (R683, R720, R726) -/

/-- The boot ROM starting Eodin, once MOD_RST_N is high. -/
def Dev.romStart (d : Dev) : Dev :=
  let d1 := ((d.stopTimer HB_US).putNum HB_US 0).calUnload
  if d1.pwr.modRst then d1.gapBegin else d1.coldBoot

/-- Eodin running (R620, R635): READY is set, the gap ends, the heartbeat counts, and the host link is up. -/
def Dev.eodinRuns (d : Dev) : Dev :=
  let d1 := ((d.trustReady.setFld GLB_STATE GLB_STATE_READY 1).live GLB_STATE GLB_STATE_GAP false).startTimer HB_US
  { d1 with trust := { d1.trust with rom := false }, host := { d1.host with linkUp := !d1.host.perst } }

/-- What Eodin does at the end of a start from the boot ROM (R34, R341, R722, R726): calibration and servo programs are loaded, sealed banks
measured, and the core package starts where it waits for that. -/
def Dev.eodinLoads (d : Dev) : Dev :=
  let d1 := (((d.calLoad).loadServo 0).loadServo 1).keyLive
  let d2 := { d1 with pwr := { d1.pwr with resetting := 0 } }
  if d2.pwr.target.isSome || d2.pwrState != 0 then d2
  else if d2.trust.cold then d2.coreStart.applyHeld
  else
    let d3 := d2.measureBanks
    ({ d3 with pwr := { d3.pwr with coreOff := false } }).applyHeld.refreshLanes

/-- EODIN_READY (R635): after a warm start the commands fetched before the gap complete. -/
def Dev.eodinReady (d : Dev) : Dev :=
  if !d.trust.booting || d.pwr.oscFail then d
  else if d.trust.rom then d.eodinRuns.gapPorts.postRecords.eodinLoads.ipfixTemplate
  else d.eodinRuns.gapPorts.postRecords.completeGap.ipfixTemplate

/-- A module in S3 waking for S0 (R717): Patrol has power, and Eodin starts from the boot ROM. -/
def Dev.wake (d : Dev) : Dev :=
  if d.pwrState = 3 then ([3, 4, 6].foldl (fun (e : Dev) i => e.bypassStart i) (((d.calAbort none).setPower 2).setTarget? (some 0) none)).showFreq.romStart else d

/-- A cold start (R726), its cause that of PWR_LAST_RESET: the steps up to the start of the boot ROM. The standby controller keeps its items. Network
time starts at 0 (R59), and domains with a bypass start on it (R299): the EMU's stamps are COARSE until PLL-T and the delay line have locked. -/
def Dev.coldStart (d0 : Dev) (cause : Nat) : Dev :=
  let d := d0.clearTiming
  let d1 := { d with
    pwr := { d.pwr with await := false, intlk := true, powerOn := false, trip := false, cool := false, tripShow := false, ready := false, handOff := false,
                        cause := 0, coreOff := true, started := false, resetting := 1 }
    trust := { d.trust with cold := true } }
  let d2 := (((d1.setTarget? none none).setPower 0).live PWR_STATUS PWR_STATUS_WARM true).putNum PWR_LAST_RESET (0x1000000 + cause * 0x100000)
  let d3 := if d.pwr.tripShow then (d2.live HLT_STATUS HLT_STATUS_TRIPPED true).stick HLT_STATUS HLT_STATUS_TRIPPED else d2
  let d4 := [2, 3, 4, 6].foldl (fun (e : Dev) i => e.bypassStart i) (d3.stopT tCool).opticsRefresh
  let d5 := (d4.live (CD_STATUS 1) CD_STATUS_BYPASS true).coarseLive.showFreq
  (if d5.fld PWR_VCORE_HELD HELD_SIDE = 0 then d5 else d5.startTimer PWR_VCORE_HELD_TIME).romStart

/-- Whether a cold start may begin (R726, R764): a feed lies in range and no trip awaits. -/
def Dev.mayStart (d : Dev) : Bool := (d.pwr.feedA || d.pwr.feedB) && (!d.pwr.trip || d.pwr.cool)

def Dev.autoOn (d : Dev) : Bool := d.fld PWR_KEEP_CTRL ⟨0, 1⟩ == 1

/-- COLD_START: INTLK and a feed have held for 100 ms, with AUTO_ON or a POWER_ON that waited. -/
def Dev.coldStartEvent (d : Dev) : Dev :=
  if d.pwr.await ∧ d.mayStart ∧ (d.autoOn ∨ d.pwr.powerOn) then d.coldStart (if d.pwr.powerOn ∧ d.pwrState = 4 then 6 else d.pwr.cause) else d

/-- POWER_ON (R755). -/
def Dev.powerOn (d : Dev) : Dev :=
  if d.pwrState = 3 then d.wake
  else if d.pwrState = 4 ∨ d.pwr.await then
    (if d.pwr.trip ∧ !d.pwr.cool then { d with pwr := { d.pwr with powerOn := true } }
     else if d.mayStart ∧ d.pwr.intlk then d.coldStart (if d.pwrState = 4 then 6 else 0) else d)
  else d

/-- OVEN_SETTLED (R726). -/
def Dev.ovenSettled (d : Dev) : Dev :=
  if d.pwrState < 4 ∧ !d.pwr.await ∧ d.bit PWR_STATUS PWR_STATUS_WARM then (d.live PWR_STATUS PWR_STATUS_WARM false).stick PWR_STATUS PWR_STATUS_WARM else d

/-- STANDBY_START (R728, R753): power is connected anew, and the standby controller starts with `slot` as SLOT_ID. It was without power, so
every item of it is cleared (R708). -/
def Dev.standbyStart (d : Dev) (slot : Nat) : Dev :=
  if !(d.pwrState == 4 || d.pwr.await) then d
  else
    let d1 := (d.clearItems bkSTANDBY toReset)
    let d2 := { d1 with pwr := { slot := slot }, obs := { d1.obs with gens := [] } }
    let d3 := d2.setFld PWR_STATUS PWR_STATUS_STATE 4
    let d4 := d3.optics.foldl (fun (e : Dev) k => if k.2.isSome then e.setFld (HLT_OPTIC k.1) HLT_OPTIC_PRESENT 1 else e) d3
    d4.opticsRefresh

/-! ### Resets (R720 to R725) -/

abbrev rkPOWER : Nat := 1
abbrev rkPERST : Nat := 2
abbrev rkMODULE : Nat := 3
abbrev rkWATCHDOG : Nat := 4
abbrev rkDATA_PLANE : Nat := 5
abbrev rkPATROL : Nat := 6

/-- How much a kind clears (R725); 0 for none. -/
def resetRank (k : Nat) : Nat :=
  if k = rkPOWER then 5 else if k = rkMODULE then 4 else if k = rkWATCHDOG ∨ k = rkPATROL then 3 else if k = rkDATA_PLANE then 2
  else if k = rkPERST then 1 else 0

/-- A reset recorded and counted (R720, R725, R737). -/
def Dev.recordReset (d : Dev) (kind cause src : Nat) : Dev :=
  (d.putNum PWR_LAST_RESET (src * 0x100000000 + kind * 0x1000000 + cause * 0x100000)).bump PWR_RESETS 1

/-- What the resets that restart Eodin share (R720, R721, R725): commits end, the transition is abandoned, and Patrol is cleared. -/
def Dev.patrolReset (d : Dev) : Dev :=
  let d1 := ({ d with pwr := { d.pwr with owner := none, restore := [] } }).setTarget? none none
  (d1.hostGone.endCommits.dropActs).clearPatrol

/-- MODULE (R720): the core package and the Patrol die are cleared. -/
def Dev.moduleReset (d : Dev) : Dev :=
  let d1 := ((d.calAbort none).patrolReset.pcieReset).clearCore toReset
  let d2 := ({ d1 with
    host := { d1.host with linkUp := false }
    trust := { d1.trust with cold := true }
    pwr := { d1.pwr with coreOff := true, started := false, resetting := rkMODULE, heldW := [] } }).setPower 0
  d2.opticsRefresh.refreshLanes.romStart

/-- WATCHDOG and PATROL (R720, R722): the Patrol die is cleared but for the host link and its configuration. In S0 the core package keeps
forwarding; in S1 it is kept, and in S2 what Patrol held of it is lost. -/
def Dev.patrolDieReset (d : Dev) (kind : Nat) : Dev :=
  let s := d.pwrState
  let d1 := { (d.calAbort none).patrolReset with msix := [] }
  let d2 := if s = 2 ∨ d.pwr.resetting = rkDATA_PLANE then { d1.clearCore toReset with trust := { d1.trust with cold := true } } else d1
  let d3 := { d2 with pwr := { d2.pwr with coreOff := d.pwr.coreOff || s != 0, resetting := kind, heldW := [] } }
  (d3.setPower 0).opticsRefresh.refreshLanes.romStart

/-- DATA_PLANE (R40, R100, R352, R593, R720): the core package is cleared, and down until Eodin has restored it. -/
def Dev.dataPlaneReset (d : Dev) : Dev :=
  let d1 := ((d.calAbort (some stABORTED_BY_RESET)).sweepReset.clearCoreActs).clearRestore restored
  ({ d1 with pwr := { d1.pwr with coreOff := true, resetting := rkDATA_PLANE } }).refreshLanes

/-- PERST (R720): the PCIe core, ring registers and DMA channels; commands fetched run on without posting. -/
def Dev.perstReset (d : Dev) : Dev := d.ringReset.pcieReset

/-- A reset of a kind raised: absorbed where it clears no more than the one under way, and otherwise performed, recorded and counted (R725). A
DATA_PLANE reset has no effect outside S0 (R723). -/
def Dev.doReset (d : Dev) (kind cause src : Nat) : Dev :=
  if 3 ≤ d.pwrState ∨ d.pwr.await ∨ resetRank kind ≤ resetRank d.pwr.resetting ∨ (kind = rkDATA_PLANE ∧ d.pwrState ≠ 0) then d
  else
    let d1 := d.recordReset kind cause src
    if kind = rkMODULE then d1.moduleReset
    else if kind = rkWATCHDOG ∨ kind = rkPATROL then d1.patrolDieReset kind
    else if kind = rkDATA_PLANE then d1.dataPlaneReset
    else if kind = rkPERST then d1.perstReset
    else d1

/-- RESTORE_DONE (R40, R100, R723): Eodin has restored the core package; held writes take effect, cleared actions are loaded again or aborted,
and the commands that asked for the reset complete. Cleared actions outlive a fail-over or an activation that falls before it, though R99 has
Eodin rebuild its list from the stores, which no longer hold them: DESIGN CHOICE (assumption 92). -/
def Dev.restoreDone (d : Dev) : Dev :=
  if d.pwr.resetting ≠ rkDATA_PLANE ∨ d.bit GLB_STATE GLB_STATE_GAP then d
  else
    let l := d.pwr.restore
    let d1 := { d with pwr := { d.pwr with resetting := 0, restore := [] } }
    let d2 := d1.coreBack.applyHeld.reloadActs.refreshLanes
    l.foldl (fun (e : Dev) o => e.finish o.1 o.2 { status := stOK }) d2

/-- The status of a write of PWR_RESET (R723). -/
def Dev.pwrResetStatus (d : Dev) (v : Nat) : Nat :=
  let k := v % 16
  if k ≠ 3 ∧ k ≠ 5 ∧ k ≠ 6 then stBAD_PARAM else if k = 5 ∧ d.pwrState ≠ 0 then stNOT_PERMITTED else stOK

/-- PWR_RESET written by a command: kind 5 completes once the core package is restored, absorbed or not (R723, R725); the others post nothing. -/
def Dev.pwrResetTake (d : Dev) (v : Nat) (owner : Option (Nat × Nat)) : Dev :=
  let k := v % 16
  let d1 := d.doReset k 1 0
  match (if k = 5 then owner else none) with
  | some o => if d1.pwr.resetting = rkDATA_PLANE then { d1 with pwr := { d1.pwr with restore := d1.pwr.restore ++ [o] } } else d1
  | none => d1

/-- WATCHDOG_RESET (R724): 10 s after a failure that found no spare; none while CD3 is on bypass (R311). -/
def Dev.watchdogReset (d : Dev) : Dev := if d.runsT tWatchdog && !d.onBypass 3 then (d.dueT tWatchdog).doReset rkWATCHDOG 3 0 else d

/-- PERST_N low (R720). -/
def Dev.perstAssert (d : Dev) : Dev :=
  let d1 := { d with host := { d.host with perst := true, linkUp := false } }
  d1.doReset rkPERST 0 0

/-- PERST_N rising (R717, R720): the link trains, and a module in S3 wakes. -/
def Dev.perstRelease (d : Dev) : Dev :=
  if !d.host.perst then d
  else
    let up := decide (d.pwrState ≤ 2) && !d.pwr.await && !d.pwr.modRst
    ({ d with host := { d.host with perst := false, linkUp := up } }).wake

/-- MOD_RST_N low for 1 µs (R720): MODULE, and the boot ROM waits for the rise. -/
def Dev.modRstAssert (d : Dev) : Dev :=
  if d.pwr.modRst then d
  else
    let d1 := ({ d with pwr := { d.pwr with modRst := true } }).doReset rkMODULE 0 0
    ({ d1 with trust := { d1.trust with booting := false } }).stopT tReady

/-- MOD_RST_N rising (R720): the restart begins, and a module in S3 wakes. -/
def Dev.modRstRelease (d : Dev) : Dev :=
  if !d.pwr.modRst then d
  else
    let d1 := { d with pwr := { d.pwr with modRst := false } }
    if d1.pwrState = 3 then d1.wake else if d1.pwrState ≤ 2 ∧ !d1.pwr.await then d1.romStart else d1

/-- CRESOR_RESET_ACT (R723): the reset that a RESET message named, 10 ms after its receipt. -/
def Dev.cresorResetAct (d : Dev) : Dev :=
  match d.pwr.crsReset with
  | (k, src, t) :: l => (({ d with pwr := { d.pwr with crsReset := l } }).passOsc (t - d.tk.osc)).doReset k 2 src
  | [] => d

/-! ### Feeds (R729, R736) -/

/-- The voltage of a feed as measured, in 10 mV. -/
def Dev.feedIs (d : Dev) (b : Bool) (v : Nat) : Dev := d.setFld PWR_FEED (if b then ⟨32, 16⟩ else ⟨16, 16⟩) v

/-- A feed leaving the range of 40 V to 60 V. -/
def Dev.feedOut (d0 : Dev) (b : Bool) (v : Nat) : Dev :=
  let d := d0.feedIs b v
  let bit := if b then PWR_STATUS_FEEDB else PWR_STATUS_FEEDA
  let d1 := { d with pwr := if b then { d.pwr with feedB := false } else { d.pwr with feedA := false } }
  if d.bit PWR_STATUS bit then d1 else ((d1.liveEdge PWR_STATUS bit true).bump PWR_FEED_DROPS 1).alertN

/-- A feed returning into range. -/
def Dev.feedBack (d0 : Dev) (b : Bool) (v : Nat) : Dev :=
  let d := d0.feedIs b v
  ({ d with pwr := if b then { d.pwr with feedB := true } else { d.pwr with feedA := true } }).live PWR_STATUS
    (if b then PWR_STATUS_FEEDB else PWR_STATUS_FEEDA) false

/-- UNDERVOLT (R729): both feeds below 39 V for 10 ms. -/
def Dev.undervolt (d : Dev) (a b : Nat) : Dev := ((d.feedOut false a).feedOut true b).enterS4Now 4 false

/-- SURPRISE_REMOVAL (R733): INTLK broken for 2 µs. -/
def Dev.surprise (d : Dev) : Dev := ({ d with pwr := { d.pwr with intlk := false } }).enterS4Now 5 false

/-! ### Removal requests (R730, R731, R747) -/

/-- A request cancelled; none once the hand-off has begun. -/
def Dev.removeCancel (d : Dev) : Dev :=
  if d.pwr.handOff then d
  else (({ d with pwr := { d.pwr with pressWait := false, autoWait := false } }).live PWR_STATUS PWR_STATUS_REMOVE false).stopT tRemove

/-- A request raised; during a transition it waits for its end. -/
def Dev.removeReq (d : Dev) : Dev :=
  if d.pwrState = 4 ∨ d.bit PWR_STATUS PWR_STATUS_REMOVE then d
  else if d.pwr.target.isSome then { d with pwr := { d.pwr with pressWait := true } }
  else d.removeRaise

/-- REMOVE_PRESS, held for 0.5 s: a request, or the cancel of one that stands. -/
def Dev.removePress (d : Dev) : Dev :=
  if d.pwrState = 4 then d else if d.bit PWR_STATUS PWR_STATUS_REMOVE ∨ d.pwr.pressWait then d.removeCancel else d.removeReq

/-- REMOVE_TIMEOUT (R731). -/
def Dev.removeTimeout (d : Dev) : Dev :=
  if !d.runsT tRemove then d
  else
    let d1 := d.dueT tRemove
    if d1.fld PWR_CTRL PWR_CTRL_REMOVE_AUTO = 1 then 
    (if d1.pwr.target.isSome then { d1 with pwr := { d1.pwr with autoWait := true } } else d1.moveBegin 4 none true) else d1.removeCancel

/-! ### The core voltage (R718) -/

/-- The next multiple of a period at which an event has not come yet, by its index. -/
def nextMultiple (now per last : Nat) : Nat := if now % per = 0 ∧ last ≠ now / per then now / per else now / per + 1

/-- VCORE_LOOP_UPDATE: at each 1 ms of CD7, in S0 only (R711, R718). While the regulator ramps to a new bound the loop stays held (R50). A voltage
that was never set starts within the bounds (R43). -/
def Dev.vcoreUpdate (d0 : Dev) (demand : Int) : Dev :=
  if d0.pwrState ≠ 0 ∨ d0.pwr.await ∨ d0.pwr.oscFail then d0
  else
    let n := nextMultiple d0.tk.osc ms1 d0.pwr.vcoreMs
    let d1 := d0.passOsc (n * ms1 - d0.tk.osc)
    let d := ({ d1 with pwr := { d1.pwr with vcoreMs := n } }).vcoreRamp
    if d.pwr.ramp.isSome then d else d.loopUpdate vcoreLoop demand (some 10)

end Sys2Proof.Machine
end

