-- ==== Sys2Proof/Machine/Health.lean ====
section
/-! DEFINITION. Sensors and thermal limits, the chassis-management SMBus, and the lights (R744 to R758, R763, R764, R769 to R773). -/

namespace Sys2Proof.Machine

/-! ### Sensors (R763, R764) -/

/-- WARN and TRIP of a sensor in °C, and its last reading in 1/16 °C. -/
def Dev.warnOf (d : Dev) (i : Nat) : Int := signedOf 16 (d.fld (HLT_LIM i) HLT_LIM_WARN)
def Dev.tripOf (d : Dev) (i : Nat) : Int := signedOf 16 (d.fld (HLT_LIM i) HLT_LIM_TRIP)
def Dev.tempOf (d : Dev) (i : Nat) : Int := signedOf 24 (d.num (HLT_TEMP i))

/-- The sensors of R769. -/
def sensors : List Nat := (List.range 16).map (· + 1)

/-- Whether every sensor reads at least 10 °C below its WARN (R764). -/
def Dev.allCool (d : Dev) : Bool := sensors.all (fun i => decide (d.tempOf i ≤ 16 * (d.warnOf i - 10)))

/-- After a trip the 60 s of R764 run while every sensor is cool. -/
def Dev.coolTimer (d : Dev) : Dev :=
  if !d.pwr.trip then d
  else if d.allCool then (if d.runsT tCool || d.pwr.cool then d else d.startT tCool (60 * sec1))
  else ({ d with pwr := { d.pwr with cool := false } }).stopT tCool

/-- A sensor at or above its TRIP, or below it: a trip follows where it stays so for 1 ms. -/
def Dev.tripLive (d : Dev) (i : Nat) (on : Bool) : Dev :=
  let d1 := d.live (HLT_SENSOR_STATUS i) HLT_SENSOR_STATUS_TRIP on
  if !on then d1.stopT (tTrip i) else if d.bit (HLT_SENSOR_STATUS i) HLT_SENSOR_STATUS_TRIP then d1 else d1.startT (tTrip i) ms1

/-- SENSOR_COMPARE (R763, R769): a reading of sensor `i` in 1/16 °C, compared with WARN and TRIP, 1 ms after its last. -/
def Dev.sensorCompare (d0 : Dev) (i : Nat) (t : Int) : Dev :=
  let d := (d0.dueT (tSense i)).startT (tSense i) ms1
  let first := bitsAt d.pwr.sensed i 1 == 0
  let d0 := if first then { d with pwr := { d.pwr with sensed := d.pwr.sensed + 2 ^ i } } else d
  let d1 := d0.putNum (HLT_TEMP i) (unsignedOf 24 t)
  let d2 := if first || decide (signedOf 24 (d1.num (HLT_TEMP_MAX i)) < t) then d1.putNum (HLT_TEMP_MAX i) (unsignedOf 24 t) else d1
  let p := HLT_SENSOR_STATUS i
  let w := d2.warnOf i
  let d3 :=
    if 16 * w ≤ t then
      (if d2.bit p HLT_SENSOR_STATUS_WARN then d2 else ((d2.liveEdge p HLT_SENSOR_STATUS_WARN true).bump (HLT_WARNS i) 1).alertN)
    else if t ≤ 16 * (w - 5) then d2.live p HLT_SENSOR_STATUS_WARN false else d2
  (d3.tripLive i (decide (16 * d3.tripOf i ≤ t) && d3.tripOf i != 0x7FFF)).coolTimer

/-- THERMAL_TRIP (R763): the reading of a sensor has lain at or above TRIP for 1 ms. The trip is recorded, and the module enters S4 at once; a
hand-off that runs ends with READY. -/
def Dev.thermalTrip (d0 : Dev) (i : Nat) : Dev :=
  let p := HLT_SENSOR_STATUS i
  if !d0.runsT (tTrip i) then d0
  else
    let d := d0.dueT (tTrip i)
    let d1 := (((d.stick p HLT_SENSOR_STATUS_TRIP).putNum HLT_TRIP (d.num (HLT_TEMP i) % 0x1000000 * 0x100 + i)).bump HLT_TRIPS 1)
    let d2 := d1.enterS4Now 0 d.pwr.handOff
    (({ d2 with pwr := { d2.pwr with trip := true, tripShow := true, cool := false } }).coolTimer).alertN

/-- TRIP_RESTART (R764): every sensor has been cool for 60 s, and the module starts with AUTO_ON or a POWER_ON that was held. -/
def Dev.tripRestart (d : Dev) : Dev :=
  if d.pwr.trip ∧ d.runsT tCool then
    let d1 := d.dueT tCool
    let d2 := { d1 with pwr := { d1.pwr with cool := true } }
    if d2.mayStart ∧ d2.pwr.intlk ∧ (d2.autoOn ∨ d2.pwr.powerOn) then d2.coldStart (if d2.pwr.powerOn then 6 else 0) else d2
  else d

/-- A read of HLT_TRIP clears TRIPPED_LIVE (R772). -/
def Dev.tripSeen (d : Dev) : Dev := d.live HLT_STATUS HLT_STATUS_TRIPPED false

/-! ### The SMBus (R754 to R758) -/

/-- The bytes that a read returns. -/
def Dev.smbus (d : Dev) (l : List Byte) : Dev := { d with reply := { data := l } }

/-- Whether Eodin runs (R620). -/
def Dev.eodinUp (d : Dev) : Bool := decide (d.pwrState ≤ 2) && d.fld GLB_STATE GLB_STATE_READY == 1

/-- The level of the image that the boot pointer names, 0 where the bank holds none (R694, R756). -/
def Dev.ptrLevel (d : Dev) : Nat := match d.flash d.ptrBank with | some i => i.level | none => 0

/-- IDENTITY (R2, R756): with Eodin not up, the LEVEL of the image that the boot pointer names. -/
def Dev.identity (d : Dev) : List Byte :=
  let level := if d.eodinUp then d.num ID_EODIN_LEVEL % 0x10000 else d.ptrLevel
  leBytes 4 0x00006480 ++ leBytes 1 (d.num ID_VARIANT / 0x100) ++ [0x42] ++ leBytes 2 level ++ leBytes 8 Config.serial.toNat ++
    beBytes 6 Config.mac.toNat ++ leBytes 2 Config.vendor.toNat ++ leBytes 2 (if d.eodinUp then d.crs.id else 0) ++ leBytes 1 d.pwr.slot ++
    [0, 0, 0, 0, 0]

/-- STATUS (R757). GAP_LIVE is not held while Patrol has no power. -/
def Dev.statusWord (d : Dev) : Nat :=
  let b (x : Bool) (k : Nat) : Nat := x.toNat * 2 ^ k
  let warn := sensors.any (fun i => d.bit (HLT_SENSOR_STATUS i) HLT_SENSOR_STATUS_WARN)
  b d.pwr.oscFail 15 + b d.pwr.noImage 14 + b d.pwr.trip 13 + b warn 12 + b (d.bit PWR_STATUS PWR_STATUS_FEEDB) 11 +
    b (d.bit PWR_STATUS PWR_STATUS_FEEDA) 10 + b (d.bit PWR_STATUS PWR_STATUS_REMOVE) 9 + b d.pwr.ready 8 +
    b (d.bit PWR_STATUS PWR_STATUS_WARM) 7 + b d.eodinUp 6 + b (decide (d.pwrState ≤ 2) && d.bit GLB_STATE GLB_STATE_GAP) 5 + d.pwrState

/-- SENSORS (R755), with the feeds and the input power as they are measured. Temperatures are rounded down to whole °C. -/
def Dev.sensorBytes (d : Dev) : List Byte :=
  let c (x : Int) : List Byte := leBytes 1 (unsignedOf 8 (x.fdiv 16))
  let hot := (sensors.take 11).foldl (fun m i => max m (d.tempOf i)) (d.tempOf 1)
  c (d.tempOf 12) ++ c hot ++ leBytes 2 (d.fld PWR_FEED ⟨16, 16⟩) ++ leBytes 2 (d.fld PWR_FEED ⟨32, 16⟩) ++ leBytes 2 (d.fld PWR_FEED ⟨0, 16⟩)

def Dev.smbusSensors (d : Dev) (a b power : Nat) : Dev :=
  let d1 := ((d.feedIs false a).feedIs true b).setFld PWR_FEED ⟨0, 16⟩ power
  d1.smbus d1.sensorBytes

/-- LAST_RESET (R755). -/
def Dev.lastReset (d : Dev) : Dev := d.smbus (leBytes 6 (d.num PWR_LAST_RESET))

/-- ALERT_RESPONSE (R758): 0xB4, and ALERT_N is released; a module that does not assert it does not answer. -/
def Dev.alertResponse (d : Dev) : Dev :=
  if d.pwr.alert then ({ d with pwr := { d.pwr with alert := false }, out := .alert false :: d.out }).smbus [0xB4] else d.smbus []

/-! ### Lights (R744 to R746) -/

/-- What a light shows: off, or a colour, steady or blinking. -/
inductive Light where
  | off
  | steady (colour : Nat)
  | blink (colour hz : Nat)
deriving DecidableEq, Repr

/-- Colours of the lights. -/
abbrev lgGREEN : Nat := 0
abbrev lgAMBER : Nat := 1
abbrev lgBLUE : Nat := 2

/-- The STATE light. -/
def Dev.stateLight (d : Dev) : Light :=
  if !d.pwr.feedA && !d.pwr.feedB then .off
  else if d.pwr.oscFail || d.pwr.noImage || d.pwr.trip then .blink lgAMBER 2
  else if 3 ≤ d.pwrState then .steady lgAMBER
  else if d.pwrState ≠ 0 ∨ d.pwr.target.isSome ∨ !d.pwr.started ∨ d.bit GLB_STATE GLB_STATE_GAP then .blink lgGREEN 1
  else .steady lgGREEN

/-- The TIME light. -/
def Dev.timeLight (d : Dev) : Light :=
  if d.pwrState = 4 then .off
  else if !d.setLive ∨ d.bit TK_STATUS TK_STATUS_NUMERIC ∨ d.selState = selFREE then .blink lgAMBER 1
  else if d.selState = selGLIDE ∨ d.bit PTE_STATUS PTE_STATUS_NONE then .steady lgAMBER
  else if d.bit PWR_STATUS PWR_STATUS_WARM ∨ d.bit PTE_STATUS PTE_STATUS_SWITCH ∨ d.selState = selLOCKING then .blink lgGREEN 1
  else .steady lgGREEN

/-- The REMOVE light. -/
def Dev.removeLight (d : Dev) : Light :=
  if d.pwr.ready then .steady lgBLUE
  else if d.bit PWR_STATUS PWR_STATUS_REMOVE ∨ d.pwr.handOff then .blink lgBLUE 2
  else .off

end Sys2Proof.Machine
end

