-- ==== Sys2Proof/Machine/Params.lean ====
section
/-! DEFINITION. Reading and writing parameters (R12, R13, R19, R639, R640, R715, R776). -/

namespace Sys2Proof.Machine

/-! ### PARAM_READ (R639) -/

/-- Whether an item has two words: a counter of 96 bits, or a 64-bit value of the identity (R619). -/
def twoWords (p : Nat) : Bool :=
  (match itemDef p with | some i => i.kind == .ctr | none => false) || p == ID_SERIAL || p == ID_CLOCK

/-- What a PARAM_READ returns of an item, or none where it may not be read: while the core package is down, an RW or SH item shows the value
held for it and an RO or RS item is not read (R715). -/
def Dev.paramValue (d : Dev) (p : Nat) : Option Nat :=
  match itemDef p with
  | none => none
  | some i =>
    if d.blockUp (blockOf p) then some (d.shown p).toNat
    else if i.kind = .ro ∨ i.kind = .ctr ∨ i.kind = .rs then none
    else some (((d.pwr.heldW.filter (fun w => w.1 == p)).foldl (fun v w => codeWrite i v w.2) (d.get p)) &&& ~~~(BitVec.ofNat 96 i.wo)).toNat

/-- The ID, COUNT and ADDR of a parameter command. -/
def pcId (p : List Byte) : Nat := leNat (slice p 0 4)
def pcCount (p : List Byte) : Nat := byteAt p 4

/-- Whether COUNT consecutive items from ID are items of one instance that exist (R639). -/
def itemsExist (id n : Nat) : Bool :=
  decide (id % 0x1000 + n ≤ 0x1000) && (List.range n).all (fun k => (itemDef (id + k)).isSome)

/-- PARAM_READ: the status. -/
def Dev.readStatus (d : Dev) (p : List Byte) : Nat :=
  let id := pcId p
  let n := pcCount p
  if !zeros (slice p 5 3) || !zeros (slice p 16 24) || !decide (1 ≤ n ∧ n ≤ 64) || !itemsExist id n then stBAD_PARAM
  else if leNat (slice p 8 8) = 0 ∧ (n ≠ 1 ∨ twoWords id) then stBAD_PARAM
  else if (List.range n).any (fun k => (d.paramValue (id + k)).isNone) then stNOT_PERMITTED
  else stOK

/-- The 16 bytes of each item read: word 0 and word 1 in 64-bit containers. -/
def Dev.readBytes (d : Dev) (id n : Nat) : List Byte :=
  (List.range n).flatMap (fun k => let v := (d.paramValue (id + k)).getD 0; leBytes 8 (v % 2 ^ 48) ++ leBytes 8 (v / 2 ^ 48))

/-- Whether a range of items takes in HLT_TRIP, whose read is seen (R772). -/
def readsTrip (id n : Nat) : Bool := (List.range n).any (fun k => id + k == HLT_TRIP)

/-- PARAM_READ (R639). -/
def Dev.paramRead (d : Dev) (p : List Byte) : Dev × Ans :=
  let id := pcId p
  let n := pcCount p
  let st := d.readStatus p
  if st ≠ stOK then (d, { status := st })
  else
    let a := leNat (slice p 8 8)
    let v := (d.paramValue id).getD 0 % 2 ^ 48
    let t := d.sampleTime id
    let d1 := if a = 0 then d.took else d.took.hostWrite a (d.readBytes id n)
    (if readsTrip id n then d1.tripSeen else d1, { status := stOK, result := n, value := v, time := d.when t })

/-! ### PARAM_WRITE (R640) -/

/-- Whether both words of TK_SET are written, and the time that they name (R67). -/
def setPair (ws : List (Nat × Nat)) : Option (Nat × Nat) :=
  match ws.find? (fun w => w.1 == TK_SET 0), ws.find? (fun w => w.1 == TK_SET 1) with
  | some a, some b => some (a.2, b.2)
  | _, _ => none

/-- The status of one item of a write. -/
def Dev.writeStatus (d : Dev) (ws : List (Nat × Nat)) (p v : Nat) : Nat :=
  if 2 ^ 48 ≤ v then stBAD_PARAM
  else if p = TK_SET 0 ∧ (setPair ws).isSome then stOK
  else if p = TK_SET 1 then (match setPair ws with | some x => d.tkSetStatus (x.2 / 0x10000) | none => stBAD_PARAM)
  else if p = PWR_RESET then d.pwrResetStatus v
  else
    let s := d.itemStatus ws p v
    if s = stOK ∧ keepItem p then d.keepStatus p v else s

/-- One item of an accepted write taking effect: held while the core package is down (R715), and for a Keep item begun as a commit. -/
def Dev.writeTake (d : Dev) (ws : List (Nat × Nat)) (owner : Option (Nat × Nat)) (p v : Nat) : Dev :=
  if !d.blockUp (blockOf p) && !shadowCtl p then { d with pwr := { d.pwr with heldW := d.pwr.heldW ++ [(p, v)] } }
  else if p = TK_SET 0 then d
  else if p = TK_SET 1 then
    (match setPair ws with | some x => d.decideSet (twOf x.1 (x.2 / 0x10000) (x.2 % 0x10000)) | none => d)
  else if p = PWR_RESET then d.pwrResetTake v owner
  else if keepItem p then
    let m := match itemDef p with | some i => v &&& i.mask | none => v
    let d1 := (d.keepTake p m owner).1
    if p = CRS_NODE_ID ∨ p = CRS_AUTO_BASE then d1.crsIdWritten else d1
  else d.itemTake p v

/-- Items written together, or none of them: no answer yet where a commit or a restoration is awaited, and none ever after a reset that
restarts Eodin (R13, R640, R723). -/
def Dev.writeItems (d : Dev) (ws : List (Nat × Nat)) (owner : Option (Nat × Nat)) : Dev × Option Ans :=
  match (ws.map (fun w => d.writeStatus ws w.1 w.2)).find? (fun s => s != stOK) with
  | some s => (if s = stWEAR_LIMIT then d.bump TRUST_KEEP_REFUSED 1 else d, some { status := s })
  | none =>
    let d1 := ws.foldl (fun e w => e.writeTake ws owner w.1 w.2) d
    let waits := ws.any (fun w => w.1 == PWR_RESET) || (owner.isSome && d1.trust.commits.any (fun c => c.owner == owner))
    (d1, if waits then none else some { status := stOK, result := ws.length, time := d1.when d1.tk.time })

/-- PARAM_WRITE (R640). -/
def Dev.paramWrite (d : Dev) (p : List Byte) (owner : Option (Nat × Nat)) : Dev × Option Ans :=
  let id := pcId p
  let n := pcCount p
  if !zeros (slice p 5 3) || !decide (1 ≤ n ∧ n ≤ 4) || !zeros (slice p (8 + 8 * n) (32 - 8 * n)) || !itemsExist id n then
    (d, some { status := stBAD_PARAM })
  else d.writeItems ((List.range n).map (fun k => (id + k, leNat (slice p (8 + 8 * k) 8)))) owner

/-- A write of one item, as a PARAM_WRITE of it makes it, its answer shown: for a Keep item once its commit has ended (R13, R690). -/
def Dev.writeItem (d : Dev) (p v : Nat) : Dev :=
  let r := d.writeItems [(p, v)] (if keepItem p then some (regOwner, 0) else none)
  match r.2 with
  | some a => { r.1 with reply := { status := a.status, result := a.result, value := a.value, time := a.time } }
  | none => r.1

end Sys2Proof.Machine
end

