-- ==== Sys2Proof/Machine/Dma.lean ====
section
/-! DEFINITION. The DMA engine: channels, descriptors, punted and injected frames, telemetry buffers and bulk table loads (R641 to R655). -/

namespace Sys2Proof.Machine

/-! ### Table blocks (R435, R436, R437, R648, R715) -/

/-- A TABLE_WRITE block with its records: the status and the records applied, or no answer yet where it starts a SEAL or a CLONE, which
`owner` waits for. -/
def Dev.tableBlock (d : Dev) (par recs : List Byte) (owner : Nat × Nat) : Dev × Option (Nat × Nat) :=
  let kind := byteAt par 0
  let k := byteAt par 1 % 2
  if !d.blockUp bkCORE then (d, some (stNOT_PERMITTED, 0))
  else if kind < 8 then (let r := d.tableWrite par recs; (r.1, some (r.2.1, r.2.2)))
  else
    let st := d.tableCheck par
    let b := d.bank k
    if st ≠ stOK then (d, some (st, 0))
    else if kind = twSEAL then
      ((d.setBank k { b with state := bkSEALING, label := leNat (slice par 24 4), owner := some owner }).clsLive, none)
    else if kind = twCLONE then ((d.setBank k { b with state := bkCLONING, owner := some owner }).clsLive, none)
    else ((d.bankState k bkLOADABLE).clsLive, some (stOK, 0))

/-! ### Channels -/

def Dev.ch (d : Dev) (c : Nat) : DmaCh := Tbl.get d.dma {} c
def Dev.setCh (d : Dev) (c : Nat) (x : DmaCh) : Dev := { d with dma := Tbl.set d.dma {} c x }

/-- STATE of a channel (R643). -/
abbrev dsIDLE : Nat := 0
abbrev dsRUNNING : Nat := 1
abbrev dsPARKED : Nat := 2
abbrev dsSTOPPING : Nat := 3
abbrev dsSTOPPED : Nat := 4
abbrev dsERROR : Nat := 5

/-- Errors of a descriptor (R645). -/
abbrev deREAD_FAULT : Nat := 1
abbrev deALIGN : Nat := 2
abbrev deLENGTH : Nat := 3
abbrev deBAD_INJECT : Nat := 4
abbrev deDROPPED : Nat := 5
abbrev deTRUNC : Nat := 6

abbrev tCut (c : Nat) : Nat := tmr 37 c
abbrev tHoldoff (c : Nat) : Nat := tmr 38 c

/-- A channel in a state, the time in PARKED being counted (R655). -/
def Dev.setChState (d : Dev) (c s : Nat) : Dev :=
  let d1 := (d.setCh c { d.ch c with state := s }).live (DMA_ST c) DMA_ST_ERR (s == dsERROR)
  if s = dsPARKED then d1.startTimer (DMA_PARKED_TIME c) else d1.stopTimer (DMA_PARKED_TIME c)

/-- END, IRQ, SOP, EOP and LENGTH of a descriptor's CTRL (R644). -/
def ctEnd (c : Nat) : Bool := bitsAt c 31 1 == 1
def ctIrq (c : Nat) : Bool := bitsAt c 30 1 == 1
def ctSop (c : Nat) : Bool := bitsAt c 29 1 == 1
def ctEop (c : Nat) : Bool := bitsAt c 28 1 == 1
def ctLen (c : Nat) : Nat := bitsAt c 0 24

/-- The function of a channel (R641). -/
def Dev.chBme (d : Dev) (c : Nat) : Bool := if c < 48 then d.host.bme1 else d.host.bme2

/-- STATUS of a descriptor, the channel having completed `n` before it (R645). -/
def DmaHold.status (h : DmaHold) (n : Nat) : Nat :=
  n % 0x10000 * 2 ^ 48 + h.error * 2 ^ 40 + h.kind * 2 ^ 32 + h.trunc.toNat * 2 ^ 28 + (h.error != 0).toNat * 2 ^ 27 + h.eop.toNat * 2 ^ 26 +
    h.sop.toNat * 2 ^ 25 + 2 ^ 24 + h.count

/-- An end-of-count event (R653). -/
def Dev.dmaEvent (d : Dev) (c : Nat) : Dev :=
  (((d.setCh c { d.ch c with since := 0 }).live (DMA_ST c) DMA_ST_COMP false).stick (DMA_ST c) DMA_ST_COMP).stopT (tHoldoff c)

/-- What follows the STATUS write of a descriptor (R653). -/
def Dev.dmaCount (d : Dev) (c ctrl : Nat) : Dev :=
  let x := d.ch c
  let n := x.since + 1
  let d1 := (d.setCh c { x with since := n }).live (DMA_ST c) DMA_ST_COMP true
  let lim := x.irqCfg % 0x10000
  let hold := x.irqCfg / 0x10000
  if ctIrq ctrl ∨ (lim ≠ 0 ∧ lim ≤ n) then d1.dmaEvent c
  else if hold ≠ 0 ∧ !d1.runsT (tHoldoff c) then d1.startT (tHoldoff c) (hold * us1) else d1

/-- The engine after a descriptor at whose end CTRL showed END as given (R650 to R652): it goes on at NEXT or parks, and stops where it is
STOPPING. -/
def Dev.dmaNext (d : Dev) (c : Nat) (end_ : Bool) (next : Nat) : Dev :=
  let x := d.ch c
  let stop := x.state == dsSTOPPING
  if end_ then (d.setCh c { x with tail := true }).setChState c (if stop then dsSTOPPED else dsPARKED)
  else (d.setCh c { x with cur := next, tail := false }).setChState c (if stop then dsSTOPPED else dsRUNNING)

/-- A descriptor completed: its STATUS is written and counted, and the engine goes on. Where END was 1 and a kick is pending, CTRL is read again,
showing END as `again` (R650, R651, R655). -/
def Dev.dmaFinish (d : Dev) (c : Nat) (h : DmaHold) (again : Bool) : Dev :=
  let x := d.ch c
  let d1 := (d.hostWrite (h.at_ + 16) (leBytes 8 (h.status x.done))).setCh c { x with done := (x.done + 1) % 2 ^ 32, hold := none }
  let d2 := ((d1.bump (DMA_DESC_DONE c) 1).bump (DMA_BYTES c) h.moved).stopT (tCut c)
  let d3 := (if h.eop then d2.bump (DMA_FRAMES c) 1 else d2).dmaCount c h.ctrl
  if ctEnd h.ctrl ∧ x.pending then (d3.setCh c { d3.ch c with pending := false }).dmaNext c again h.next
  else d3.dmaNext c (ctEnd h.ctrl) h.next

/-- A channel in ERROR (R645): the STATUS of the failing descriptor is not written. -/
def Dev.dmaError (d : Dev) (c code : Nat) : Dev :=
  (((d.setCh c { d.ch c with err := code }).setChState c dsERROR).stick (DMA_ST c) DMA_ST_ERR).bump (DMA_ERRORS c) 1

/-- READ_FAULT (R645). -/
def Dev.readFault (d : Dev) (c : Nat) : Dev :=
  let s := (d.ch c).state
  if s = dsRUNNING ∨ s = dsSTOPPING ∨ s = dsPARKED then d.dmaError c deREAD_FAULT else d

/-! ### To the host -/

/-- The header and the frame of a punted copy (R646). -/
def punted (f : Frame) (c : Copy) : List Byte :=
  let fl := (c.kind == 2).toNat + f.bank * 2 + f.unc.toNat * 4 + f.depth.toNat * 8 + f.lenc.toNat * 16
  twBytes f.stamp ++ leBytes 2 f.ingress ++ leBytes 1 c.reason ++ leBytes 1 fl ++ leBytes 2 f.len ++
    leBytes 2 (f.pcp % 8 * 0x2000 + f.vid.getD 0 % 0x1000) ++ leBytes 2 f.udata ++ leBytes 1 f.pass ++ [0] ++ leBytes 4 f.hash ++ [0, 0, 0, 0] ++
    f.orig ++ leBytes 4 f.fcs

/-- The head copy of a punt queue leaving the Rink for its channel, and the bytes that the host is to get; none while the queue is empty or
the frame is still being received (R466, R482). Its latency ends at this instant, and so does the fate that a postcard reports (R594, R597). -/
def Dev.takePunt (d : Dev) (c : Nat) : Option (Dev × List Byte) :=
  match d.queue (pqOf c) with
  | [] => none
  | x :: _ =>
    match d.frame? x.fid with
    | none => none
    | some f =>
      if !f.tail then none
      else
        let q := pqOf c
        let d1 := d.setQueue q ((d.queue q).drop 1)
        let d2 := { d1 with net := { d1.net with entries := d1.net.entries - 1 } }
        let d3 := (((d2.bump (Q_DEQ_FRAMES q) 1).bump (Q_DEQ_OCTETS q) f.len).countLatency q f d.coreTime d.tk.stepSum).headroom x.kind false
        let d4 := if f.sampled then d3.postcard f { end_ := d.coreTime, copy := some x } else d3
        some (d4.settleFrame x.fid, punted f x)

/-- A descriptor of a punt channel (R649): as much of the frame in progress as it takes. With no frame to write nothing happens. Where the
chain ends partway through a frame its STATUS waits for a kick, and where the engine is to stop it is written at once, cut. -/
def Dev.puntDesc (d : Dev) (c addr ctrl next : Nat) (again : Bool) : Dev :=
  let x := d.ch c
  match (if x.inFrame then some (d, x.gather) else d.takePunt c) with
  | none => d
  | some (e, l) =>
    let b := l.take (ctLen ctrl)
    let rest := l.drop (ctLen ctrl)
    let h : DmaHold := { at_ := x.cur, ctrl := ctrl, next := next, sop := !x.inFrame, eop := rest.isEmpty, count := b.length, moved := b.length }
    let e1 := (e.hostWrite addr b).setCh c { e.ch c with gather := rest, inFrame := !rest.isEmpty }
    if rest.isEmpty then e1.dmaFinish c h again
    else if x.state = dsSTOPPING then
      ((e1.setCh c { e1.ch c with gather := [], inFrame := false }).bump (DMA_TRUNC c) 1).dmaFinish c
        { h with eop := true, trunc := true, error := deTRUNC } again
    else if ctEnd ctrl ∧ !(x.pending ∧ !again) then
      (e1.setCh c { e1.ch c with pending := false, hold := some { h with bytes := b } }).startT (tCut c) ms1
    else e1.dmaFinish c h again

/-- A punted frame that the end of the chain cut is truncated (R649). -/
def Dev.puntCut (d : Dev) (c : Nat) : Dev :=
  let x := d.ch c
  match (if x.inFrame then x.hold else none) with
  | none => d
  | some h =>
    ((d.setCh c { x with gather := [], inFrame := false }).bump (DMA_TRUNC c) 1).dmaFinish c
      { h with eop := true, trunc := true, error := deTRUNC } true

/-- PUNT_TRUNC_TIMEOUT (R649): 1 ms without a kick. -/
def Dev.puntTimeout (d : Dev) (c : Nat) : Dev := if d.runsT (tCut c) then (d.dueT (tCut c)).puntCut c else d

/-- The size of a telemetry record by KIND. -/
def recLen (kind : Nat) : Nat := if kind = 1 then 16 else if kind = 2 then 40 else 48

/-- The time for which an entry of EMU channel `k` waits in an open buffer (R238, assumption 82). -/
abbrev tFlush (k : Nat) : Nat := tmr 11 k

/-- The EMU channels that a DMA channel drains and that hold entries, in order. -/
def Dev.emuWaiting (d : Dev) (c : Nat) : List Nat := (List.range 16).filter (fun k => d.emuDma k == some c && !(d.emuCh k).queue.isEmpty)

/-- One entry taken from each waiting EMU channel in turn, up to `n` in all, beginning after channel `after` (R238); the first of a channel in
the buffer starts its wait. -/
def Dev.takeEmu (d : Dev) (c : Nat) : Nat → Nat → List Byte → Dev × List Byte
  | 0, _, acc => (d, acc)
  | n + 1, after, acc =>
    let l := d.emuWaiting c
    match (l.find? (fun k => decide (after < k))).or l.head? with
    | none => (d, acc)
    | some k =>
      match (d.emuCh k).queue with
      | e :: _ =>
        let d1 := d.emuConsume k 1
        (if d1.runsT (tFlush k) then d1 else d1.startT (tFlush k) (d1.num (EMU_FLUSH k) * us1)).takeEmu c n k (acc ++ e)
      | [] => (d, acc)

/-- Whether a record ends its sweep: a trailer carries END (R583, R592). -/
def isTrailer (r : Rec) : Bool := r.kind == 2 && bitsAt (byteAt r.bytes 4) 5 1 == 1

/-- The records of one KIND at the front, up to `n` and up to a trailer. -/
def sameKind (kind : Nat) : Nat → List Rec → List Rec
  | 0, _ => []
  | _, [] => []
  | n + 1, r :: l => if r.kind = kind then (if isTrailer r then [r] else r :: sameKind kind n l) else []

/-- The EMU channel of the last entry in a buffer, 15 in an empty one: the turn is that of the channel after it (R238). -/
def lastTaken (l : List Byte) : Nat := if l.length < 16 then 15 else byteAt l (l.length - 4) % 16

/-- The EMU channels with an entry in a buffer of entries. -/
def entryChans (l : List Byte) : List Nat :=
  (List.range 16).filter (fun k => (List.range (l.length / 16)).any (fun j => byteAt l (16 * j + 12) % 16 == k))

/-- No entry of a buffer waits any longer. -/
def Dev.flushStop (d : Dev) (kind : Nat) (l : List Byte) : Dev :=
  if kind = 1 then (entryChans l).foldl (fun (e : Dev) k => e.stopT (tFlush k)) d else d

/-- A telemetry buffer closed: its whole records written, its descriptor finished, and no entry in it waiting any longer (R238, R592, R645). -/
def Dev.teleClose (d : Dev) (c : Nat) (h : DmaHold) : Dev :=
  let b := h.bytes.take (ctLen h.ctrl)
  let d1 := (d.hostWrite h.addr b).setCh c { d.ch c with gather := h.bytes.drop (ctLen h.ctrl), gkind := h.kind }
  (d1.flushStop h.kind b).dmaFinish c { h with count := b.length, moved := b.length, bytes := [] } h.again

/-- What an open telemetry buffer takes of the records and entries that wait, and whether it is to close: it holds records of one KIND, and closes
when it is full, at a trailer, or where a record of another KIND is next (R238, R592, R599, R645). Records of sweeps and postcards go before EMU
entries (assumption 82). -/
def Dev.teleTake (d : Dev) (c : Nat) (h : DmaHold) : Dev × DmaHold × Bool :=
  let room (kind : Nat) : Nat := ctLen h.ctrl / recLen kind - h.bytes.length / recLen kind
  match Tbl.get d.net.tele [] c with
  | r :: l =>
    if h.kind ≠ 0 ∧ h.kind ≠ r.kind then (d, h, true)
    else
      let t := sameKind r.kind (room r.kind) (r :: l)
      let rest := (r :: l).drop t.length
      ({ d with net := { d.net with tele := Tbl.set d.net.tele [] c rest } },
       { h with kind := r.kind, bytes := h.bytes ++ t.flatMap (·.bytes) },
       decide (room r.kind ≤ t.length) || t.any isTrailer || !rest.isEmpty)
  | [] =>
    if (d.emuWaiting c).isEmpty then (d, h, h.kind != 0 && room h.kind == 0)
    else if h.kind ≠ 0 ∧ h.kind ≠ 1 then (d, h, true)
    else
      let r := d.takeEmu c (room 1) (lastTaken h.bytes) []
      (r.1, { h with kind := 1, bytes := h.bytes ++ r.2 }, decide (room 1 ≤ r.2.length / 16))

/-- The open buffer of a telemetry channel, if it has one, taking what waits. -/
def Dev.teleFill (d : Dev) (c : Nat) : Dev :=
  match (d.ch c).hold with
  | some h =>
    let r := d.teleTake c h
    if r.2.2 then r.1.teleClose c r.2.1 else r.1.setCh c { r.1.ch c with hold := some r.2.1 }
  | none => d

/-- Every telemetry channel taking what waits for it. -/
def Dev.teleAll (d : Dev) : Dev := (List.range 8).foldl (fun e k => e.teleFill (48 + k)) d

/-- A descriptor of a telemetry channel: its buffer opens, with what an abandoned one left (R618), and closes when it is full. -/
def Dev.teleDesc (d : Dev) (c addr ctrl next : Nat) (again : Bool) : Dev :=
  let x := d.ch c
  let h : DmaHold := { at_ := x.cur, ctrl := ctrl, next := next, sop := true, eop := true, kind := if x.gather.isEmpty then 0 else x.gkind,
                       bytes := x.gather, addr := addr, again := again }
  let d1 := d.setCh c { x with hold := some h, gather := [] }
  (if h.kind = 1 then (entryChans h.bytes).foldl (fun (e : Dev) k => e.startT (tFlush k) (e.num (EMU_FLUSH k) * us1)) d1 else d1).teleFill c

/-- EMU_FLUSH_EXPIRY (R238): the buffer in which an entry of EMU channel `k` has waited closes. -/
def Dev.emuFlush (d : Dev) (k : Nat) : Dev :=
  if d.runsT (tFlush k) then
    (List.range 8).foldl
      (fun e j => match (e.ch (48 + j)).hold with
        | some h => if h.kind = 1 ∧ (entryChans h.bytes).contains k then e.teleClose (48 + j) h else e
        | none => e) (d.dueT (tFlush k))
  else d

/-! ### From the host -/

/-- Whether an injected frame with its header keeps to R647. -/
def injectOk (l : List Byte) : Bool :=
  let n := l.length - 32
  let add := byteAt l 4 == 1
  decide (32 ≤ l.length) && (byteAt l 0 == 1 || byteAt l 0 == 2) && (byteAt l 0 == 2 || decide (byteAt l 1 ≤ 8)) && decide (leNat (slice l 2 2) ≤ 255) &&
    decide (byteAt l 4 ≤ 1) && zeros (slice l 5 27) && (if add then decide (60 ≤ n ∧ n ≤ 9996) else decide (64 ≤ n ∧ n ≤ 10000))

/-- The frame of an inject block entering the Core die, and the reason where it is refused (R647). With ADD_FCS at 0 its last four bytes are
its FCS. -/
def Dev.injectFrame (d : Dev) (c : Nat) (l : List Byte) : Dev × Option Nat :=
  let lp := leNat (slice l 2 2)
  let whole := l.drop 32
  let add := byteAt l 4 == 1
  let b := if add then whole else whole.take (whole.length - 4)
  let fcs := if add then crc32 b else leNat (whole.drop (whole.length - 4))
  let mark (f : Frame) : Frame := { f with inject := some c, fcs := fcs, unc := d.repFault 9 }
  if byteAt l 0 = 1 then d.originate (qOf lp (byteAt l 1)) b mark
  else if d.snow then (d, some drCORE_BYPASS)
  else
    let t := twTrunc d.coreTime
    let bk := d.epochOf d.coreTime
    let f : Frame := { lp := lp, stamp := t, steps := d.tk.stepSum, era := d.tk.era, rxAdd := d.int (TSU_RX_ADD lp), orig := b, body := b, tail := true,
                       bank := bk, hashCtl := d.num CLS_HASH_CTRL, started := d.tk.time, terms := (d.repFault 9).toNat * 2 ^ 47 }
    ((d.newFrame (mark f)).1.flight bk true, none)

/-- A descriptor of a channel from the host whose EOP ends a frame or a block: what it brings takes effect (R647, R648). -/
def Dev.blockEnd (d : Dev) (c : Nat) (h : DmaHold) (l : List Byte) (again : Bool) : Dev :=
  let d0 := d.setCh c { d.ch c with gather := [], inFrame := false }
  if c < 48 then
    if !injectOk l then d0.dmaFinish c { h with error := deBAD_INJECT } again
    else
      let r := d0.injectFrame c l
      match r.2 with
      | some x => (r.1.bump (DMA_INJ_DROPPED c) 1).dmaFinish c { h with error := deDROPPED, kind := x } again
      | none => r.1.dmaFinish c h again
  else
    let par := l.take 40
    if l.length ≠ 40 + leNat (slice par 20 4) ∨ leNat (slice par 12 8) ≠ 0 then d0.dmaFinish c { h with kind := stBAD_PARAM, count := 0 } again
    else
      let r := d0.tableBlock par (l.drop 40) (64 + c, again.toNat)
      match r.2 with
      | some (st, n) => r.1.dmaFinish c { h with kind := st, count := n } again
      | none => r.1.setCh c { r.1.ch c with hold := some h }

/-- A descriptor of a channel from the host, `data` being what its buffer holds (R644, R647, R648, R652). Inject channels take nothing outside
S0 or on the way out of it (R713). -/
def Dev.hostDesc (d : Dev) (c ctrl next : Nat) (data : List Byte) (again : Bool) : Dev :=
  let x := d.ch c
  if c < 48 ∧ (!d.blockUp bkCORE ∨ d.pwr.target.isSome) then d
  else
    let l := (if ctSop ctrl then [] else x.gather) ++ slice data 0 (ctLen ctrl)
    let h : DmaHold := { at_ := x.cur, ctrl := ctrl, next := next, sop := ctSop ctrl, eop := ctEop ctrl, count := ctLen ctrl, moved := ctLen ctrl }
    if ctEop ctrl then d.blockEnd c h l again
    else if x.state = dsSTOPPING then
      (d.setCh c { x with gather := [], inFrame := false }).dmaFinish c { h with error := deDROPPED } again
    else (d.setCh c { x with gather := l, inFrame := true }).dmaFinish c h again

/-- A SEAL or CLONE that a block started has ended (R436, R437, R648): its descriptor completes. -/
def Dev.blockDone (d : Dev) (c : Nat) (again : Bool) (st : Nat) : Dev :=
  match (d.ch c).hold with
  | some h => d.dmaFinish c { h with kind := st, count := 0 } again
  | none => d

/-! ### The engine (R650 to R653) -/

/-- DESCRIPTOR_COMPLETE: the engine takes the descriptor at DMA_CUR, whose buffer address, CTRL and NEXT its reads return, with `data` in its
buffer, and finishes it; a telemetry buffer that is not full stays open and takes what comes. `again` is END in a second read of CTRL, where one is due. -/
def Dev.descriptor (d : Dev) (c addr ctrl next : Nat) (data : List Byte) (again : Bool) : Dev :=
  let x := d.ch c
  if 48 ≤ c ∧ c < 56 ∧ x.hold.isSome then d.teleFill c
  else if !(x.state == dsRUNNING || x.state == dsSTOPPING) || x.hold.isSome || x.tail || !d.chBme c then d
  else if x.cur % 32 ≠ 0 then d.dmaError c deALIGN
  else if ctLen ctrl = 0 then d.dmaError c deLENGTH
  else if c < 32 then d.puntDesc c addr ctrl next again
  else if 48 ≤ c ∧ c < 56 then d.teleDesc c addr ctrl next again
  else d.hostDesc c ctrl next data again

/-- CTRL of the tail read again, showing END as given, with NEXT where it is 0 (R651). -/
def Dev.reread (d : Dev) (c : Nat) (end_ : Bool) (next : Nat) : Dev :=
  let x := d.ch c
  let d1 := d.setCh c { x with pending := false }
  if end_ then d1.setChState c dsPARKED
  else (d1.setCh c { d1.ch c with cur := next, tail := false }).setChState c dsRUNNING

/-- DMA_KICK (R649, R651). -/
def Dev.dmaKick (d : Dev) (c : Nat) (end_ : Bool) (next : Nat) : Dev :=
  let x := d.ch c
  if x.state = dsPARKED then d.reread c end_ next
  else if x.state = dsRUNNING ∨ x.state = dsSTOPPING then
    (match (if x.inFrame && c < 32 then x.hold else none) with
     | some h => if end_ then d else d.dmaFinish c { h with ctrl := h.ctrl % 2 ^ 31, next := next } false
     | none => d.setCh c { x with pending := true })
  else d

/-- RUN set (R652): from IDLE at DMA_HEAD, from STOPPED or ERROR at DMA_CUR, a tail being read again first; the read of CTRL with which the
engine resumes is the one that PENDING calls for. -/
def Dev.dmaRun (d : Dev) (c : Nat) (end_ : Bool) (next : Nat) : Dev :=
  let x := d.ch c
  let d1 := d.setCh c { x with run := true }
  if x.state = dsIDLE then (d1.setCh c { d1.ch c with cur := x.head, tail := false }).setChState c dsRUNNING
  else if x.state = dsSTOPPED ∨ x.state = dsERROR then 
    (if x.tail then d1.reread c end_ next else (d1.setCh c { d1.ch c with pending := false }).setChState c dsRUNNING)
  else d1

/-- RUN cleared (R649, R652). An engine that stands at a descriptor boundary with nothing to write stops there, and an open telemetry buffer that
holds a record is closed. -/
def Dev.dmaStop (d : Dev) (c : Nat) : Dev :=
  let x := d.ch c
  let d1 := d.setCh c { x with run := false }
  if x.state = dsPARKED then d1.setChState c dsSTOPPED
  else if x.state = dsRUNNING then
    (if c < 32 ∧ x.inFrame ∧ x.hold.isSome then (d1.setChState c dsSTOPPING).puntCut c
     else if 48 ≤ c ∧ c < 56 then
       (match x.hold with
        | some h => if h.bytes.isEmpty then (d1.setCh c { d1.ch c with hold := none }).setChState c dsSTOPPED
                    else (d1.setChState c dsSTOPPING).teleClose c h
        | none => d1.setChState c dsSTOPPED)
     else if c < 32 ∧ !x.inFrame then d1.setChState c dsSTOPPED
     else d1.setChState c dsSTOPPING)
  else d1

/-- A channel back in IDLE: what it had gathered is discarded, and DMA_DONE stays. -/
def Dev.dmaIdle (d : Dev) (c : Nat) : Dev :=
  let x := d.ch c
  let d0 := if 48 ≤ c ∧ c < 56 then (match x.hold with | some h => d.flushStop h.kind h.bytes | none => d) else d
  ((((d0.setCh c { x with run := false, pending := false, tail := false, gather := [], inFrame := false, hold := none }).setChState c
    dsIDLE).stopT (tCut c)).stopT (tHoldoff c))

/-- RESET (R652). -/
def Dev.dmaReset (d : Dev) (c : Nat) : Dev := if (d.ch c).state = dsSTOPPED ∨ (d.ch c).state = dsERROR then d.dmaIdle c else d

/-- HOLDOFF_EXPIRY (R653). -/
def Dev.holdoff (d : Dev) (c : Nat) : Dev := if d.runsT (tHoldoff c) then (d.dueT (tHoldoff c)).dmaEvent c else d

/-- A write of DMA_CTRL (R643, R652). With RESET and RUN both at 1 the channel resets and then starts, DESIGN CHOICE (assumption 89). -/
def Dev.dmaCtrlWrite (d : Dev) (c v : Nat) (end_ : Bool) (next : Nat) : Dev :=
  let d1 := if bitsAt v 1 1 = 1 then d.dmaReset c else d
  let d2 := d1.setCh c { d1.ch c with roData := bitsAt v 2 1 == 1 }
  if v % 2 = 1 then d2.dmaRun c end_ next
  else if (d2.ch c).run then d2.dmaStop c else d2

/-- DMA_HEAD written: discarded unless STATE is IDLE (R642). -/
def Dev.dmaHeadWrite (d : Dev) (c v : Nat) : Dev := if (d.ch c).state = dsIDLE then d.setCh c { d.ch c with head := v } else d

/-- The value of DMA_STATUS (R643). -/
def Dev.dmaStatus (d : Dev) (c : Nat) : Nat := d.num (DMA_ST c) % 64 + (d.ch c).state * 0x100 + (d.ch c).pending.toNat * 0x800

/-- A write of DMA_STATUS (R643). -/
def Dev.dmaStatusWrite (d : Dev) (c v : Nat) : Dev :=
  let p := DMA_ST c
  let i : ItemDef := ⟨0, 0, 0, 0, .rw, 0x24, 0x12, 0, 0, []⟩
  let old := d.get p
  let new := codeWrite i old v
  let d1 := d.put p new
  if enableRaised i old new then d1.raise p else d1

/-! ### The functions (R617, R618) -/

/-- A channel of a function whose Bus Master Enable has gone: the descriptor in progress is abandoned, to be taken again from its start. -/
def Dev.dmaHalt (d : Dev) (c : Nat) : Dev :=
  let x := d.ch c
  if x.state = dsRUNNING ∨ x.state = dsPARKED ∨ x.state = dsSTOPPING then
    let back := match x.hold with
      | some h => if c < 32 then { x with gather := h.bytes ++ x.gather, inFrame := !h.sop, hold := none }
                  else if 48 ≤ c ∧ c < 56 then { x with gather := h.bytes, gkind := h.kind, hold := none }
                  else x
      | none => x
    let y := match x.hold with
      | some h => if c < 32 ∧ h.sop then { back with inFrame := true } else back
      | none => back
    let d0 := if 48 ≤ c ∧ c < 56 then (match x.hold with | some h => d.flushStop h.kind h.bytes | none => d) else d
    ((d0.setCh c y).stopT (tCut c)).setChState c dsSTOPPED
  else d

/-- The channels of PF1 and PF2. -/
def chans (fn : Nat) : List Nat := if fn = 1 then List.range 48 else if fn = 2 then (List.range 16).map (· + 48) else []

/-- BUS_MASTER_DISABLE (R618). -/
def Dev.bmeOff (d : Dev) (fn : Nat) : Dev :=
  let h := d.host
  let d1 := { d with host := if fn = 0 then { h with bme0 := false } else if fn = 1 then { h with bme1 := false } else { h with bme2 := false } }
  (chans fn).foldl (fun e c => e.dmaHalt c) d1

/-- BUS_MASTER_ENABLE (R618): held completions are posted. -/
def Dev.bmeOn (d : Dev) (fn : Nat) : Dev :=
  let h := d.host
  if fn = 0 then ({ d with host := { h with bme0 := true } }).postHeld
  else { d with host := if fn = 1 then { h with bme1 := true } else { h with bme2 := true } }

/-- FUNCTION_LEVEL_RESET (R617). -/
def Dev.flr (d : Dev) (fn : Nat) : Dev := if fn = 0 then d.abandonRings else (chans fn).foldl (fun e c => e.dmaIdle c) d

/-- SEAL_COMPLETE and CLONE_COMPLETE (R436, R437): the bank's operation ends, and what asked for it completes. -/
def Dev.bankEnd (d : Dev) (k state : Nat) : Dev :=
  let b := d.bank k
  if b.state ≠ state then d
  else
    let r := if state = bkSEALING then d.sealEnd k else (d.cloneEnd k, stOK)
    let d1 := r.1.clsLive
    match b.owner with
    | some (o, t) => if 64 ≤ o then d1.blockDone (o - 64) (t == 1) r.2 else d1.finish o t { status := r.2 }
    | none => d1

end Sys2Proof.Machine
end

