-- ==== Sys2Proof/Machine/Bar.lean ====
section
/-! DEFINITION. The registers of the three functions: the maps of BAR0 and BAR2, split values, and accesses of a wrong width (R10, R11, R614
to R623). -/

namespace Sys2Proof.Machine

/-- The offset in BAR0 of PF0 of a register, each having one instance (R614, R615); none where the function's BAR0 has nothing there. -/
def barOff (fn off : Nat) : Option Nat :=
  if fn = 0 then (if off < 0x50000 then some off else none)
  else if fn = 1 then (if off < 0x3000 then some (0x20000 + off) else none)
  else if fn = 2 then
    (if off < 0x1000 then some (0x23000 + off) else if 0x10000 ≤ off ∧ off < 0x20000 then some (0x30000 + off) else none)
  else none

/-- The regions of BAR0. -/
def isRingReg (o : Nat) : Bool := decide (0x1000 ≤ o ∧ o < 0x2000)
def isTkw (o : Nat) : Bool := decide (0x10000 ≤ o ∧ o < 0x10400)
def isDmaReg (o : Nat) : Bool := decide (0x20000 ≤ o ∧ o < 0x24000)
def isCntw (o : Nat) : Bool := decide (0x30000 ≤ o ∧ o < 0x30400)
def isEmuHead (o : Nat) : Bool := decide (0x40000 ≤ o ∧ o < 0x50000)

/-- The lower registers of split values (R11, R616). -/
def isSplitLow (o : Nat) : Bool :=
  o == 0x10 || o == 0x18 || o == 0x20 || (isRingReg o && (o % 0x40 == 0 || o % 0x40 == 8)) || (isTkw o && o % 0x40 == 4) ||
    (isDmaReg o && (o % 0x100 == 0 || o % 0x100 == 8)) || (isCntw o && o % 0x40 == 0x18)

/-! ### Interrupt summaries (R623) -/

/-- Whether an item has a STICKY bit set whose ENABLE bit is 1. -/
def Dev.raised (d : Dev) (p : Nat) : Bool :=
  match itemDef p with
  | some i => (d.num p &&& i.w1c) &&& ((d.num p &&& i.rw) >>> 1) != 0
  | none => false

/-- The instances of a class that show such a bit; class 0x00 is none of the module's (R638). -/
def Dev.raisedOf (d : Dev) (c : Nat) : List Nat :=
  ((d.params.map (fun e => e.1)).filter (fun p => c != 0 && p / 0x1000000 == c && d.raised p)).map (fun p => p / 0x1000 % 0x1000)

/-- A word with the bits of a list set. -/
def maskOf (n : Nat) (l : List Nat) : Nat := (List.range n).foldl (fun a i => a + (if l.contains i then 2 ^ i else 0)) 0

def Dev.intsumClass (d : Dev) (c : Nat) : Nat := maskOf 32 ((d.raisedOf c).map (· / 128))

def Dev.intsumMap (d : Dev) (k : Nat) : Nat :=
  let base := 128 * bitsAt d.host.intsumSel 8 5 + 32 * k
  maskOf 32 (((d.raisedOf (bitsAt d.host.intsumSel 0 8)).filter (fun i => decide (base ≤ i))).map (· - base))

/-! ### Reads -/

/-- The value that spans the register at `o` and the next (R11, R616). -/
def Dev.splitValue (d : Dev) (o : Nat) : Nat :=
  if o = 0x10 then d.num ID_SERIAL
  else if o = 0x18 then d.num ID_MAC
  else if o = 0x20 then d.num ID_CLOCK
  else if isRingReg o then (let x := d.ring ((o - 0x1000) / 0x40); if o % 0x40 = 0 then x.cmdBase else x.cplBase)
  else if isTkw o then (Tbl.get d.tk.win {} ((o - 0x10000) / 0x40)).sec
  else if isDmaReg o then (let x := d.ch ((o - 0x20000) / 0x100); if o % 0x100 = 0 then x.head else x.cur)
  else if isCntw o then (d.cntSlot ((o - 0x30000) / 0x40)).sec % 2 ^ 48
  else 0

/-- What stands above the split value in its higher register: FRAC of a stamped read (R70). -/
def Dev.splitAbove (d : Dev) (o : Nat) : Nat :=
  if isTkw o then (Tbl.get d.tk.win {} ((o - 0x10000) / 0x40)).frac * 0x10000
  else if isCntw o then (d.cntSlot ((o - 0x30000) / 0x40)).frac * 0x10000
  else 0

/-- A register that is not part of a split value. -/
def Dev.plainReg (d : Dev) (o : Nat) : Nat :=
  if o < 0x10 then (d.shown (ID_PART + o / 4)).toNat % 2 ^ 32
  else if o = 0x28 then d.num ID_ENTERPRISE
  else if o = 0x2C then d.num ID_NODE
  else if o = 0x30 then (d.shown GLB_STATE).toNat
  else if o = 0x34 then (d.shown GLB_HEARTBEAT).toNat
  else if isRingReg o then
    let r := (o - 0x1000) / 0x40
    let x := d.ring r
    match o % 0x40 with
    | 0x10 => x.ctrl
    | 0x14 => d.mbxStatus r
    | 0x18 => x.cmdTail
    | 0x1C => x.cmdHead
    | 0x20 => x.cplHead
    | 0x24 => x.cplTail
    | _ => 0
  else if 0x2004 ≤ o ∧ o ≤ 0x206C then d.intsumClass ((o - 0x2000) / 4)
  else if o = 0x2080 then d.host.intsumSel
  else if 0x2084 ≤ o ∧ o ≤ 0x2090 then d.intsumMap ((o - 0x2084) / 4)
  else if isTkw o then
    let w := Tbl.get d.tk.win {} ((o - 0x10000) / 0x40)
    if o % 0x40 = 0xC then w.info else 0
  else if isDmaReg o then
    let c := (o - 0x20000) / 0x100
    let x := d.ch c
    match o % 0x100 with
    | 0x10 => x.run.toNat + x.roData.toNat * 4
    | 0x14 => d.dmaStatus c
    | 0x1C => x.done
    | 0x20 => x.irqCfg
    | 0x24 => x.err
    | _ => 0
  else if isCntw o then (d.cntSlot ((o - 0x30000) / 0x40)).read (o % 0x40)
  else if isEmuHead o then d.emuhRead ((o - 0x40000) / 0x1000) (o % 0x1000)
  else 0

/-- The answer of a BAR read. -/
def Dev.barValue (d : Dev) (v : Nat) : Dev := { d with reply := { value := v } }

/-- A register read in BAR0 of a function (R11, R69, R614). The lower register of a split value latches the upper part for the next read of the
higher one; with nothing latched that one shows what it holds. -/
def Dev.bar0Read (d : Dev) (fn off : Nat) : Dev :=
  match barOff fn off with
  | none => d.barValue 0
  | some o =>
    if isSplitLow o then
      let v := d.splitValue o
      ({ d with host := { d.host with splitRead := Tbl.set d.host.splitRead none o (some (v / 2 ^ 32)) } }).barValue (v % 2 ^ 32)
    else if 4 ≤ o ∧ isSplitLow (o - 4) then
      let l := o - 4
      let up := (Tbl.get d.host.splitRead none l).getD (d.splitValue l / 2 ^ 32)
      ({ d with host := { d.host with splitRead := Tbl.set d.host.splitRead none l none } }).barValue (up + d.splitAbove l)
    else if isTkw o ∧ o % 0x40 = 0 then d.tkwRead ((o - 0x10000) / 0x40)
    else d.barValue (d.plainReg o)

/-- The size of a function's MSI-X table (R614). -/
def msixSize (fn : Nat) : Nat := if fn = 0 then 96 else if fn = 1 then 48 else 64

/-- A read of BAR2: an entry of the MSI-X table, or 32 bits of the Pending Bit Array (R614, R622). -/
def Dev.bar2Read (d : Dev) (fn off : Nat) : Dev :=
  if off < 16 * msixSize fn then
    let e := Tbl.get d.msix {} (msixKey fn (off / 16))
    d.barValue (match off % 16 with | 0 => e.addr % 2 ^ 32 | 4 => e.addr / 2 ^ 32 | 8 => e.data | _ => e.masked.toNat)
  else if 0x2000 ≤ off ∧ (off - 0x2000) * 8 < msixSize fn then
    let b := (off - 0x2000) * 8
    d.barValue (maskOf 32 ((List.range 32).filter
      (fun i => decide (b + i < msixSize fn) && (Tbl.get d.msix {} (msixKey fn (b + i))).pending)))
  else d.barValue 0

/-- A 32-bit read: one that is not naturally aligned returns 0xFF in every byte (R10). -/
def Dev.barRead (d : Dev) (fn bar off : Nat) : Dev :=
  if !d.host.linkUp then d else if off % 4 ≠ 0 then d.barValue 0xFFFFFFFF else if bar = 0 then d.bar0Read fn off else if bar = 2 then d.bar2Read fn off else d.barValue 0

/-! ### Writes -/

/-- A split value taking effect whole (R11, R616). -/
def Dev.splitTake (d : Dev) (o v : Nat) : Dev :=
  if isRingReg o then d.mbxBaseWrite ((o - 0x1000) / 0x40) (o % 0x40 == 8) v
  else if isDmaReg o ∧ o % 0x100 = 0 then d.dmaHeadWrite ((o - 0x20000) / 0x100) v
  else d

/-- A write of a register that is not part of a split value; `end_` and `next` are what a channel's tail shows where the write makes it be
read again. -/
def Dev.plainWrite (d : Dev) (o v : Nat) (end_ : Bool) (next : Nat) : Dev :=
  if o = 0x30 then d.writeWord GLB_STATE v
  else if isRingReg o then
    let r := (o - 0x1000) / 0x40
    match o % 0x40 with
    | 0x10 => d.mbxCtrlWrite r v
    | 0x14 => d.mbxStatusWrite r v
    | 0x18 => d.cmdTailWrite r v
    | 0x20 => d.cplHeadWrite r v
    | _ => d
  else if o = 0x2080 then { d with host := { d.host with intsumSel := v % 0x2000 &&& 0x1FFF } }
  else if isDmaReg o then
    let c := (o - 0x20000) / 0x100
    match o % 0x100 with
    | 0x10 => d.dmaCtrlWrite c v end_ next
    | 0x14 => d.dmaStatusWrite c v
    | 0x18 => d.dmaKick c end_ next
    | 0x20 => d.setCh c { d.ch c with irqCfg := v }
    | _ => d
  else if isCntw o ∧ o % 0x40 = 0 then d.cntIdWrite ((o - 0x30000) / 0x40) v
  else if isEmuHead o ∧ o % 0x1000 = 4 then d.emuhRd ((o - 0x40000) / 0x1000) v
  else d

/-- A register written in BAR0 of a function (R11, R614). A higher register written with nothing held takes the lower part in force. -/
def Dev.bar0Write (d : Dev) (fn off v : Nat) (end_ : Bool) (next : Nat) : Dev :=
  match barOff fn off with
  | none => d
  | some o =>
    if isSplitLow o then { d with host := { d.host with splitHeld := Tbl.set d.host.splitHeld none o (some v) } }
    else if 4 ≤ o ∧ isSplitLow (o - 4) then
      let l := o - 4
      let low := (Tbl.get d.host.splitHeld none l).getD (d.splitValue l % 2 ^ 32)
      ({ d with host := { d.host with splitHeld := Tbl.set d.host.splitHeld none l none } }).splitTake l (v * 2 ^ 32 + low)
    else d.plainWrite o v end_ next

/-- An entry of an MSI-X table replaced: one that is unmasked with its Pending bit set is signalled (R622). -/
def Dev.setMsix (d : Dev) (fn vec : Nat) (e : MsixEntry) : Dev :=
  if e.pending && !e.masked then
    { d with msix := Tbl.set d.msix {} (msixKey fn vec) { e with pending := false }, out := .msix fn vec :: d.out }
  else { d with msix := Tbl.set d.msix {} (msixKey fn vec) e }

/-- A write of BAR2: the MSI-X table; the Pending Bit Array is not written. -/
def Dev.bar2Write (d : Dev) (fn off v : Nat) : Dev :=
  if off < 16 * msixSize fn then
    let k := off / 16
    let e := Tbl.get d.msix {} (msixKey fn k)
    match off % 16 with
    | 0 => d.setMsix fn k { e with addr := e.addr / 2 ^ 32 * 2 ^ 32 + v / 4 * 4 }
    | 4 => d.setMsix fn k { e with addr := e.addr % 2 ^ 32 + v * 2 ^ 32 }
    | 8 => d.setMsix fn k { e with data := v }
    | _ => d.setMsix fn k { e with masked := v % 2 == 1 }
  else d

/-- A 32-bit write: one that is not naturally aligned is discarded (R10). -/
def Dev.barWrite (d : Dev) (fn bar off v : Nat) (end_ : Bool) (next : Nat) : Dev :=
  if !d.host.linkUp ∨ off % 4 ≠ 0 then d
  else if bar = 0 then d.bar0Write fn off v end_ next
  else if bar = 2 then d.bar2Write fn off v
  else d

/-- An access of `n` bytes that is not a naturally aligned 32-bit one (R10): a read returns 0xFF in each byte, and a write is discarded. -/
def Dev.wrongWidth (d : Dev) (off n : Nat) (write : Bool) : Dev :=
  if !d.host.linkUp ∨ write ∨ (n = 4 ∧ off % 4 = 0) then d else { d with reply := { data := List.replicate n 0xFF } }

end Sys2Proof.Machine
end

