-- ==== Sys2Proof/Machine/Fabric.lean ====
section
/-! DEFINITION. Commands that other nodes of the fabric carry here, and PORT_ADMIN as a command (R362, R368, R636, R671, R672, R723). -/

namespace Sys2Proof.Machine

/-- PORT_ADMIN of a ring or of a REQUEST (R362, R368, R636, R715): in the cycle of an action on the port, the action decides (R98). -/
def Dev.portAdminCmd (d : Dev) (p : List Byte) : Dev × Ans :=
  let up := byteAt p 0
  let n := leNat (slice p 2 2)
  if 2 ≤ up ∨ byteAt p 1 ≠ 0 ∨ !zeros (slice p 4 36) ∨ 256 ≤ n then (d, { status := stBAD_PARAM })
  else if (d.speedOf n).isNone then (d, { status := stNOT_PERMITTED })
  else (if d.adminHeld n then d else d.portAdmin n (up == 1), { status := stOK, time := d.when d.tk.time })

/-- TIMELINE_ADD of a ring or of a REQUEST: a CAL_WINDOW that names no waiting run is refused with its other fields (R85, R350). -/
def Dev.timelineAddCmd (d : Dev) (p : List Byte) (fab : Bool) : Dev × Ans :=
  if byteAt p 12 = actCAL_WINDOW ∧ !d.runWaits (leNat (slice p 28 2)) then (d, { status := stBAD_PARAM, time := d.when d.tk.time })
  else d.timelineAdd p fab

/-- Whether a key's PERM and CRS_PERM give a permission (R672). -/
def Dev.crsMay (d : Dev) (perm k : Nat) : Bool := bitsAt perm k 1 == 1 && bitsAt (d.num CRS_PERM) k 1 == 1

/-- The RESPONSE to a REQUEST: its completion entry and its data (R659, R671). -/
def Dev.respond (d : Dev) (src corr : Nat) (c : Cmd) (a : Ans) (data : List Byte) : Dev :=
  d.crsSendAll csRESPONSE src corr (cplBytes c a false ++ data)

/-- A carried command executed: the module, its answer unless it goes on, and the data that it returns in place of writing host memory (R671). -/
def Dev.carried? (d : Dev) (src corr : Nat) (c : Cmd) : Dev × Option Ans × List Byte :=
  let p := c.par
  match c.op with
  | 0x01 =>
    let p1 := patch p 8 (leBytes 8 1)
    let st := d.readStatus p1
    if st = stOK then
      let v := (d.paramValue (pcId p)).getD 0 % 2 ^ 48
      let d1 := if readsTrip (pcId p) (pcCount p) then d.took.tripSeen else d.took
      (d1, some { status := stOK, result := pcCount p, value := v, time := d.when (d.sampleTime (pcId p)) }, d.readBytes (pcId p) (pcCount p))
    else (d, some { status := st }, [])
  | 0x02 =>
    if idClass (pcId p) = 0x18 ∨ idClass (pcId p) = 0x19 then (d, some { status := stNOT_PERMITTED }, [])
    else (let r := d.paramWrite p (some (fabOwner src, corr)); (r.1, r.2, []))
  | 0x11 => (let r := d.epochArm p true; (r.1, some r.2, []))
  | 0x20 => (let r := d.timelineAddCmd p true; (r.1, some r.2, []))
  | 0x21 => (let r := d.timelineCancel p; (r.1, some r.2, []))
  | 0x30 =>
    let id := leNat (slice p 0 4)
    if !zeros (slice p 4 4) || !zeros (slice p 16 24) then (d, some { status := stBAD_PARAM }, [])
    else (let r := d.record id 0 0; (r.1, some { status := if d.readable id then stOK else stBAD_PARAM }, r.2.1))
  | 0x40 =>
    let r := d.attest p
    (d, some { status := r.1, result := if r.1 = stOK then r.2.length else 0 }, if r.1 = stOK then r.2 else [])
  | 0x43 => (d, some (d.storeStatus p), [])
  | 0x50 => (let r := d.portAdminCmd p; (r.1, some r.2, []))
  | _ => (d, some { status := stBAD_PARAM }, [])

/-- REQUEST_RX (R671, R672): the first REQUEST that waits is checked and executed as if from a mailbox, and answered; one that came to all nodes is
answered without data, and not executed by the node that sent it (R675). -/
def Dev.requestRx (d : Dev) : Dev :=
  if !d.serving then d
  else match d.takeCrs csREQUEST with
  | (e, none) => e
  | (e, some (_, perm, m)) =>
    let src := cmSrc m
    let corr := cmCorr m
    let l := slice (cmPay m) 0 64
    if src = e.crs.id then e
    else
      let c := cmdOfBytes l
      match (if entryReserved l || cmLen m != 64 then none else crsPermOf c.op) with
      | none => e.respond src corr c { status := stBAD_PARAM } []
      | some k =>
        if !e.crsMay perm k then e.respond src corr c { status := stNOT_PERMITTED } []
        else
          let r := e.carried? src corr c
          match r.2.1 with
          | some a => r.1.respond src corr c a (if cmFlood m then [] else r.2.2)
          | none => { r.1 with crs := { r.1.crs with asks := r.1.crs.asks ++ [⟨src, corr, c⟩] } }

/-- Answers of carried commands that went on are sent (R672, R689, R723). -/
def Dev.fabAnswers (d : Dev) : Dev :=
  if d.bit GLB_STATE GLB_STATE_GAP then d
  else
  let l := d.crs.answers
  l.foldl (fun e x =>
    match e.crs.asks.find? (fun q => q.src == x.1 && q.corr == x.2.1) with
    | some q =>
      ({ e with crs := { e.crs with asks := e.crs.asks.erase q } }).respond q.src q.corr q.cmd ⟨x.2.2.1, x.2.2.2.1, x.2.2.2.2.1, x.2.2.2.2.2⟩ []
    | none => e) { d with crs := { d.crs with answers := [] } }

/-- RESET_MESSAGE_RX (R671, R672, R723): without the permission the message is discarded, with another KIND it also counts in CRS_BAD. -/
def Dev.resetMessage (d : Dev) : Dev :=
  match d.takeCrs csRESET with
  | (e, none) => e
  | (e, some (_, perm, m)) =>
    let k := byteAt (cmPay m) 0
    if !e.crsMay perm 4 then e
    else if k ≠ rkMODULE ∧ k ≠ rkDATA_PLANE ∧ k ≠ rkPATROL then e.bump CRS_BAD 1
    else { e with pwr := { e.pwr with crsReset := e.pwr.crsReset ++ [(k, cmSrc m, e.tk.osc + 10 * ms1)] } }

end Sys2Proof.Machine
end

