-- ==== Sys2Proof/Machine/Tick.lean ====
section
/-! DEFINITION. Refill ticks, slot boundaries and the ageing engine (R68, R78, R79, R473), what the status of banks and of the Timeline shows
after every command, and how a command runs. -/

namespace Sys2Proof.Machine

/-! ### What follows a step (R68) -/

/-- What follows a step of `x` on the Timing die: servos and slews subtract it, the EMU dividers are aligned again, outputs run on the new time,
and cycle counts of unset time end (R68, R187, R226, R317). -/
def Dev.stepTiming (d : Dev) (x : Int) : Dev :=
  let d1 := ((d.servoStep x).emuDivStep).outStep x
  (if d1.setLive then d1.live EMU_GLB_STATUS EMU_GLB_STATUS_RAWOVF false else d1).steerLive

/-- What follows a step of `x` in the Core die's own time: wheel entries keep their wait, gates hold, and slots count on from the new time
(R68, R500). -/
def Dev.stepCore (d : Dev) (x : Int) : Dev :=
  let n := nsTotal d.coreTime
  let d1 := ({ d with tk := { d.tk with lastSlot := n / 10, coreTick := n / 1024 - 1 } }).wheelRebase x
  let d2 := { d1 with net := { d1.net with gates := d1.net.gates.map (fun k => (k.1, k.2.map (fun y => { y with hold := true }))) } }
  if n % 10 = 0 then d2.net.gates.foldl (fun e k => e.gateStep k.1) d2 else d2

/-! ### Refill ticks (R42, R78, R80) -/

/-- The replicas that show REPLICA_FAULT, whose blocks take ticks by them. -/
def Dev.faulted (d : Dev) : List Nat := ((List.range 9).map (fun k => k + 1)).filter (fun k => d.repFault k)

/-- The index of the last tick that the block of replica `k` has taken, while that replica shows REPLICA_FAULT. -/
def Dev.blockTick (d : Dev) (k : Nat) : Nat := if k = 9 then d.tk.coreTick else (Tbl.get d.tk.reps {} k).tick

/-- How far off, in the master's time, the next tick of block `k` is: 0 for the master and the blocks that follow it. -/
def Dev.tickWait (d : Dev) (k : Nat) : Nat :=
  if k = 0 then d.tickEnd - d.tk.time else d.untilRep k ((d.blockTick k + 1) * 1024 * ns1)

/-- The blocks whose next tick comes now: the first to come, and with it those that follow within one CD2 cycle (assumption 72). -/
def Dev.tickBlocks (d : Dev) : List Nat :=
  let l := 0 :: d.faulted
  let e := l.foldl (fun a k => min a (d.tickWait k)) (d.tickWait 0)
  l.filter (fun k => decide (d.tickWait k ≤ e + ns1 * 4 / 5))

/-- The master's part of a refill tick, and what a step that takes effect then brings with it: on the Timing die, and in the Core die where its
own time steps, as it also does when its replica takes up the time bus again (R64 to R68, R77). Skipped actions fire. -/
def Dev.masterTick (d : Dev) : Dev :=
  let d0 := (((d.advanceTo d.tickEnd).outTick.emuDivTick).trkStream 0).trkStream 1
  let d1 := d0.tkTick.handedDone
  let stepped := d1.tk.era != d.tk.era
  let jump := (d1.coreTime : Int) - d0.coreTime
  let coreStepped := (stepped && (!d1.repFault 9 || (Tbl.get d0.tk.reps {} 9).bus)) || decide (ns1 * 4 / 5 ≤ jump.natAbs)
  let d2 := (if stepped then d1.stepTiming (d1.tk.stepSum - d.tk.stepSum) else d1).calTick.cd2Back
  let d3 := if coreStepped then d2.stepCore jump else d2
  if stepped || coreStepped then d3.fireOverdue (fun a => if coreStore a.typ then coreStepped else stepped) true else d3

/-- The hand-overs of the Timeline that are due at the Core die's present time, taken before the refill of the tick, which is still to come
(R508, R524). -/
def Dev.dueHandovers (d : Dev) : Dev :=
  let d1 := (d.tl.acts.filter (fun a => a.typ == actSHADOW_HANDOVER && decide (a.trigger ≤ d.coreTime))).foldl
    (fun e _ => e.fireNext actSHADOW_HANDOVER 0) { d with tk := { d.tk with coreTick := d.tk.coreTick - 1 } }
  { d1 with tk := { d1.tk with coreTick := d.tk.coreTick } }

/-- The Core die's part of a refill tick: hand-overs come before refills (R524). -/
def Dev.coreTickNow (d : Dev) : Dev :=
  let d1 := { d with tk := { d.tk with coreTick := if d.repFault 9 then d.tk.coreTick + 1 else d.tk.lastTick }, net := { d.net with ticks := d.net.ticks + 1 } }
  if d1.blockUp bkCORE then d1.dueHandovers.tickHandovers.bucketTick.limiterTick.ipfixExport else d1

/-- A block's tick counted where it follows its own replica. -/
def Dev.countTick (d : Dev) (k : Nat) : Dev :=
  if k = 0 ∨ k = 9 then d
  else
    let r := Tbl.get d.tk.reps {} k
    { d with tk := { d.tk with reps := Tbl.set d.tk.reps {} k { r with tick := r.tick + 1 } } }

/-- REFILL_TICK: the next multiple of 1,024 ns of network time (R64 to R66, R78), and of a replica's time in a block whose replica shows
REPLICA_FAULT (R42, R80). -/
def Dev.refillTick (d : Dev) : Dev :=
  if !d.blockUp bkTIMING then d
  else
    let l := d.tickBlocks
    let follows (k : Nat) : Bool := l.contains k || (l.contains 0 && !d.repFault k)
    let e := l.foldl (fun a k => min a (d.tickWait k)) (d.tickWait (l.headD 0))
    let d1 := if l.contains 0 then d.masterTick else d.advanceTo (d.tk.time + e)
    let d2 := (l.foldl Dev.countTick d1).loadRxAdd (fun p => follows (repOfLp p))
    if follows 9 then d2.coreTickNow else d2

/-- SLOT_BOUNDARY: the next multiple of 10 ns of the Core die's time (R79, R80, R500, R515). Entries of a revolution that begins are in the wheel
(R501). -/
def Dev.slotBoundary (d : Dev) : Dev :=
  if !d.blockUp bkTIMING then d
  else
    let n := d.tk.lastSlot + 1
    let d1 := d.advanceTo (d.tk.time + d.untilCore (n * 10 * ns1))
    let d2 := { d1 with tk := { d1.tk with lastSlot := n } }
    let d3 := if n % 65536 = 0 then d2.farMove else d2
    if d3.blockUp bkCORE then d3.net.gates.foldl (fun e k => e.gateStep k.1) (d3.wheelRelease (n * 10)) else d3

/-- FAR_RING_MOVE (R501). -/
def Dev.farRing (d : Dev) : Dev := if d.blockUp bkCORE then d.farMove else d

/-- Whether the head copy of a queue is older than its AGE (R472, R473). -/
def Dev.headOld (d : Dev) (q : Nat) : Bool :=
  match d.queue q with
  | c :: _ => decide (d.fld (Q_CTRL q) Q_CTRL_AGE * 1000000 < (d.net.ticks - c.enq) * 1024)
  | [] => false

/-- Head copies older than AGE dropped, up to `n` of them (R473). -/
def Dev.ageQueue (d : Dev) (q : Nat) : Nat → Dev
  | 0 => d
  | n + 1 => if d.headOld q then (((d.dropHead q drAGED).bump (Q_AGED q) 1).pulse (Q_STATUS q) Q_STATUS_AGE).ageQueue q n else d

/-- AGEING_EXAMINATION of a queue: one cycle of the engine, which drops up to 16 copies (R473). -/
def Dev.ageing (d : Dev) (q : Nat) : Dev := if d.blockUp bkCORE then d.ageQueue q 16 else d

/-! ### Status that follows the Timekeeper, the banks and the Timeline (R63, R93, R436, R448) -/

/-- An item showing a number, written only where it shows another. -/
def Dev.display (d : Dev) (p n : Nat) : Dev := if d.num p = n then d else d.putNum p n

/-- TL_STATUS with ARMED, OVF_LIVE and FIRE_LIVE as the stores and the fire log stand (R93). -/
def Dev.tlWord (d : Dev) : Nat :=
  let h := d.num TL_FIRE_HEAD
  let a := d.num TL_FIRE_ACK
  let n := (h + 0x20000 - 1 - a % 0x10000) % 0x10000
  let v := d.num TL_STATUS
  withBits (withBits (withBits v 16 13 d.tl.acts.length) 3 1 (if 1024 < n then 1 else 0)) 0 1 (if n = 0 then 0 else 1)

/-- TK_STATUS with SLEW_LIVE and REPLICA_LIVE as TK_SLEW_REMAIN and the replicas stand (R63). -/
def Dev.tkWord (d : Dev) : Nat :=
  withBits (withBits (d.num TK_STATUS) TK_STATUS_SLEW 1 (if d.tk.remain = 0 then 0 else 1)) TK_STATUS_REPLICA 1
    (if (List.range 9).any (fun k => d.repFault (k + 1)) then 1 else 0)

/-- The items that show the Timekeeper, the banks and the Timeline brought up to date. -/
def Dev.settle (d : Dev) : Dev :=
  (((((d.display CLS_BANK_STATUS d.cls.status).display CLS_BANK_ID0 d.cls.bank0.ruleset).display CLS_BANK_ID1 d.cls.bank1.ruleset).display
    CLS_EXACT_USED d.cls.exact_.length).display TL_STATUS d.tlWord).display TK_STATUS d.tkWord

end Sys2Proof.Machine
end

