-- ==== Sys2Proof/Machine/Run.lean ====
section
/-! DEFINITION. How a command runs on the state, and what single commands need beside the operations of their units. -/

namespace Sys2Proof.Machine

/-- A command taking its effect on the module, whose status items then show it; the queue is left alone. -/
def run (s : State) (f : Dev → Dev) : Host.Outcome State Fault Refusal := .next { s with dev := (f s.dev).settle }

/-- The same for a command that may change a link of the fabric: adjacencies and the node's LSR follow it (R663, R666). -/
def runNet (s : State) (f : Dev → Dev) : Host.Outcome State Fault Refusal := run s (fun d => (f d).crsCheck)

/-- An event of a block that has no power or is in reset does not occur (assumption 7). -/
def Dev.inBlock (d : Dev) (b : Nat) (f : Dev → Dev) : Dev := if d.blockUp b then f d else d

/-- Nothing crosses the host link while it is down (R717, R720). -/
def Dev.overLink (d : Dev) (f : Dev → Dev) : Dev := if d.host.linkUp then f d else d

/-! ### Registers by their offsets in BAR0 of PF0 (R624, R642) -/

def ringReg (r off : Nat) : Nat := 0x1000 + 0x40 * r + off
def dmaReg (c off : Nat) : Nat := 0x20000 + 0x100 * c + off

/-- A write that has no row of its own (R13). -/
def Dev.writeTo (d : Dev) (w : WriteTo) : Dev :=
  match w with
  | .reg fn bar off v => d.barWrite fn.val bar.num off.toNat v.toNat true 0
  | .item id v => d.writeItem id.toNat v.toNat

/-- Items written together, the answer shown (R640). -/
def Dev.writeAll (d : Dev) (ws : List (Nat × Nat)) : Dev :=
  let r := d.writeItems ws none
  match r.2 with
  | some a => { r.1 with reply := { status := a.status, result := a.result, value := a.value, time := a.time } }
  | none => r.1

/-- An item written as it stands with one bit at 1. -/
def Dev.writeBit (d : Dev) (p b : Nat) : Dev := d.writeItem p (withBits (d.num p % 2 ^ 48) b 1 1)

/-- CTRL of one descriptor that holds a whole frame or block (R644). -/
def wholeCtrl (last irq : Bool) (n : Nat) : Nat := last.toNat * 2 ^ 31 + irq.toNat * 2 ^ 30 + 2 ^ 29 + 2 ^ 28 + n % 2 ^ 24

/-! ### Commands of a ring -/

/-- A command that answers at once. -/
def answered (x : Dev × Ans) : Dev × Option Ans := (x.1, some x.2)

/-- A command of an opcode that several rows share, told apart by the byte at `off` of its parameter area. -/
def Dev.subCmd (d : Dev) (r tag op off : Nat) (sel : Nat → Bool) (f : Dev → Cmd → Dev × Option Ans) : Dev :=
  if (d.cmdOf r tag).any (fun c => sel (byteAt c.par off)) then d.runCmd r tag op f else d

/-- TABLE_WRITE of a ring: RESULT is the number of records applied (R435, R636). -/
def Dev.tableCmd (d : Dev) (par recs : List Byte) (owner : Nat × Nat) : Dev × Option Ans :=
  let r := d.tableBlock par recs owner
  (r.1, r.2.map (fun x => { status := x.1, result := x.2 }))

/-! ### Events -/

/-- A new image's servo program is loaded at its Piste's next update (R40, R683). -/
def Dev.servoProgram (d : Dev) (k : Nat) : Dev :=
  if k = 1 ∧ d.trust.servoA then ({ d with trust := { d.trust with servoA := false } }).loadServo 0
  else if k = 2 ∧ d.trust.servoB then ({ d with trust := { d.trust with servoB := false } }).loadServo 1
  else d

/-- The BOUNDS item of a loop (R54). -/
def boundsItem (l : LoopNo) : Nat :=
  match l with
  | .servo k => PTE_SERVO_BW_BOUNDS k.inst
  | .lane l s => LANE_EQ_BOUNDS l.val s.val
  | .vcore => PWR_VCORE_BOUNDS

/-- FRER_RECOVERY_RESET (R389): RESET_MS without a frame. -/
def Dev.recoveryTimeout (d : Dev) (s : Nat) : Dev := if d.runsT (tmr 2 s) then (d.dueT (tmr 2 s)).rcvyReset s else d

/-- The control item of a shadow set (R518). -/
def shadowItemOf (x : ShadowNo) : Nat :=
  match x with
  | .shp i => SHP_SHADOW i.val
  | .pol i => POL_SHADOW i.val
  | .slw i => SLW_SHADOW i.val

/-- The test items of a lane or of a trunk (R558, R570). -/
def prbsItem (u : TestUnit) : Nat :=
  match u with
  | .lane l => LANE_PRBS_CTRL l.val
  | .trunk t _ => TRK_PRBS_CTRL t.val
def eyeItem (u : TestUnit) : Nat :=
  match u with
  | .lane l => LANE_EYE_CTRL l.val
  | .trunk t _ => TRK_EYE_CTRL t.val

def Dev.checkerLock (d : Dev) (u : TestUnit) : Dev :=
  match u with
  | .lane l => d.laneChkLock l.val
  | .trunk t k => d.trkChkLock t.val k.val
def Dev.checkerLoss (d : Dev) (u : TestUnit) (bits errors : Nat) : Dev :=
  match u with
  | .lane l => d.laneChkLoss l.val bits errors
  | .trunk t k => d.trkChkLoss t.val k.val bits errors
def Dev.eyeDone (d : Dev) (u : TestUnit) (errors : Nat) : Dev :=
  match u with
  | .lane l => d.laneEyeDone l.val errors
  | .trunk t _ => d.trkEyeDone t.val errors

/-- LSR_REFRESH (R666). -/
def Dev.lsrRefreshNow (d : Dev) : Dev := if d.runsT tLsr && d.crsOn then d.lsrRefresh else d

/-- HLT_TRIP_READ (R772): what HLT_TRIP holds is returned. -/
def Dev.tripRead (d : Dev) : Dev := ({ d with reply := { value := (d.shown HLT_TRIP).toNat } }).tripSeen

/-- The module while no command waits: one cycle of the clock that counts network time (assumption 2). In S4 the Timing die has no power, and
only the model's own elapsed time goes on. -/
def Dev.idle (d : Dev) : Dev :=
  if d.blockUp bkTIMING then d.cycle else { d with tk := { d.tk with osc := d.tk.osc + 40 * ns1 } }

end Sys2Proof.Machine
end

