-- ==== Sys2Proof/Machine/ClockCmds.lean ====
section
/-! DEFINITION. Clock domains and calibration: the meaning of each command. -/

namespace Sys2Proof.Machine

/-- PLL_T_SLEW_UPDATE (R312): At each 1 ms PLL-T's offset moves toward its target, compensated in TK_FREQ_ADJ. -/
def execPllTSlewUpdate (s : State) : Host.Outcome State Fault Refusal :=
  run s (fun d => d.inBlock bkTIMING (fun d => d.pllSlew))

/-- CD_PLL_DIV_WRITE (R306): An accepted divider word moves the domain to bypass and starts re-locking. -/
def execCdPllDivWrite (i : DomainNo) (v : Word) (s : State) : Host.Outcome State Fault Refusal :=
  run s (fun d => d.writeItem (CD_PLL_DIV i.val) v.toNat)

/-- RETURN_FROM_BYPASS (R306): After 4,096 in-lock comparisons the domain returns to its PLL. -/
def execReturnFromBypass (i : DomainNo) (s : State) : Host.Outcome State Fault Refusal :=
  runNet s (fun d => d.inBlock bkTIMING (fun d => d.returnBypass i.val))

/-- LOCKFAIL_TIMEOUT (R308): No lock within 10 ms sets LOCKFAIL. -/
def execLockfailTimeout (i : DomainNo) (s : State) : Host.Outcome State Fault Refusal :=
  run s (fun d => d.lockFail i.val)

/-- PLL_RELOCK_RETRY (R308): Every 100 ms a failing PLL is reset and starts locking again. -/
def execPllRelockRetry (i : DomainNo) (s : State) : Host.Outcome State Fault Refusal :=
  run s (fun d => d.relockRetry i.val)

/-- LOSS_OF_LOCK (R318): After 8 out-of-lock comparisons a connected PLL's domain moves to bypass. -/
def execLossOfLock (i : DomainNo) (s : State) : Host.Outcome State Fault Refusal :=
  runNet s (fun d => d.inBlock bkTIMING (fun d => d.lossOfLock i.val))

/-- CD_SYNC_EMUDIV (R316): An EMUDIV request asks for the EMU dividers to restart at the next second. -/
def execCdSyncEmudiv (s : State) : Host.Outcome State Fault Refusal :=
  run s (fun d => d.writeItem CD_SYNC_CTRL 2)

/-- CD_SYNC_PORTDIV (R316): A PORTDIV request asks for the CD1 and CD5 dividers to restart, refused under traffic. -/
def execCdSyncPortdiv (s : State) : Host.Outcome State Fault Refusal :=
  run s (fun d => d.writeItem CD_SYNC_CTRL 1)

/-- DIVIDER_SYNC (R316): Requested dividers restart at the first CD2 edge after the next whole second. -/
def execDividerSync (s : State) : Host.Outcome State Fault Refusal :=
  runNet s (fun d => d.inBlock bkTIMING (fun d => d.dividerSync))

/-- OSC_FAIL (R323): No oscillator edge for 10 µs reports OSC_FAIL and asserts ALERT_N. -/
def execOscFail (s : State) : Host.Outcome State Fault Refusal :=
  runNet s (fun d => d.oscFail)

/-- TWIN_MEASUREMENT (R333): Each second a Twin lane loop is measured and Δa moves toward its demand. -/
def execTwinMeasurement (g : CageNo) (tau : Word) (back : BitVec 16) (rms : BitVec 32) (stepped : Bool) (s : State) : Host.Outcome State
    Fault Refusal :=
  run s (fun d => d.inBlock bkTIMING (fun d => d.twinMeasure g.val tau.toNat back.toNat rms.toNat stepped))

/-- TWIN_STALE (R335): A group without a valid measurement for TWIN_STALE becomes stale. -/
def execTwinStale (g : CageNo) (s : State) : Host.Outcome State Fault Refusal :=
  run s (fun d => d.twinStale g.val)

/-- CAL_WINDOW_OPEN (R351): An OPTIC run's window opens once its loop link gives unflagged stamps. -/
def execCalWindowOpen (s : State) : Host.Outcome State Fault Refusal :=
  run s (fun d => d.calOpen)

/-- CAL_LINK_TIMEOUT (R351): An OPTIC loop not up within 2 s ends the run with LINK. -/
def execCalLinkTimeout (s : State) : Host.Outcome State Fault Refusal :=
  runNet s (fun d => d.calLink)

/-- CAL_WINDOW_CLOSE (R353): A run's window closes and its result decides a user record write. -/
def execCalWindowClose (lanes : List (List (Int × Bool))) (s : State) : Host.Outcome State Fault Refusal :=
  runNet s (fun d => d.calClose lanes)

/-- USER_CLEAR (R344): Writes a user record with no entries. -/
def execUserClear (s : State) : Host.Outcome State Fault Refusal :=
  run s (fun d => d.writeBit CAL_CTRL 32)

end Sys2Proof.Machine
end

