-- ==== Sys2Proof/Machine/CresorCmds.lean ====
section
/-! DEFINITION. The fabric: the meaning of each command. -/

namespace Sys2Proof.Machine

/-- HELLO_TX (R663): Every HELLO_MS a node sends a HELLO on each link. -/
def execHelloTx (s : State) : Host.Outcome State Fault Refusal :=
  run s (fun d => d.helloTx)

/-- HELLO_RX (R663): A HELLO moves the adjacency and may reveal an ID collision. -/
def execHelloRx (s : State) : Host.Outcome State Fault Refusal :=
  run s (fun d => d.helloRx)

/-- DEAD_MS_EXPIRY (R663): No HELLO for DEAD_MS returns the adjacency to DOWN. -/
def execDeadMsExpiry (k : CrsNo) (s : State) : Host.Outcome State Fault Refusal :=
  run s (fun d => d.deadExpiry k.val)

/-- LSR_REFRESH (R666): A node floods its LSR every LSR_REFRESH or on an adjacency change. -/
def execLsrRefresh (s : State) : Host.Outcome State Fault Refusal :=
  run s (fun d => d.lsrRefreshNow)

/-- LSR_RX (R667): A newer LSR is stored and flooded on. -/
def execLsrRx (s : State) : Host.Outcome State Fault Refusal :=
  run s (fun d => d.lsrRx)

/-- LSR_MAXAGE_EXPIRY (R667): An LSR not refreshed within LSR_MAXAGE is removed. -/
def execLsrMaxageExpiry (node : BitVec 16) (s : State) : Host.Outcome State Fault Refusal :=
  run s (fun d => d.lsrExpiry node.toNat)

/-- ROUTE_COMPUTATION (R668): Within 100 ms of a database change Eodin recomputes shortest paths. -/
def execRouteComputation (s : State) : Host.Outcome State Fault Refusal :=
  run s (fun d => d.routeCompute)

/-- CRESOR_MESSAGE_RX (R669): A received message is authenticated, checked for replay and consumed or forwarded. -/
def execCresorMessageRx (s : State) : Host.Outcome State Fault Refusal :=
  run s (fun d => d.cresorRx)

/-- REQUEST_RX (R672): A carried command is checked for permission and executed, with a RESPONSE. -/
def execRequestRx (s : State) : Host.Outcome State Fault Refusal :=
  runNet s (fun d => d.requestRx)

/-- RESPONSE_RX (R674): A whole RESPONSE completes the originator's REQUEST. -/
def execResponseRx (s : State) : Host.Outcome State Fault Refusal :=
  run s (fun d => d.responseRx)

/-- CRESOR_REQUEST_TIMEOUT (R674): A REQUEST without a whole response within TIMEOUT_MS completes DEGRADED. -/
def execCresorRequestTimeout (corr : BitVec 32) (s : State) : Host.Outcome State Fault Refusal :=
  run s (fun d => d.requestTimeout corr.toNat)

/-- RESET_MESSAGE_RX (R723): A Cresor RESET is accepted to act 10 ms later, or discarded. -/
def execResetMessageRx (s : State) : Host.Outcome State Fault Refusal :=
  run s (fun d => d.resetMessage)

/-- CRESOR_RESET_ACT (R723): 10 ms after a RESET message the target performs the named reset. -/
def execCresorResetAct (s : State) : Host.Outcome State Fault Refusal :=
  runNet s (fun d => d.cresorResetAct)

end Sys2Proof.Machine
end

