-- ==== Sys2Proof/Machine/EmuCmds.lean ====
section
/-! DEFINITION. The Edge Measurement Unit: the meaning of each command. -/

namespace Sys2Proof.Machine

/-- EMU_EDGE (R224): A qualified edge is counted, stamped if possible and used by consumers and the mode. -/
def execEmuEdge (c : EmuNo) (bin : Fin 512) (rise : Bool) (s : State) : Host.Outcome State Fault Refusal :=
  run s (fun d => d.inBlock bkTIMING (fun d => ((d.emuEdge c.val bin.val rise).edgeCand c.val).teleAll))

/-- INTERPOLATOR_EXCHANGE (R222): At each whole second the interpolators exchange roles and the new bin table is used or rejected. -/
def execInterpolatorExchange (c : EmuNo) (hits : List Nat) (s : State) : Host.Outcome State Fault Refusal :=
  run s (fun d => d.inBlock bkTIMING (fun d => d.interpolators c.val hits))

/-- INTERVAL_TIMEOUT (R232): An interval with no stop within EMU_TIMEOUT writes a TIMEOUT entry and re-arms. -/
def execIntervalTimeout (c : EmuNo) (s : State) : Host.Outcome State Fault Refusal :=
  run s (fun d => d.inBlock bkTIMING (fun d => (d.intervalTimeout c.val).teleAll))

/-- GATE_END (R233): At each gate end a frequency entry is written. -/
def execGateEnd (c : EmuNo) (s : State) : Host.Outcome State Fault Refusal :=
  run s (fun d => d.inBlock bkTIMING (fun d => (d.gateEnd c.val).teleAll))

/-- NO_EDGE_TIMEOUT (R218): No qualified edge for 1.1 s sets NOEDGE_LIVE. -/
def execNoEdgeTimeout (c : EmuNo) (s : State) : Host.Outcome State Fault Refusal :=
  run s (fun d => d.inBlock bkTIMING (fun d => d.noEdge c.val))

/-- DELAY_LINE_LOCK (R221): The EMU delay line reaches lock. -/
def execDelayLineLock (s : State) : Host.Outcome State Fault Refusal :=
  run s (fun d => d.inBlock bkTIMING (fun d => d.lineLock))

/-- DELAY_LINE_LOCK_LOSS (R221): The EMU delay line loses lock, making stamps COARSE. -/
def execDelayLineLockLoss (s : State) : Host.Outcome State Fault Refusal :=
  run s (fun d => d.inBlock bkTIMING (fun d => d.lineLoss))

/-- RAW_COUNTER_WRAP (R226): The cycle counter wraps while SET_LIVE is 0. -/
def execRawCounterWrap (s : State) : Host.Outcome State Fault Refusal :=
  run s (fun d => d.inBlock bkTIMING (fun d => d.rawWrap))

/-- EMUH_RD_WRITE (R237): The host consumes entries of an EMU stream head. -/
def execEmuhRdWrite (c : EmuNo) (v : BitVec 32) (s : State) : Host.Outcome State Fault Refusal :=
  run s (fun d => d.barWrite 0 0 (0x40004 + 0x1000 * c.val) v.toNat true 0)

/-- EMU_FLUSH_EXPIRY (R238): An entry waiting EMU_FLUSH closes its telemetry buffer. -/
def execEmuFlushExpiry (c : EmuNo) (s : State) : Host.Outcome State Fault Refusal :=
  run s (fun d => d.emuFlush c.val)

/-- EMU_CTRL_WRITE (R239): A write of a channel's mode and queue control, refused BUSY under R239 or R215. -/
def execEmuCtrlWrite (c : EmuNo) (v : Word) (s : State) : Host.Outcome State Fault Refusal :=
  run s (fun d => d.writeItem (EMU_CTRL c.val) v.toNat)

end Sys2Proof.Machine
end

