-- ==== Sys2Proof/Machine/FrameCmds.lean ====
section
/-! DEFINITION. The path of a frame: reception, classification, buffers and transmission: the meaning of each command. -/

namespace Sys2Proof.Machine

/-- FRAME_HEAD_RX (R110): A frame's first word is detected and its ingress stamp computed with its flags. -/
def execFrameHeadRx (n : LpNo) (t : RxTerms) (head : List Byte) (s : State) : Host.Outcome State Fault Refusal :=
  run s (fun d => d.inBlock bkCORE (fun d => d.headRx n.val t head))

/-- CLASSIFY_PASS (R403): A pass parses, looks up and runs action programs, then admits copies or recirculates. -/
def execClassifyPass (frame : Nat) (s : State) : Host.Outcome State Fault Refusal :=
  run s (fun d => d.inBlock bkCORE (fun d => d.classifyPass frame))

/-- PASS_LATE (R405): A pass not complete 2 µs after its start drops the frame with PASS_LATE. -/
def execPassLate (frame : Nat) (s : State) : Host.Outcome State Fault Refusal :=
  run s (fun d => d.inBlock bkCORE (fun d => d.passLate frame))

/-- BUFFER_REQUEST (R462): The pool allocator serves a frame's buffer request in its rotation. -/
def execBufferRequest (pool : PoolNo) (start : Fin 17) (s : State) : Host.Outcome State Fault Refusal :=
  run s (fun d => d.inBlock bkCORE (fun d => d.bufferRequest pool.val start.val))

/-- SPILL (R463): An unserved request moves to the next larger pool's next cycle, or drops with POOL_EMPTY. -/
def execSpill (pool : PoolNo) (s : State) : Host.Outcome State Fault Refusal :=
  run s (fun d => d.inBlock bkCORE (fun d => d.spill pool.val))

/-- FRAME_TAIL_RX (R370): At a frame's tail the MAC checks it, fixes its outcome and stomps or drops a bad frame. -/
def execFrameTailRx (n : LpNo) (rest : List Byte) (fcs : BitVec 32) (err : Option Nat) (s : State) : Host.Outcome State Fault Refusal :=
  run s (fun d => d.inBlock bkCORE (fun d => d.tailRx n.val rest fcs.toNat err))

/-- LAUNCH_COMMITMENT (R118): The egress MAC commits a frame, fixes its egress time, charges shapers and rewrites it. -/
def execLaunchCommitment (n : LpNo) (t : TxTerms) (s : State) : Host.Outcome State Fault Refusal :=
  run s (fun d => d.inBlock bkCORE (fun d => (d.launch n.val t).ipfixExport))

/-- LAST_BYTE_SENT (R466): A copy's last byte is sent, releasing its buffer at reference count 0. -/
def execLastByteSent (n : LpNo) (s : State) : Host.Outcome State Fault Refusal :=
  run s (fun d => d.inBlock bkCORE (fun d => d.lastByte n.val))

/-- VAR_UNKNOWN_END (R117): After two alignment-marker periods on every lane a port's stamps lose VAR_UNKNOWN. -/
def execVarUnknownEnd (n : LpNo) (s : State) : Host.Outcome State Fault Refusal :=
  run s (fun d => d.inBlock bkCORE (fun d => d.varEnd n.val))

/-- SWEEP_READ (R591): The running sweep reads its next ID and delivers a stamped record. -/
def execSweepRead (s : State) : Host.Outcome State Fault Refusal :=
  run s (fun d => d.sweepRead.ipfixExport)

end Sys2Proof.Machine
end

