-- ==== Sys2Proof/Machine/HealthCmds.lean ====
section
/-! DEFINITION. The chassis bus, optics and temperatures: the meaning of each command. -/

namespace Sys2Proof.Machine

/-- IDENTITY (R756): SMBus IDENTITY returns the 32-byte identity block. -/
def execIdentity (s : State) : Host.Outcome State Fault Refusal :=
  run s (fun d => d.smbus d.identity)

/-- STATUS (R757): SMBus STATUS returns the status word. -/
def execStatus (s : State) : Host.Outcome State Fault Refusal :=
  run s (fun d => d.smbus (leBytes 2 d.statusWord))

/-- SENSORS (R755): SMBus SENSORS returns temperatures, feeds and power. -/
def execSensors (a : BitVec 16) (b : BitVec 16) (power : BitVec 16) (s : State) : Host.Outcome State Fault Refusal :=
  run s (fun d => d.smbusSensors a.toNat b.toNat power.toNat)

/-- LAST_RESET (R755): SMBus LAST_RESET returns PWR_LAST_RESET. -/
def execLastReset (s : State) : Host.Outcome State Fault Refusal :=
  run s (fun d => d.lastReset)

/-- POWER_ON (R755): SMBus POWER_ON leaves S3 or S4 for S0 or starts a waiting cold start. -/
def execPowerOn (s : State) : Host.Outcome State Fault Refusal :=
  run s (fun d => d.powerOn)

/-- REMOVE_REQ (R755): SMBus REMOVE_REQ raises a removal request. -/
def execRemoveReq (s : State) : Host.Outcome State Fault Refusal :=
  run s (fun d => d.removeReq)

/-- REMOVE_CANCEL (R755): SMBus REMOVE_CANCEL cancels a standing request. -/
def execRemoveCancel (s : State) : Host.Outcome State Fault Refusal :=
  run s (fun d => d.removeCancel)

/-- ALERT_RESPONSE (R758): A read of the Alert Response Address returns 0xB4 and releases ALERT_N. -/
def execAlertResponse (s : State) : Host.Outcome State Fault Refusal :=
  run s (fun d => d.alertResponse)

/-- OPTIC_INSERTION (R739): A plugged optic is powered in low-power mode and admitted to high power within BUDGET. -/
def execOpticInsertion (c : CageNo) (o : Optic) (s : State) : Host.Outcome State Fault Refusal :=
  run s (fun d => d.opticInsert c.val o)

/-- OPTIC_REMOVAL (R739): An optic is unplugged and a FAULT switch is released. -/
def execOpticRemoval (c : CageNo) (s : State) : Host.Outcome State Fault Refusal :=
  run s (fun d => d.opticRemove c.val)

/-- OPTIC_OVERCURRENT (R739): Overcurrent turns the cage switch off and enters FAULT. -/
def execOpticOvercurrent (c : CageNo) (s : State) : Host.Outcome State Fault Refusal :=
  run s (fun d => d.opticOver c.val)

/-- POWER_EN_WRITE (R774): Setting POWER_EN re-powers a cage and applies a new BUDGET. -/
def execPowerEnWrite (c : CageNo) (budget : BitVec 8) (s : State) : Host.Outcome State Fault Refusal :=
  run s (fun d => d.writeItem (HLT_OPT_CTRL c.val) (budget.toNat * 0x10000 + 1))

/-- SENSOR_COMPARE (R763): Each millisecond a sensor compares its reading with WARN. -/
def execSensorCompare (i : SensorNo) (t : BitVec 24) (s : State) : Host.Outcome State Fault Refusal :=
  run s (fun d => d.sensorCompare (i.val + 1) t.toInt)

/-- THERMAL_TRIP (R763): A reading at TRIP for 1 ms records the trip and enters S4. -/
def execThermalTrip (i : SensorNo) (s : State) : Host.Outcome State Fault Refusal :=
  runNet s (fun d => d.thermalTrip (i.val + 1))

/-- TRIP_RESTART (R764): After 60 s at 10 °C below WARN a tripped module cold-starts. -/
def execTripRestart (s : State) : Host.Outcome State Fault Refusal :=
  run s (fun d => d.tripRestart)

/-- HLT_TRIP_READ (R772): A read of HLT_TRIP clears TRIPPED_LIVE. -/
def execHltTripRead (s : State) : Host.Outcome State Fault Refusal :=
  run s (fun d => d.tripRead)

end Sys2Proof.Machine
end

