-- ==== Sys2Proof/Machine/HostCmds.lean ====
section
/-! DEFINITION. The host link: BAR accesses, mailbox rings and DMA channels: the meaning of each command. -/

namespace Sys2Proof.Machine

/-- BAR_WRONG_WIDTH_ACCESS (R10): A BAR access that is not a naturally aligned 32-bit access reads 0xFF in every byte or is discarded. -/
def execBarWrongWidthAccess (off : BitVec 24) (bytes : Fin 4097) (write : Bool) (s : State) : Host.Outcome State Fault Refusal :=
  run s (fun d => d.wrongWidth off.toNat bytes.val write)

/-- SPLIT_LOW_REGISTER_READ (R11): A read of the lower register of a 48- or 64-bit value latches the upper part for the next read of the higher
register. -/
def execSplitLowRegisterRead (fn : FnNo) (bar : Bar) (off : BitVec 24) (s : State) : Host.Outcome State Fault Refusal :=
  run s (fun d => d.barRead fn.val bar.num off.toNat)

/-- SPLIT_LOW_REGISTER_WRITE (R11): A write to the lower register of a split value is held until the higher register is written. -/
def execSplitLowRegisterWrite (fn : FnNo) (off : BitVec 24) (v : BitVec 32) (s : State) : Host.Outcome State Fault Refusal :=
  run s (fun d => d.barWrite fn.val 0 off.toNat v.toNat true 0)

/-- SPLIT_HIGH_REGISTER_WRITE (R11): A write to the higher register makes the whole held split value take effect at once. -/
def execSplitHighRegisterWrite (fn : FnNo) (off : BitVec 24) (v : BitVec 32) (s : State) : Host.Outcome State Fault Refusal :=
  run s (fun d => d.barWrite fn.val 0 off.toNat v.toNat true 0)

/-- REGISTER_WRITE (R13): A write of a register or parameter field with no row of its own, applied under its access code. -/
def execRegisterWrite (w : WriteTo) (s : State) : Host.Outcome State Fault Refusal :=
  runNet s (fun d => d.writeTo w)

/-- COMMAND_FETCH (R627): The module fetches the next command of a ring once the fetch conditions hold, reserving its completion slot. -/
def execCommandFetch (entry : BitVec 512) (s : State) : Host.Outcome State Fault Refusal :=
  run s (fun d => d.commandFetch entry)

/-- MBX_ENABLE_SET (R626): Setting ENABLE of a ring zeroes its four indices and starts fetching. -/
def execMbxEnableSet (r : RingNo) (v : BitVec 32) (s : State) : Host.Outcome State Fault Refusal :=
  run s (fun d => d.barWrite 0 0 (ringReg r.val 0x10) (v.toNat / 2 * 2 + 1) true 0)

/-- MBX_ENABLE_CLEAR (R629): Clearing ENABLE stops fetching; the ring becomes QUIESCED when in-flight commands complete. -/
def execMbxEnableClear (r : RingNo) (v : BitVec 32) (s : State) : Host.Outcome State Fault Refusal :=
  run s (fun d => d.barWrite 0 0 (ringReg r.val 0x10) (v.toNat / 2 * 2) true 0)

/-- MBX_CMD_TAIL_WRITE (R626): The host advances the command tail, or the write is discarded with CFG_STICKY. -/
def execMbxCmdTailWrite (r : RingNo) (v : BitVec 32) (s : State) : Host.Outcome State Fault Refusal :=
  run s (fun d => d.barWrite 0 0 (ringReg r.val 0x18) v.toNat true 0)

/-- MBX_CPL_HEAD_WRITE (R626): The host consumes completions, or the write is discarded with CFG_STICKY. -/
def execMbxCplHeadWrite (r : RingNo) (v : BitVec 32) (s : State) : Host.Outcome State Fault Refusal :=
  run s (fun d => d.barWrite 0 0 (ringReg r.val 0x20) v.toNat true 0)

/-- FUNCTION_LEVEL_RESET (R617): An FLR disables rings on PF0 or returns the function's DMA channels to IDLE. -/
def execFunctionLevelReset (fn : FnNo) (s : State) : Host.Outcome State Fault Refusal :=
  run s (fun d => d.overLink (fun e => e.flr fn.val))

/-- BUS_MASTER_DISABLE (R618): Bus Master Enable going to 0 stops the function's DMA channels and holds mailbox fetch and posting. -/
def execBusMasterDisable (fn : FnNo) (s : State) : Host.Outcome State Fault Refusal :=
  run s (fun d => d.overLink (fun e => e.bmeOff fn.val))

/-- BUS_MASTER_ENABLE (R618): Bus Master Enable returning to 1 lets held completions post and fetching resume. -/
def execBusMasterEnable (fn : FnNo) (s : State) : Host.Outcome State Fault Refusal :=
  run s (fun d => d.overLink (fun e => e.bmeOn fn.val))

/-- DMA_RUN_SET (R652): Setting RUN starts a channel from IDLE or resumes it from STOPPED or ERROR. -/
def execDmaRunSet (ch : ChanNo) (roData : Bool) (again : Bool) (next : BitVec 64) (s : State) : Host.Outcome State Fault Refusal :=
  run s (fun d => d.barWrite 0 0 (dmaReg ch.val 0x10) (1 + 4 * roData.toNat) again next.toNat)

/-- DMA_RUN_CLEAR (R652): Clearing RUN takes a channel to STOPPING or, when PARKED, to STOPPED. -/
def execDmaRunClear (ch : ChanNo) (roData : Bool) (s : State) : Host.Outcome State Fault Refusal :=
  run s (fun d => d.barWrite 0 0 (dmaReg ch.val 0x10) (4 * roData.toNat) true 0)

/-- DMA_RESET (R652): RESET returns a STOPPED or ERROR channel to IDLE. -/
def execDmaReset (ch : ChanNo) (roData : Bool) (s : State) : Host.Outcome State Fault Refusal :=
  run s (fun d => d.barWrite 0 0 (dmaReg ch.val 0x10) (2 + 4 * roData.toNat) true 0)

/-- DMA_KICK (R651): A kick makes a parked engine re-read the tail's CTRL or sets PENDING. -/
def execDmaKick (ch : ChanNo) (again : Bool) (next : BitVec 64) (s : State) : Host.Outcome State Fault Refusal :=
  run s (fun d => d.barWrite 0 0 (dmaReg ch.val 0x18) 0 again next.toNat)

/-- DESCRIPTOR_COMPLETE (R650): The engine finishes a descriptor, writes its STATUS, increments DMA_DONE and parks at END. -/
def execDescriptorComplete (ch : ChanNo) (addr : BitVec 64) (ctrl : BitVec 32) (next : BitVec 64) (data : List Byte) (again : Bool) (s :
    State) : Host.Outcome State Fault Refusal :=
  run s (fun d => d.descriptor ch.val addr.toNat ctrl.toNat next.toNat data again)

/-- HOLDOFF_EXPIRY (R653): HOLDOFF µs after the first completion since the last event, an end-of-count event occurs. -/
def execHoldoffExpiry (ch : ChanNo) (s : State) : Host.Outcome State Fault Refusal :=
  run s (fun d => d.holdoff ch.val)

/-- PUNT_TRUNC_TIMEOUT (R649): A punted frame cut by the end of the chain is truncated after 1 ms without a kick. -/
def execPuntTruncTimeout (ch : Fin 32) (s : State) : Host.Outcome State Fault Refusal :=
  run s (fun d => d.puntTimeout ch.val)

/-- INJECT_FRAME (R647): A frame with its inject header taken whole from an inject channel enters the Core die or is refused. -/
def execInjectFrame (ch : SlotNo) (addr : BitVec 64) (last : Bool) (irq : Bool) (next : BitVec 64) (data : List Byte) (again : Bool) (s :
    State) : Host.Outcome State Fault Refusal :=
  run s (fun d => d.descriptor (32 + ch.val) addr.toNat (wholeCtrl last irq data.length) next.toNat data again)

/-- TABLE_LOAD_BLOCK (R648): A TABLE_WRITE block and its records taken whole from a bulk table-load DMA channel is checked and applied. -/
def execTableLoadBlock (ch : Fin 8) (addr : BitVec 64) (last : Bool) (irq : Bool) (next : BitVec 64) (data : List Byte) (again : Bool) (s :
    State) : Host.Outcome State Fault Refusal :=
  run s (fun d => d.descriptor (56 + ch.val) addr.toNat (wholeCtrl last irq data.length) next.toNat data again)

/-- READ_FAULT (R645): A descriptor or buffer read that ends with an error, or a misaligned or zero-length descriptor, takes the DMA channel to
ERROR without writing STATUS. -/
def execReadFault (ch : ChanNo) (s : State) : Host.Outcome State Fault Refusal :=
  run s (fun d => d.readFault ch.val)

end Sys2Proof.Machine
end

