-- ==== Sys2Proof/Machine/LaneCmds.lean ====
section
/-! DEFINITION. Serial lanes, chiplet links, trunks and their tests: the meaning of each command. -/

namespace Sys2Proof.Machine

/-- SIGNAL_DETECT (R541): Signal detected for 1 ms moves a lane to CDR. -/
def execSignalDetect (l : LaneNo) (s : State) : Host.Outcome State Fault Refusal :=
  run s (fun d => d.inBlock bkCORE (fun d => d.signalDetect l.val))

/-- CDR_LOCK (R541): Clock recovery locks, moving the lane to TRAIN or ADAPT. -/
def execCdrLock (l : LaneNo) (s : State) : Host.Outcome State Fault Refusal :=
  run s (fun d => d.inBlock bkCORE (fun d => d.cdrLock l.val))

/-- ADAPT_CONVERGED (R545): The equaliser converges and the lane becomes READY. -/
def execAdaptConverged (l : LaneNo) (s : State) : Host.Outcome State Fault Refusal :=
  run s (fun d => d.inBlock bkCORE (fun d => d.adaptDone l.val))

/-- LINK_TRAINING_DONE (R541): Both ends report receiver ready and the lane enters ADAPT. -/
def execLinkTrainingDone (l : LaneNo) (ffe : BitVec 32) (s : State) : Host.Outcome State Fault Refusal :=
  run s (fun d => d.inBlock bkCORE (fun d => d.trainingDone l.val ffe.toNat))

/-- LANE_EQ_UPDATE (R545): Each equaliser stage updates within its bounds. -/
def execLaneEqUpdate (l : LaneNo) (demand : List Int) (s : State) : Host.Outcome State Fault Refusal :=
  run s (fun d => d.inBlock bkCORE (fun d => d.eqUpdate l.val demand))

/-- LANE_LIMIT_EXPIRY (R542): A lane passing its state limit returns to SIGNAL_WAIT. -/
def execLaneLimitExpiry (l : LaneNo) (s : State) : Host.Outcome State Fault Refusal :=
  runNet s (fun d => d.laneLimit l.val)

/-- SIGNAL_LOSS (R542): Loss of signal for 10 µs or of clock recovery returns a lane to SIGNAL_WAIT. -/
def execSignalLoss (l : LaneNo) (s : State) : Host.Outcome State Fault Refusal :=
  runNet s (fun d => d.inBlock bkCORE (fun d => d.laneRestart l.val))

/-- LANE_RESTART (R542): RESTART returns a lane to SIGNAL_WAIT. -/
def execLaneRestart (l : LaneNo) (s : State) : Host.Outcome State Fault Refusal :=
  runNet s (fun d => d.writeBit (LANE_CTRL l.val) 0)

/-- BUNDLE_FAIL (R548): A failed bundle takes down its chiplet link and its cages. -/
def execBundleFail (b : BundleNo) (crc : BitVec 16) (s : State) : Host.Outcome State Fault Refusal :=
  runNet s (fun d => d.inBlock bkCORE (fun d => d.bundleFail b.val crc.toNat))

/-- BUNDLE_RETRAIN (R548): A failed link is retrained once every 1 s. -/
def execBundleRetrain (k : LinkNo) (s : State) : Host.Outcome State Fault Refusal :=
  run s (fun d => d.bundleRetrain k.val)

/-- MARGIN_SCAN (R549): Every 10 s a bundle scans its lanes' margins. -/
def execMarginScan (b : BundleNo) (left : BitVec 8) (right : BitVec 8) (top : BitVec 8) (bottom : BitVec 8) (s : State) : Host.Outcome State
    Fault Refusal :=
  run s (fun d => d.inBlock bkCORE (fun d => d.marginScan b.val left.toNat right.toNat top.toNat bottom.toNat))

/-- TRUNK_CLOCK_QUALIFIED (R552): The forwarded clock qualifies and the trunk enters CLOCK. -/
def execTrunkClockQualified (t : TrunkNo) (s : State) : Host.Outcome State Fault Refusal :=
  runNet s (fun d => d.inBlock bkTIMING (fun d => d.trkClock t.val))

/-- TRUNK_CLOCK_LOST (R552): A lost forwarded clock takes the trunk to DOWN. -/
def execTrunkClockLost (t : TrunkNo) (s : State) : Host.Outcome State Fault Refusal :=
  runNet s (fun d => d.inBlock bkTIMING (fun d => d.trkClockLost t.val))

/-- TRUNK_ALIGNMENT_DONE (R552): Phase training and comma alignment complete and the trunk enters TRAIN. -/
def execTrunkAlignmentDone (t : TrunkNo) (s : State) : Host.Outcome State Fault Refusal :=
  runNet s (fun d => d.inBlock bkTIMING (fun d => d.trkAligned t.val))

/-- TRAINING_SET_RX (R553): A training set is checked, correcting the lane map, and may bring the trunk UP. -/
def execTrainingSetRx (t : TrunkNo) (set : TrainSet) (s : State) : Host.Outcome State Fault Refusal :=
  runNet s (fun d => d.inBlock bkTIMING (fun d => d.trainingSet t.val set))

/-- TRUNK_TRAIN_TIMEOUT (R552): A trunk not UP within 10 ms restarts training. -/
def execTrunkTrainTimeout (t : TrunkNo) (s : State) : Host.Outcome State Fault Refusal :=
  runNet s (fun d => d.trkTrainTimeout t.val)

/-- CODE_ERROR_BURST (R557): More than 64 code errors in 1 ms return an UP trunk to TRAIN. -/
def execCodeErrorBurst (t : TrunkNo) (errors : BitVec 16) (s : State) : Host.Outcome State Fault Refusal :=
  runNet s (fun d => d.inBlock bkTIMING (fun d => d.codeErrors t.val errors.toNat))

/-- MESSAGE_FRAME_RX (R555): A trunk message frame taken whole is kept or discarded. -/
def execMessageFrameRx (t : TrunkNo) (frame : List Byte) (s : State) : Host.Outcome State Fault Refusal :=
  run s (fun d => d.inBlock bkTIMING (fun d => d.messageFrame t.val frame))

/-- TRUNK_RESTART (R575): RESTART returns the trunk to CLOCK and retrains it. -/
def execTrunkRestart (t : TrunkNo) (s : State) : Host.Outcome State Fault Refusal :=
  runNet s (fun d => d.writeBit (TRK_CTRL t.val) 1)

/-- PRBS_CHECKER_LOCK (R562): 256 matching bits lock the checker. -/
def execPrbsCheckerLock (u : TestUnit) (s : State) : Host.Outcome State Fault Refusal :=
  run s (fun d => d.checkerLock u)

/-- PRBS_LOCK_LOSS (R562): More than 64 mismatches in 1,024 bits unlock the checker, which relocks. -/
def execPrbsLockLoss (u : TestUnit) (bits : Word) (errors : Word) (s : State) : Host.Outcome State Fault Refusal :=
  run s (fun d => d.checkerLoss u bits.toNat errors.toNat)

/-- INJ_ONE (R563): Inverts one transmitted bit. -/
def execInjOne (u : TestUnit) (s : State) : Host.Outcome State Fault Refusal :=
  run s (fun d => d.writeBit (prbsItem u) 19)

/-- EYE_SCAN_START (R564): START places the offset sampler and starts a scan. -/
def execEyeScanStart (u : TestUnit) (v : Word) (s : State) : Host.Outcome State Fault Refusal :=
  run s (fun d => d.writeItem (eyeItem u) (v.toNat / 2 * 2 + 1))

/-- EYE_SCAN_DONE (R564): The scan's dwell ends and DONE is set. -/
def execEyeScanDone (u : TestUnit) (errors : Word) (s : State) : Host.Outcome State Fault Refusal :=
  run s (fun d => d.eyeDone u errors.toNat)

/-- CHIPLET_LINK_TRAINED (R547): A chiplet link's bundle training completes and the link's bundles become READY, carrying their cages again. -/
def execChipletLinkTrained (k : LinkNo) (maps : List Nat) (s : State) : Host.Outcome State Fault Refusal :=
  run s (fun d => d.inBlock bkCORE (fun d => d.linkTrained k.val maps))

/-- TRUNK_ALIGNMENT_TIMEOUT (R552): A trunk in CLOCK that has not completed phase training and comma alignment within 50 µs restarts its training. -/
def execTrunkAlignmentTimeout (t : TrunkNo) (s : State) : Host.Outcome State Fault Refusal :=
  runNet s (fun d => d.trkAlignTimeout t.val)

end Sys2Proof.Machine
end

