-- ==== Sys2Proof/Machine/MailboxCmds.lean ====
section
/-! DEFINITION. The commands that a ring carries: the meaning of each command. -/

namespace Sys2Proof.Machine

/-- PARAM_READ (R639): Reads up to 64 consecutive items of one instance captured in one cycle. -/
def execParamRead (r : RingNo) (tag : Byte) (s : State) : Host.Outcome State Fault Refusal :=
  run s (fun d => d.runCmd r.val tag.toNat 0x01 (fun e c => answered (e.paramRead c.par)))

/-- PARAM_WRITE (R640): Writes up to 4 consecutive items of one instance, all together or none. -/
def execParamWrite (r : RingNo) (tag : Byte) (s : State) : Host.Outcome State Fault Refusal :=
  runNet s (fun d => d.runCmd r.val tag.toNat 0x02 (fun e c => e.paramWrite c.par (some (r.val, tag.toNat))))

/-- TABLE_WRITE (R435): Loads node, transition, profile, key definition, action, exact or ternary records into a rule-set bank. -/
def execTableWrite (r : RingNo) (tag : Byte) (recs : List Byte) (s : State) : Host.Outcome State Fault Refusal :=
  run s (fun d => d.subCmd r.val tag.toNat 0x10 0 (fun k => k != twSEAL && k != twOPEN && k != twCLONE) (fun e c => e.tableCmd c.par recs (r.val, tag.toNat)))

/-- SEAL (R436): Checks a LOADABLE bank and starts its sealing and measurement. -/
def execSeal (r : RingNo) (tag : Byte) (s : State) : Host.Outcome State Fault Refusal :=
  run s (fun d => d.subCmd r.val tag.toNat 0x10 0 (fun k => k == twSEAL) (fun e c => e.tableCmd c.par [] (r.val, tag.toNat)))

/-- OPEN (R435): Returns a SEALED bank to LOADABLE. -/
def execOpen (r : RingNo) (tag : Byte) (s : State) : Host.Outcome State Fault Refusal :=
  run s (fun d => d.subCmd r.val tag.toNat 0x10 0 (fun k => k == twOPEN) (fun e c => e.tableCmd c.par [] (r.val, tag.toNat)))

/-- CLONE (R437): Starts copying the active bank's programs and exact-match visibility into the named bank. -/
def execClone (r : RingNo) (tag : Byte) (s : State) : Host.Outcome State Fault Refusal :=
  run s (fun d => d.subCmd r.val tag.toNat 0x10 0 (fun k => k == twCLONE) (fun e c => e.tableCmd c.par [] (r.val, tag.toNat)))

/-- SEAL_COMPLETE (R436): The bank's check and measurement end, and it becomes SEALED or returns to LOADABLE. -/
def execSealComplete (k : BankNo) (s : State) : Host.Outcome State Fault Refusal :=
  run s (fun d => d.bankEnd k.val bkSEALING)

/-- CLONE_COMPLETE (R437): The clone ends and the bank returns to LOADABLE. -/
def execCloneComplete (k : BankNo) (s : State) : Host.Outcome State Fault Refusal :=
  run s (fun d => d.bankEnd k.val bkCLONING)

/-- EPOCH_ARM (R438): Arms an EPOCH_SWAP for a SEALED bank and makes it ARMED. -/
def execEpochArm (r : RingNo) (tag : Byte) (s : State) : Host.Outcome State Fault Refusal :=
  run s (fun d => d.runCmd r.val tag.toNat 0x11 (fun e c => answered (e.epochArm c.par false)))

/-- TIMELINE_ADD (R85): Checks an action block and arms the action in its trigger store. -/
def execTimelineAdd (r : RingNo) (tag : Byte) (s : State) : Host.Outcome State Fault Refusal :=
  run s (fun d => d.runCmd r.val tag.toNat 0x20 (fun e c => answered (e.timelineAddCmd c.par false)))

/-- TIMELINE_CANCEL (R95): Disarms an armed action by handle, or reports that it has already fired. -/
def execTimelineCancel (r : RingNo) (tag : Byte) (s : State) : Host.Outcome State Fault Refusal :=
  run s (fun d => d.runCmd r.val tag.toNat 0x21 (fun e c => answered (e.timelineCancel c.par)))

/-- COUNTER_READ (R583): Reads one RS item and writes its stamped 40-byte record to host memory. -/
def execCounterRead (r : RingNo) (tag : Byte) (s : State) : Host.Outcome State Fault Refusal :=
  run s (fun d => d.runCmd r.val tag.toNat 0x30 (fun e c => answered (e.counterRead c.par)))

/-- SWEEP_DEFINE (R589): COUNTER_SWEEP DEFINE copies a list of IDs and a destination for a sweep. -/
def execSweepDefine (r : RingNo) (tag : Byte) (ids : List (BitVec 32)) (s : State) : Host.Outcome State Fault Refusal :=
  run s (fun d => d.subCmd r.val tag.toNat 0x31 2 (fun k => k != 2 && k != 3) (fun e c => answered (e.sweepDefine c.par (ids.map (fun x => x.toNat)))))

/-- SWEEP_START (R591): COUNTER_SWEEP START queues a defined sweep to run. -/
def execSweepStart (r : RingNo) (tag : Byte) (s : State) : Host.Outcome State Fault Refusal :=
  run s (fun d => d.subCmd r.val tag.toNat 0x31 2 (fun k => k == 2) (fun e c => e.sweepStart c.par (some (r.val, tag.toNat))))

/-- SWEEP_ABORT (R593): COUNTER_SWEEP ABORT stops a sweep after the record in progress and writes its trailer. -/
def execSweepAbort (r : RingNo) (tag : Byte) (s : State) : Host.Outcome State Fault Refusal :=
  run s (fun d => d.subCmd r.val tag.toNat 0x31 2 (fun k => k == 3) (fun e c => answered (e.sweepAbort c.par)))

/-- ATTEST_REPORT (R687): ATTEST REPORT writes a signed report of the measurement registers and programs. -/
def execAttestReport (r : RingNo) (tag : Byte) (s : State) : Host.Outcome State Fault Refusal :=
  run s (fun d => d.subCmd r.val tag.toNat 0x40 0 (fun k => k != 2 && k != 3) (fun e c => answered (e.attestCmd c.par)))

/-- ATTEST_CERTIFICATE (R686): ATTEST CERTIFICATE writes the factory certificate of the attestation key. -/
def execAttestCertificate (r : RingNo) (tag : Byte) (s : State) : Host.Outcome State Fault Refusal :=
  run s (fun d => d.subCmd r.val tag.toNat 0x40 0 (fun k => k == 2) (fun e c => answered (e.attestCmd c.par)))

/-- ATTEST_LOG (R686): ATTEST LOG writes up to 30 measurement log entries from LOG_START. -/
def execAttestLog (r : RingNo) (tag : Byte) (s : State) : Host.Outcome State Fault Refusal :=
  run s (fun d => d.subCmd r.val tag.toNat 0x40 0 (fun k => k == 3) (fun e c => answered (e.attestCmd c.par)))

/-- IMAGE_STAGE (R696): Writes one image chunk into the bank Eodin is not running from. -/
def execImageStage (r : RingNo) (tag : Byte) (data : List Byte) (s : State) : Host.Outcome State Fault Refusal :=
  run s (fun d => d.runCmd r.val tag.toNat 0x41 (fun e c => e.imageStage c.par data (r.val, tag.toNat)))

/-- STAGE_ERASE_COMPLETE (R696): The bank erase started by a FIRST chunk ends and the chunk is written. -/
def execStageEraseComplete (s : State) : Host.Outcome State Fault Refusal :=
  run s (fun d => d.eraseDone)

/-- VERIFY (R697): IMAGE_COMMIT VERIFY checks the staged image and writes a boot pointer naming it. -/
def execVerify (r : RingNo) (tag : Byte) (s : State) : Host.Outcome State Fault Refusal :=
  run s (fun d => d.subCmd r.val tag.toNat 0x42 0 (fun k => k != 2) (fun e c => answered (e.imageVerify c.par)))

/-- ACTIVATE (R697): IMAGE_COMMIT ACTIVATE ends Keep commits, checkpoints and enters the warm path into the new image. -/
def execActivate (r : RingNo) (tag : Byte) (s : State) : Host.Outcome State Fault Refusal :=
  run s (fun d => d.subCmd r.val tag.toNat 0x42 0 (fun k => k == 2) (fun e c => e.imageActivate c.par r.val tag.toNat))

/-- STORE_STATUS (R693): Reports the commit count and remaining endurance of a Keep item, copy or the whole store. -/
def execStoreStatus (r : RingNo) (tag : Byte) (s : State) : Host.Outcome State Fault Refusal :=
  run s (fun d => d.runCmd r.val tag.toNat 0x43 (fun e c => (e, some (e.storeStatus c.par))))

/-- PORT_ADMIN (R368): Sets or clears ADMIN of a logical port by command. -/
def execPortAdmin (r : RingNo) (tag : Byte) (s : State) : Host.Outcome State Fault Refusal :=
  runNet s (fun d => d.runCmd r.val tag.toNat 0x50 (fun e c => answered (e.portAdminCmd c.par)))

/-- CAL_RUN (R349): Checks and accepts a calibration run against a user reference. -/
def execCalRun (r : RingNo) (tag : Byte) (s : State) : Host.Outcome State Fault Refusal :=
  runNet s (fun d => d.runCmd r.val tag.toNat 0x60 (fun e c => e.calRun c.par (some (r.val, tag.toNat))))

/-- CRESOR_SEND_REQUEST (R673): CRESOR_SEND REQUEST carries a command entry to one node or floods it to all nodes. -/
def execCresorSendRequest (r : RingNo) (tag : Byte) (entry : BitVec 512) (s : State) : Host.Outcome State Fault Refusal :=
  run s (fun d => d.subCmd r.val tag.toNat 0x70 0 (fun k => k != 2 && k != 3) (fun e c => e.requestSend c.par (entryBytes entry) (r.val, tag.toNat)))

/-- KEY_LOAD (R670): CRESOR_SEND KEY_LOAD commits a key with its KEY_ID, permissions and flags to a key slot. -/
def execKeyLoad (r : RingNo) (tag : Byte) (key : BitVec 384) (s : State) : Host.Outcome State Fault Refusal :=
  run s (fun d => d.subCmd r.val tag.toNat 0x70 0 (fun k => k == 2) (fun e c => e.keyCommand c.par (leBytes 48 key.toNat) (r.val, tag.toNat)))

/-- KEY_CLEAR (R670): CRESOR_SEND KEY_CLEAR empties a key slot. -/
def execKeyClear (r : RingNo) (tag : Byte) (s : State) : Host.Outcome State Fault Refusal :=
  run s (fun d => d.subCmd r.val tag.toNat 0x70 0 (fun k => k == 3) (fun e c => e.keyCommand c.par [] (r.val, tag.toNat)))

/-- POWER_STATE (R712): Requests a move to a power state, with the removal hand-off for S4. -/
def execPowerState (r : RingNo) (tag : Byte) (s : State) : Host.Outcome State Fault Refusal :=
  runNet s (fun d => d.runCmd r.val tag.toNat 0x80 (fun e c => e.powerState c.par (r.val, tag.toNat)))

end Sys2Proof.Machine
end

