-- ==== Sys2Proof/Machine/ObsCmds.lean ====
section
/-! DEFINITION. The counter window and the export: the meaning of each command. -/

namespace Sys2Proof.Machine

/-- CNTW_ID_WRITE (R586): A write of CNTW_ID starts a counter capture in its slot. -/
def execCntwIdWrite (k : SlotNo) (id : BitVec 32) (s : State) : Host.Outcome State Fault Refusal :=
  run s (fun d => d.barWrite 0 0 (0x30000 + 0x40 * k.val) id.toNat true 0)

/-- COUNTER_CAPTURE_DONE (R586): The slot's capture completes and DONE is set. -/
def execCounterCaptureDone (k : SlotNo) (s : State) : Host.Outcome State Fault Refusal :=
  run s (fun d => d.captureDone k.val)

/-- IPFIX_TEMPLATE_REFRESH (R604): Every REFRESH seconds Eodin sends its templates. -/
def execIpfixTemplateRefresh (s : State) : Host.Outcome State Fault Refusal :=
  run s (fun d => d.ipfixRefresh)

end Sys2Proof.Machine
end

