-- ==== Sys2Proof/Machine/PortCmds.lean ====
section
/-! DEFINITION. Cages, ports, links, pause and seamless redundancy: the meaning of each command. -/

namespace Sys2Proof.Machine

/-- MAC_CAGE_CTRL_WRITE (R363): A cage mode write, refused unless all ports are down, restarts bring-up. -/
def execMacCageCtrlWrite (c : CageNo) (v : Word) (s : State) : Host.Outcome State Fault Refusal :=
  runNet s (fun d => d.writeItem (MAC_CAGE_CTRL c.val) v.toNat)

/-- ADMIN_WRITE (R364): A write of ADMIN in MAC_CTRL takes a port up to DOWN or to ADMIN_DOWN. -/
def execAdminWrite (n : LpNo) (up : Bool) (s : State) : Host.Outcome State Fault Refusal :=
  runNet s (fun d => d.writeItem (MAC_CTRL n.val) (withBits (d.num (MAC_CTRL n.val) % 2 ^ 48) 0 1 up.toNat))

/-- LINK_GOOD (R365): A port's link becomes good, moving it to FLUSHING or HOLD. -/
def execLinkGood (n : LpNo) (s : State) : Host.Outcome State Fault Refusal :=
  runNet s (fun d => d.inBlock bkCORE (fun d => d.linkGood n.val))

/-- LINK_BREAK (R365): A condition breaking the link begins, failing it at once in FLUSHING. -/
def execLinkBreak (n : LpNo) (by_ : Break) (s : State) : Host.Outcome State Fault Refusal :=
  runNet s (fun d => d.inBlock bkCORE (fun d => d.linkBreakBy n.val by_))

/-- DOWN_DEBOUNCE_EXPIRY (R365): A break lasting DOWN_DEBOUNCE fails the link and takes the port to DOWN. -/
def execDownDebounceExpiry (n : LpNo) (s : State) : Host.Outcome State Fault Refusal :=
  runNet s (fun d => d.debounceEnd n.val)

/-- FLUSH_COMPLETE (R477): A port's flush ends, moving it to HOLD if its link is good. -/
def execFlushComplete (n : LpNo) (s : State) : Host.Outcome State Fault Refusal :=
  run s (fun d => d.inBlock bkCORE (fun d => d.flushComplete n.val))

/-- UP_HOLD_EXPIRY (R364): A link good for UP_HOLD takes the port to UP. -/
def execUpHoldExpiry (n : LpNo) (s : State) : Host.Outcome State Fault Refusal :=
  runNet s (fun d => d.holdEnd n.val)

/-- MAC_CONTROL_FRAME_RX (R375): A received MAC control frame is consumed and acts as PAUSE or PFC or is dropped. -/
def execMacControlFrameRx (n : LpNo) (frame : ControlFrame) (fcs : BitVec 32) (err : Bool) (s : State) : Host.Outcome State Fault Refusal :=
  run s (fun d => d.inBlock bkCORE (fun d => d.macControlRx n.val frame.terms frame.bytes fcs.toNat err))

/-- PAUSE_EXPIRY (R376): A class's pause time runs out. -/
def execPauseExpiry (n : LpNo) (p : Fin 8) (s : State) : Host.Outcome State Fault Refusal :=
  run s (fun d => d.pauseExpiry n.val p.val)

/-- PAUSE_WATCHDOG (R378): A class paused for PAUSE_WD is overridden. -/
def execPauseWatchdog (n : LpNo) (p : Fin 8) (s : State) : Host.Outcome State Fault Refusal :=
  run s (fun d => d.pauseWatchdog n.val p.val)

/-- WD_RELEASE (R378): WD_RELEASE without pause naming the class ends its override. -/
def execWdRelease (n : LpNo) (p : Fin 8) (s : State) : Host.Outcome State Fault Refusal :=
  run s (fun d => d.wdRelease n.val p.val)

/-- PFC_REPEAT (R379): A standing PFC request is repeated after 32,768 quanta. -/
def execPfcRepeat (n : LpNo) (p : Fin 8) (s : State) : Host.Outcome State Fault Refusal :=
  run s (fun d => d.pfcRepeat n.val p.val)

/-- FRER_RECOVERY_RESET (R389): No frame for RESET_MS resets a stream's recovery. -/
def execFrerRecoveryReset (stream : StreamNo) (s : State) : Host.Outcome State Fault Refusal :=
  run s (fun d => d.recoveryTimeout stream.val)

/-- FRER_CTRL_WRITE (R401): A stream control write; changing ALG, HISTORY or RECOVER resets recovery. -/
def execFrerCtrlWrite (stream : StreamNo) (v : Word) (s : State) : Host.Outcome State Fault Refusal :=
  run s (fun d => d.writeItem (FRER_CTRL stream.val) v.toNat)

end Sys2Proof.Machine
end

