-- ==== Sys2Proof/Machine/PowerCmds.lean ====
section
/-! DEFINITION. Power states, resets, removal, feeds and the core voltage: the meaning of each command. -/

namespace Sys2Proof.Machine

/-- STATE_TRANSITION_DONE (R713): The power-state transition reaches its target state. -/
def execStateTransitionDone (s : State) : Host.Outcome State Fault Refusal :=
  runNet s (fun d => d.moveDone)

/-- MODULE_RESET (R720): A MODULE reset clears the core package and Patrol die. -/
def execModuleReset (cause : Fin 7) (src : BitVec 16) (s : State) : Host.Outcome State Fault Refusal :=
  runNet s (fun d => d.doReset rkMODULE cause.val src.toNat)

/-- DATA_PLANE_RESET (R720): A DATA_PLANE reset clears the core package, which Eodin restores. -/
def execDataPlaneReset (cause : Fin 7) (src : BitVec 16) (s : State) : Host.Outcome State Fault Refusal :=
  runNet s (fun d => d.doReset rkDATA_PLANE cause.val src.toNat)

/-- RESTORE_DONE (R723): Eodin finishes restoring the core package after a data-plane reset. -/
def execRestoreDone (s : State) : Host.Outcome State Fault Refusal :=
  runNet s (fun d => d.restoreDone.fabAnswers)

/-- PATROL_RESET (R720): A PATROL reset clears the Patrol die, keeping the PCIe link. -/
def execPatrolReset (cause : Fin 7) (src : BitVec 16) (s : State) : Host.Outcome State Fault Refusal :=
  runNet s (fun d => d.doReset rkPATROL cause.val src.toNat)

/-- WATCHDOG_RESET (R724): 10 s after a failure with no spare, a WATCHDOG reset is performed. -/
def execWatchdogReset (s : State) : Host.Outcome State Fault Refusal :=
  runNet s (fun d => d.watchdogReset)

/-- PERST_ASSERT (R720): PERST_N low clears the PCIe core, rings and DMA channels. -/
def execPerstAssert (s : State) : Host.Outcome State Fault Refusal :=
  runNet s (fun d => d.perstAssert)

/-- PERST_RELEASE (R717): PERST_N rising trains the link, and wakes a module in S3. -/
def execPerstRelease (s : State) : Host.Outcome State Fault Refusal :=
  run s (fun d => d.perstRelease)

/-- MOD_RST_ASSERT (R720): MOD_RST_N low for 1 µs holds the core package and Patrol in reset. -/
def execModRstAssert (s : State) : Host.Outcome State Fault Refusal :=
  runNet s (fun d => d.modRstAssert)

/-- MOD_RST_RELEASE (R720): MOD_RST_N rising starts the restart. -/
def execModRstRelease (s : State) : Host.Outcome State Fault Refusal :=
  runNet s (fun d => d.modRstRelease)

/-- STANDBY_START (R728): Power contacts mate, the bulk charges and the standby converter starts. -/
def execStandbyStart (slot : CageNo) (s : State) : Host.Outcome State Fault Refusal :=
  run s (fun d => d.standbyStart slot.val)

/-- COLD_START (R726): After INTLK and a feed hold 100 ms, or POWER_ON, the module starts from its first step. -/
def execColdStart (s : State) : Host.Outcome State Fault Refusal :=
  run s (fun d => d.coldStartEvent)

/-- OVEN_SETTLED (R726): The oven holds within ±0.1 K for 60 s and WARM_LIVE goes to 0. -/
def execOvenSettled (s : State) : Host.Outcome State Fault Refusal :=
  run s (fun d => d.ovenSettled)

/-- FEED_OUT_OF_RANGE (R729): A feed outside 40 V to 60 V sets its FEED LIVE bit. -/
def execFeedOutOfRange (feedB : Bool) (v : BitVec 16) (s : State) : Host.Outcome State Fault Refusal :=
  run s (fun d => d.feedOut feedB v.toNat)

/-- UNDERVOLT (R729): Both feeds below 39 V for 10 ms put the module in S4. -/
def execUndervolt (a : BitVec 16) (b : BitVec 16) (s : State) : Host.Outcome State Fault Refusal :=
  runNet s (fun d => d.undervolt a.toNat b.toNat)

/-- SURPRISE_REMOVAL (R733): INTLK breaking for 2 µs squelches transmitters and powers off all but the store controller. -/
def execSurpriseRemoval (s : State) : Host.Outcome State Fault Refusal :=
  runNet s (fun d => d.surprise)

/-- REMOVE_PRESS (R730): A 0.5 s press of REMOVE raises or cancels a removal request. -/
def execRemovePress (s : State) : Host.Outcome State Fault Refusal :=
  run s (fun d => d.removePress)

/-- REMOVE_TIMEOUT (R731): REMOVE_TIMEOUT passing performs the hand-off or cancels the request. -/
def execRemoveTimeout (s : State) : Host.Outcome State Fault Refusal :=
  runNet s (fun d => d.removeTimeout)

/-- VCORE_LOOP_UPDATE (R718): Every 1 ms in S0 the core voltage loop moves toward its demand within bounds. -/
def execVcoreLoopUpdate (demand : BitVec 24) (s : State) : Host.Outcome State Fault Refusal :=
  run s (fun d => d.vcoreUpdate demand.toInt)

/-- FEED_RETURN (R736): A feed that was outside 40 V to 60 V returns into range and its FEEDA_LIVE or FEEDB_LIVE goes to 0. -/
def execFeedReturn (feedB : Bool) (v : BitVec 16) (s : State) : Host.Outcome State Fault Refusal :=
  run s (fun d => d.feedBack feedB v.toNat)

end Sys2Proof.Machine
end

