-- ==== Sys2Proof/Machine/PteCmds.lean ====
section
/-! DEFINITION. Pistes, servos and the time-message engine: the meaning of each command. -/

namespace Sys2Proof.Machine

/-- SERVO_UPDATE (R148): At each 62.5 ms a servo updates its Piste's loop, state and steering. -/
def execServoUpdate (k : PisteNo) (s : State) : Host.Outcome State Fault Refusal :=
  run s (fun d => d.inBlock bkTIMING (fun d => (d.servoProgram k.inst).servoUpdate k.inst))

/-- PISTE_LOCKED (R149): After 16 consecutive non-empty updates within threshold the Piste becomes LOCKED. -/
def execPisteLocked (k : PisteNo) (s : State) : Host.Outcome State Fault Refusal :=
  runNet s (fun d => d.inBlock bkTIMING (fun d => d.pisteLocked k.inst))

/-- PISTE_LOST (R149): After 16 consecutive empty updates the Piste becomes LOST. -/
def execPisteLost (k : PisteNo) (s : State) : Host.Outcome State Fault Refusal :=
  run s (fun d => d.inBlock bkTIMING (fun d => d.pisteLost k.inst))

/-- WAIT_TO_RESTORE_END (R175): The wait-to-restore period ends and the module reverts to the preferred Piste. -/
def execWaitToRestoreEnd (s : State) : Host.Outcome State Fault Refusal :=
  run s (fun d => d.wtrEnd)

/-- PTE_PISTE_CTRL_WRITE (R147): A Piste configuration write, refused while enabled for profile or source changes. -/
def execPtePisteCtrlWrite (k : PisteNo) (v : Word) (s : State) : Host.Outcome State Fault Refusal :=
  runNet s (fun d => d.writeItem (PTE_PISTE_CTRL k.inst) v.toNat)

/-- SERVO_BW_UPDATE (R170): Once per second a Piste's bandwidth loop moves toward its demand within its bounds. -/
def execServoBwUpdate (k : PisteNo) (demand : BitVec 24) (s : State) : Host.Outcome State Fault Refusal :=
  run s (fun d => d.inBlock bkTIMING (fun d => d.servoBw k.inst demand.toInt))

/-- BOUNDS_WRITE (R48): A BOUNDS write of an adaptive loop, applying from the next update. -/
def execBoundsWrite (loop : LoopNo) (v : Word) (s : State) : Host.Outcome State Fault Refusal :=
  run s (fun d => d.writeItem (boundsItem loop) v.toNat)

/-- ANNOUNCE_RX (R162): A terminated Announce updates its dataset and may rerun best-master selection. -/
def execAnnounceRx (s : State) : Host.Outcome State Fault Refusal :=
  runNet s (fun d => d.announceRx)

/-- BEST_MASTER_SELECTION (R162): Eodin reruns selection at least once per announce interval and loads the result. -/
def execBestMasterSelection (k : PisteNo) (s : State) : Host.Outcome State Fault Refusal :=
  runNet s (fun d => d.inBlock bkTIMING (fun d => (d.select k.inst).inBlock bkCORE (fun e => e.requestGrants k.inst)))

/-- ANNOUNCE_RECEIPT_TIMEOUT (R163): The engine takes a SLAVE port to LISTENING when announceReceiptTimeout expires. -/
def execAnnounceReceiptTimeout (p : ClkPortNo) (k : PisteNo) (s : State) : Host.Outcome State Fault Refusal :=
  runNet s (fun d => d.announceTimeout p.inst k.inst)

/-- SYNC_RX (R168): A terminated Sync at a slave port gives t1 and t2 to the servo. -/
def execSyncRx (s : State) : Host.Outcome State Fault Refusal :=
  run s (fun d => d.inBlock bkTIMING (fun d => d.syncRx))

/-- FOLLOW_UP_RX (R168): A Follow_Up from a two-step master completes t1. -/
def execFollowUpRx (s : State) : Host.Outcome State Fault Refusal :=
  run s (fun d => d.inBlock bkTIMING (fun d => d.followUpRx))

/-- DELAY_REQ_RX (R157): A terminated Delay_Req at a MASTER port is answered by Delay_Resp. -/
def execDelayReqRx (s : State) : Host.Outcome State Fault Refusal :=
  run s (fun d => d.inBlock bkTIMING (fun d => d.delayReqRx))

/-- DELAY_RESP_RX (R168): A Delay_Resp completes an end-to-end exchange and gives an offset. -/
def execDelayRespRx (s : State) : Host.Outcome State Fault Refusal :=
  run s (fun d => d.inBlock bkTIMING (fun d => d.delayRespRx))

/-- PDELAY_REQ_RX (R169): A terminated Pdelay_Req is answered by a one-step Pdelay_Resp under TURNAROUND. -/
def execPdelayReqRx (s : State) : Host.Outcome State Fault Refusal :=
  run s (fun d => d.inBlock bkTIMING (fun d => d.pdelayReqRx))

/-- PDELAY_RESP_RX (R159): A Pdelay_Resp completes a link delay exchange and updates the mean. -/
def execPdelayRespRx (s : State) : Host.Outcome State Fault Refusal :=
  run s (fun d => d.inBlock bkTIMING (fun d => d.pdelayRespRx))

/-- PDELAY_RESP_FOLLOW_UP_RX (R157): A Pdelay_Resp_Follow_Up is terminated at a peer-to-peer port. -/
def execPdelayRespFollowUpRx (s : State) : Host.Outcome State Fault Refusal :=
  run s (fun d => d.inBlock bkTIMING (fun d => d.pdelayFollowUpRx))

/-- SIGNALING_RX (R155): A unicast negotiation request or grant is served or denied. -/
def execSignalingRx (s : State) : Host.Outcome State Fault Refusal :=
  run s (fun d => d.inBlock bkTIMING (fun d => d.signalingRx))

/-- GRANT_EXPIRY (R155): A unicast grant reaches the end of its duration. -/
def execGrantExpiry (s : State) : Host.Outcome State Fault Refusal :=
  run s (fun d => d.inBlock bkTIMING (fun d => d.grantExpiry))

/-- SYNC_TX (R152): The engine originates a one-step Sync at its configured rate. -/
def execSyncTx (n : LpNo) (k : PisteNo) (s : State) : Host.Outcome State Fault Refusal :=
  run s (fun d => d.inBlock bkCORE (fun d => d.syncTx n.val k.inst))

/-- ANNOUNCE_TX (R162): The engine originates an Announce at its configured rate. -/
def execAnnounceTx (n : LpNo) (k : PisteNo) (s : State) : Host.Outcome State Fault Refusal :=
  run s (fun d => d.inBlock bkCORE (fun d => d.announceTx n.val k.inst))

/-- DELAY_REQ_TX (R158): The engine originates a Delay_Req with RETURN at its configured rate. -/
def execDelayReqTx (n : LpNo) (k : PisteNo) (s : State) : Host.Outcome State Fault Refusal :=
  run s (fun d => d.inBlock bkCORE (fun d => d.delayReqTx n.val k.inst))

/-- PDELAY_REQ_TX (R158): The engine originates a Pdelay_Req with RETURN at its configured rate. -/
def execPdelayReqTx (n : LpNo) (k : PisteNo) (s : State) : Host.Outcome State Fault Refusal :=
  run s (fun d => d.inBlock bkCORE (fun d => d.pdelayReqTx n.val k.inst))

/-- TRUNK_MARKER_TX (R181): At each 1 ms a trunk sends a marker followed by its time word. -/
def execTrunkMarkerTx (t : TrunkNo) (s : State) : Host.Outcome State Fault Refusal :=
  run s (fun d => d.inBlock bkTIMING (fun d => d.markerTx t.val))

/-- TRUNK_MARKER_RX (R182): A received marker is stamped on CH6 or CH7 and its cycle count reported. -/
def execTrunkMarkerRx (t : TrunkNo) (bin : Fin 512) (cycles : BitVec 32) (s : State) : Host.Outcome State Fault Refusal :=
  runNet s (fun d => d.inBlock bkTIMING (fun d => d.trunkMarker t.val bin.val cycles.toNat))

/-- TIME_WORD_RX (R181): A time word taken whole is checked and completes a trunk exchange. -/
def execTimeWordRx (t : TrunkNo) (w : List Byte) (s : State) : Host.Outcome State Fault Refusal :=
  run s (fun d => d.inBlock bkTIMING (fun d => d.timeWordRx t.val w))

/-- TRUNK_MARKERS_STOPPED (R184): A trunk whose markers stop for 16 servo updates goes FAULTY. -/
def execTrunkMarkersStopped (t : TrunkNo) (s : State) : Host.Outcome State Fault Refusal :=
  runNet s (fun d => d.inBlock bkTIMING (fun d => d.markersStopped t.val))

/-- ANNOUNCE_RECORD_TX (R183): Every 125 ms a trunk sends an Announce record for each enabled Piste. -/
def execAnnounceRecordTx (t : TrunkNo) (s : State) : Host.Outcome State Fault Refusal :=
  run s (fun d => d.inBlock bkTIMING (fun d => d.annRecordTx t.val))

/-- ANNOUNCE_RECORD_RX (R183): A trunk Announce record takes part in selection. -/
def execAnnounceRecordRx (t : TrunkNo) (s : State) : Host.Outcome State Fault Refusal :=
  runNet s (fun d => d.inBlock bkTIMING (fun d => d.annRecord t.val))

/-- QL_RECORD_TX (R255): Once per second a trunk sends its QL record. -/
def execQlRecordTx (t : TrunkNo) (s : State) : Host.Outcome State Fault Refusal :=
  run s (fun d => d.inBlock bkTIMING (fun d => d.qlTx t.val))

/-- QL_RECORD_RX (R255): A trunk QL record sets the trunk candidate's level. -/
def execQlRecordRx (t : TrunkNo) (s : State) : Host.Outcome State Fault Refusal :=
  run s (fun d => d.inBlock bkTIMING (fun d => d.qlRecord t.val))

/-- QL_RECORD_TIMEOUT (R255): A trunk with no valid QL record for 5 s takes QL-FAILED. -/
def execQlRecordTimeout (t : TrunkNo) (s : State) : Host.Outcome State Fault Refusal :=
  run s (fun d => d.inBlock bkTIMING (fun d => d.qlTimeout t.val))

/-- TOD_SENTENCE_TX (R191): Each second the module sends a TOD sentence OUT_DELAY ms after the PPS edge. -/
def execTodSentenceTx (s : State) : Host.Outcome State Fault Refusal :=
  run s (fun d => d.inBlock bkTIMING (fun d => d.todTx))

/-- TOD_SENTENCE_RX (R192): A received sentence is accepted, qualifying the source, or refused. -/
def execTodSentenceRx (text : List Byte) (s : State) : Host.Outcome State Fault Refusal :=
  run s (fun d => d.inBlock bkTIMING (fun d => d.todRx text))

/-- LEAP_FLAG_CLEAR (R194): A held leap flag is cleared at the end of the UTC day it names. -/
def execLeapFlagClear (s : State) : Host.Outcome State Fault Refusal :=
  run s (fun d => d.inBlock bkTIMING (fun d => d.leapClear))

/-- TOD_SENTENCE_MISSING (R165): An expected TOD sentence that does not arrive disqualifies a SOURCE 1 Piste's external source and sets TOD_LIVE. -/
def execTodSentenceMissing (s : State) : Host.Outcome State Fault Refusal :=
  run s (fun d => d.inBlock bkTIMING (fun d => d.todMissing))

end Sys2Proof.Machine
end

