-- ==== Sys2Proof/Machine/QueueCmds.lean ====
section
/-! DEFINITION. Rule-set banks, buffers, queues and shadow sets: the meaning of each command. -/

namespace Sys2Proof.Machine

/-- BANK_DRAINED (R440): A DRAINING bank's in-flight count reaches 0 and it becomes LOADABLE. -/
def execBankDrained (k : BankNo) (s : State) : Host.Outcome State Fault Refusal :=
  run s (fun d => d.inBlock bkCORE (fun d => d.drained k.val))

/-- CLS_PUNT_CTRL_WRITE (R443): A punt reason write clips the limiter's credit to the new BURST. -/
def execClsPuntCtrlWrite (reason : BitVec 8) (v : Word) (s : State) : Host.Outcome State Fault Refusal :=
  run s (fun d => d.writeItem (CLS_PUNT_CTRL reason.toNat) v.toNat)

/-- REPARTITION (R460): Applies pending pool counts and rebuilds every free list. -/
def execRepartition (s : State) : Host.Outcome State Fault Refusal :=
  run s (fun d => d.writeItem RINK_CTRL 1)

/-- RINK_POOL_LIM_WRITE (R468): A RESERVE or REOPEN write judges EXH_LIVE at once. -/
def execRinkPoolLimWrite (pool : PoolNo) (v : Word) (s : State) : Host.Outcome State Fault Refusal :=
  run s (fun d => d.writeItem (RINK_POOL_LIM (pool.val + 1)) v.toNat)

/-- AGEING_EXAMINATION (R473): The ageing engine drops a head copy older than AGE. -/
def execAgeingExamination (q : QueueNo) (s : State) : Host.Outcome State Fault Refusal :=
  run s (fun d => d.ageing q.val)

/-- SHADOW_SEAL (R519): SEAL checks an OPEN shadow set and seals it, capturing it for a tick with AT_TICK. -/
def execShadowSeal (set : ShadowNo) (atTick : Bool) (s : State) : Host.Outcome State Fault Refusal :=
  run s (fun d => d.writeItem (shadowItemOf set) (1 + 4 * atTick.toNat))

/-- SHADOW_OPEN (R520): OPEN returns a SEALED shadow set to OPEN. -/
def execShadowOpen (set : ShadowNo) (s : State) : Host.Outcome State Fault Refusal :=
  run s (fun d => d.writeItem (shadowItemOf set) 2)

/-- SHP_RESET_BUCKET (R528): Sets each bucket to its depth and removes the wheel entry at the next tick. -/
def execShpResetBucket (shp : Fin 2560) (s : State) : Host.Outcome State Fault Refusal :=
  run s (fun d => d.writeItem (SHP_RESET_BUCKET shp.val) 1)

end Sys2Proof.Machine
end

