-- ==== Sys2Proof/Machine/RefcCmds.lean ====
section
/-! DEFINITION. Reference candidates, the selector and synchronization status messages: the meaning of each command. -/

namespace Sys2Proof.Machine

/-- MONITOR_SECOND (R250): At each whole second the monitors sample every candidate, judge drift and vote. -/
def execMonitorSecond (theta : BitVec 24) (s : State) : Host.Outcome State Fault Refusal :=
  run s (fun d => d.inBlock bkTIMING (fun d => (d.monitorSecond theta.toInt).showSync))

/-- SUSPECT_CLEAR (R260): After 1,000 clean seconds SUSPECT_LIVE returns to 0. -/
def execSuspectClear (i : CandNo) (s : State) : Host.Outcome State Fault Refusal :=
  run s (fun d => d.inBlock bkTIMING (fun d => d.suspectClear (i.val + 1)))

/-- SELECTOR_LOCKED (R275): After 16 seconds of tracking within threshold the selector becomes LOCKED. -/
def execSelectorLocked (s : State) : Host.Outcome State Fault Refusal :=
  run s (fun d => d.inBlock bkTIMING (fun d => d.selectorLocked))

/-- SELECTOR_SWITCH (R272): Within 1 ms of a change the selector chooses a candidate, Glide or free run. -/
def execSelectorSwitch (s : State) : Host.Outcome State Fault Refusal :=
  run s (fun d => d.inBlock bkTIMING (fun d => d.selectorAct))

/-- HO_MAX_EXPIRY (R275): Glide reaching HO_MAX takes the selector to FREE_RUN. -/
def execHoMaxExpiry (s : State) : Host.Outcome State Fault Refusal :=
  run s (fun d => d.inBlock bkTIMING (fun d => d.hoMax))

/-- LEARNING_POINT (R264): Every 1,000 s a learning point is added and the oscillator model refitted. -/
def execLearningPoint (s : State) : Host.Outcome State Fault Refusal :=
  run s (fun d => d.inBlock bkTIMING (fun d => d.learn))

/-- CANDIDATE_WTR_END (R258): REFC_WTR elapses and a QUALIFYING candidate becomes QUALIFIED. -/
def execCandidateWtrEnd (i : CandNo) (s : State) : Host.Outcome State Fault Refusal :=
  run s (fun d => d.candWtrEnd (i.val + 1))

/-- CANDIDATE_FAIL (R247): A candidate's failure condition begins and it becomes FAILED. -/
def execCandidateFail (i : CandNo) (s : State) : Host.Outcome State Fault Refusal :=
  run s (fun d => d.inBlock bkTIMING (fun d => d.candFail (i.val + 1)))

/-- CANDIDATE_FAIL_END (R258): A FAILED candidate's conditions end and it enters QUALIFYING. -/
def execCandidateFailEnd (i : CandNo) (s : State) : Host.Outcome State Fault Refusal :=
  run s (fun d => d.inBlock bkTIMING (fun d => d.candFailEnd (i.val + 1)))

/-- ESMC_PDU_RX (R253): A received ESMC PDU sets the port's quality level. -/
def execEsmcPduRx (s : State) : Host.Outcome State Fault Refusal :=
  run s (fun d => d.inBlock bkTIMING (fun d => d.esmcRx))

/-- ESMC_TIMEOUT (R253): A port with no valid PDU for 5 s takes QL-FAILED. -/
def execEsmcTimeout (n : LpNo) (s : State) : Host.Outcome State Fault Refusal :=
  run s (fun d => d.esmcTimeout n.val)

/-- ESMC_INFO_TX (R254): Once per second each enabled port sends an information PDU. -/
def execEsmcInfoTx (n : LpNo) (s : State) : Host.Outcome State Fault Refusal :=
  run s (fun d => d.inBlock bkCORE (fun d => d.esmcInfo n.val))

/-- ESMC_EVENT_TX (R254): Within 10 ms of a change of output level an event PDU is sent. -/
def execEsmcEventTx (n : LpNo) (s : State) : Host.Outcome State Fault Refusal :=
  run s (fun d => d.inBlock bkCORE (fun d => d.esmcEvent n.val))

/-- REFC_CTRL_WRITE (R248): A candidate write; enabling sets OWNER and starts qualification. -/
def execRefcCtrlWrite (i : CandNo) (v : Word) (s : State) : Host.Outcome State Fault Refusal :=
  run s (fun d => d.writeItem (REFC_CTRL (i.val + 1)) v.toNat)

/-- REFC_GLB_CTRL_WRITE (R273): A write of the selector MODE, option and manual candidate. -/
def execRefcGlbCtrlWrite (v : Word) (s : State) : Host.Outcome State Fault Refusal :=
  run s (fun d => d.writeItem REFC_GLB_CTRL v.toNat)

/-- MODEL_CLEAR (R266): CLEAR empties the oscillator model and its points. -/
def execModelClear (s : State) : Host.Outcome State Fault Refusal :=
  run s (fun d => d.writeBit REFC_MODEL_CTRL 47)

end Sys2Proof.Machine
end

