-- ==== Sys2Proof/Machine/TimeCmds.lean ====
section
/-! DEFINITION. Network time, its replicas and window, ticks and slots, and the actions of the Timeline: the meaning of each command. -/

namespace Sys2Proof.Machine

/-- REFILL_TICK (R78): At each multiple of 1,024 ns of network time, rates, slews, steps and every bucket are updated. -/
def execRefillTick (s : State) : Host.Outcome State Fault Refusal :=
  runNet s (fun d => d.refillTick)

/-- TK_FREQ_ADJ_WRITE (R62): A host write of TK_FREQ_ADJ, refused while the servo steers. -/
def execTkFreqAdjWrite (v : Word) (s : State) : Host.Outcome State Fault Refusal :=
  run s (fun d => d.writeItem TK_FREQ_ADJ v.toNat)

/-- TK_PHASE_ADJ_WRITE (R66): A host phase adjustment is checked and sent to the Timing die for decision. -/
def execTkPhaseAdjWrite (v : Word) (s : State) : Host.Outcome State Fault Refusal :=
  run s (fun d => d.writeItem TK_PHASE_ADJ v.toNat)

/-- TK_SET_WRITE (R67): An absolute time written to TK_SET is decided as a step on arrival. -/
def execTkSetWrite (w0 : Word) (w1 : Word) (s : State) : Host.Outcome State Fault Refusal :=
  run s (fun d => d.writeAll [(TK_SET 0, w0.toNat), (TK_SET 1, w1.toNat)])

/-- TK_CTRL_WRITE (R177): A write of STEER and STEP_EN; returning STEER to servo performs a switch-over to ACTIVE. -/
def execTkCtrlWrite (v : Word) (s : State) : Host.Outcome State Fault Refusal :=
  run s (fun d => d.writeItem TK_CTRL v.toNat)

/-- TKW_NS_READ (R72): A read of TKW_NS captures network time into its latch slot. -/
def execTkwNsRead (k : SlotNo) (s : State) : Host.Outcome State Fault Refusal :=
  run s (fun d => d.barRead 0 0 (0x10000 + 0x40 * k.val))

/-- REPLICA_CHECK (R75): At a replica's 100 µs marker the EMU measures its offset and slews the correction. -/
def execReplicaCheck (m : BitVec 24) (s : State) : Host.Outcome State Fault Refusal :=
  run s (fun d => d.inBlock bkCORE (fun d => d.replicaCheck m.toInt))

/-- TIME_BUS_LOST (R41): A replica that loses the time bus continues at its last rate under REPLICA_FAULT. -/
def execTimeBusLost (k : ReplicaNo) (s : State) : Host.Outcome State Fault Refusal :=
  run s (fun d => d.inBlock bkCORE (fun d => d.timeBusLost (k.val + 1)))

/-- TIME_BUS_RETURN (R77): A replica whose time bus returns reloads from the next tick word. -/
def execTimeBusReturn (k : ReplicaNo) (s : State) : Host.Outcome State Fault Refusal :=
  run s (fun d => d.inBlock bkCORE (fun d => d.timeBusReturn (k.val + 1)))

/-- SLOT_BOUNDARY (R79): At each 10 ns slot boundary wheel entries are released and gates may change. -/
def execSlotBoundary (s : State) : Host.Outcome State Fault Refusal :=
  run s (fun d => d.slotBoundary)

/-- FAR_RING_MOVE (R501): A far-ring bucket's entries move into the wheel before their revolution begins. -/
def execFarRingMove (s : State) : Host.Outcome State Fault Refusal :=
  run s (fun d => d.farRing)

/-- EPOCH_SWAP (R439): The armed bank becomes ACTIVE and the old one DRAINING at the trigger. -/
def execEpochSwap (lag : BitVec 64) (s : State) : Host.Outcome State Fault Refusal :=
  run s (fun d => d.fireNext actEPOCH_SWAP lag.toNat)

/-- SHADOW_HANDOVER (R522): At its effect time the action hands over its captured shadow sets, or is MISSED. -/
def execShadowHandover (lag : BitVec 64) (s : State) : Host.Outcome State Fault Refusal :=
  runNet s (fun d => d.fireNext actSHADOW_HANDOVER lag.toNat)

/-- HANDOVER_CAPTURE (R522): At T − 4 µs the action captures all its targets if every one is SEALED and free. -/
def execHandoverCapture (s : State) : Host.Outcome State Fault Refusal :=
  run s (fun d => d.captureNext)

/-- PORT_ADMIN_ACTION (R98): A Timeline PORT_ADMIN sets or clears ADMIN of its ports. -/
def execPortAdminAction (lag : BitVec 64) (s : State) : Host.Outcome State Fault Refusal :=
  runNet s (fun d => d.fireNext actPORT_ADMIN lag.toNat)

/-- TIME_OUTPUT_PROGRAM (R186): The pending program of TOA or TOB becomes active. -/
def execTimeOutputProgram (lag : BitVec 64) (s : State) : Host.Outcome State Fault Refusal :=
  runNet s (fun d => d.fireNext actTIME_OUTPUT_PROGRAM lag.toNat)

/-- COUNTER_SWEEP_START (R591): A Timeline action queues a sweep as a START. -/
def execCounterSweepStart (lag : BitVec 64) (s : State) : Host.Outcome State Fault Refusal :=
  runNet s (fun d => d.fireNext actCOUNTER_SWEEP_START lag.toNat)

/-- CAL_WINDOW (R350): A Timeline action opens the window of a waiting SCHEDULED calibration run. -/
def execCalWindow (lag : BitVec 64) (s : State) : Host.Outcome State Fault Refusal :=
  runNet s (fun d => d.fireNext actCAL_WINDOW lag.toNat)

end Sys2Proof.Machine
end

