-- ==== Sys2Proof/Machine/TrustCmds.lean ====
section
/-! DEFINITION. Keep commits, starts of Eodin, spares and checkpoints: the meaning of each command. -/

namespace Sys2Proof.Machine

/-- KEEP_COMMIT_DONE (R689): A Keep commit is read back and its value takes effect. -/
def execKeepCommitDone (id : BitVec 32) (s : State) : Host.Outcome State Fault Refusal :=
  run s (fun d => (if id.toNat < 4 then d.copyCommit id.toNat else d.keepDone id.toNat).fabAnswers)

/-- READY_TIMEOUT (R695): An image not READY within 30 s is restarted, falling back after three failures. -/
def execReadyTimeout (s : State) : Host.Outcome State Fault Refusal :=
  run s (fun d => d.readyTimeout)

/-- SPARE_SELF_TEST (R699): Every TEST_PERIOD the spare core's island is powered for self-test. -/
def execSpareSelfTest (s : State) : Host.Outcome State Fault Refusal :=
  run s (fun d => d.spareTest)

/-- SPARE_TEST_END (R699): The spare's self-test ends, passing or setting SPARE_LIVE. -/
def execSpareTestEnd (pass : Bool) (s : State) : Host.Outcome State Fault Refusal :=
  run s (fun d => d.inBlock bkPATROL (fun d => d.spareEnd pass))

/-- CHECKPOINT (R700): Every 100 ms Eodin writes a checkpoint. -/
def execCheckpoint (s : State) : Host.Outcome State Fault Refusal :=
  run s (fun d => d.inBlock bkPATROL (fun d => d.checkpointDue))

/-- FAIL_OVER (R701): A watchdog or core-check failure fences the core and starts Eodin on the spare. -/
def execFailOver (core : Option (Fin 5)) (s : State) : Host.Outcome State Fault Refusal :=
  runNet s (fun d => d.inBlock bkPATROL (fun d => (match core with | some k => d.failOver 2 k.val | none => d.failOver 1 0)))

/-- EODIN_READY (R635): Eodin completes its start after a reset, fail-over or activation, sets READY, clears GAP_LIVE and posts the completions
of commands fetched before the gap. -/
def execEodinReady (s : State) : Host.Outcome State Fault Refusal :=
  runNet s (fun d => d.eodinReady.fabAnswers)

end Sys2Proof.Machine
end

