-- ==== Sys2Proof/Machine/Dispatch.lean ====
section
/-! DEFINITION. Each command's meaning. -/

namespace Sys2Proof.Machine

def exec (i : Instr) (s : State) : Host.Outcome State Fault Refusal :=
  match i with
  | .barWrongWidthAccess off bytes write => Sys2Proof.Machine.execBarWrongWidthAccess off bytes write s
  | .splitLowRegisterRead fn bar off => Sys2Proof.Machine.execSplitLowRegisterRead fn bar off s
  | .splitLowRegisterWrite fn off v => Sys2Proof.Machine.execSplitLowRegisterWrite fn off v s
  | .splitHighRegisterWrite fn off v => Sys2Proof.Machine.execSplitHighRegisterWrite fn off v s
  | .registerWrite w => Sys2Proof.Machine.execRegisterWrite w s
  | .commandFetch entry => Sys2Proof.Machine.execCommandFetch entry s
  | .paramRead r tag => Sys2Proof.Machine.execParamRead r tag s
  | .paramWrite r tag => Sys2Proof.Machine.execParamWrite r tag s
  | .tableWrite r tag recs => Sys2Proof.Machine.execTableWrite r tag recs s
  | .sealBank r tag => Sys2Proof.Machine.execSeal r tag s
  | .sealComplete k => Sys2Proof.Machine.execSealComplete k s
  | .openBank r tag => Sys2Proof.Machine.execOpen r tag s
  | .cloneBank r tag => Sys2Proof.Machine.execClone r tag s
  | .cloneComplete k => Sys2Proof.Machine.execCloneComplete k s
  | .tableLoadBlock ch addr last irq next data again => Sys2Proof.Machine.execTableLoadBlock ch addr last irq next data again s
  | .epochArm r tag => Sys2Proof.Machine.execEpochArm r tag s
  | .timelineAdd r tag => Sys2Proof.Machine.execTimelineAdd r tag s
  | .timelineCancel r tag => Sys2Proof.Machine.execTimelineCancel r tag s
  | .counterRead r tag => Sys2Proof.Machine.execCounterRead r tag s
  | .sweepDefine r tag ids => Sys2Proof.Machine.execSweepDefine r tag ids s
  | .sweepStart r tag => Sys2Proof.Machine.execSweepStart r tag s
  | .sweepAbort r tag => Sys2Proof.Machine.execSweepAbort r tag s
  | .attestReport r tag => Sys2Proof.Machine.execAttestReport r tag s
  | .attestCertificate r tag => Sys2Proof.Machine.execAttestCertificate r tag s
  | .attestLog r tag => Sys2Proof.Machine.execAttestLog r tag s
  | .imageStage r tag data => Sys2Proof.Machine.execImageStage r tag data s
  | .verify r tag => Sys2Proof.Machine.execVerify r tag s
  | .activate r tag => Sys2Proof.Machine.execActivate r tag s
  | .storeStatus r tag => Sys2Proof.Machine.execStoreStatus r tag s
  | .portAdmin r tag => Sys2Proof.Machine.execPortAdmin r tag s
  | .calRun r tag => Sys2Proof.Machine.execCalRun r tag s
  | .cresorSendRequest r tag entry => Sys2Proof.Machine.execCresorSendRequest r tag entry s
  | .keyLoad r tag key => Sys2Proof.Machine.execKeyLoad r tag key s
  | .keyClear r tag => Sys2Proof.Machine.execKeyClear r tag s
  | .powerState r tag => Sys2Proof.Machine.execPowerState r tag s
  | .mbxEnableSet r v => Sys2Proof.Machine.execMbxEnableSet r v s
  | .mbxEnableClear r v => Sys2Proof.Machine.execMbxEnableClear r v s
  | .mbxCmdTailWrite r v => Sys2Proof.Machine.execMbxCmdTailWrite r v s
  | .mbxCplHeadWrite r v => Sys2Proof.Machine.execMbxCplHeadWrite r v s
  | .functionLevelReset fn => Sys2Proof.Machine.execFunctionLevelReset fn s
  | .busMasterDisable fn => Sys2Proof.Machine.execBusMasterDisable fn s
  | .busMasterEnable fn => Sys2Proof.Machine.execBusMasterEnable fn s
  | .dmaRunSet ch roData again next => Sys2Proof.Machine.execDmaRunSet ch roData again next s
  | .dmaRunClear ch roData => Sys2Proof.Machine.execDmaRunClear ch roData s
  | .dmaReset ch roData => Sys2Proof.Machine.execDmaReset ch roData s
  | .dmaKick ch again next => Sys2Proof.Machine.execDmaKick ch again next s
  | .descriptorComplete ch addr ctrl next data again => Sys2Proof.Machine.execDescriptorComplete ch addr ctrl next data again s
  | .holdoffExpiry ch => Sys2Proof.Machine.execHoldoffExpiry ch s
  | .puntTruncTimeout ch => Sys2Proof.Machine.execPuntTruncTimeout ch s
  | .injectFrame ch addr last irq next data again => Sys2Proof.Machine.execInjectFrame ch addr last irq next data again s
  | .tkFreqAdjWrite v => Sys2Proof.Machine.execTkFreqAdjWrite v s
  | .tkPhaseAdjWrite v => Sys2Proof.Machine.execTkPhaseAdjWrite v s
  | .tkSetWrite w0 w1 => Sys2Proof.Machine.execTkSetWrite w0 w1 s
  | .tkCtrlWrite v => Sys2Proof.Machine.execTkCtrlWrite v s
  | .tkwNsRead k => Sys2Proof.Machine.execTkwNsRead k s
  | .replicaCheck m => Sys2Proof.Machine.execReplicaCheck m s
  | .timeBusLost k => Sys2Proof.Machine.execTimeBusLost k s
  | .timeBusReturn k => Sys2Proof.Machine.execTimeBusReturn k s
  | .epochSwap lag => Sys2Proof.Machine.execEpochSwap lag s
  | .shadowHandover lag => Sys2Proof.Machine.execShadowHandover lag s
  | .portAdminAction lag => Sys2Proof.Machine.execPortAdminAction lag s
  | .timeOutputProgram lag => Sys2Proof.Machine.execTimeOutputProgram lag s
  | .counterSweepStart lag => Sys2Proof.Machine.execCounterSweepStart lag s
  | .calWindow lag => Sys2Proof.Machine.execCalWindow lag s
  | .frameHeadRx n t head => Sys2Proof.Machine.execFrameHeadRx n t head s
  | .classifyPass frame => Sys2Proof.Machine.execClassifyPass frame s
  | .passLate frame => Sys2Proof.Machine.execPassLate frame s
  | .bufferRequest pool start => Sys2Proof.Machine.execBufferRequest pool start s
  | .spill pool => Sys2Proof.Machine.execSpill pool s
  | .frameTailRx n rest fcs err => Sys2Proof.Machine.execFrameTailRx n rest fcs err s
  | .launchCommitment n t => Sys2Proof.Machine.execLaunchCommitment n t s
  | .lastByteSent n => Sys2Proof.Machine.execLastByteSent n s
  | .varUnknownEnd n => Sys2Proof.Machine.execVarUnknownEnd n s
  | .servoUpdate k => Sys2Proof.Machine.execServoUpdate k s
  | .pisteLocked k => Sys2Proof.Machine.execPisteLocked k s
  | .pisteLost k => Sys2Proof.Machine.execPisteLost k s
  | .ptePisteCtrlWrite k v => Sys2Proof.Machine.execPtePisteCtrlWrite k v s
  | .servoBwUpdate k demand => Sys2Proof.Machine.execServoBwUpdate k demand s
  | .boundsWrite loop v => Sys2Proof.Machine.execBoundsWrite loop v s
  | .bestMasterSelection k => Sys2Proof.Machine.execBestMasterSelection k s
  | .announceReceiptTimeout p k => Sys2Proof.Machine.execAnnounceReceiptTimeout p k s
  | .syncTx n k => Sys2Proof.Machine.execSyncTx n k s
  | .announceTx n k => Sys2Proof.Machine.execAnnounceTx n k s
  | .delayReqTx n k => Sys2Proof.Machine.execDelayReqTx n k s
  | .pdelayReqTx n k => Sys2Proof.Machine.execPdelayReqTx n k s
  | .trunkMarkerTx t => Sys2Proof.Machine.execTrunkMarkerTx t s
  | .trunkMarkerRx t bin cycles => Sys2Proof.Machine.execTrunkMarkerRx t bin cycles s
  | .timeWordRx t w => Sys2Proof.Machine.execTimeWordRx t w s
  | .trunkMarkersStopped t => Sys2Proof.Machine.execTrunkMarkersStopped t s
  | .announceRecordTx t => Sys2Proof.Machine.execAnnounceRecordTx t s
  | .announceRecordRx t => Sys2Proof.Machine.execAnnounceRecordRx t s
  | .qlRecordTx t => Sys2Proof.Machine.execQlRecordTx t s
  | .qlRecordRx t => Sys2Proof.Machine.execQlRecordRx t s
  | .qlRecordTimeout t => Sys2Proof.Machine.execQlRecordTimeout t s
  | .todSentenceRx text => Sys2Proof.Machine.execTodSentenceRx text s
  | .emuEdge c bin rise => Sys2Proof.Machine.execEmuEdge c bin rise s
  | .interpolatorExchange c hits => Sys2Proof.Machine.execInterpolatorExchange c hits s
  | .intervalTimeout c => Sys2Proof.Machine.execIntervalTimeout c s
  | .gateEnd c => Sys2Proof.Machine.execGateEnd c s
  | .noEdgeTimeout c => Sys2Proof.Machine.execNoEdgeTimeout c s
  | .emuhRdWrite c v => Sys2Proof.Machine.execEmuhRdWrite c v s
  | .emuFlushExpiry c => Sys2Proof.Machine.execEmuFlushExpiry c s
  | .emuCtrlWrite c v => Sys2Proof.Machine.execEmuCtrlWrite c v s
  | .monitorSecond theta => Sys2Proof.Machine.execMonitorSecond theta s
  | .suspectClear j => Sys2Proof.Machine.execSuspectClear j s
  | .candidateWtrEnd j => Sys2Proof.Machine.execCandidateWtrEnd j s
  | .candidateFail j => Sys2Proof.Machine.execCandidateFail j s
  | .candidateFailEnd j => Sys2Proof.Machine.execCandidateFailEnd j s
  | .esmcTimeout n => Sys2Proof.Machine.execEsmcTimeout n s
  | .esmcInfoTx n => Sys2Proof.Machine.execEsmcInfoTx n s
  | .esmcEventTx n => Sys2Proof.Machine.execEsmcEventTx n s
  | .refcCtrlWrite j v => Sys2Proof.Machine.execRefcCtrlWrite j v s
  | .refcGlbCtrlWrite v => Sys2Proof.Machine.execRefcGlbCtrlWrite v s
  | .cdPllDivWrite j v => Sys2Proof.Machine.execCdPllDivWrite j v s
  | .returnFromBypass j => Sys2Proof.Machine.execReturnFromBypass j s
  | .lockfailTimeout j => Sys2Proof.Machine.execLockfailTimeout j s
  | .pllRelockRetry j => Sys2Proof.Machine.execPllRelockRetry j s
  | .lossOfLock j => Sys2Proof.Machine.execLossOfLock j s
  | .twinMeasurement g tau back rms stepped => Sys2Proof.Machine.execTwinMeasurement g tau back rms stepped s
  | .twinStale g => Sys2Proof.Machine.execTwinStale g s
  | .calWindowClose lanes => Sys2Proof.Machine.execCalWindowClose lanes s
  | .macCageCtrlWrite c v => Sys2Proof.Machine.execMacCageCtrlWrite c v s
  | .adminWrite n up => Sys2Proof.Machine.execAdminWrite n up s
  | .linkGood n => Sys2Proof.Machine.execLinkGood n s
  | .linkBreak n by_ => Sys2Proof.Machine.execLinkBreak n by_ s
  | .downDebounceExpiry n => Sys2Proof.Machine.execDownDebounceExpiry n s
  | .flushComplete n => Sys2Proof.Machine.execFlushComplete n s
  | .upHoldExpiry n => Sys2Proof.Machine.execUpHoldExpiry n s
  | .macControlFrameRx n frame fcs err => Sys2Proof.Machine.execMacControlFrameRx n frame fcs err s
  | .pauseExpiry n p => Sys2Proof.Machine.execPauseExpiry n p s
  | .pauseWatchdog n p => Sys2Proof.Machine.execPauseWatchdog n p s
  | .wdRelease n p => Sys2Proof.Machine.execWdRelease n p s
  | .pfcRepeat n p => Sys2Proof.Machine.execPfcRepeat n p s
  | .frerRecoveryReset stream => Sys2Proof.Machine.execFrerRecoveryReset stream s
  | .frerCtrlWrite stream v => Sys2Proof.Machine.execFrerCtrlWrite stream v s
  | .bankDrained k => Sys2Proof.Machine.execBankDrained k s
  | .clsPuntCtrlWrite reason v => Sys2Proof.Machine.execClsPuntCtrlWrite reason v s
  | .rinkPoolLimWrite pool v => Sys2Proof.Machine.execRinkPoolLimWrite pool v s
  | .ageingExamination q => Sys2Proof.Machine.execAgeingExamination q s
  | .shadowSeal set atTick => Sys2Proof.Machine.execShadowSeal set atTick s
  | .shadowOpen set => Sys2Proof.Machine.execShadowOpen set s
  | .shpResetBucket shp => Sys2Proof.Machine.execShpResetBucket shp s
  | .signalDetect l => Sys2Proof.Machine.execSignalDetect l s
  | .cdrLock l => Sys2Proof.Machine.execCdrLock l s
  | .linkTrainingDone l ffe => Sys2Proof.Machine.execLinkTrainingDone l ffe s
  | .adaptConverged l => Sys2Proof.Machine.execAdaptConverged l s
  | .laneEqUpdate l demand => Sys2Proof.Machine.execLaneEqUpdate l demand s
  | .laneLimitExpiry l => Sys2Proof.Machine.execLaneLimitExpiry l s
  | .signalLoss l => Sys2Proof.Machine.execSignalLoss l s
  | .laneRestart l => Sys2Proof.Machine.execLaneRestart l s
  | .bundleFail b crc => Sys2Proof.Machine.execBundleFail b crc s
  | .bundleRetrain k => Sys2Proof.Machine.execBundleRetrain k s
  | .marginScan b left right top bottom => Sys2Proof.Machine.execMarginScan b left right top bottom s
  | .trunkClockQualified t => Sys2Proof.Machine.execTrunkClockQualified t s
  | .trunkClockLost t => Sys2Proof.Machine.execTrunkClockLost t s
  | .trunkAlignmentDone t => Sys2Proof.Machine.execTrunkAlignmentDone t s
  | .trainingSetRx t set => Sys2Proof.Machine.execTrainingSetRx t set s
  | .trunkTrainTimeout t => Sys2Proof.Machine.execTrunkTrainTimeout t s
  | .codeErrorBurst t errors => Sys2Proof.Machine.execCodeErrorBurst t errors s
  | .messageFrameRx t frame => Sys2Proof.Machine.execMessageFrameRx t frame s
  | .trunkRestart t => Sys2Proof.Machine.execTrunkRestart t s
  | .prbsCheckerLock u => Sys2Proof.Machine.execPrbsCheckerLock u s
  | .prbsLockLoss u bits errors => Sys2Proof.Machine.execPrbsLockLoss u bits errors s
  | .injOne u => Sys2Proof.Machine.execInjOne u s
  | .eyeScanStart u v => Sys2Proof.Machine.execEyeScanStart u v s
  | .eyeScanDone u errors => Sys2Proof.Machine.execEyeScanDone u errors s
  | .cntwIdWrite k id => Sys2Proof.Machine.execCntwIdWrite k id s
  | .counterCaptureDone k => Sys2Proof.Machine.execCounterCaptureDone k s
  | .deadMsExpiry k => Sys2Proof.Machine.execDeadMsExpiry k s
  | .lsrMaxageExpiry node => Sys2Proof.Machine.execLsrMaxageExpiry node s
  | .cresorRequestTimeout corr => Sys2Proof.Machine.execCresorRequestTimeout corr s
  | .keepCommitDone id => Sys2Proof.Machine.execKeepCommitDone id s
  | .spareTestEnd pass => Sys2Proof.Machine.execSpareTestEnd pass s
  | .failOver core => Sys2Proof.Machine.execFailOver core s
  | .moduleReset cause src => Sys2Proof.Machine.execModuleReset cause src s
  | .dataPlaneReset cause src => Sys2Proof.Machine.execDataPlaneReset cause src s
  | .patrolReset cause src => Sys2Proof.Machine.execPatrolReset cause src s
  | .standbyStart slot => Sys2Proof.Machine.execStandbyStart slot s
  | .feedOutOfRange feedB v => Sys2Proof.Machine.execFeedOutOfRange feedB v s
  | .undervolt a b => Sys2Proof.Machine.execUndervolt a b s
  | .vcoreLoopUpdate demand => Sys2Proof.Machine.execVcoreLoopUpdate demand s
  | .sensors a b power => Sys2Proof.Machine.execSensors a b power s
  | .opticInsertion c o => Sys2Proof.Machine.execOpticInsertion c o s
  | .opticRemoval c => Sys2Proof.Machine.execOpticRemoval c s
  | .opticOvercurrent c => Sys2Proof.Machine.execOpticOvercurrent c s
  | .powerEnWrite c budget => Sys2Proof.Machine.execPowerEnWrite c budget s
  | .sensorCompare j t => Sys2Proof.Machine.execSensorCompare j t s
  | .thermalTrip j => Sys2Proof.Machine.execThermalTrip j s
  | .feedReturn feedB v => Sys2Proof.Machine.execFeedReturn feedB v s
  | .chipletLinkTrained k maps => Sys2Proof.Machine.execChipletLinkTrained k maps s
  | .trunkAlignmentTimeout t => Sys2Proof.Machine.execTrunkAlignmentTimeout t s
  | .readFault ch => Sys2Proof.Machine.execReadFault ch s
  | .sweepRead => Sys2Proof.Machine.execSweepRead s
  | .stageEraseComplete => Sys2Proof.Machine.execStageEraseComplete s
  | .stateTransitionDone => Sys2Proof.Machine.execStateTransitionDone s
  | .refillTick => Sys2Proof.Machine.execRefillTick s
  | .slotBoundary => Sys2Proof.Machine.execSlotBoundary s
  | .farRingMove => Sys2Proof.Machine.execFarRingMove s
  | .handoverCapture => Sys2Proof.Machine.execHandoverCapture s
  | .waitToRestoreEnd => Sys2Proof.Machine.execWaitToRestoreEnd s
  | .announceRx => Sys2Proof.Machine.execAnnounceRx s
  | .syncRx => Sys2Proof.Machine.execSyncRx s
  | .followUpRx => Sys2Proof.Machine.execFollowUpRx s
  | .delayReqRx => Sys2Proof.Machine.execDelayReqRx s
  | .delayRespRx => Sys2Proof.Machine.execDelayRespRx s
  | .pdelayReqRx => Sys2Proof.Machine.execPdelayReqRx s
  | .pdelayRespRx => Sys2Proof.Machine.execPdelayRespRx s
  | .pdelayRespFollowUpRx => Sys2Proof.Machine.execPdelayRespFollowUpRx s
  | .signalingRx => Sys2Proof.Machine.execSignalingRx s
  | .grantExpiry => Sys2Proof.Machine.execGrantExpiry s
  | .todSentenceTx => Sys2Proof.Machine.execTodSentenceTx s
  | .leapFlagClear => Sys2Proof.Machine.execLeapFlagClear s
  | .delayLineLock => Sys2Proof.Machine.execDelayLineLock s
  | .delayLineLockLoss => Sys2Proof.Machine.execDelayLineLockLoss s
  | .rawCounterWrap => Sys2Proof.Machine.execRawCounterWrap s
  | .selectorLocked => Sys2Proof.Machine.execSelectorLocked s
  | .selectorSwitch => Sys2Proof.Machine.execSelectorSwitch s
  | .hoMaxExpiry => Sys2Proof.Machine.execHoMaxExpiry s
  | .learningPoint => Sys2Proof.Machine.execLearningPoint s
  | .esmcPduRx => Sys2Proof.Machine.execEsmcPduRx s
  | .modelClear => Sys2Proof.Machine.execModelClear s
  | .pllTSlewUpdate => Sys2Proof.Machine.execPllTSlewUpdate s
  | .cdSyncEmudiv => Sys2Proof.Machine.execCdSyncEmudiv s
  | .cdSyncPortdiv => Sys2Proof.Machine.execCdSyncPortdiv s
  | .dividerSync => Sys2Proof.Machine.execDividerSync s
  | .oscFail => Sys2Proof.Machine.execOscFail s
  | .calWindowOpen => Sys2Proof.Machine.execCalWindowOpen s
  | .calLinkTimeout => Sys2Proof.Machine.execCalLinkTimeout s
  | .userClear => Sys2Proof.Machine.execUserClear s
  | .repartition => Sys2Proof.Machine.execRepartition s
  | .ipfixTemplateRefresh => Sys2Proof.Machine.execIpfixTemplateRefresh s
  | .helloTx => Sys2Proof.Machine.execHelloTx s
  | .helloRx => Sys2Proof.Machine.execHelloRx s
  | .lsrRefresh => Sys2Proof.Machine.execLsrRefresh s
  | .lsrRx => Sys2Proof.Machine.execLsrRx s
  | .routeComputation => Sys2Proof.Machine.execRouteComputation s
  | .cresorMessageRx => Sys2Proof.Machine.execCresorMessageRx s
  | .requestRx => Sys2Proof.Machine.execRequestRx s
  | .responseRx => Sys2Proof.Machine.execResponseRx s
  | .resetMessageRx => Sys2Proof.Machine.execResetMessageRx s
  | .cresorResetAct => Sys2Proof.Machine.execCresorResetAct s
  | .readyTimeout => Sys2Proof.Machine.execReadyTimeout s
  | .spareSelfTest => Sys2Proof.Machine.execSpareSelfTest s
  | .checkpoint => Sys2Proof.Machine.execCheckpoint s
  | .restoreDone => Sys2Proof.Machine.execRestoreDone s
  | .watchdogReset => Sys2Proof.Machine.execWatchdogReset s
  | .perstAssert => Sys2Proof.Machine.execPerstAssert s
  | .perstRelease => Sys2Proof.Machine.execPerstRelease s
  | .modRstAssert => Sys2Proof.Machine.execModRstAssert s
  | .modRstRelease => Sys2Proof.Machine.execModRstRelease s
  | .coldStart => Sys2Proof.Machine.execColdStart s
  | .ovenSettled => Sys2Proof.Machine.execOvenSettled s
  | .surpriseRemoval => Sys2Proof.Machine.execSurpriseRemoval s
  | .removePress => Sys2Proof.Machine.execRemovePress s
  | .removeTimeout => Sys2Proof.Machine.execRemoveTimeout s
  | .identity => Sys2Proof.Machine.execIdentity s
  | .status => Sys2Proof.Machine.execStatus s
  | .lastReset => Sys2Proof.Machine.execLastReset s
  | .powerOn => Sys2Proof.Machine.execPowerOn s
  | .removeReq => Sys2Proof.Machine.execRemoveReq s
  | .removeCancel => Sys2Proof.Machine.execRemoveCancel s
  | .alertResponse => Sys2Proof.Machine.execAlertResponse s
  | .tripRestart => Sys2Proof.Machine.execTripRestart s
  | .hltTripRead => Sys2Proof.Machine.execHltTripRead s
  | .eodinReady => Sys2Proof.Machine.execEodinReady s
  | .todSentenceMissing => Sys2Proof.Machine.execTodSentenceMissing s

end Sys2Proof.Machine
end

