-- ==== Sys2Proof/Machine/Step.lean ====
section
/-! DEFINITION. One step: the first command that waits takes its effect; while none waits, the module's clock goes on. -/

namespace Sys2Proof.Machine

/-- One step of the block (assumption 2 for the empty queue). -/
def step (s : State) : Host.Outcome State Fault Refusal :=
  match s.pending with
  | [] => run s Dev.idle
  | c :: r => exec c { s with pending := r }

/-- The state with the command that a word spells in front of its queue. -/
def State.withFetchWord (s : State) (nbits w : Nat) : State :=
  match decodeTableWord nbits w with
  | some c => { s with pending := c :: s.pending }
  | none => s

end Sys2Proof.Machine
end

