-- ==== Sys2Proof/Safety.lean ====
section
/-! DEFINITION. What counts as a safe run, and the terms that statements use: how a command completes, what it leaves alone, and the invariants
that every step keeps. -/

namespace Sys2Proof.Machine

/-! ### Completion -/

/-- A step that goes on. -/
def Continues (s : State) : Prop := ∃ t, step s = .next t

/-- A command of ring `r` under `tag` may start now (R627, R634): it is in flight with opcode `op`, those before it allow it, and Eodin
serves commands. -/
abbrev Dev.mayStartCmd (d : Dev) (r tag op : Nat) (c : Cmd) : Prop :=
  d.cmdOf r tag = some c ∧ c.op = op ∧ startable (d.ring r).inflight tag = true ∧ d.serving = true

/-- A write of `v` to item `p` by itself breaks none of the checks, and the item's block is up (R640, R715). -/
abbrev Dev.accepts (d : Dev) (p v : Nat) : Prop := d.itemStatus [(p, v)] p v = stOK ∧ d.blockUp (blockOf p) = true

/-! ### Frames -/

/-- The parts of the module, its items aside. With the MSI-X tables go the conditions of the present cycle (R17). -/
inductive Part where
  | hostMem | msix | out | reply | freeCtr | pulses | accums | host | dma | tk | tl | cls | net | att | pte | emu | refc | cd | cal | lanes
  | trk0 | trk1 | optics | pwr | obs | trust | crs
deriving DecidableEq, Repr

/-- Two modules agree in a part. -/
def Part.same (p : Part) (d e : Dev) : Prop :=
  match p with
  | .hostMem => e.hostMem = d.hostMem
  | .msix => e.msix = d.msix ∧ e.cond = d.cond
  | .out => e.out = d.out
  | .reply => e.reply = d.reply
  | .freeCtr => e.freeCtr = d.freeCtr
  | .pulses => e.pulses = d.pulses
  | .accums => e.accums = d.accums
  | .host => e.host = d.host
  | .dma => e.dma = d.dma
  | .tk => e.tk = d.tk
  | .tl => e.tl = d.tl
  | .cls => e.cls = d.cls
  | .net => e.net = d.net
  | .att => e.att = d.att
  | .pte => e.pte = d.pte
  | .emu => e.emu = d.emu
  | .refc => e.refc = d.refc
  | .cd => e.cd = d.cd
  | .cal => e.cal = d.cal
  | .lanes => e.lanes = d.lanes
  | .trk0 => e.trk0 = d.trk0
  | .trk1 => e.trk1 = d.trk1
  | .optics => e.optics = d.optics
  | .pwr => e.pwr = d.pwr
  | .obs => e.obs = d.obs
  | .trust => e.trust = d.trust
  | .crs => e.crs = d.crs

/-- The items that show other state after every command (R63, R93, R436, R448). -/
def followItems : List Nat := [CLS_BANK_STATUS, CLS_BANK_ID0, CLS_BANK_ID1, CLS_EXACT_USED, TL_STATUS, TK_STATUS]

/-- Only the parts `ps` and the items `qs` may differ, beside the items that follow other state. -/
def Changes (ps : List Part) (qs : List Nat) (d e : Dev) : Prop :=
  (∀ p, p ∉ ps → p.same d e) ∧ ∀ q, q ∉ qs → q ∉ followItems → e.get q = d.get q

/-- Only the parts `ps` may differ, and of the items only those of the classes `cs`, beside the items that follow other state. -/
def ChangesIn (ps : List Part) (cs : List Nat) (d e : Dev) : Prop :=
  (∀ p, p ∉ ps → p.same d e) ∧ ∀ q, idClass q ∉ cs → q ∉ followItems → e.get q = d.get q

/-! ### Invariants -/

/-- The tables that are memories: host memory, the parameter space, and the MSI-X tables, each in its canonical form. -/
def Dev.memWf (d : Dev) : Bool := Tbl.wf (fun _ => 0) d.hostMem && Tbl.wf itemDefault d.params && Tbl.wf (fun _ => {}) d.msix

/-- The items that follow the Timekeeper, the banks and the Timeline show them (R63, R93, R436, R448). -/
structure Dev.Shows (d : Dev) : Prop where
  bankStatus : d.num CLS_BANK_STATUS % 2 ^ 48 = d.cls.status % 2 ^ 48
  bankId0 : d.num CLS_BANK_ID0 % 2 ^ 48 = d.cls.bank0.ruleset % 2 ^ 48
  bankId1 : d.num CLS_BANK_ID1 % 2 ^ 48 = d.cls.bank1.ruleset % 2 ^ 48
  exactUsed : d.num CLS_EXACT_USED % 2 ^ 48 = d.cls.exact_.length % 2 ^ 48
  armed : d.fld TL_STATUS TL_STATUS_ARMED = d.tl.acts.length % 2 ^ 13
  slewLive : d.bit TK_STATUS TK_STATUS_SLEW = decide (d.tk.remain ≠ 0)
  replicaLive : d.bit TK_STATUS TK_STATUS_REPLICA = (List.range 9).any (fun k => d.repFault (k + 1))

/-- The fabric is not in use: Cresor is off (R656), and no link has an adjacency. -/
abbrev Dev.noFabric (d : Dev) : Prop := d.crsCtl CRS_CTRL_ENABLE = 0 ∧ d.crs.links = []

end Sys2Proof.Machine
end

