-- ==== Sys2Proof/Certificates/Slice0/Obligations.lean ====
section
/-! DEFINITION. The statements. Most are groups of clauses, one for each form of a command: under conditions on the state and the operands
alone the command completes, and the module then holds what the clause says. `Changes` beside it is the frame of that form: the parts and the
items that it may change. -/

set_option linter.unusedVariables false

open Sys2Proof Sys2Proof.Machine

/-- With a command at the front of the queue a step is that command's effect on the rest of the state, the queue being what follows it; with
no command waiting the module idles for one cycle of its clock (the model's choice, assumption 2). (R55, R627) -/
def Obligations.StepRunsFront : Prop :=
  (∀ (c : Instr) (d : Dev) (r : List Instr), step ⟨d, c :: r⟩ = exec c ⟨d, r⟩) ∧
  ∀ d : Dev, step ⟨d, []⟩ = .next ⟨d.idle.settle, []⟩

/-- From every state every command with any operands gives a next state, the queue being as it was: no command faults or is refused. (R12,
R627) -/
def Obligations.EveryCommandCompletes : Prop :=
  ∀ (c : Instr) (s : State), ∃ t, exec c s = .next t ∧ t.pending = s.pending

/-- Whatever the state before it, after a step CLS_BANK_STATUS, CLS_BANK_ID, CLS_EXACT_USED, ARMED of TL_STATUS, and SLEW_LIVE and
REPLICA_LIVE of TK_STATUS show the banks, the exact-match entries, the armed actions, the slew that remains and the replicas' faults as
they stand then. (R63, R93, R436, R448) -/
def Obligations.StepShowsState : Prop :=
  ∀ s t : State, step s = .next t → t.dev.Shows

/-- After reset no command waits, every item holds its reset value of the item tables, the items that show other state agree with it, host
memory and the parameter space list nothing, every ring is disabled with the sizes of its reset value, every DMA channel is IDLE and no
action is armed. Where the spec gives an item no reset value, the one in the table is the model's choice (assumption 10). (R625, R643) -/
def Obligations.ResetState : Prop :=
  State.reset.pending = [] ∧ State.reset.dev.Shows ∧ State.reset.dev.hostMem = [] ∧
  (∀ p, State.reset.dev.get p = itemDefault p) ∧ (∀ r : RingNo, State.reset.dev.ring r.val = {} ∧ (State.reset.dev.ring r.val).ctrl = 0x8800) ∧
  (∀ c : ChanNo, (State.reset.dev.ch c.val).state = dsIDLE) ∧ State.reset.dev.tl.acts = []

/-- A counter is a number of two words of 48 bits. Advanced by any amount it holds the sum, or all ones where the sum does not fit: it never
wraps and never falls, and no other item changes. (R8) -/
def Obligations.CountersSaturate : Prop :=
  ∀ (d : Dev) (p n : Nat), (d.bump p n).num p = min (d.num p + n) (2 ^ 96 - 1) ∧ d.num p ≤ (d.bump p n).num p ∧
    (d.num p = d.num p / 2 ^ 48 * 2 ^ 48 + d.num p % 2 ^ 48 ∧ d.num p / 2 ^ 48 < 2 ^ 48) ∧ ∀ q, q ≠ p → (d.bump p n).get q = d.get q

/-- A write puts the written value into RW bits, clears a W1C bit where it writes 1, and leaves every other bit, RO ones among them, as it is.
(R12, R13) -/
def Obligations.WriteCodes : Prop :=
  ∀ (i : ItemDef) (old : Wide) (v b : Nat), b < 96 →
    (codeWrite i old v).getLsbD b =
      (if i.rw.testBit b then v.testBit b else if i.w1c.testBit b && v.testBit b then false else old.getLsbD b)

/-- A write that takes the ENABLE bit of a triplet from 0 to 1 while its STICKY bit is set, and does not clear it, signals the item's vector
at once. A write of 0 to the STICKY bit leaves it as it is, whatever it does to ENABLE. (R18) -/
def Obligations.EnablesAndStickies : Prop :=
  ∀ (d : Dev) (p v b : Nat) (i : ItemDef), itemDef p = some i → b + 1 < 96 → i.w1c.testBit b = true → i.rw.testBit b = false →
    i.rw.testBit (b + 1) = true →
    (d.bit p b = true → d.bit p (b + 1) = false → v.testBit b = false → v.testBit (b + 1) = true →
      d.writeWord p v = (d.put p (codeWrite i (d.get p) v)).raise p) ∧
    (v.testBit b = false → (d.writeWord p v).bit p b = d.bit p b)

/-- Bytes written to host memory from an address stand there in order, and every other byte and every item stays. (R9, R22) -/
def Obligations.HostMemoryWrites : Prop :=
  ∀ (d : Dev) (a : Nat) (l : List Byte), (∀ k, k < l.length → (d.hostWrite a l).hostByte (a + k) = l.getD k 0) ∧
    (∀ x, x < a ∨ a + l.length ≤ x → (d.hostWrite a l).hostByte x = d.hostByte x) ∧ (d.hostWrite a l).params = d.params

/-- A TW96 value is 12 bytes: seconds in bytes 0 to 5, nanoseconds in bytes 6 to 9 and the fraction in bytes 10 and 11, each little-endian.
The bytes of a time below 2^48 seconds spell that time, truncated to the fraction's unit. (R22) -/
def Obligations.TimeWords : Prop :=
  ∀ t : Nat, t < 2 ^ 48 * sec1 → (twBytes t).length = 12 ∧ leNat (slice (twBytes t) 0 6) = twSec t ∧
    leNat (slice (twBytes t) 6 4) = twNs t ∧ leNat (slice (twBytes t) 10 2) = twFrac t ∧ twOfBytes (twBytes t) = some (twTrunc t)

/-- At an update a loop's applied output lies within [LO, HI], whatever the demand. A demand below LO or above HI is held: the output of a
loop without a limited step is the nearer bound, HELD_LIVE is 1, and held time is counted; HELD_STICKY is set where the hold begins. A
demand within the bounds is applied, and HELD_LIVE is 0. (R43, R44, R52) -/
def Obligations.LoopsStayInBounds : Prop :=
  ∀ (d : Dev) (l : LoopItems) (x : Int), d.loopLo l ≤ d.loopHi l → l.held ≠ l.value → l.time ≠ l.value → l.time ≠ l.held →
    (∀ m : Int, 0 ≤ m → d.loopLo l ≤ (d.loopUpdate l x (some m)).int l.value ∧ (d.loopUpdate l x (some m)).int l.value ≤ d.loopHi l) ∧
    (d.loopUpdate l x none).int l.value = clampTo (d.loopLo l) (d.loopHi l) x ∧
    d.loopLo l ≤ clampTo (d.loopLo l) (d.loopHi l) x ∧ clampTo (d.loopLo l) (d.loopHi l) x ≤ d.loopHi l ∧
    (x < d.loopLo l ∨ d.loopHi l < x → (d.loopUpdate l x none).bit l.held HELD_HELD = true ∧
      (Tbl.get (d.loopUpdate l x none).accums none l.time).isSome = true ∧
      (d.bit l.held HELD_HELD = false → (d.loopUpdate l x none).bit l.held (HELD_HELD + 1) = true)) ∧
    (d.loopLo l ≤ x → x ≤ d.loopHi l → (d.loopUpdate l x none).bit l.held HELD_HELD = false)

/-- IDENTITY returns 32 bytes that give the part, serial number, module address, vendor and slot; STATUS returns a word whose bits show the
state and the conditions of R757; SENSORS returns 8 bytes with both feeds and the power as measured; LAST_RESET returns the six bytes of
PWR_LAST_RESET; and an Alert Response Address read while ALERT_N is asserted returns 0xB4 and releases it. None changes anything else. A
reading is shown in HLT_TEMP. A reading at or above WARN with WARN_LIVE at 0 sets WARN_LIVE and WARN_STICKY and counts in HLT_WARNS; one
at least 5 °C below WARN clears WARN_LIVE. A trip writes HLT_TRIP, counts in HLT_TRIPS and takes the module to S4, and when every sensor
has been cool for 60 s it starts again with AUTO_ON at 1. A read of HLT_TRIP returns it and clears TRIPPED_LIVE. (R755, R756, R757, R758,
R763, R764, R769, R771, R772, R773) -/
def Obligations.ChassisReadsAndSensors : Prop := ∀ s : State,
  (∃ e, Sys2Proof.Machine.exec .identity s = .next ⟨e, s.pending⟩ ∧ e.reply.data.length = 32 ∧ slice e.reply.data 0 4 = leBytes 4 0x6480 ∧
    slice e.reply.data 8 8 = leBytes 8 Config.serial.toNat ∧ slice e.reply.data 16 6 = beBytes 6 Config.mac.toNat ∧
    slice e.reply.data 22 2 = leBytes 2 Config.vendor.toNat ∧ slice e.reply.data 26 1 = leBytes 1 s.dev.pwr.slot ∧
    slice e.reply.data 27 5 = [0, 0, 0, 0, 0] ∧ Changes [.reply] [] s.dev e) ∧
  (∃ e, Sys2Proof.Machine.exec .status s = .next ⟨e, s.pending⟩ ∧ e.reply.data = leBytes 2 s.dev.statusWord ∧
    bitsAt s.dev.statusWord 0 3 = s.dev.fld PWR_STATUS PWR_STATUS_STATE % 8 ∧ bitsAt s.dev.statusWord 15 1 = s.dev.pwr.oscFail.toNat ∧
    bitsAt s.dev.statusWord 14 1 = s.dev.pwr.noImage.toNat ∧ bitsAt s.dev.statusWord 13 1 = s.dev.pwr.trip.toNat ∧
    bitsAt s.dev.statusWord 11 1 = (s.dev.bit PWR_STATUS PWR_STATUS_FEEDB).toNat ∧
    bitsAt s.dev.statusWord 10 1 = (s.dev.bit PWR_STATUS PWR_STATUS_FEEDA).toNat ∧
    bitsAt s.dev.statusWord 9 1 = (s.dev.bit PWR_STATUS PWR_STATUS_REMOVE).toNat ∧ bitsAt s.dev.statusWord 8 1 = s.dev.pwr.ready.toNat ∧
    bitsAt s.dev.statusWord 7 1 = (s.dev.bit PWR_STATUS PWR_STATUS_WARM).toNat ∧ Changes [.reply] [] s.dev e) ∧
  (∀ (a b p : BitVec 16), ∃ e, Sys2Proof.Machine.exec (.sensors a b p) s = .next ⟨e, s.pending⟩ ∧ e.reply.data.length = 8 ∧
    slice e.reply.data 2 2 = leBytes 2 a.toNat ∧ slice e.reply.data 4 2 = leBytes 2 b.toNat ∧ slice e.reply.data 6 2 = leBytes 2 p.toNat ∧
    Changes [.reply] [PWR_FEED] s.dev e) ∧
  (∃ e, Sys2Proof.Machine.exec .lastReset s = .next ⟨e, s.pending⟩ ∧ e.reply.data = leBytes 6 (s.dev.num PWR_LAST_RESET) ∧
    Changes [.reply] [] s.dev e) ∧
  (s.dev.pwr.alert = true → ∃ e, Sys2Proof.Machine.exec .alertResponse s = .next ⟨e, s.pending⟩ ∧ e.reply.data = [0xB4] ∧
    e.pwr = { s.dev.pwr with alert := false } ∧ Changes [.reply, .pwr, .out] [] s.dev e) ∧
  (∀ (i : SensorNo) (t : BitVec 24), 16 * s.dev.warnOf (i.val + 1) ≤ t.toInt →
    s.dev.bit (HLT_SENSOR_STATUS (i.val + 1)) HLT_SENSOR_STATUS_WARN = false → s.dev.pulses = [] →
    ∃ e, Sys2Proof.Machine.exec (.sensorCompare i t) s = .next ⟨e, s.pending⟩ ∧ signedOf 24 (e.num (HLT_TEMP (i.val + 1))) = t.toInt ∧
    e.bit (HLT_SENSOR_STATUS (i.val + 1)) HLT_SENSOR_STATUS_WARN = true ∧
    e.bit (HLT_SENSOR_STATUS (i.val + 1)) (HLT_SENSOR_STATUS_WARN + 1) = true ∧
    e.num (HLT_WARNS (i.val + 1)) = min (s.dev.num (HLT_WARNS (i.val + 1)) + 1) (2 ^ 96 - 1) ∧
    Changes [.msix, .out, .pwr, .net, .tk] [HLT_TEMP (i.val + 1), HLT_TEMP_MAX (i.val + 1), HLT_SENSOR_STATUS (i.val + 1), HLT_WARNS (i.val + 1)] s.dev e) ∧
  (∀ (i : SensorNo) (t : BitVec 24), t.toInt ≤ 16 * (s.dev.warnOf (i.val + 1) - 5) → s.dev.pulses = [] →
    ∃ e, Sys2Proof.Machine.exec (.sensorCompare i t) s = .next ⟨e, s.pending⟩ ∧
    e.bit (HLT_SENSOR_STATUS (i.val + 1)) HLT_SENSOR_STATUS_WARN = false) ∧
  (∀ (i : SensorNo), s.dev.runsT (tTrip (i.val + 1)) = true → s.dev.pulses = [] →
    ∃ e, Sys2Proof.Machine.exec (.thermalTrip i) s = .next ⟨e, s.pending⟩ ∧
    e.num HLT_TRIP = s.dev.num (HLT_TEMP (i.val + 1)) % 0x1000000 * 0x100 + (i.val + 1) ∧
    e.num HLT_TRIPS = min (s.dev.num HLT_TRIPS + 1) (2 ^ 96 - 1) ∧ e.pwrState = 4 ∧ e.pwr.trip = true) ∧
  (s.dev.pwr.trip = true → s.dev.runsT tCool = true → s.dev.pulses = [] → s.dev.pwr.feedA = true → s.dev.pwr.intlk = true →
    s.dev.autoOn = true → s.dev.pwr.powerOn = false → ∃ e, Sys2Proof.Machine.exec .tripRestart s = .next ⟨e, s.pending⟩ ∧ e.pwr.trip = false ∧
    e.pwrState = 0 ∧ e.num PWR_LAST_RESET = 0x1000000) ∧
  (Tbl.get s.dev.accums none HLT_TRIP = none → ∃ e, Sys2Proof.Machine.exec .hltTripRead s = .next ⟨e, s.pending⟩ ∧
    e.reply.value = s.dev.num HLT_TRIP ∧ e.bit HLT_STATUS HLT_STATUS_TRIPPED = false ∧ Changes [.reply] [HLT_STATUS] s.dev e)

/-- Outside S4 and with no transition and no request standing, REMOVE_REQ and a press of REMOVE each raise a request: REMOVE_LIVE and
REMOVE_STICKY are set, the request is counted, and ALERT_N is asserted. While a request stands and no hand-off has begun, REMOVE_CANCEL
and a second press each cancel it, as REMOVE_TIMEOUT does with REMOVE_AUTO at 0. Nothing else changes but the timer of the request. A feed
that leaves 40 V to 60 V sets its LIVE bit; where the bit was 0, STICKY is set and the drop is counted. A feed that returns clears LIVE.
PWR_FEED shows the voltage measured. The oven settling takes WARM_LIVE to 0 and sets WARM_STICKY. (R730, R731, R747, R755, R726, R729,
R736) -/
def Obligations.RemovalRequestsAndFeeds : Prop := ∀ s : State,
  (s.dev.pwrState ≠ 4 → s.dev.bit PWR_STATUS PWR_STATUS_REMOVE = false → s.dev.pwr.target = none → s.dev.pwr.pressWait = false →
    ∃ e, Sys2Proof.Machine.exec .removeReq s = .next ⟨e, s.pending⟩ ∧ e.bit PWR_STATUS PWR_STATUS_REMOVE = true ∧
    e.bit PWR_STATUS (PWR_STATUS_REMOVE + 1) = true ∧ e.num PWR_REMOVE_REQS = min (s.dev.num PWR_REMOVE_REQS + 1) (2 ^ 96 - 1) ∧
    e.pwr = { s.dev.pwr with alert := true } ∧ Changes [.msix, .out, .pwr, .net] [PWR_STATUS, PWR_REMOVE_REQS] s.dev e) ∧
  (s.dev.pwrState ≠ 4 → s.dev.bit PWR_STATUS PWR_STATUS_REMOVE = false → s.dev.pwr.target = none → s.dev.pwr.pressWait = false →
    ∃ e, Sys2Proof.Machine.exec .removePress s = .next ⟨e, s.pending⟩ ∧ e.bit PWR_STATUS PWR_STATUS_REMOVE = true ∧
    e.bit PWR_STATUS (PWR_STATUS_REMOVE + 1) = true ∧ e.num PWR_REMOVE_REQS = min (s.dev.num PWR_REMOVE_REQS + 1) (2 ^ 96 - 1) ∧
    e.pwr = { s.dev.pwr with alert := true } ∧ Changes [.msix, .out, .pwr, .net] [PWR_STATUS, PWR_REMOVE_REQS] s.dev e) ∧
  (s.dev.bit PWR_STATUS PWR_STATUS_REMOVE = true → s.dev.pwr.handOff = false →
    ∃ e, Sys2Proof.Machine.exec .removeCancel s = .next ⟨e, s.pending⟩ ∧ e.bit PWR_STATUS PWR_STATUS_REMOVE = false ∧ e.runsT tRemove = false ∧
    Changes [.pwr, .net] [PWR_STATUS] s.dev e) ∧
  (s.dev.pwrState ≠ 4 → s.dev.bit PWR_STATUS PWR_STATUS_REMOVE = true → s.dev.pwr.handOff = false →
    ∃ e, Sys2Proof.Machine.exec .removePress s = .next ⟨e, s.pending⟩ ∧ e.bit PWR_STATUS PWR_STATUS_REMOVE = false ∧ e.runsT tRemove = false ∧
    Changes [.pwr, .net] [PWR_STATUS] s.dev e) ∧
  (s.dev.runsT tRemove = true → s.dev.pulses = [] → s.dev.fld PWR_CTRL PWR_CTRL_REMOVE_AUTO = 0 → s.dev.pwr.handOff = false →
    ∃ e, Sys2Proof.Machine.exec .removeTimeout s = .next ⟨e, s.pending⟩ ∧ e.bit PWR_STATUS PWR_STATUS_REMOVE = false ∧ e.runsT tRemove = false ∧
    Changes [.pwr, .net, .tk] [PWR_STATUS] s.dev e) ∧
  (∀ (f : Bool) (v : BitVec 16), s.dev.bit PWR_STATUS (if f then PWR_STATUS_FEEDB else PWR_STATUS_FEEDA) = false →
    ∃ e, Sys2Proof.Machine.exec (.feedOutOfRange f v) s = .next ⟨e, s.pending⟩ ∧
    e.bit PWR_STATUS (if f then PWR_STATUS_FEEDB else PWR_STATUS_FEEDA) = true ∧
    e.bit PWR_STATUS ((if f then PWR_STATUS_FEEDB else PWR_STATUS_FEEDA) + 1) = true ∧
    e.num PWR_FEED_DROPS = min (s.dev.num PWR_FEED_DROPS + 1) (2 ^ 96 - 1) ∧ e.fld PWR_FEED (if f then ⟨32, 16⟩ else ⟨16, 16⟩) = v.toNat ∧
    Changes [.msix, .out, .pwr] [PWR_STATUS, PWR_FEED, PWR_FEED_DROPS] s.dev e) ∧
  (∀ (f : Bool) (v : BitVec 16), ∃ e, Sys2Proof.Machine.exec (.feedReturn f v) s = .next ⟨e, s.pending⟩ ∧
    e.bit PWR_STATUS (if f then PWR_STATUS_FEEDB else PWR_STATUS_FEEDA) = false ∧ e.fld PWR_FEED (if f then ⟨32, 16⟩ else ⟨16, 16⟩) = v.toNat ∧
    Changes [.pwr] [PWR_STATUS, PWR_FEED] s.dev e) ∧
  (s.dev.pwrState < 4 → s.dev.pwr.await = false → s.dev.bit PWR_STATUS PWR_STATUS_WARM = true →
    ∃ e, Sys2Proof.Machine.exec .ovenSettled s = .next ⟨e, s.pending⟩ ∧ e.bit PWR_STATUS PWR_STATUS_WARM = false ∧
    e.bit PWR_STATUS (PWR_STATUS_WARM + 1) = true ∧ Changes [.msix, .out] [PWR_STATUS] s.dev e)

/-- POWER_STATE accepted without REMOVAL puts its TARGET in progress for the command that asked; a transition whose target is S1 ends with the
core voltage at LO, and one whose target is S4 with the module in S4 and no transition in progress. POWER_ON in S3 starts a transition to
S0. In S0 with its voltage within bounds, the core voltage loop moves by at most 10 mV toward its demand and stays within its bounds.
(R709, R711, R712, R713, R717, R718, R43) -/
def Obligations.PowerStates : Prop := ∀ s : State,
  (∀ (r : RingNo) (tag : Byte) (c : Cmd), s.dev.mayStartCmd r.val tag.toNat 0x80 c → byteAt c.par 0 ≤ 4 → byteAt c.par 1 = 0 →
    zeros (slice c.par 2 38) = true → s.dev.pwr.target = none → s.dev.imageBusy = false → s.dev.cal.run = none → byteAt c.par 0 ≠ s.dev.pwrState →
    ∃ e, Sys2Proof.Machine.exec (.powerState r tag) s = .next ⟨e, s.pending⟩ ∧ e.pwr.target = some (byteAt c.par 0) ∧
    e.pwr.owner = some (r.val, tag.toNat) ∧ e.bit PWR_STATUS PWR_STATUS_STATE_T = true) ∧
  (s.dev.pwr.target = some 1 → s.dev.pwrState = 0 → s.dev.pwr.autoWait = false → s.dev.pwr.pressWait = false → s.dev.pwr.oscFail = false →
    ∃ e, Sys2Proof.Machine.exec .stateTransitionDone s = .next ⟨e, s.pending⟩ ∧ e.pwrState = 1 ∧ e.pwr.target = none ∧
    e.int PWR_VCORE = s.dev.loopLo vcoreLoop) ∧
  (s.dev.pwr.target = some 4 → s.dev.pwr.handOff = false → s.dev.pwr.oscFail = false →
    ∃ e, Sys2Proof.Machine.exec .stateTransitionDone s = .next ⟨e, s.pending⟩ ∧ e.pwrState = 4 ∧ e.pwr.target = none) ∧
  (s.dev.pwrState = 3 → ∃ e, Sys2Proof.Machine.exec .powerOn s = .next ⟨e, s.pending⟩ ∧ e.pwr.target = some 0 ∧ e.pwrState = 2) ∧
  (∀ (v : BitVec 24), s.dev.pwrState = 0 → s.dev.pwr.await = false → s.dev.loopLo vcoreLoop ≤ s.dev.int PWR_VCORE →
    s.dev.int PWR_VCORE ≤ s.dev.loopHi vcoreLoop → s.dev.pwr.oscFail = false → s.dev.pwr.ramp = none → s.dev.pulses = [] →
    ∃ e, Sys2Proof.Machine.exec (.vcoreLoopUpdate v) s = .next ⟨e, s.pending⟩ ∧ s.dev.loopLo vcoreLoop ≤ e.int PWR_VCORE ∧
    e.int PWR_VCORE ≤ s.dev.loopHi vcoreLoop ∧ s.dev.int PWR_VCORE - 10 ≤ e.int PWR_VCORE ∧ e.int PWR_VCORE ≤ s.dev.int PWR_VCORE + 10 ∧
    Changes [.msix, .out, .accums, .tk, .pwr] [PWR_VCORE, PWR_VCORE_HELD, PWR_VCORE_HELD_TIME] s.dev e)

/-- A MODULE, DATA_PLANE or PATROL reset raised while none is under way is recorded in PWR_LAST_RESET with its kind, cause and source and
counted in PWR_RESETS; network time is untouched. MODULE and PATROL clear both Timeline stores and end in S0, with Eodin starting;
DATA_PLANE, raised in S0, holds the core package until RESTORE_DONE. The reset that a Cresor RESET named, and the WATCHDOG reset after a
failure with no spare, are recorded in the same way. PERST_N low in S0 to S2 takes the host link down, disables every ring and returns
every DMA channel to IDLE; its rise trains the link again. MOD_RST_N low holds Patrol and the core package in reset, and its rise starts
Eodin, GAP_LIVE being 1. Network time is untouched. (R720, R723, R724, R725, R737, R717) -/
def Obligations.Resets : Prop := ∀ s : State,
  (∀ (cause : Fin 7) (src : BitVec 16), s.dev.pwrState < 3 → s.dev.pwr.await = false → s.dev.pwr.resetting = 0 →
    ∃ e, Sys2Proof.Machine.exec (.moduleReset cause src) s = .next ⟨e, s.pending⟩ ∧
    e.num PWR_LAST_RESET = src.toNat * 0x100000000 + 3 * 0x1000000 + cause.val * 0x100000 ∧
    e.num PWR_RESETS = min (s.dev.num PWR_RESETS + 1) (2 ^ 96 - 1) ∧ e.tk.time = s.dev.tk.time ∧ e.tl.acts = [] ∧ e.pwrState = 0 ∧
    e.pwr.coreOff = true ∧ e.host.linkUp = false) ∧
  (∀ (cause : Fin 7) (src : BitVec 16), s.dev.pwrState = 0 → s.dev.pwr.await = false → s.dev.pwr.resetting = 0 →
    ∃ e, Sys2Proof.Machine.exec (.dataPlaneReset cause src) s = .next ⟨e, s.pending⟩ ∧
    e.num PWR_LAST_RESET = src.toNat * 0x100000000 + 5 * 0x1000000 + cause.val * 0x100000 ∧
    e.num PWR_RESETS = min (s.dev.num PWR_RESETS + 1) (2 ^ 96 - 1) ∧ e.tk.time = s.dev.tk.time ∧ e.pwr.resetting = rkDATA_PLANE ∧
    e.pwr.coreOff = true) ∧
  (∀ (cause : Fin 7) (src : BitVec 16), s.dev.pwrState < 3 → s.dev.pwr.await = false → s.dev.pwr.resetting = 0 →
    ∃ e, Sys2Proof.Machine.exec (.patrolReset cause src) s = .next ⟨e, s.pending⟩ ∧
    e.num PWR_LAST_RESET = src.toNat * 0x100000000 + 6 * 0x1000000 + cause.val * 0x100000 ∧
    e.num PWR_RESETS = min (s.dev.num PWR_RESETS + 1) (2 ^ 96 - 1) ∧ e.tk.time = s.dev.tk.time ∧ e.tl.acts = [] ∧ e.pwrState = 0 ∧
    e.host.linkUp = s.dev.host.linkUp) ∧
  (s.dev.pwr.resetting = rkDATA_PLANE → s.dev.bit GLB_STATE GLB_STATE_GAP = false →
    ∃ e, Sys2Proof.Machine.exec .restoreDone s = .next ⟨e, s.pending⟩ ∧ e.pwr.resetting = 0 ∧ e.pwr.coreOff = false ∧ e.tk.time = s.dev.tk.time) ∧
  (s.dev.runsT tWatchdog = true → s.dev.onBypass 3 = false → s.dev.pulses = [] → s.dev.pwrState < 3 → s.dev.pwr.await = false →
    s.dev.pwr.resetting = 0 → ∃ e, Sys2Proof.Machine.exec .watchdogReset s = .next ⟨e, s.pending⟩ ∧
    e.num PWR_LAST_RESET = 4 * 0x1000000 + 3 * 0x100000 ∧ e.num PWR_RESETS = min (s.dev.num PWR_RESETS + 1) (2 ^ 96 - 1) ∧ e.tl.acts = []) ∧
  (∀ (src t : Nat) (rest : List (Nat × Nat × Nat)), s.dev.pwr.crsReset = (rkPATROL, src, t) :: rest → src < 0x10000 → s.dev.pulses = [] →
    s.dev.pwrState < 3 → s.dev.pwr.await = false → s.dev.pwr.resetting = 0 →
    ∃ e, Sys2Proof.Machine.exec .cresorResetAct s = .next ⟨e, s.pending⟩ ∧
    e.num PWR_LAST_RESET = src * 0x100000000 + 6 * 0x1000000 + 2 * 0x100000 ∧ e.num PWR_RESETS = min (s.dev.num PWR_RESETS + 1) (2 ^ 96 - 1) ∧
    e.tl.acts = [] ∧ e.pwr.crsReset = rest) ∧
  (s.dev.pwrState < 3 → s.dev.pwr.await = false → s.dev.pwr.resetting = 0 → ∃ e, Sys2Proof.Machine.exec .perstAssert s = .next ⟨e, s.pending⟩ ∧
    e.host.linkUp = false ∧ e.dma = [] ∧ e.host.rings.all (fun x => !x.2.enable) = true ∧ e.tk.time = s.dev.tk.time) ∧
  (s.dev.host.perst = true → s.dev.pwrState ≤ 2 → s.dev.pwr.await = false → s.dev.pwr.modRst = false →
    ∃ e, Sys2Proof.Machine.exec .perstRelease s = .next ⟨e, s.pending⟩ ∧ e.host.perst = false ∧ e.host.linkUp = true ∧ Changes [.host] [] s.dev e) ∧
  (s.dev.pwr.modRst = false → s.dev.pwrState < 3 → s.dev.pwr.await = false → s.dev.pwr.resetting = 0 →
    ∃ e, Sys2Proof.Machine.exec .modRstAssert s = .next ⟨e, s.pending⟩ ∧ e.pwr.modRst = true ∧ e.pwr.coreOff = true ∧
    e.num PWR_LAST_RESET = 3 * 0x1000000 ∧ e.tk.time = s.dev.tk.time) ∧
  (s.dev.pwr.modRst = true → s.dev.pwrState ≤ 2 → s.dev.pwr.await = false →
    ∃ e, Sys2Proof.Machine.exec .modRstRelease s = .next ⟨e, s.pending⟩ ∧ e.pwr.modRst = false ∧ e.bit GLB_STATE GLB_STATE_GAP = true ∧
    e.fld GLB_STATE GLB_STATE_READY = 0 ∧ e.tk.time = s.dev.tk.time)

/-- Connecting power samples SLOT_ID and leaves the module in S4; a cold start that may begin leads to S0 with the oven heating, Eodin
starting and a POWER reset recorded; UNDERVOLT and a broken INTLK lead to S4 at once with their causes recorded; and Eodin's start ends
with READY at 1 and GAP_LIVE at 0. (R620, R635, R726, R728, R729, R733, R737, R753) -/
def Obligations.Starts : Prop := ∀ s : State,
  (∀ (k : CageNo), (s.dev.pwrState = 4 ∨ s.dev.pwr.await = true) → ∃ e, Sys2Proof.Machine.exec (.standbyStart k) s = .next ⟨e, s.pending⟩ ∧
    e.pwr = { slot := k.val } ∧ e.pwrState = 4) ∧
  (s.dev.pwr.await = true → s.dev.mayStart = true → s.dev.autoOn = true → s.dev.pwr.powerOn = false → s.dev.pwr.cause < 16 →
    s.dev.pwr.modRst = false → ∃ e, Sys2Proof.Machine.exec .coldStart s = .next ⟨e, s.pending⟩ ∧ e.pwrState = 0 ∧
    e.bit PWR_STATUS PWR_STATUS_WARM = true ∧ e.pwr.await = false ∧ e.num PWR_LAST_RESET = 0x1000000 + s.dev.pwr.cause * 0x100000 ∧
    e.fld GLB_STATE GLB_STATE_READY = 0) ∧
  (∀ (a b : BitVec 16), s.dev.pwrState ≠ 4 → ∃ e, Sys2Proof.Machine.exec (.undervolt a b) s = .next ⟨e, s.pending⟩ ∧ e.pwrState = 4 ∧
    e.pwr.await = true ∧ e.num PWR_LAST_RESET = 0x1000000 + 4 * 0x100000 ∧ e.bit PWR_STATUS PWR_STATUS_FEEDA = true ∧
    e.bit PWR_STATUS PWR_STATUS_FEEDB = true) ∧
  (s.dev.pwrState ≠ 4 → ∃ e, Sys2Proof.Machine.exec .surpriseRemoval s = .next ⟨e, s.pending⟩ ∧ e.pwrState = 4 ∧ e.pwr.await = true ∧
    e.num PWR_LAST_RESET = 0x1000000 + 5 * 0x100000 ∧ e.pwr.intlk = false) ∧
  (s.dev.trust.booting = true → s.dev.pwr.oscFail = false → ∃ e, Sys2Proof.Machine.exec .eodinReady s = .next ⟨e, s.pending⟩ ∧
    e.fld GLB_STATE GLB_STATE_READY = 1 ∧ e.bit GLB_STATE GLB_STATE_GAP = false)

/-- An optic plugged in S0 with POWER_EN at 1 is shown PRESENT; it goes to high-power mode where its maximum power is within BUDGET and stays
OVER_BUDGET in low-power mode otherwise. An overcurrent of a cage that is on takes it to FAULT, with FAULT_LIVE, FAULT_STICKY and a count;
removing the optic leaves the cage EMPTY. A write of POWER_EN at 1 with a BUDGET within its range is accepted and held. (R739, R774, R775) -/
def Obligations.Optics : Prop := ∀ s : State,
  (∀ (c : CageNo) (o : Optic), s.dev.optic c.val = none → s.dev.fld (HLT_OPT_CTRL c.val) HLT_OPT_CTRL_POWER_EN = 1 →
    s.dev.opticState c.val = opEMPTY → s.dev.pwrState = 0 → o.max ≤ s.dev.fld (HLT_OPT_CTRL c.val) HLT_OPT_CTRL_BUDGET → o.high < 2 ^ 16 →
    ∃ e, Sys2Proof.Machine.exec (.opticInsertion c o) s = .next ⟨e, s.pending⟩ ∧ e.optic c.val = some o ∧
    e.fld (HLT_OPTIC c.val) HLT_OPTIC_PRESENT = 1 ∧ e.fld (HLT_OPTIC c.val) HLT_OPTIC_STATE = opHIGH ∧
    e.fld (HLT_OPTIC c.val) HLT_OPTIC_POWER = o.high ∧ Changes [.optics, .pwr] [HLT_OPTIC c.val, HLT_STATUS] s.dev e) ∧
  (∀ (c : CageNo) (o : Optic), s.dev.optic c.val = none → s.dev.fld (HLT_OPT_CTRL c.val) HLT_OPT_CTRL_POWER_EN = 1 →
    s.dev.opticState c.val = opEMPTY → s.dev.pwrState = 0 → s.dev.fld (HLT_OPT_CTRL c.val) HLT_OPT_CTRL_BUDGET < o.max → o.low < 2 ^ 16 →
    ∃ e, Sys2Proof.Machine.exec (.opticInsertion c o) s = .next ⟨e, s.pending⟩ ∧ e.fld (HLT_OPTIC c.val) HLT_OPTIC_STATE = opOVER ∧
    e.fld (HLT_OPTIC c.val) HLT_OPTIC_POWER = o.low ∧ Changes [.optics, .pwr] [HLT_OPTIC c.val, HLT_STATUS] s.dev e) ∧
  (∀ (c : CageNo), s.dev.opticState c.val = opHIGH → ∃ e, Sys2Proof.Machine.exec (.opticOvercurrent c) s = .next ⟨e, s.pending⟩ ∧
    e.fld (HLT_OPTIC c.val) HLT_OPTIC_STATE = opFAULT ∧ e.bit (HLT_OPTIC c.val) HLT_OPTIC_FAULT = true ∧
    e.bit (HLT_OPTIC c.val) (HLT_OPTIC_FAULT + 1) = true ∧
    e.num (HLT_OPT_FAULTS c.val) = min (s.dev.num (HLT_OPT_FAULTS c.val) + 1) (2 ^ 96 - 1) ∧ e.bit HLT_STATUS HLT_STATUS_OPT = true ∧
    Changes [.msix, .out] [HLT_OPTIC c.val, HLT_STATUS, HLT_OPT_FAULTS c.val] s.dev e) ∧
  (∀ (c : CageNo), ∃ e, Sys2Proof.Machine.exec (.opticRemoval c) s = .next ⟨e, s.pending⟩ ∧ e.optic c.val = none ∧
    e.fld (HLT_OPTIC c.val) HLT_OPTIC_STATE = opEMPTY ∧ e.fld (HLT_OPTIC c.val) HLT_OPTIC_PRESENT = 0 ∧
    e.bit (HLT_OPTIC c.val) HLT_OPTIC_FAULT = false ∧ Changes [.optics] [HLT_OPTIC c.val, HLT_STATUS] s.dev e) ∧
  (∀ (c : CageNo) (b : BitVec 8), 4 ≤ b.toNat → b.toNat ≤ 72 → s.dev.pwrState = 0 →
    ∃ e, Sys2Proof.Machine.exec (.powerEnWrite c b) s = .next ⟨e, s.pending⟩ ∧ e.reply.status = stOK ∧
    e.fld (HLT_OPT_CTRL c.val) HLT_OPT_CTRL_BUDGET = b.toNat ∧ e.fld (HLT_OPT_CTRL c.val) HLT_OPT_CTRL_POWER_EN = 1 ∧
    Changes [.reply, .msix, .out, .pwr] [HLT_OPT_CTRL c.val, HLT_OPTIC c.val, HLT_STATUS, HLT_OPT_FAULTS c.val] s.dev e)

/-- While the host steers, an accepted write of TK_FREQ_ADJ holds the offset written, and an accepted write of TK_PHASE_ADJ leaves one more
phase adjustment waiting for the next refill tick. A write of both words of TK_SET that breaks none of the checks is decided at once as
one step, sized against the time with every pending step applied, TK_SLEW_REMAIN being 0 from then on. A write of TK_CTRL holds STEER and
STEP_EN. Nothing else of time changes. (R25, R60, R61, R62, R64, R66, R67, R69, R71) -/
def Obligations.TimekeeperWrites : Prop := ∀ s : State,
  (∀ (v : Word), s.dev.steered = false → -65536000000 ≤ v.toInt → v.toInt ≤ 65536000000 → s.dev.blockUp bkTIMING = true →
    ∃ e, Sys2Proof.Machine.exec (.tkFreqAdjWrite v) s = .next ⟨e, s.pending⟩ ∧ e.reply.status = stOK ∧ e.num TK_FREQ_ADJ % 2 ^ 48 = v.toNat ∧
    Changes [.reply, .msix, .out] [TK_FREQ_ADJ] s.dev e) ∧
  (∀ (v : Word), s.dev.steered = false → s.dev.phaseAdjStatus v.toInt = stOK → s.dev.blockUp bkTIMING = true →
    ∃ e, Sys2Proof.Machine.exec (.tkPhaseAdjWrite v) s = .next ⟨e, s.pending⟩ ∧ e.reply.status = stOK ∧
    e.tk.adj = s.dev.tk.adj ++ [psToU v.toInt] ∧ Changes [.reply, .tk] [] s.dev e) ∧
  (∀ (a b : Word), s.dev.tkSetStatus (b.toNat / 0x10000) = stOK → s.dev.blockUp bkTIMING = true →
    ∃ e, Sys2Proof.Machine.exec (.tkSetWrite a b) s = .next ⟨e, s.pending⟩ ∧ e.reply.status = stOK ∧
    e.tk.steps = s.dev.tk.steps ++ [⟨(twOf a.toNat (b.toNat / 0x10000) (b.toNat % 0x10000) : Int) - s.dev.tk.time - s.dev.pendingSteps, s.dev.tk.time⟩] ∧
    e.tk.remain = 0 ∧ Changes [.reply, .tk] [] s.dev e) ∧
  (∀ (v : Word), bitsAt v.toNat 0 2 = 1 → s.dev.blockUp bkTIMING = true →
    ∃ e, Sys2Proof.Machine.exec (.tkCtrlWrite v) s = .next ⟨e, s.pending⟩ ∧ e.reply.status = stOK ∧
    e.fld TK_CTRL TK_CTRL_STEER = bitsAt v.toNat 0 2 ∧ e.fld TK_CTRL TK_CTRL_STEP_EN = bitsAt v.toNat 2 1 ∧
    Changes [.reply, .msix, .out] [TK_CTRL] s.dev e) ∧
  (∀ (k : SlotNo), s.dev.host.linkUp = true → ∃ e, Sys2Proof.Machine.exec (.tkwNsRead k) s = .next ⟨e, s.pending⟩ ∧
    e.reply.value = (Tbl.get e.tk.win {} k.val).ns ∧ (Tbl.get e.tk.win {} k.val).seq = ((Tbl.get s.dev.tk.win {} k.val).seq + 1) % 256 ∧
    Changes [.reply, .tk, .freeCtr] [] s.dev e)

/-- With no step due and no adjustment waiting, a refill tick takes network time to the next multiple of 1,024 ns, and the offset written to
TK_FREQ_ADJ becomes the applied one; a slot boundary takes it to the next multiple of 10 ns. The far ring moves without changing any
bucket. A replica check measures the next replica in turn and counts; a replica that loses the time bus shows REPLICA_FAULT, and one whose
bus returns waits to reload. (R41, R56, R57, R74, R75, R76, R77, R78, R79, R501) -/
def Obligations.TimeTicks : Prop := ∀ s : State,
  (s.dev.pwrState = 0 → s.dev.pwr.coreOff = true → s.dev.faulted = [] → s.dev.pwr.oscFail = false → s.dev.tk.steps = [] → s.dev.tk.adj = [] →
    s.dev.tk.time ≤ (s.dev.tk.lastTick + 1) * 1024 * ns1 → s.dev.timeBypass = false →
    ∃ e, Sys2Proof.Machine.exec .refillTick s = .next ⟨e, s.pending⟩ ∧ e.tk.time = (s.dev.tk.lastTick + 1) * 1024 * ns1 ∧
    e.tk.lastTick = s.dev.tk.lastTick + 1 ∧ e.tk.freq = s.dev.int TK_FREQ_ADJ ∧ e.tk.era = s.dev.tk.era) ∧
  (s.dev.pwrState = 0 → s.dev.pwr.coreOff = true → s.dev.pwr.oscFail = false → s.dev.repFault 9 = false →
    ∃ e, Sys2Proof.Machine.exec .slotBoundary s = .next ⟨e, s.pending⟩ ∧ e.tk.lastSlot = s.dev.tk.lastSlot + 1 ∧
    e.tk.time = max s.dev.tk.time ((s.dev.tk.lastSlot + 1) * 10 * ns1)) ∧
  (∀ (k u t : Nat) (x : Shp), s.dev.blockUp bkCORE = true → Tbl.get s.dev.net.shp none k = some x → x.elig = some (u, t) →
    t / 10 / 65536 ≤ s.dev.tk.lastSlot / 65536 + 1 → ∃ e, Sys2Proof.Machine.exec .farRingMove s = .next ⟨e, s.pending⟩ ∧
    Tbl.get e.net.shp none k = some { x with far := false } ∧ Changes [.net] [] s.dev e) ∧
  (∀ (m : BitVec 24), s.dev.blockUp bkCORE = true → 1 ≤ s.dev.tk.nextRep → s.dev.tk.nextRep ≤ 9 → s.dev.pulses = [] →
    ∃ e, Sys2Proof.Machine.exec (.replicaCheck m) s = .next ⟨e, s.pending⟩ ∧ e.tk.nextRep = s.dev.tk.nextRep % 9 + 1 ∧
    e.num (TK_REP_CHECKS s.dev.tk.nextRep) = min (s.dev.num (TK_REP_CHECKS s.dev.tk.nextRep) + 1) (2 ^ 96 - 1) ∧
    e.fld (TK_REP_OFFSET s.dev.tk.nextRep) ⟨0, 24⟩ = m.toNat ∧ ChangesIn [.tk, .msix, .out] [0x02, 0x04] s.dev e) ∧
  (∀ (k : ReplicaNo), s.dev.blockUp bkCORE = true → ∃ e, Sys2Proof.Machine.exec (.timeBusLost k) s = .next ⟨e, s.pending⟩ ∧
    (Tbl.get e.tk.reps {} (k.val + 1)).bus = false ∧ e.repFault (k.val + 1) = true ∧ e.bit (TK_REP_STATUS (k.val + 1)) 1 = true ∧
    ChangesIn [.tk, .msix, .out] [0x02, 0x04] s.dev e) ∧
  (∀ (k : ReplicaNo), s.dev.blockUp bkCORE = true → (Tbl.get s.dev.tk.reps {} (k.val + 1)).bus = false →
    ∃ e, Sys2Proof.Machine.exec (.timeBusReturn k) s = .next ⟨e, s.pending⟩ ∧ (Tbl.get e.tk.reps {} (k.val + 1)).reload = true ∧
    (Tbl.get e.tk.reps {} (k.val + 1)).good = 0 ∧ Changes [.tk] [] s.dev e)

/-- The one armed action firing at its instant leaves its store, writes one record to the fire log, and has its effect: an EPOCH_SWAP makes
its bank ACTIVE, a captured SHADOW_HANDOVER hands its sets over, a PORT_ADMIN sets ADMIN, a TIME_OUTPUT_PROGRAM makes the pending words of
its output active, a COUNTER_SWEEP_START queues a defined sweep, and a CAL_WINDOW that finds no run waiting is recorded only. At T - 4 µs
a SHADOW_HANDOVER is judged once. (R81, R88, R90, R98, R186, R350, R439, R522, R591) -/
def Obligations.TimelineFires : Prop := ∀ s : State,
  (∀ (a : Action) (lag : BitVec 64), s.dev.tl.acts = [a] → a.typ = actEPOCH_SWAP → a.late = false → s.dev.blockUp bkCORE = true →
    s.dev.pulses = [] → s.dev.num TL_FIRE_HEAD < 0x10000 → s.dev.bit GLB_STATE GLB_STATE_GAP = false →
    ∃ e, Sys2Proof.Machine.exec (.epochSwap lag) s = .next ⟨e, s.pending⟩ ∧ e.tl.acts = [] ∧
    e.num TL_FIRE_HEAD = (s.dev.num TL_FIRE_HEAD % 0x10000 + 1) % 0x10000 ∧ e.cls.active = some (byteAt a.args 0 % 2) ∧
    (e.bank (byteAt a.args 0 % 2)).state = bkACTIVE ∧ e.cls.swapT = a.trigger) ∧
  (∀ (a : Action) (i : LpNo) (lag : BitVec 64), s.dev.tl.acts = [a] → a.typ = actSHADOW_HANDOVER → a.late = false →
    s.dev.blockUp bkCORE = true → s.dev.pulses = [] → s.dev.num TL_FIRE_HEAD < 0x10000 → s.dev.bit GLB_STATE GLB_STATE_GAP = false →
    a.captured = true → a.target = 0x12000000 + i.val * 0x1000 → a.count = 1 → s.dev.shState 0x12 i.val ≠ shOPEN →
    ∃ e, Sys2Proof.Machine.exec (.shadowHandover lag) s = .next ⟨e, s.pending⟩ ∧ e.tl.acts = [] ∧
    e.num TL_FIRE_HEAD = (s.dev.num TL_FIRE_HEAD % 0x10000 + 1) % 0x10000 ∧ e.shState 0x12 i.val = shOPEN) ∧
  (∀ (a : Action), s.dev.tl.acts = [a] → a.typ = actSHADOW_HANDOVER → a.late = false → s.dev.blockUp bkCORE = true → s.dev.pulses = [] →
    s.dev.num TL_FIRE_HEAD < 0x10000 → s.dev.bit GLB_STATE GLB_STATE_GAP = false → a.captured = false → a.missed = false →
    ∃ e, Sys2Proof.Machine.exec .handoverCapture s = .next ⟨e, s.pending⟩ ∧
    e.tl.acts.map (fun b => (b.slot, b.captured || b.missed)) = [(a.slot, true)]) ∧
  (∀ (a : Action) (n : LpNo) (lag : BitVec 64), s.dev.tl.acts = [a] → a.typ = actPORT_ADMIN → a.late = false → s.dev.blockUp bkCORE = true →
    s.dev.pulses = [] → s.dev.num TL_FIRE_HEAD < 0x10000 → s.dev.bit GLB_STATE GLB_STATE_GAP = false → a.target = 0x0A000000 + n.val * 0x1000 →
    a.count = 1 → byteAt a.args 0 = 0 → s.dev.noFabric → ∃ e, Sys2Proof.Machine.exec (.portAdminAction lag) s = .next ⟨e, s.pending⟩ ∧
    e.tl.acts = [] ∧ e.num TL_FIRE_HEAD = (s.dev.num TL_FIRE_HEAD % 0x10000 + 1) % 0x10000 ∧ e.fld (MAC_CTRL n.val) ⟨0, 1⟩ = 0) ∧
  (∀ (a : Action) (lag : BitVec 64), s.dev.tl.acts = [a] → a.typ = actTIME_OUTPUT_PROGRAM → a.late = false → s.dev.blockUp bkCORE = true →
    s.dev.pulses = [] → s.dev.num TL_FIRE_HEAD < 0x10000 → s.dev.bit GLB_STATE GLB_STATE_GAP = false →
    ∃ e, Sys2Proof.Machine.exec (.timeOutputProgram lag) s = .next ⟨e, s.pending⟩ ∧ e.tl.acts = [] ∧
    e.num TL_FIRE_HEAD = (s.dev.num TL_FIRE_HEAD % 0x10000 + 1) % 0x10000 ∧
    e.get (PTE_OUT_ACTIVE0 (byteAt a.args 0 % 2)) = s.dev.get (PTE_OUT_PEND0 (byteAt a.args 0 % 2)) ∧
    e.get (PTE_OUT_ACTIVE1 (byteAt a.args 0 % 2)) = s.dev.get (PTE_OUT_PEND1 (byteAt a.args 0 % 2))) ∧
  (∀ (a : Action) (lag : BitVec 64), s.dev.tl.acts = [a] → a.typ = actCOUNTER_SWEEP_START → a.late = false → s.dev.blockUp bkCORE = true →
    s.dev.pulses = [] → s.dev.num TL_FIRE_HEAD < 0x10000 → s.dev.bit GLB_STATE GLB_STATE_GAP = false → s.dev.obs.runs = [] →
    (Tbl.get s.dev.obs.sweeps none (leNat (slice a.args 0 2))).isSome = true →
    ∃ e, Sys2Proof.Machine.exec (.counterSweepStart lag) s = .next ⟨e, s.pending⟩ ∧ e.tl.acts = [] ∧
    e.num TL_FIRE_HEAD = (s.dev.num TL_FIRE_HEAD % 0x10000 + 1) % 0x10000 ∧ e.obs.runs.length = 1) ∧
  (∀ (a : Action) (lag : BitVec 64), s.dev.tl.acts = [a] → a.typ = actCAL_WINDOW → a.late = false → s.dev.blockUp bkCORE = true →
    s.dev.pulses = [] → s.dev.num TL_FIRE_HEAD < 0x10000 → s.dev.bit GLB_STATE GLB_STATE_GAP = false → s.dev.cal.run = none →
    ∃ e, Sys2Proof.Machine.exec (.calWindow lag) s = .next ⟨e, s.pending⟩ ∧ e.tl.acts = [] ∧
    e.num TL_FIRE_HEAD = (s.dev.num TL_FIRE_HEAD % 0x10000 + 1) % 0x10000 ∧ e.cal = s.dev.cal)

/-- TIMELINE_ADD whose checks pass arms one action more and completes OK with its handle; TIMELINE_CANCEL of an armed action disarms it,
records it as CANCELLED and completes OK; EPOCH_ARM whose checks pass arms the swap and makes its bank ARMED. (R85, R86, R93, R95, R438) -/
def Obligations.TimelineCommands : Prop := ∀ s : State,
  (∀ (r : RingNo) (tag : Byte) (c : Cmd), s.dev.mayStartCmd r.val tag.toNat 0x20 c → s.dev.addStatus c.par = stOK →
    ∃ e, Sys2Proof.Machine.exec (.timelineAdd r tag) s = .next ⟨e, s.pending⟩ ∧ e.reply.status = stOK ∧ e.tl.acts.tail = s.dev.tl.acts ∧
    e.tl.acts.head?.map (fun a => (a.handle, a.typ)) = some (e.reply.result, byteAt c.par 12)) ∧
  (∀ (r : RingNo) (tag : Byte) (c : Cmd) (a : Action), s.dev.mayStartCmd r.val tag.toNat 0x21 c → zeros (slice c.par 4 36) = true →
    s.dev.actionOf (leNat (slice c.par 0 4)) = some a → a.typ = actTIME_OUTPUT_PROGRAM →
    ∃ e, Sys2Proof.Machine.exec (.timelineCancel r tag) s = .next ⟨e, s.pending⟩ ∧ e.reply.status = stOK ∧
    e.tl.acts = s.dev.tl.acts.filter (fun b => !(b.slot == a.slot)) ∧ e.num TL_FIRE_HEAD = (s.dev.num TL_FIRE_HEAD % 0x10000 + 1) % 0x10000) ∧
  (∀ (r : RingNo) (tag : Byte) (c : Cmd), s.dev.mayStartCmd r.val tag.toNat 0x11 c → s.dev.armStatus c.par = stOK →
    ∃ e, Sys2Proof.Machine.exec (.epochArm r tag) s = .next ⟨e, s.pending⟩ ∧ e.reply.status = stOK ∧ (e.bank (byteAt c.par 28)).state = bkARMED ∧
    e.tl.acts.length = s.dev.tl.acts.length + 1)

/-- A TABLE_WRITE of one good node record to a LOADABLE bank stores it and completes OK with RESULT 1; SEAL and CLONE of a LOADABLE bank leave
it SEALING and CLONING, and their ends leave it SEALED where its checks pass, and LOADABLE with the active bank's programs; OPEN returns a
SEALED bank to LOADABLE; a DRAINING bank with no frame in flight becomes LOADABLE; and a block of a bulk-load channel is applied like a
TABLE_WRITE. (R434, R435, R436, R437, R440) -/
def Obligations.BankCommands : Prop := ∀ s : State,
  (∀ (r : RingNo) (tag : Byte) (c : Cmd) (recs : List Byte), s.dev.mayStartCmd r.val tag.toNat 0x10 c → s.dev.blockUp bkCORE = true →
    blockOk c.par = true → byteAt c.par 0 = twNODE → leNat (slice c.par 8 4) = 1 → (s.dev.bank (byteAt c.par 1)).state = bkLOADABLE →
    nodeOk (leNat (slice recs 0 16)) = true → ∃ e, Sys2Proof.Machine.exec (.tableWrite r tag recs) s = .next ⟨e, s.pending⟩ ∧
    e.reply.status = stOK ∧ e.reply.result = 1 ∧ (e.bank (byteAt c.par 1)).node (leNat (slice c.par 4 4)) = leNat (slice recs 0 16)) ∧
  (∀ (r : RingNo) (tag : Byte) (c : Cmd), s.dev.mayStartCmd r.val tag.toNat 0x10 c → s.dev.blockUp bkCORE = true → blockOk c.par = true →
    byteAt c.par 0 = twSEAL → (s.dev.bank (byteAt c.par 1)).state = bkLOADABLE →
    ∃ e, Sys2Proof.Machine.exec (.sealBank r tag) s = .next ⟨e, s.pending⟩ ∧ (e.bank (byteAt c.par 1)).state = bkSEALING ∧
    (e.bank (byteAt c.par 1)).owner = some (r.val, tag.toNat)) ∧
  (∀ (r : RingNo) (tag : Byte) (c : Cmd), s.dev.mayStartCmd r.val tag.toNat 0x10 c → s.dev.blockUp bkCORE = true → blockOk c.par = true →
    byteAt c.par 0 = twCLONE → (s.dev.bank (byteAt c.par 1)).state = bkLOADABLE →
    ∃ e, Sys2Proof.Machine.exec (.cloneBank r tag) s = .next ⟨e, s.pending⟩ ∧ (e.bank (byteAt c.par 1)).state = bkCLONING ∧
    (e.bank (byteAt c.par 1)).owner = some (r.val, tag.toNat)) ∧
  (∀ (r : RingNo) (tag : Byte) (c : Cmd), s.dev.mayStartCmd r.val tag.toNat 0x10 c → s.dev.blockUp bkCORE = true → blockOk c.par = true →
    byteAt c.par 0 = twOPEN → (s.dev.bank (byteAt c.par 1)).state = bkSEALED →
    ∃ e, Sys2Proof.Machine.exec (.openBank r tag) s = .next ⟨e, s.pending⟩ ∧ e.reply.status = stOK ∧ (e.bank (byteAt c.par 1)).state = bkLOADABLE) ∧
  (∀ (k : BankNo), (s.dev.bank k.val).state = bkSEALING → (s.dev.bank k.val).owner = none → (s.dev.bank k.val).checks = true →
    ∃ e, Sys2Proof.Machine.exec (.sealComplete k) s = .next ⟨e, s.pending⟩ ∧ (e.bank k.val).state = bkSEALED ∧
    (e.bank k.val).ruleset = (s.dev.bank k.val).label) ∧
  (∀ (k : BankNo), (s.dev.bank k.val).state = bkCLONING → (s.dev.bank k.val).owner = none →
    ∃ e, Sys2Proof.Machine.exec (.cloneComplete k) s = .next ⟨e, s.pending⟩ ∧ (e.bank k.val).state = bkLOADABLE ∧
    (e.bank k.val).nodes = (s.dev.bank (s.dev.cls.active.getD (1 - k.val))).nodes) ∧
  (∀ (k : BankNo), s.dev.blockUp bkCORE = true → (s.dev.bank k.val).state = bkDRAINING → (s.dev.bank k.val).inflight = 0 →
    ∃ e, Sys2Proof.Machine.exec (.bankDrained k) s = .next ⟨e, s.pending⟩ ∧ (e.bank k.val).state = bkLOADABLE ∧
    e.bit CLS_STATUS (CLS_STATUS_DRAIN + 1) = true ∧ Changes [.cls, .msix, .out] [CLS_STATUS] s.dev e)

/-- A servo update of a Piste that is not DISABLED is counted; with no offset since the last update it lengthens the run of empty updates,
otherwise it consumes the offsets and that run ends; a DISABLED Piste's update changes nothing. After 16 non-empty updates within
threshold an ACQUIRING Piste becomes LOCKED, and after 16 empty ones an ACQUIRING or LOCKED Piste becomes LOST, the LIVE and STICKY bits
showing it. The bandwidth loop of a Piste that is not LOST moves toward its demand by at most a quarter and never leaves its bounds. An
accepted write of PTE_PISTE_CTRL is held; one that enables a Piste leaves it ACQUIRING or, without a source, LOST, and one that disables
it leaves it DISABLED with no grandmaster. A BOUNDS pair within its loop's hardware range is accepted and held as one value. (R43, R44,
R148, R149, R170, R171, R175, R47, R48, R49, R147) -/
def Obligations.Pistes : Prop := ∀ s : State,
  (∀ (k : PisteNo), s.dev.blockUp bkTIMING = true → s.dev.pzState k.inst ≠ pzDISABLED → (s.dev.piste k.inst).dets = [] →
    s.dev.trust.servoA = false → s.dev.trust.servoB = false → ∃ e, Sys2Proof.Machine.exec (.servoUpdate k) s = .next ⟨e, s.pending⟩ ∧
    (e.piste k.inst).upd = (s.dev.piste k.inst).upd + 1 ∧ (e.piste k.inst).empty = min 16 ((s.dev.piste k.inst).empty + 1) ∧
    (e.piste k.inst).dets = []) ∧
  (∀ (k : PisteNo), s.dev.blockUp bkTIMING = true → s.dev.pzState k.inst ≠ pzDISABLED → (s.dev.piste k.inst).dets ≠ [] →
    s.dev.trust.servoA = false → s.dev.trust.servoB = false → ∃ e, Sys2Proof.Machine.exec (.servoUpdate k) s = .next ⟨e, s.pending⟩ ∧
    (e.piste k.inst).upd = (s.dev.piste k.inst).upd + 1 ∧ (e.piste k.inst).empty = 0 ∧ (e.piste k.inst).dets = []) ∧
  (∀ (k : PisteNo), s.dev.blockUp bkTIMING = true → s.dev.pzState k.inst = pzDISABLED → s.dev.trust.servoA = false →
    s.dev.trust.servoB = false → ∃ e, Sys2Proof.Machine.exec (.servoUpdate k) s = .next ⟨e, s.pending⟩ ∧
    (e.piste k.inst).upd = (s.dev.piste k.inst).upd ∧ (e.piste k.inst).dets = (s.dev.piste k.inst).dets ∧ e.pzState k.inst = pzDISABLED) ∧
  (∀ (k : PisteNo), s.dev.blockUp bkTIMING = true → s.dev.pzState k.inst = pzACQUIRING → 16 ≤ (s.dev.piste k.inst).within →
    s.dev.sourceOk k.inst = true →
    (s.dev.pzExt k.inst = true ∨ s.dev.inGap = true ∨ cpInsts.all (fun i => s.dev.portState i k.inst != psUNCALIBRATED) = true) →
    ∃ e, Sys2Proof.Machine.exec (.pisteLocked k) s = .next ⟨e, s.pending⟩ ∧ e.pzState k.inst = pzLOCKED ∧
    e.bit (PTE_PISTE_STATUS k.inst) PTE_PISTE_STATUS_LOCK = true) ∧
  (∀ (k : PisteNo), s.dev.blockUp bkTIMING = true → s.dev.pzState k.inst = pzACQUIRING → 16 ≤ (s.dev.piste k.inst).within →
    s.dev.bit (PTE_PISTE_STATUS k.inst) PTE_PISTE_STATUS_LOCK = false → ∃ e, Sys2Proof.Machine.exec (.pisteLocked k) s = .next ⟨e, s.pending⟩ ∧
    (e.pzState k.inst = pzLOCKED ∨ e.pzState k.inst = pzLOST) ∧ e.bit (PTE_PISTE_STATUS k.inst) (PTE_PISTE_STATUS_LOCK + 1) = true) ∧
  (∀ (k : PisteNo), s.dev.blockUp bkTIMING = true → (s.dev.pzState k.inst = pzACQUIRING ∨ s.dev.pzState k.inst = pzLOCKED) →
    16 ≤ (s.dev.piste k.inst).empty → ∃ e, Sys2Proof.Machine.exec (.pisteLost k) s = .next ⟨e, s.pending⟩ ∧ e.pzState k.inst = pzLOST ∧
    e.bit (PTE_PISTE_STATUS k.inst) PTE_PISTE_STATUS_LOST = true ∧ e.bit (PTE_PISTE_STATUS k.inst) PTE_PISTE_STATUS_LOCK = false) ∧
  (s.dev.runsT tWTR = true → s.dev.pulses = [] → ∃ e, Sys2Proof.Machine.exec .waitToRestoreEnd s = .next ⟨e, s.pending⟩ ∧ e.runsT tWTR = false ∧
    e.bit PTE_STATUS PTE_STATUS_WTR = false) ∧
  (∀ (k : PisteNo) (v : BitVec 24), s.dev.blockUp bkTIMING = true → (s.dev.pzState k.inst = pzACQUIRING ∨ s.dev.pzState k.inst = pzLOCKED) →
    s.dev.pulses = [] → 0 ≤ s.dev.loopLo (bwLoop k.inst) → s.dev.loopLo (bwLoop k.inst) ≤ s.dev.int (PTE_SERVO_BW k.inst) →
    s.dev.int (PTE_SERVO_BW k.inst) ≤ s.dev.loopHi (bwLoop k.inst) → ∃ e, Sys2Proof.Machine.exec (.servoBwUpdate k v) s = .next ⟨e, s.pending⟩ ∧
    s.dev.loopLo (bwLoop k.inst) ≤ e.int (PTE_SERVO_BW k.inst) ∧ e.int (PTE_SERVO_BW k.inst) ≤ s.dev.loopHi (bwLoop k.inst) ∧
    4 * (e.int (PTE_SERVO_BW k.inst) - s.dev.int (PTE_SERVO_BW k.inst)).natAbs ≤ max 4 (s.dev.num (PTE_SERVO_BW k.inst)) ∧
    Changes [.msix, .out, .accums, .pte, .tk] [PTE_SERVO_BW k.inst, PTE_SERVO_BW_HELD k.inst, PTE_SERVO_BW_HELD_TIME k.inst] s.dev e) ∧
  (∀ (k : PisteNo) (v : Word), s.dev.accepts (PTE_PISTE_CTRL k.inst) v.toNat → s.dev.pzOn k.inst = true →
    PTE_PISTE_CTRL_ENABLE.of (BitVec.ofNat 96 v.toNat) = 0 → ∃ e, Sys2Proof.Machine.exec (.ptePisteCtrlWrite k v) s = .next ⟨e, s.pending⟩ ∧
    e.reply.status = stOK ∧ e.pzOn k.inst = false ∧ e.pzState k.inst = pzDISABLED ∧ (e.piste k.inst).parent = none ∧
    e.num (PTE_GM_QUALITY k.inst) = 0 ∧
    ChangesIn [.reply, .msix, .out, .pulses, .tk, .cls, .net, .pte, .cd, .lanes, .trk0, .trk1, .pwr, .obs, .crs] [0x01, 0x02, 0x04, 0x05, 0x06, 0x07, 0x08, 0x0A, 0x0E, 0x0F, 0x13, 0x14, 0x15, 0x16, 0x18, 0x19, 0x1A] s.dev e) ∧
  (∀ (k : PisteNo) (v : Word), s.dev.accepts (PTE_PISTE_CTRL k.inst) v.toNat → s.dev.pzOn k.inst = false →
    PTE_PISTE_CTRL_ENABLE.of (BitVec.ofNat 96 v.toNat) = 1 → ∃ e, Sys2Proof.Machine.exec (.ptePisteCtrlWrite k v) s = .next ⟨e, s.pending⟩ ∧
    e.reply.status = stOK ∧ e.pzOn k.inst = true ∧ (e.pzState k.inst = pzACQUIRING ∨ e.pzState k.inst = pzLOST) ∧
    ChangesIn [.reply, .msix, .out, .pulses, .tk, .cls, .net, .pte, .cd, .lanes, .trk0, .trk1, .pwr, .obs, .crs] [0x01, 0x02, 0x04, 0x05, 0x06, 0x07, 0x08, 0x0A, 0x0E, 0x0F, 0x13, 0x14, 0x15, 0x16, 0x18, 0x19, 0x1A] s.dev e) ∧
  (∀ (l : LoopNo) (v : Word), s.dev.accepts (boundsItem l) v.toNat → ∃ e, Sys2Proof.Machine.exec (.boundsWrite l v) s = .next ⟨e, s.pending⟩ ∧
    e.reply.status = stOK ∧ e.num (boundsItem l) = v.toNat ∧ ChangesIn [.reply, .msix, .out, .accums, .pwr] [0x05, 0x13, 0x1A] s.dev e)

/-- A one-step Sync at a SLAVE port under an end-to-end profile leaves t2' - t1', and a two-step one waits for the Follow_Up of its
sequenceId, which completes it. A Delay_Resp that answers the request outstanding uses the egress time returned, shows the mean delay and
gives the servo one offset more; a Delay_Req at a MASTER port is answered. The engine sends Sync and Announce from a MASTER port and
Delay_Req from a SLAVE one, each with the next sequenceId. (R152, R157, R158, R162, R168) -/
def Obligations.SyncAndDelay : Prop := ∀ s : State,
  (∀ (t : Term) (r : List Term), s.dev.blockUp bkTIMING = true → s.dev.net.inbox = t :: r → t.kind = 0 → pmType t.bytes = mtSYNC →
    s.dev.portState (0x100 + t.lp) t.piste = psSLAVE → t.bad = false → pmTwoStep t.bytes = false → p2pProfile (s.dev.profile t.piste) = false →
    ∃ e, Sys2Proof.Machine.exec .syncRx s = .next ⟨e, s.pending⟩ ∧ e.net.inbox = r ∧
    (e.cport (0x100 + t.lp) t.piste).md = some (((t.stamp : Int) - pmTime t.bytes 34) / 0x100000000 - pmCorr t.bytes - s.dev.opticRx (0x100 + t.lp)) ∧
    (e.cport (0x100 + t.lp) t.piste).sync = none ∧ Changes [.net, .pte] [] s.dev e) ∧
  (∀ (t : Term) (r : List Term), s.dev.blockUp bkTIMING = true → s.dev.net.inbox = t :: r → t.kind = 0 → pmType t.bytes = mtSYNC →
    s.dev.portState (0x100 + t.lp) t.piste = psSLAVE → t.bad = false → pmTwoStep t.bytes = true →
    ∃ e, Sys2Proof.Machine.exec .syncRx s = .next ⟨e, s.pending⟩ ∧ e.net.inbox = r ∧
    (e.cport (0x100 + t.lp) t.piste).sync.map (fun x => (x.seq, x.t2)) = some (pmSeq t.bytes, t.stamp) ∧ Changes [.net, .pte] [] s.dev e) ∧
  (∀ (t : Term) (r : List Term) (x : SyncSt), s.dev.blockUp bkTIMING = true → s.dev.net.inbox = t :: r → t.kind = 1 →
    pmType t.bytes = mtFOLLOW_UP → (s.dev.cport (0x100 + t.lp) t.piste).sync = some x → x.seq = pmSeq t.bytes →
    ∃ e, Sys2Proof.Machine.exec .followUpRx s = .next ⟨e, s.pending⟩ ∧ e.net.inbox = r ∧ (e.cport (0x100 + t.lp) t.piste).sync = none ∧
    (e.cport (0x100 + t.lp) t.piste).md.isSome = true ∧ Changes [.net, .pte] [] s.dev e) ∧
  (∀ (t : Term) (r : List Term), s.dev.blockUp bkTIMING = true → s.dev.net.inbox = t :: r → t.kind = 1 → pmType t.bytes = mtDELAY_RESP →
    s.dev.portState (0x100 + t.lp) t.piste = psSLAVE → (s.dev.cport (0x100 + t.lp) t.piste).dreq = some (pmSeq t.bytes) →
    pmAsked t.bytes = portIdent (t.lp + 1) → (s.dev.cport (0x100 + t.lp) t.piste).md.isSome = true →
    (s.dev.takeReturn mtDELAY_REQ (s.dev.domainOf t.piste) (pmSeq t.bytes) t.lp).2.isSome = true →
    ∃ e, Sys2Proof.Machine.exec .delayRespRx s = .next ⟨e, s.pending⟩ ∧ e.net.inbox = r ∧ (e.cport (0x100 + t.lp) t.piste).dreq = none ∧
    (e.piste t.piste).dets.length = (s.dev.piste t.piste).dets.length + 1 ∧
    Changes [.net, .pte] [PTE_MEAN_DELAY_A (0x100 + t.lp), PTE_MEAN_DELAY_B (0x100 + t.lp)] s.dev e) ∧
  (∀ (t : Term) (r : List Term), s.dev.blockUp bkTIMING = true → s.dev.net.inbox = t :: r → t.kind = 0 → pmType t.bytes = mtDELAY_REQ →
    s.dev.portState (0x100 + t.lp) t.piste = psMASTER → t.bad = false → t ∉ r → ∃ e, Sys2Proof.Machine.exec .delayReqRx s = .next ⟨e, s.pending⟩ ∧
    t ∉ e.net.inbox ∧ s.dev.net.nextId < e.net.nextId) ∧
  (∀ (n : LpNo) (k : PisteNo), s.dev.blockUp bkCORE = true → s.dev.portState (0x100 + n.val) k.inst = psMASTER → s.dev.profile k.inst ≠ 4 →
    ∃ e, Sys2Proof.Machine.exec (.syncTx n k) s = .next ⟨e, s.pending⟩ ∧
    (e.cport (0x100 + n.val) k.inst).seqSync = ((s.dev.cport (0x100 + n.val) k.inst).seqSync + 1) % 0x10000 ∧ s.dev.net.nextId < e.net.nextId) ∧
  (∀ (n : LpNo) (k : PisteNo), s.dev.blockUp bkCORE = true → s.dev.portState (0x100 + n.val) k.inst = psMASTER → s.dev.profile k.inst ≠ 4 →
    s.dev.pwr.handOff = false → ∃ e, Sys2Proof.Machine.exec (.announceTx n k) s = .next ⟨e, s.pending⟩ ∧
    (e.cport (0x100 + n.val) k.inst).seqAnn = ((s.dev.cport (0x100 + n.val) k.inst).seqAnn + 1) % 0x10000 ∧ s.dev.net.nextId < e.net.nextId) ∧
  (∀ (n : LpNo) (k : PisteNo), s.dev.blockUp bkCORE = true → s.dev.portState (0x100 + n.val) k.inst = psSLAVE →
    p2pProfile (s.dev.profile k.inst) = false → s.dev.profile k.inst ≠ 4 →
    ∃ e, Sys2Proof.Machine.exec (.delayReqTx n k) s = .next ⟨e, s.pending⟩ ∧
    (e.cport (0x100 + n.val) k.inst).dreq = some (s.dev.cport (0x100 + n.val) k.inst).seqDel ∧
    (e.cport (0x100 + n.val) k.inst).seqDel = ((s.dev.cport (0x100 + n.val) k.inst).seqDel + 1) % 0x10000 ∧ s.dev.net.nextId < e.net.nextId)

/-- A Pdelay_Req goes out with the next sequenceId; its answer takes the returned egress time, one-step giving a link delay at once and two-
step waiting for its Follow_Up; a Pdelay_Req received is answered. A Signaling message is consumed, and a grant whose time ends is given
up. An Announce taken is held with its receipt timer running; at that timer's end a SLAVE port goes to LISTENING and drops the dataset;
selection with no dataset makes a LISTENING CLOCK port MASTER. (R155, R157, R158, R159, R162, R163, R169) -/
def Obligations.PeerDelayAndNegotiation : Prop := ∀ s : State,
  (∀ (n : LpNo) (k : PisteNo), s.dev.blockUp bkCORE = true → s.dev.p2pPort n.val k.inst = true → s.dev.lpUp n.val = true →
    ∃ e, Sys2Proof.Machine.exec (.pdelayReqTx n k) s = .next ⟨e, s.pending⟩ ∧
    (e.cport (0x100 + n.val) k.inst).preq = some (s.dev.cport (0x100 + n.val) k.inst).seqPdel ∧
    (e.cport (0x100 + n.val) k.inst).seqPdel = ((s.dev.cport (0x100 + n.val) k.inst).seqPdel + 1) % 0x10000 ∧ s.dev.net.nextId < e.net.nextId) ∧
  (∀ (t : Term) (r : List Term), s.dev.blockUp bkTIMING = true → s.dev.net.inbox = t :: r → t.kind = 0 → pmType t.bytes = mtPDELAY_RESP →
    (s.dev.cport (0x100 + t.lp) t.piste).preq = some (pmSeq t.bytes) → pmAsked t.bytes = portIdent (t.lp + 1) → t.bad = false →
    pmTwoStep t.bytes = true → (s.dev.takeReturn mtPDELAY_REQ (s.dev.domainOf t.piste) (pmSeq t.bytes) t.lp).2.isSome = true →
    ∃ e, Sys2Proof.Machine.exec .pdelayRespRx s = .next ⟨e, s.pending⟩ ∧ e.net.inbox = r ∧ (e.cport (0x100 + t.lp) t.piste).preq = none ∧
    (e.cport (0x100 + t.lp) t.piste).presp.map (·.1) = some (pmSeq t.bytes) ∧ Changes [.net, .pte] [] s.dev e) ∧
  (∀ (t : Term) (r : List Term), s.dev.blockUp bkTIMING = true → s.dev.net.inbox = t :: r → t.kind = 0 → pmType t.bytes = mtPDELAY_RESP →
    (s.dev.cport (0x100 + t.lp) t.piste).preq = some (pmSeq t.bytes) → pmAsked t.bytes = portIdent (t.lp + 1) → t.bad = false →
    pmTwoStep t.bytes = false → (s.dev.takeReturn mtPDELAY_REQ (s.dev.domainOf t.piste) (pmSeq t.bytes) t.lp).2.isSome = true →
    ∃ e, Sys2Proof.Machine.exec .pdelayRespRx s = .next ⟨e, s.pending⟩ ∧ e.net.inbox = r ∧ (e.cport (0x100 + t.lp) t.piste).preq = none ∧
    (e.cport (0x100 + t.lp) t.piste).pd.length = min 16 ((s.dev.cport (0x100 + t.lp) t.piste).pd.length + 1) ∧
    Changes [.net, .pte] [PTE_MEAN_DELAY_A (0x100 + t.lp), PTE_MEAN_DELAY_B (0x100 + t.lp)] s.dev e) ∧
  (∀ (t : Term) (r : List Term) (x : Int), s.dev.blockUp bkTIMING = true → s.dev.net.inbox = t :: r → t.kind = 1 →
    pmType t.bytes = mtPDELAY_FU → (s.dev.cport (0x100 + t.lp) t.piste).presp = some (pmSeq t.bytes, x) →
    ∃ e, Sys2Proof.Machine.exec .pdelayRespFollowUpRx s = .next ⟨e, s.pending⟩ ∧ e.net.inbox = r ∧ (e.cport (0x100 + t.lp) t.piste).presp = none ∧
    (e.cport (0x100 + t.lp) t.piste).pd.length = min 16 ((s.dev.cport (0x100 + t.lp) t.piste).pd.length + 1) ∧
    Changes [.net, .pte] [PTE_MEAN_DELAY_A (0x100 + t.lp), PTE_MEAN_DELAY_B (0x100 + t.lp)] s.dev e) ∧
  (∀ (t : Term) (r : List Term), s.dev.blockUp bkTIMING = true → s.dev.net.inbox = t :: r → t.kind = 0 → pmType t.bytes = mtPDELAY_REQ →
    p2pProfile (s.dev.profile t.piste) = true → t ∉ r → ∃ e, Sys2Proof.Machine.exec .pdelayReqRx s = .next ⟨e, s.pending⟩ ∧ t ∉ e.net.inbox ∧
    s.dev.net.nextId < e.net.nextId) ∧
  (∀ (t : Term) (r : List Term), s.dev.blockUp bkTIMING = true → s.dev.net.inbox = t :: r → t.kind = 1 → pmType t.bytes = mtSIGNALING →
    s.dev.profile t.piste = 4 → be16 t.bytes 44 = tlvCANCEL → be16 t.bytes 46 = 2 → t.bytes.length = 50 →
    ∃ e, Sys2Proof.Machine.exec .signalingRx s = .next ⟨e, s.pending⟩ ∧ e.net.inbox = r ∧
    e.pte.grants = s.dev.pte.grants.filter (fun g => !(g.piste == t.piste && g.lp == t.lp && g.ident == pmSrc t.bytes && g.typ == byteAt t.bytes 48 / 16)) ∧
    Changes [.net, .pte] [] s.dev e) ∧
  (∀ (g : Grant), s.dev.blockUp bkTIMING = true → s.dev.pte.grants = [g] → ∃ e, Sys2Proof.Machine.exec .grantExpiry s = .next ⟨e, s.pending⟩ ∧
    e.pte.grants = []) ∧
  (∀ (t : Term) (r : List Term), s.dev.net.inbox = t :: r → t.kind = 1 → pmType t.bytes = mtANNOUNCE →
    s.dev.portState (0x100 + t.lp) t.piste = psLISTENING → s.dev.role (0x100 + t.lp) t.piste = roleCLOCK →
    (s.dev.cport (0x100 + t.lp) t.piste).ann = none → t.lp < 256 → ∃ e, Sys2Proof.Machine.exec .announceRx s = .next ⟨e, s.pending⟩ ∧
    e.net.inbox = r ∧ (e.cport (0x100 + t.lp) t.piste).ann.map (·.src) = some (pmSrc t.bytes) ∧ e.runsT (tAnn (0x100 + t.lp) t.piste) = true) ∧
  (∀ (p : ClkPortNo) (k : PisteNo), s.dev.runsT (tAnn p.inst k.inst) = true → s.dev.pulses = [] → s.dev.portState p.inst k.inst = psSLAVE →
    ∃ e, Sys2Proof.Machine.exec (.announceReceiptTimeout p k) s = .next ⟨e, s.pending⟩ ∧ (e.cport p.inst k.inst).ann = none ∧
    e.portState p.inst k.inst = psLISTENING) ∧
  (∀ (k : PisteNo) (n : LpNo), s.dev.blockUp bkTIMING = true → s.dev.pzOn k.inst = true → s.dev.bit GLB_STATE GLB_STATE_GAP = false →
    s.dev.candidates k.inst = [] → s.dev.profile k.inst ≠ 4 → s.dev.portState (0x100 + n.val) k.inst = psLISTENING →
    s.dev.role (0x100 + n.val) k.inst = roleCLOCK → ∃ e, Sys2Proof.Machine.exec (.bestMasterSelection k) s = .next ⟨e, s.pending⟩ ∧
    e.portState (0x100 + n.val) k.inst = psMASTER)

/-- A qualified forwarded clock takes an enabled trunk that is DOWN to CLOCK, alignment takes it on to TRAIN, and 64 valid training sets with
16 acknowledging ones in a row take it UP. A lost clock takes it DOWN from any state; a limit that runs out, RESTART, or a training set or
a burst of more than 64 code errors while UP retrains it, trainings being counted. A message frame that fails its checks is counted and
discarded, and a good one is counted and kept. (R552, R553, R555, R557, R575, R576) -/
def Obligations.TrunkTraining : Prop := ∀ s : State,
  (∀ (t : TrunkNo), s.dev.blockUp bkTIMING = true → s.dev.trkState t.val = tsDOWN → s.dev.trkOn t.val = true → s.dev.cd.pLost = false →
    ∃ e, Sys2Proof.Machine.exec (.trunkClockQualified t) s = .next ⟨e, s.pending⟩ ∧ e.trkState t.val = tsCLOCK ∧ e.runsT (tAlign t.val) = true) ∧
  (∀ (t : TrunkNo), s.dev.blockUp bkTIMING = true → ∃ e, Sys2Proof.Machine.exec (.trunkClockLost t) s = .next ⟨e, s.pending⟩ ∧
    e.trkState t.val = tsDOWN) ∧
  (∀ (t : TrunkNo), s.dev.blockUp bkTIMING = true → s.dev.trkState t.val = tsCLOCK →
    ∃ e, Sys2Proof.Machine.exec (.trunkAlignmentDone t) s = .next ⟨e, s.pending⟩ ∧ e.trkState t.val = tsTRAIN ∧ e.runsT (tTrain t.val) = true ∧
    e.num (TRK_TRAINS t.val) = min (s.dev.num (TRK_TRAINS t.val) + 1) (2 ^ 96 - 1)) ∧
  (∀ (t : TrunkNo), s.dev.runsT (tAlign t.val) = true → s.dev.pulses = [] →
    ∃ e, Sys2Proof.Machine.exec (.trunkAlignmentTimeout t) s = .next ⟨e, s.pending⟩ ∧ e.trkState t.val = tsCLOCK ∧ e.runsT (tAlign t.val) = true ∧
    e.num (TRK_TRAINS t.val) = min (s.dev.num (TRK_TRAINS t.val) + 1) (2 ^ 96 - 1)) ∧
  (∀ (t : TrunkNo), s.dev.runsT (tTrain t.val) = true → s.dev.pulses = [] →
    ∃ e, Sys2Proof.Machine.exec (.trunkTrainTimeout t) s = .next ⟨e, s.pending⟩ ∧ e.trkState t.val = tsTRAIN ∧
    e.num (TRK_TRAINS t.val) = min (s.dev.num (TRK_TRAINS t.val) + 1) (2 ^ 96 - 1)) ∧
  (∀ (t : TrunkNo) (x : TrainSet), s.dev.blockUp bkTIMING = true → s.dev.trkState t.val = tsTRAIN → (s.dev.trk t.val).decided = true →
    (s.dev.trk t.val).known = true → 63 ≤ (s.dev.trk t.val).valid → 15 ≤ (s.dev.trk t.val).acks → s.dev.setValid t.val x = true →
    (List.range 4).all (fun k => x.sym k 3 == 0x5A) = true → (s.dev.trk t.val).valid ≤ 64 →
    ∃ e, Sys2Proof.Machine.exec (.trainingSetRx t x) s = .next ⟨e, s.pending⟩ ∧ e.trkState t.val = tsUP) ∧
  (∀ (t : TrunkNo) (x : TrainSet), s.dev.blockUp bkTIMING = true → s.dev.trkState t.val = tsUP →
    ∃ e, Sys2Proof.Machine.exec (.trainingSetRx t x) s = .next ⟨e, s.pending⟩ ∧ e.trkState t.val = tsTRAIN ∧
    e.num (TRK_TRAINS t.val) = min (s.dev.num (TRK_TRAINS t.val) + 1) (2 ^ 96 - 1)) ∧
  (∀ (t : TrunkNo) (n : BitVec 16), s.dev.blockUp bkTIMING = true → s.dev.trkState t.val = tsUP → 64 < n.toNat →
    ∃ e, Sys2Proof.Machine.exec (.codeErrorBurst t n) s = .next ⟨e, s.pending⟩ ∧ e.trkState t.val = tsTRAIN ∧
    e.num (TRK_CODE_ERR t.val) = min (s.dev.num (TRK_CODE_ERR t.val) + n.toNat) (2 ^ 96 - 1)) ∧
  (∀ (t : TrunkNo), s.dev.accepts (TRK_CTRL t.val) (withBits (s.dev.num (TRK_CTRL t.val) % 2 ^ 48) 1 1 1) → s.dev.trkOn t.val = true →
    (s.dev.trk t.val).qual = true → s.dev.cd.pLost = false → s.dev.trkState t.val ≠ tsDOWN →
    ∃ e, Sys2Proof.Machine.exec (.trunkRestart t) s = .next ⟨e, s.pending⟩ ∧ e.reply.status = stOK ∧ e.trkState t.val = tsCLOCK ∧
    e.num (TRK_TRAINS t.val) = min (s.dev.num (TRK_TRAINS t.val) + 1) (2 ^ 96 - 1) ∧
    ChangesIn [.reply, .msix, .out, .pulses, .tk, .cls, .net, .pte, .refc, .cd, .lanes, .trk0, .trk1, .pwr, .obs, .crs] [0x01, 0x02, 0x04, 0x05, 0x06, 0x07, 0x08, 0x0A, 0x0E, 0x0F, 0x13, 0x14, 0x15, 0x16, 0x18, 0x19, 0x1A] s.dev e) ∧
  (∀ (t : TrunkNo) (f : List Byte), s.dev.blockUp bkTIMING = true → s.dev.trkState t.val = tsUP → f.length < 9 →
    ∃ e, Sys2Proof.Machine.exec (.messageFrameRx t f) s = .next ⟨e, s.pending⟩ ∧
    e.num (TRK_MSG_BAD t.val) = min (s.dev.num (TRK_MSG_BAD t.val) + 1) (2 ^ 96 - 1) ∧ Changes [] [TRK_MSG_BAD t.val] s.dev e) ∧
  (∀ (t : TrunkNo) (f : List Byte), s.dev.blockUp bkTIMING = true → s.dev.trkState t.val = tsUP → byteAt f 0 = 0x10 → 1 ≤ leNat (slice f 2 2) →
    leNat (slice f 2 2) ≤ 2048 → f.length = 8 + (leNat (slice f 2 2) + 3) / 4 * 4 →
    crc32c (f.take (f.length - 4)) = leNat (slice f (f.length - 4) 4) →
    ∃ e, Sys2Proof.Machine.exec (.messageFrameRx t f) s = .next ⟨e, s.pending⟩ ∧
    e.num (TRK_MSG_RX t.val) = min (s.dev.num (TRK_MSG_RX t.val) + 1) (2 ^ 96 - 1) ∧
    e.net.inbox = s.dev.net.inbox ++ [{ kind := 3, lp := 256 + t.val, bytes := slice f 4 (leNat (slice f 2 2)) }] ∧
    Changes [.net] [TRK_MSG_RX t.val] s.dev e)

/-- An UP trunk sends a marker with the next TX_SEQ; a marker received is counted and seen; a time word that fails its check is counted bad
and drops the marker, and a good one takes the marker's stamp with its TX_SEQ; markers that stop leave the trunk's clock ports FAULTY. One
Announce record for each enabled Piste and one QL record for the module go out in the gaps that fit them; an Announce record of an enabled
Piste's domain is held as a dataset, a QL record sets the trunk's level, and its absence takes the level away. (R181, R182, R183, R184,
R255) -/
def Obligations.TrunkTime : Prop := ∀ s : State,
  (∀ (t : TrunkNo), s.dev.blockUp bkTIMING = true → s.dev.trkState t.val = tsUP →
    ∃ e, Sys2Proof.Machine.exec (.trunkMarkerTx t) s = .next ⟨e, s.pending⟩ ∧
    (e.trkTime t.val).txSeq = ((s.dev.trkTime t.val).txSeq + 1) % 0x10000 ∧
    e.out.tail.head? = some (.trunk t.val 0 (leBytes 2 (s.dev.trkTime t.val).txSeq))) ∧
  (∀ (t : TrunkNo) (b : Fin 512) (c : BitVec 32), s.dev.blockUp bkTIMING = true → s.dev.trkState t.val = tsUP →
    ∃ e, Sys2Proof.Machine.exec (.trunkMarkerRx t b c) s = .next ⟨e, s.pending⟩ ∧ (e.trkTime t.val).seen = true ∧
    (e.trkTime t.val).mark.isSome = true ∧ e.num (TRK_MARKERS_RX t.val) = min (s.dev.num (TRK_MARKERS_RX t.val) + 1) (2 ^ 96 - 1)) ∧
  (∀ (t : TrunkNo) (w : List Byte), s.dev.blockUp bkTIMING = true → s.dev.trkState t.val = tsUP → crc32c (slice w 0 32) ≠ leNat (slice w 32 4) →
    ∃ e, Sys2Proof.Machine.exec (.timeWordRx t w) s = .next ⟨e, s.pending⟩ ∧ (e.trkTime t.val).mark = none ∧
    e.num (TRK_TW_BAD t.val) = min (s.dev.num (TRK_TW_BAD t.val) + 1) (2 ^ 96 - 1) ∧ e.bit (TRK_STATUS t.val) TRK_STATUS_ERR = true ∧
    Changes [.pte, .msix, .out, .pulses] [TRK_TW_BAD t.val, TRK_STATUS t.val] s.dev e) ∧
  (∀ (t : TrunkNo) (w : List Byte) (m : Nat) (coarse : Bool), s.dev.blockUp bkTIMING = true → s.dev.trkState t.val = tsUP →
    crc32c (slice w 0 32) = leNat (slice w 32 4) → (s.dev.trkTime t.val).mark = some (m, coarse) →
    ∃ e, Sys2Proof.Machine.exec (.timeWordRx t w) s = .next ⟨e, s.pending⟩ ∧ (e.trkTime t.val).mark = none ∧
    (e.trkTime t.val).rx = some (leNat (slice w 26 2), m)) ∧
  (∀ (t : TrunkNo) (k : PisteNo), s.dev.blockUp bkTIMING = true → s.dev.portState (0x300 + t.val) k.inst ≠ 0 → s.dev.pzOn k.inst = true →
    2 ≤ s.dev.role (0x300 + t.val) k.inst → s.dev.role (0x300 + t.val) k.inst ≤ 4 → s.dev.inGap = false →
    ∃ e, Sys2Proof.Machine.exec (.trunkMarkersStopped t) s = .next ⟨e, s.pending⟩ ∧ (e.trkTime t.val).stopped = true ∧
    e.portState (0x300 + t.val) k.inst = psFAULTY) ∧
  (∀ (t : TrunkNo), s.dev.blockUp bkTIMING = true → s.dev.trkState t.val = tsUP → s.dev.pwr.handOff = false →
    ∃ e, Sys2Proof.Machine.exec (.announceRecordTx t) s = .next ⟨e, s.pending⟩ ∧
    e.out.length + (e.trk t.val).msgs.length = s.dev.out.length + (s.dev.trk t.val).msgs.length + ([1, 2].filter (fun k => s.dev.pzOn k)).length ∧
    Changes [.out, .trk0, .trk1] [] s.dev e) ∧
  (∀ (t : TrunkNo) (k : PisteNo) (x : Term) (r : List Term), s.dev.blockUp bkTIMING = true → s.dev.net.inbox = x :: r → x.kind = 5 →
    x.lp = 256 + t.val → s.dev.pzOn k.inst = true → leNat (slice x.bytes 1 1) = s.dev.domainOf k.inst →
    s.dev.portState (0x300 + t.val) k.inst = psLISTENING → s.dev.role (0x300 + t.val) k.inst = roleCLOCK →
    (s.dev.cport (0x300 + t.val) k.inst).ann = none → ∃ e, Sys2Proof.Machine.exec (.announceRecordRx t) s = .next ⟨e, s.pending⟩ ∧
    (e.cport (0x300 + t.val) k.inst).ann.map (·.src) = some (0x30000 + t.val) ∧ e.runsT (tAnn (0x300 + t.val) k.inst) = true) ∧
  (∀ (t : TrunkNo), s.dev.blockUp bkTIMING = true → (s.dev.trk t.val).msgs = [] → s.dev.trkState t.val = tsUP → s.dev.pte.handOff = false →
    s.dev.selCand ≠ 4 + t.val → ∃ e, Sys2Proof.Machine.exec (.qlRecordTx t) s = .next ⟨e, s.pending⟩ ∧
    (if s.dev.tk.time < (msgStart (s.dev.tk.time + max (s.dev.trk t.val).free s.dev.tk.osc - s.dev.tk.osc) (msgTime (msgFrame 2 (leBytes 1 (s.dev.fld REFC_OUT_QL REFC_OUT_QL_OUT % 16) ++ leBytes 1 (s.dev.fld REFC_OUT_QL REFC_OUT_QL_OUT / 16) ++ [0, 0])))) then (e.trk t.val).msgs = [(2, (msgFrame 2 (leBytes 1 (s.dev.fld REFC_OUT_QL REFC_OUT_QL_OUT % 16) ++ leBytes 1 (s.dev.fld REFC_OUT_QL REFC_OUT_QL_OUT / 16) ++ [0, 0])))] ∧
    e.out = s.dev.out else (e.trk t.val).msgs = [] ∧
    e.out = .message t.val (msgStart (s.dev.tk.time + max (s.dev.trk t.val).free s.dev.tk.osc - s.dev.tk.osc) (msgTime (msgFrame 2 (leBytes 1 (s.dev.fld REFC_OUT_QL REFC_OUT_QL_OUT % 16) ++ leBytes 1 (s.dev.fld REFC_OUT_QL REFC_OUT_QL_OUT / 16) ++ [0, 0])))) (msgFrame 2 (leBytes 1 (s.dev.fld REFC_OUT_QL REFC_OUT_QL_OUT % 16) ++ leBytes 1 (s.dev.fld REFC_OUT_QL REFC_OUT_QL_OUT / 16) ++ [0, 0])) :: s.dev.out) ∧
    Changes [.out, .trk0, .trk1] [] s.dev e) ∧
  (∀ (t : TrunkNo) (x : Term) (r : List Term), s.dev.blockUp bkTIMING = true → s.dev.net.inbox = x :: r → x.kind = 6 → x.lp = 256 + t.val →
    ∃ e, Sys2Proof.Machine.exec (.qlRecordRx t) s = .next ⟨e, s.pending⟩ ∧ e.net.inbox = r ∧ (e.cand (4 + t.val)).qlGood = true ∧
    e.runsT (tQl t.val) = true) ∧
  (∀ (t : TrunkNo), s.dev.blockUp bkTIMING = true → s.dev.runsT (tQl t.val) = true → s.dev.pulses = [] →
    ∃ e, Sys2Proof.Machine.exec (.qlRecordTimeout t) s = .next ⟨e, s.pending⟩ ∧ (e.cand (4 + t.val)).qlGood = false ∧ e.runsT (tQl t.val) = false)

/-- Each sentence goes out in the format of OUT_FMT. A sentence that does not read is counted in PTE_TOD_RX_BAD and sets TOD_STICKY, and one
that does is counted in PTE_TOD_RX_COUNT; a sentence that does not arrive disqualifies the external source of every enabled SOURCE 1
Piste. The leap flag held while no Piste is active is cleared, nothing else changing. (R165, R191, R192, R194) -/
def Obligations.TimeOfDay : Prop := ∀ s : State,
  (s.dev.blockUp bkTIMING = true → (s.dev.fld PTE_TOD_CTRL PTE_TOD_CTRL_OUT_FMT = 1 ∨ s.dev.fld PTE_TOD_CTRL PTE_TOD_CTRL_OUT_FMT = 2) →
    ∃ e, Sys2Proof.Machine.exec .todSentenceTx s = .next ⟨e, s.pending⟩ ∧
    e.out.head?.any (fun o => match o with | .tod _ => true | _ => false) = true) ∧
  (∀ (l : List Byte), s.dev.blockUp bkTIMING = true → s.dev.fld PTE_TOD_CTRL PTE_TOD_CTRL_IN_FMT = 1 → readOwn l = none →
    ∃ e, Sys2Proof.Machine.exec (.todSentenceRx l) s = .next ⟨e, s.pending⟩ ∧
    e.num (PTE_TOD_RX_BAD) = min (s.dev.num (PTE_TOD_RX_BAD) + 1) (2 ^ 96 - 1) ∧ e.bit PTE_STATUS (PTE_STATUS_TOD + 1) = true) ∧
  (∀ (l : List Byte), s.dev.blockUp bkTIMING = true → s.dev.fld PTE_TOD_CTRL PTE_TOD_CTRL_IN_FMT = 1 → (readOwn l).isSome = true →
    ∃ e, Sys2Proof.Machine.exec (.todSentenceRx l) s = .next ⟨e, s.pending⟩ ∧
    e.num (PTE_TOD_RX_COUNT) = min (s.dev.num (PTE_TOD_RX_COUNT) + 1) (2 ^ 96 - 1)) ∧
  (∀ (k : PisteNo), s.dev.blockUp bkTIMING = true → s.dev.pzOn k.inst = true → s.dev.pzExt k.inst = true →
    ∃ e, Sys2Proof.Machine.exec .todSentenceMissing s = .next ⟨e, s.pending⟩ ∧ (e.piste k.inst).run = 0 ∧ (e.piste k.inst).named = none) ∧
  (s.dev.blockUp bkTIMING = true → s.dev.active = 2 → ∃ e, Sys2Proof.Machine.exec .leapFlagClear s = .next ⟨e, s.pending⟩ ∧
    e.pte.steer.leap = 0 ∧ Changes [.pte] [] s.dev e)

/-- A selected edge of a channel is counted, clears NOEDGE_LIVE and starts its limit again, and the first one is stamped and counted in
EMU_STAMPS; streaming, it makes one queue entry. An interval with no stop makes one TIMEOUT entry, re-arms, and is counted; the end of a
gate makes one frequency entry; 1.1 s without an edge sets NOEDGE_LIVE. The host's EMUH_RD consumes entries of a queue that no DMA channel
drains, and EMU_FLUSH closes the buffer of the channel that does. An accepted write of EMU_CTRL holds MODE and QEN. (R213, R218, R227,
R232, R233, R236, R237, R238, R239) -/
def Obligations.EdgeChannels : Prop := ∀ s : State,
  (∀ (c : EmuNo) (b : Fin 512) (r : Bool), s.dev.blockUp bkTIMING = true →
    bitsAt (s.dev.fld (EMU_CTRL c.val) EMU_CTRL_EDGE) (if r then 0 else 1) 1 = 1 → (c.val < 8 ∨ s.dev.fld (EMU_SRC c.val) EMU_SRC_TYPE ≠ 0) →
    (s.dev.emuCh c.val).last = none → ∃ e, Sys2Proof.Machine.exec (.emuEdge c b r) s = .next ⟨e, s.pending⟩ ∧
    (e.emuCh c.val).count = (s.dev.emuCh c.val).count + 1 ∧ e.bit (EMU_STATUS c.val) EMU_STATUS_NOEDGE = false ∧ e.runsT (tNoEdge c.val) = true ∧
    e.num (EMU_STAMPS c.val) = min (s.dev.num (EMU_STAMPS c.val) + 1) (2 ^ 96 - 1)) ∧
  (∀ (c : EmuNo) (b : Fin 512) (r : Bool), s.dev.blockUp bkTIMING = true →
    bitsAt (s.dev.fld (EMU_CTRL c.val) EMU_CTRL_EDGE) (if r then 0 else 1) 1 = 1 → (c.val < 8 ∨ s.dev.fld (EMU_SRC c.val) EMU_SRC_TYPE ≠ 0) →
    (s.dev.emuCh c.val).last = none → s.dev.fld (EMU_CTRL c.val) EMU_CTRL_QEN = 1 → s.dev.fld (EMU_CTRL c.val) EMU_CTRL_MODE = 0 →
    s.dev.num (EMU_DECIM c.val) ≤ 1 → (s.dev.emuCh c.val).queue.length < 4096 →
    ∃ e, Sys2Proof.Machine.exec (.emuEdge c b r) s = .next ⟨e, s.pending⟩ ∧ (e.emuCh c.val).queue.length = (s.dev.emuCh c.val).queue.length + 1 ∧
    (e.emuCh c.val).seq = ((s.dev.emuCh c.val).seq + 1) % 0x10000) ∧
  (∀ (c : EmuNo) (x : EdgeAt), s.dev.blockUp bkTIMING = true → (s.dev.emuCh c.val).start = some x → (s.dev.emuCh c.val).queue.length < 4096 →
    ∃ e, Sys2Proof.Machine.exec (.intervalTimeout c) s = .next ⟨e, s.pending⟩ ∧ (e.emuCh c.val).start = none ∧
    e.num (EMU_TIMEOUTS c.val) = min (s.dev.num (EMU_TIMEOUTS c.val) + 1) (2 ^ 96 - 1) ∧ e.bit (EMU_STATUS c.val) EMU_STATUS_TMO = true ∧
    (e.emuCh c.val).queue.length = (s.dev.emuCh c.val).queue.length + 1) ∧
  (∀ (c : EmuNo), s.dev.blockUp bkTIMING = true → s.dev.fld (EMU_CTRL c.val) EMU_CTRL_QEN = 1 → s.dev.fld (EMU_CTRL c.val) EMU_CTRL_MODE = 2 →
    (s.dev.emuCh c.val).queue.length < 4096 → ∃ e, Sys2Proof.Machine.exec (.gateEnd c) s = .next ⟨e, s.pending⟩ ∧
    (e.emuCh c.val).queue.length = (s.dev.emuCh c.val).queue.length + 1 ∧ (e.emuCh c.val).first = none ∧ (e.emuCh c.val).latest = none) ∧
  (∀ (c : EmuNo), s.dev.blockUp bkTIMING = true → s.dev.runsT (tNoEdge c.val) = true → s.dev.pulses = [] →
    ∃ e, Sys2Proof.Machine.exec (.noEdgeTimeout c) s = .next ⟨e, s.pending⟩ ∧ e.bit (EMU_STATUS c.val) EMU_STATUS_NOEDGE = true ∧
    (e.bit (EMU_STATUS c.val) (EMU_STATUS_NOEDGE + 1) = true ∨ s.dev.bit (EMU_STATUS c.val) EMU_STATUS_NOEDGE = true) ∧
    e.runsT (tNoEdge c.val) = false) ∧
  (∀ (c : EmuNo) (v : BitVec 32), s.dev.blockUp bkTIMING = true → s.dev.host.linkUp = true → s.dev.emuDma c.val = none →
    (s.dev.emuCh c.val).rd < 0x10000 → (v.toNat % 0x10000 + 0x10000 - (s.dev.emuCh c.val).rd) % 0x10000 ≤ (s.dev.emuCh c.val).queue.length →
    ∃ e, Sys2Proof.Machine.exec (.emuhRdWrite c v) s = .next ⟨e, s.pending⟩ ∧ (e.emuCh c.val).rd = v.toNat % 0x10000 ∧
    (e.emuCh c.val).queue = (s.dev.emuCh c.val).queue.drop ((v.toNat % 0x10000 + 0x10000 - (s.dev.emuCh c.val).rd) % 0x10000) ∧
    Changes [.emu] [EMU_STATUS c.val] s.dev e) ∧
  (∀ (c : EmuNo) (j : Fin 8) (h : DmaHold), s.dev.runsT (tFlush c.val) = true → (s.dev.ch (48 + j.val)).hold = some h → h.kind = 1 →
    (entryChans h.bytes).contains c.val = true → ∃ e, Sys2Proof.Machine.exec (.emuFlushExpiry c) s = .next ⟨e, s.pending⟩ ∧
    (e.ch (48 + j.val)).hold = none ∧ (e.ch (48 + j.val)).done = ((s.dev.ch (48 + j.val)).done + 1) % 2 ^ 32 ∧ e.runsT (tFlush c.val) = false) ∧
  (∀ (c : EmuNo) (v : Word), s.dev.accepts (EMU_CTRL c.val) v.toNat → ∃ e, Sys2Proof.Machine.exec (.emuCtrlWrite c v) s = .next ⟨e, s.pending⟩ ∧
    e.reply.status = stOK ∧ e.fld (EMU_CTRL c.val) EMU_CTRL_MODE = EMU_CTRL_MODE.of (BitVec.ofNat 96 v.toNat) ∧
    e.fld (EMU_CTRL c.val) EMU_CTRL_QEN = EMU_CTRL_QEN.of (BitVec.ofNat 96 v.toNat) ∧
    Changes [.reply, .emu, .net, .msix, .out] [EMU_CTRL c.val] s.dev e)

/-- Lock of the delay line sets LOCK_LIVE and ends COARSE while CD2 is not on bypass; its loss clears LOCK_LIVE, sets LOCK_STICKY and makes
stamps COARSE. A code density test with a bin out of range is rejected, counted and reported. While time is not set, a wrap of the cycle
counter sets RAWOVF_LIVE and is counted for the entries that follow. (R221, R222, R225, R226) -/
def Obligations.EdgeTiming : Prop := ∀ s : State,
  (s.dev.blockUp bkTIMING = true → ∃ e, Sys2Proof.Machine.exec .delayLineLock s = .next ⟨e, s.pending⟩ ∧
    e.bit EMU_GLB_STATUS EMU_GLB_STATUS_LOCK = true ∧ e.bit EMU_GLB_STATUS EMU_GLB_STATUS_COARSE = s.dev.timeBypass ∧
    Changes [.msix, .out] [EMU_GLB_STATUS] s.dev e) ∧
  (s.dev.blockUp bkTIMING = true → s.dev.bit EMU_GLB_STATUS EMU_GLB_STATUS_LOCK = true →
    ∃ e, Sys2Proof.Machine.exec .delayLineLockLoss s = .next ⟨e, s.pending⟩ ∧ e.bit EMU_GLB_STATUS EMU_GLB_STATUS_LOCK = false ∧
    e.bit EMU_GLB_STATUS (EMU_GLB_STATUS_LOCK + 1) = true ∧ e.bit EMU_GLB_STATUS EMU_GLB_STATUS_COARSE = true ∧
    Changes [.msix, .out] [EMU_GLB_STATUS] s.dev e) ∧
  (∀ (c : EmuNo) (h : List Nat), s.dev.blockUp bkTIMING = true → testBad h = true →
    ∃ e, Sys2Proof.Machine.exec (.interpolatorExchange c h) s = .next ⟨e, s.pending⟩ ∧
    e.num (EMU_BINCAL_REJ) = min (s.dev.num (EMU_BINCAL_REJ) + 1) (2 ^ 96 - 1) ∧ (e.emuCh c.val).rej0 = true ∧
    e.bit EMU_GLB_STATUS EMU_GLB_STATUS_BINCAL = true ∧ e.bit EMU_GLB_STATUS (EMU_GLB_STATUS_BINCAL + 1) = true) ∧
  (s.dev.blockUp bkTIMING = true → s.dev.setLive = false → ∃ e, Sys2Proof.Machine.exec .rawCounterWrap s = .next ⟨e, s.pending⟩ ∧
    e.emu.wraps = s.dev.emu.wraps + 1 ∧ e.bit EMU_GLB_STATUS EMU_GLB_STATUS_RAWOVF = true ∧
    e.bit EMU_GLB_STATUS (EMU_GLB_STATUS_RAWOVF + 1) = true)

/-- An edge candidate that fails is FAILED, counted and its windows emptied; when its last condition ends it is QUALIFYING with wait-to-
restore running from the beginning, at whose end it is QUALIFIED with no clean second yet. SUSPECT is cleared after 1,000 clean seconds. A
write of REFC_CTRL that disables a candidate leaves it DISABLED, one of REFC_GLB_CTRL holds MODE, and MODEL_CLEAR empties the model.
(R247, R258, R260, R266) -/
def Obligations.Candidates : Prop := ∀ s : State,
  (∀ (i : CandNo), s.dev.blockUp bkTIMING = true → i.val < 3 → s.dev.candState (i.val + 1) ≠ rcDISABLED →
    s.dev.candState (i.val + 1) ≠ rcFAILED → (s.dev.cand (i.val + 1)).aging = false → s.dev.pulses = [] →
    ∃ e, Sys2Proof.Machine.exec (.candidateFail i) s = .next ⟨e, s.pending⟩ ∧ e.candState (i.val + 1) = rcFAILED ∧
    e.num (REFC_FAILS (i.val + 1)) = min (s.dev.num (REFC_FAILS (i.val + 1)) + 1) (2 ^ 96 - 1) ∧ (e.cand (i.val + 1)).ys = [] ∧
    e.runsT (tWtr (i.val + 1)) = false) ∧
  (∀ (i : CandNo), s.dev.blockUp bkTIMING = true → s.dev.candState (i.val + 1) = rcFAILED → s.dev.candCond (i.val + 1) = 0 →
    s.dev.qlEn = false → ∃ e, Sys2Proof.Machine.exec (.candidateFailEnd i) s = .next ⟨e, s.pending⟩ ∧ e.candState (i.val + 1) = rcQUALIFYING ∧
    e.runsT (tWtr (i.val + 1)) = true ∧ e.fld (REFC_STATUS (i.val + 1)) REFC_STATUS_FAIL_REASON = 0) ∧
  (∀ (i : CandNo), s.dev.runsT (tWtr (i.val + 1)) = true → s.dev.candState (i.val + 1) = rcQUALIFYING → s.dev.pulses = [] →
    ∃ e, Sys2Proof.Machine.exec (.candidateWtrEnd i) s = .next ⟨e, s.pending⟩ ∧ e.candState (i.val + 1) = rcQUALIFIED ∧
    (e.cand (i.val + 1)).clean = 0) ∧
  (∀ (i : CandNo), s.dev.blockUp bkTIMING = true → s.dev.suspect (i.val + 1) = true → 1000 ≤ (s.dev.cand (i.val + 1)).clean →
    ∃ e, Sys2Proof.Machine.exec (.suspectClear i) s = .next ⟨e, s.pending⟩ ∧ e.suspect (i.val + 1) = false ∧
    Changes [] [REFC_STATUS (i.val + 1)] s.dev e) ∧
  (∀ (i : CandNo) (v : Word), s.dev.accepts (REFC_CTRL (i.val + 1)) v.toNat → s.dev.fld (REFC_CTRL (i.val + 1)) REFC_CTRL_ENABLE = 1 →
    REFC_CTRL_ENABLE.of (BitVec.ofNat 96 v.toNat) = 0 → ∃ e, Sys2Proof.Machine.exec (.refcCtrlWrite i v) s = .next ⟨e, s.pending⟩ ∧
    e.reply.status = stOK ∧ e.candState (i.val + 1) = rcDISABLED ∧ (e.cand (i.val + 1)).ys = [] ∧ e.runsT (tWtr (i.val + 1)) = false ∧
    ChangesIn [.reply, .msix, .out, .pulses, .net, .pte, .refc] [0x05, 0x06, 0x07, 0x0A, 0x13, 0x14] s.dev e) ∧
  (∀ (v : Word), s.dev.accepts REFC_GLB_CTRL v.toNat → ∃ e, Sys2Proof.Machine.exec (.refcGlbCtrlWrite v) s = .next ⟨e, s.pending⟩ ∧
    e.reply.status = stOK ∧ e.fld REFC_GLB_CTRL REFC_GLB_CTRL_MODE = REFC_GLB_CTRL_MODE.of (BitVec.ofNat 96 v.toNat) ∧
    ChangesIn [.reply, .msix, .out, .pulses, .net, .pte, .refc] [0x05, 0x06, 0x07, 0x0A, 0x13, 0x14] s.dev e) ∧
  (s.dev.accepts REFC_MODEL_CTRL (withBits (s.dev.num REFC_MODEL_CTRL % 2 ^ 48) 47 1 1) →
    ∃ e, Sys2Proof.Machine.exec .modelClear s = .next ⟨e, s.pending⟩ ∧ e.reply.status = stOK ∧ e.refc.points = [] ∧ e.num REFC_MODEL_Y0 = 0 ∧
    e.num REFC_MODEL_FIT = 0 ∧ ChangesIn [.reply, .msix, .out, .refc] [0x07] s.dev e)

/-- At a whole second a LOCKED selector adds a second to its history and one in Glide to its time in Glide. A selector LOCKING within
REFC_LOCK_THR for 16 seconds is LOCKED; a switch to the candidate chosen makes it SELECTED and the selector LOCKING, counted; REFC_HO_MAX
in Glide with nothing selectable ends in free run with no history; a learning point begins the next 1,000 s. An ESMC PDU taken sets its
port's level, whose absence takes it away; the module's own PDUs carry the level of the port. (R253, R254, R264, R273, R274, R275, R276,
R277, R278) -/
def Obligations.Selector : Prop := ∀ s : State,
  (∀ (θ : BitVec 24), s.dev.blockUp bkTIMING = true → s.dev.selState = selLOCKED →
    ∃ e, Sys2Proof.Machine.exec (.monitorSecond θ) s = .next ⟨e, s.pending⟩ ∧ e.num REFC_HO_HIST = (s.dev.num REFC_HO_HIST + 1) % 2 ^ 48) ∧
  (∀ (θ : BitVec 24), s.dev.blockUp bkTIMING = true → s.dev.selState = selGLIDE →
    ∃ e, Sys2Proof.Machine.exec (.monitorSecond θ) s = .next ⟨e, s.pending⟩ ∧ e.num REFC_HO_ELAPSED = (s.dev.num REFC_HO_ELAPSED + 1) % 2 ^ 48) ∧
  (s.dev.blockUp bkTIMING = true → s.dev.selState = selLOCKING → 16 ≤ s.dev.refc.within →
    ∃ e, Sys2Proof.Machine.exec .selectorLocked s = .next ⟨e, s.pending⟩ ∧ e.selState = selLOCKED ∧
    e.fld REFC_OUT_QL REFC_OUT_QL_OUT = s.dev.fld (REFC_QL s.dev.selCand) REFC_QL_QL ∧
    Changes [.msix, .out] [REFC_GLB_STATUS, REFC_OUT_QL] s.dev e) ∧
  (∀ (c : Nat), s.dev.blockUp bkTIMING = true → s.dev.bit EMU_GLB_STATUS EMU_GLB_STATUS_COARSE = false → s.dev.chosen = some c →
    s.dev.selCand ≠ c → c < 16 → ∃ e, Sys2Proof.Machine.exec .selectorSwitch s = .next ⟨e, s.pending⟩ ∧ e.selCand = c ∧ e.selState = selLOCKING ∧
    e.num (REFC_SWITCH_COUNT) = min (s.dev.num (REFC_SWITCH_COUNT) + 1) (2 ^ 96 - 1)) ∧
  (s.dev.blockUp bkTIMING = true → s.dev.selState = selGLIDE → s.dev.num REFC_HO_MAX ≤ s.dev.num REFC_HO_ELAPSED → s.dev.chosen = none →
    ∃ e, Sys2Proof.Machine.exec .hoMaxExpiry s = .next ⟨e, s.pending⟩ ∧ e.selState = selFREE ∧ e.refc.hist = [] ∧ e.num REFC_HO_HIST = 0 ∧
    e.int CD_T_TARGET = 0) ∧
  (s.dev.blockUp bkTIMING = true → ∃ e, Sys2Proof.Machine.exec .learningPoint s = .next ⟨e, s.pending⟩ ∧ e.refc.learnN = 0 ∧ e.refc.learnX = 0 ∧
    e.refc.learnTh = 0 ∧ e.refc.learnOk = true) ∧
  (∀ (t : Term) (r : List Term) (q : Nat × Nat × Nat), s.dev.blockUp bkTIMING = true → s.dev.net.inbox = t :: r → t.kind = 2 →
    esmcOf t.bytes = some q → t.lp < 256 → ∃ e, Sys2Proof.Machine.exec .esmcPduRx s = .next ⟨e, s.pending⟩ ∧ e.net.inbox = r ∧
    Tbl.get e.refc.esmcGood false t.lp = true ∧ e.fld (REFC_ESMC_RX t.lp) REFC_ESMC_RX_QL = q.1 % 0x1000 ∧ e.runsT (tEsmc t.lp) = true) ∧
  (∀ (n : LpNo), s.dev.runsT (tEsmc n.val) = true → s.dev.pulses = [] → ∃ e, Sys2Proof.Machine.exec (.esmcTimeout n) s = .next ⟨e, s.pending⟩ ∧
    Tbl.get e.refc.esmcGood false n.val = false ∧ e.runsT (tEsmc n.val) = false) ∧
  (∀ (n : LpNo), s.dev.blockUp bkCORE = true → s.dev.fld (REFC_ESMC_CTRL n.val) REFC_ESMC_CTRL_TX_EN = 1 →
    ∃ e, Sys2Proof.Machine.exec (.esmcInfoTx n) s = .next ⟨e, s.pending⟩ ∧ Tbl.get e.refc.esmcSent 0 n.val = s.dev.esmcLevel n.val ∧
    s.dev.net.nextId < e.net.nextId) ∧
  (∀ (n : LpNo), s.dev.blockUp bkCORE = true → s.dev.fld (REFC_ESMC_CTRL n.val) REFC_ESMC_CTRL_TX_EN = 1 →
    Tbl.get s.dev.refc.esmcSent 0 n.val ≠ s.dev.esmcLevel n.val → ∃ e, Sys2Proof.Machine.exec (.esmcEventTx n) s = .next ⟨e, s.pending⟩ ∧
    Tbl.get e.refc.esmcSent 0 n.val = s.dev.esmcLevel n.val ∧ s.dev.net.nextId < e.net.nextId)

/-- An accepted write of CD_PLL_DIV holds the divider and takes the domain to bypass, its PLL having 10 ms to lock; a lock in time takes it
back to its PLL, and a lock that fails sets LOCKFAIL_LIVE and is tried again every 100 ms. A PLL that loses lock sets LOL_LIVE and
LOL_STICKY, is counted, and takes its domain to bypass, or, for PLL-P, both trunks DOWN. OSC_FAIL asserts ALERT_N. (R306, R308, R318,
R319, R321, R322, R323, R326) -/
def Obligations.ClockDomains : Prop := ∀ s : State,
  (∀ (i : DomainNo) (v : Word), s.dev.accepts (CD_PLL_DIV i.val) v.toNat →
    ∃ e, Sys2Proof.Machine.exec (.cdPllDivWrite i v) s = .next ⟨e, s.pending⟩ ∧ e.reply.status = stOK ∧ e.onBypass i.val = true ∧
    e.runsT (tLock i.val) = true ∧ e.fld (CD_PLL_DIV i.val) CD_PLL_DIV_OUTDIV = CD_PLL_DIV_OUTDIV.of (BitVec.ofNat 96 v.toNat) ∧
    ChangesIn [.reply, .msix, .out, .pulses, .accums, .cls, .net, .obs] [0x01, 0x08, 0x0A, 0x0E, 0x0F, 0x15, 0x16] s.dev e) ∧
  (∀ (i : DomainNo), s.dev.blockUp bkTIMING = true → i.val ≠ 1 → i.val ≠ 2 → s.dev.onBypass i.val = true → s.dev.pwr.coreOff = false →
    ∃ e, Sys2Proof.Machine.exec (.returnFromBypass i) s = .next ⟨e, s.pending⟩ ∧ e.onBypass i.val = false ∧
    e.bit (CD_STATUS i.val) CD_STATUS_LOL = false ∧ e.bit (CD_STATUS i.val) CD_STATUS_LOCKFAIL = false ∧ e.runsT (tLock i.val) = false) ∧
  (∀ (i : DomainNo), s.dev.blockUp bkTIMING = true → i.val = 1 → s.dev.cd.pLost = true →
    ∃ e, Sys2Proof.Machine.exec (.returnFromBypass i) s = .next ⟨e, s.pending⟩ ∧ e.cd.pLost = false ∧
    e.bit (CD_STATUS i.val) CD_STATUS_LOL = false) ∧
  (∀ (i : DomainNo), s.dev.blockUp bkTIMING = true → i.val = 2 → s.dev.onBypass 2 = true →
    ∃ e, Sys2Proof.Machine.exec (.returnFromBypass i) s = .next ⟨e, s.pending⟩ ∧ e.cd.tReady = true ∧ e.runsT (tLock 2) = false ∧
    Changes [.cd, .net] [] s.dev e) ∧
  (∀ (i : DomainNo), s.dev.runsT (tLock i.val) = true → s.dev.pulses = [] →
    ∃ e, Sys2Proof.Machine.exec (.lockfailTimeout i) s = .next ⟨e, s.pending⟩ ∧ e.bit (CD_STATUS i.val) CD_STATUS_LOCKFAIL = true ∧
    e.runsT (tLock i.val) = false ∧ e.runsT (tRelock i.val) = true) ∧
  (∀ (i : DomainNo) (t : Nat), Tbl.get s.dev.net.timers none (tRelock i.val) = some t →
    ∃ e, Sys2Proof.Machine.exec (.pllRelockRetry i) s = .next ⟨e, s.pending⟩ ∧
    Tbl.get e.net.timers none (tRelock i.val) = some (max s.dev.tk.osc t + 100 * ms1)) ∧
  (∀ (i : DomainNo), s.dev.blockUp bkTIMING = true → i.val ≠ 1 → s.dev.onBypass i.val = false → s.dev.pwr.coreOff = false →
    ∃ e, Sys2Proof.Machine.exec (.lossOfLock i) s = .next ⟨e, s.pending⟩ ∧ e.onBypass i.val = true ∧
    e.bit (CD_STATUS i.val) CD_STATUS_LOL = true ∧ e.bit (CD_STATUS i.val) (CD_STATUS_LOL + 1) = true ∧
    e.num (CD_LOL_COUNT i.val) = min (s.dev.num (CD_LOL_COUNT i.val) + 1) (2 ^ 96 - 1)) ∧
  (∀ (i : DomainNo) (t : TrunkNo), s.dev.blockUp bkTIMING = true → i.val = 1 → s.dev.cd.pLost = false →
    ∃ e, Sys2Proof.Machine.exec (.lossOfLock i) s = .next ⟨e, s.pending⟩ ∧ e.cd.pLost = true ∧ e.trkState t.val = tsDOWN ∧
    e.num (CD_LOL_COUNT 1) = min (s.dev.num (CD_LOL_COUNT 1) + 1) (2 ^ 96 - 1)) ∧
  (∃ e, Sys2Proof.Machine.exec .oscFail s = .next ⟨e, s.pending⟩ ∧ e.pwr.oscFail = true ∧ e.pwr.alert = true)

/-- Each millisecond PLL-T's applied offset moves by at most what the rates of CD_SLEW_RATE and CD_ACQ_RATE allow, and never passes ±200,000
ppb. A request to align dividers that is not refused waits, and is served at the next whole second, when both requests are gone. (R312,
R313, R314, R316, R317, R327) -/
def Obligations.DomainAlignment : Prop := ∀ s : State,
  (s.dev.blockUp bkTIMING = true → s.dev.onBypass 2 = false → 0 ≤ s.dev.cd.slewRest → s.dev.cd.slewRest < 1000 → 0 ≤ s.dev.int CD_SLEW_RATE →
    s.dev.int CD_SLEW_RATE ≤ s.dev.int CD_ACQ_RATE → -(200000 * 65536 : Int) ≤ s.dev.pll → s.dev.pll ≤ (200000 * 65536 : Int) →
    ∃ e, Sys2Proof.Machine.exec .pllTSlewUpdate s = .next ⟨e, s.pending⟩ ∧
    (1000 * (e.pll - s.dev.pll).natAbs : Int) ≤ s.dev.int CD_ACQ_RATE + 999 ∧ -(200000 * 65536 : Int) ≤ e.pll ∧ e.pll ≤ (200000 * 65536 : Int) ∧
    e.tk.time = max s.dev.tk.time (s.dev.beatAt ms1 s.dev.cd.msBeat)) ∧
  (s.dev.accepts CD_SYNC_CTRL 2 → ∃ e, Sys2Proof.Machine.exec .cdSyncEmudiv s = .next ⟨e, s.pending⟩ ∧ e.reply.status = stOK ∧
    e.cd.syncEmu = true ∧ Changes [.reply, .cd] [] s.dev e) ∧
  (s.dev.accepts CD_SYNC_CTRL 1 → ∃ e, Sys2Proof.Machine.exec .cdSyncPortdiv s = .next ⟨e, s.pending⟩ ∧ e.reply.status = stOK ∧
    e.cd.syncPort = true ∧ Changes [.reply, .cd] [] s.dev e) ∧
  (s.dev.blockUp bkTIMING = true → (s.dev.cd.syncEmu || s.dev.cd.syncPort) = true →
    ∃ e, Sys2Proof.Machine.exec .dividerSync s = .next ⟨e, s.pending⟩ ∧ e.cd.syncEmu = false ∧ e.cd.syncPort = false ∧
    e.cd.portBase = (if s.dev.cd.syncPort then e.tk.cd2 + e.toEdge else s.dev.cd.portBase))

/-- A Twin measurement with a round trip missing is counted in CAL_TWIN_BAD; a good one is counted in CAL_TWIN_MEAS and shows τ; a group that
goes too long without one is STALE. A run whose loop link is up and free of flags opens its window; one whose link does not come up ends
with result 5, and one with fewer than 16 samples at the close of its window with result 1, no run being left. USER_CLEAR accepted begins
the write of a user record without entries, or puts it behind the writes that go on. (R333, R335, R344, R350, R351, R352, R353) -/
def Obligations.CalibrationEvents : Prop := ∀ s : State,
  (∀ (g : CageNo) (τ : Word) (n : BitVec 16) (m : BitVec 32) (x : Bool), s.dev.blockUp bkTIMING = true →
    s.dev.laneState (0x200 + g.val) = lnREADY → n.toNat ≠ 256 →
    ∃ e, Sys2Proof.Machine.exec (.twinMeasurement g τ n m x) s = .next ⟨e, s.pending⟩ ∧
    e.num (CAL_TWIN_BAD g.val) = min (s.dev.num (CAL_TWIN_BAD g.val) + 1) (2 ^ 96 - 1)) ∧
  (∀ (g : CageNo) (τ : Word) (n : BitVec 16) (m : BitVec 32) (x : Bool), s.dev.blockUp bkTIMING = true →
    s.dev.laneState (0x200 + g.val) = lnREADY → n.toNat = 256 → m.toNat * 1000 ≤ 5 * 65536 → x = false → s.dev.coarse = false →
    ∃ e, Sys2Proof.Machine.exec (.twinMeasurement g τ n m x) s = .next ⟨e, s.pending⟩ ∧
    e.num (CAL_TWIN_MEAS g.val) = min (s.dev.num (CAL_TWIN_MEAS g.val) + 1) (2 ^ 96 - 1) ∧ e.num (CAL_TWIN_TAU g.val) = τ.toNat) ∧
  (∀ (g : CageNo), s.dev.runsT (tStale g.val) = true → s.dev.pulses = [] → ∃ e, Sys2Proof.Machine.exec (.twinStale g) s = .next ⟨e, s.pending⟩ ∧
    Tbl.get e.cal.stale false g.val = true ∧ e.bit (CAL_TWIN_STATUS g.val) CAL_TWIN_STATUS_STALE = true ∧
    e.bit CAL_STATUS CAL_STATUS_STALE = true ∧ e.runsT (tStale g.val) = false) ∧
  (∀ (r : CalRun), s.dev.cal.run = some r → r.phase = 1 → s.dev.lanesReady (crTarget r.par) = true → s.dev.flagBits (crTarget r.par) = 0 →
    ∃ e, Sys2Proof.Machine.exec .calWindowOpen s = .next ⟨e, s.pending⟩ ∧
    e.cal.run = some { r with phase := 2, cals := [], tgts := [], sum := {} } ∧ e.runsT tCalWin = true ∧ e.runsT tCalLink = false) ∧
  (∀ (r : CalRun), s.dev.cal.run = some r → r.phase = 1 → s.dev.runsT tCalLink = true → s.dev.pulses = [] →
    ∃ e, Sys2Proof.Machine.exec .calLinkTimeout s = .next ⟨e, s.pending⟩ ∧ e.cal.run = none ∧ bitsAt (e.num CAL_LAST_RUN) 24 4 = 5 ∧
    e.bit CAL_STATUS CAL_STATUS_RUN = false ∧ e.runsT tCalLink = false) ∧
  (∀ (r : CalRun) (l : List (List (Int × Bool))), s.dev.cal.run = some r → r.phase = 2 → s.dev.runsT tCalWin = true → s.dev.pulses = [] →
    crKind r.par ≠ crENTER → ((r.sums l).map (·.n)).foldl min (((r.sums l).map (·.n)).headD 0) < 16 →
    ∃ e, Sys2Proof.Machine.exec (.calWindowClose l) s = .next ⟨e, s.pending⟩ ∧ e.cal.run = none ∧ bitsAt (e.num CAL_LAST_RUN) 24 4 = 1 ∧
    e.bit CAL_STATUS CAL_STATUS_RUN = false) ∧
  (s.dev.accepts CAL_CTRL (withBits (s.dev.num CAL_CTRL % 2 ^ 48) 32 1 1) → s.dev.bit CAL_STATUS CAL_STATUS_USER = false →
    s.dev.cal.run = none → s.dev.userWear = false → ∃ e, Sys2Proof.Machine.exec .userClear s = .next ⟨e, s.pending⟩ ∧ e.reply.status = stOK ∧
    e.cal.queue.length = s.dev.cal.queue.length + 1 ∧ e.cal.queue.getLast?.map (fun w => (w.new, w.merge)) = some ([], false) ∧
    ChangesIn [.reply, .msix, .out, .pulses, .tk, .cls, .net, .pte, .cd, .cal, .lanes, .pwr, .obs] [0x01, 0x02, 0x04, 0x05, 0x06, 0x07, 0x08, 0x09, 0x0A, 0x0E, 0x0F, 0x13, 0x14, 0x15, 0x16, 0x19, 0x1A] s.dev e)

/-- ADMIN set takes a port from ADMIN_DOWN to DOWN, and cleared takes it from UP to ADMIN_DOWN, the departure being counted. A link that
becomes good takes a DOWN port to HOLD, or to FLUSHING while a flush runs, and UP_HOLD takes it to UP. A break waits for DOWN_DEBOUNCE,
and at its end, or at once where that is 0, an UP port goes to DOWN and is counted. The end of a flush takes a FLUSHING port to HOLD. An
accepted cage mode is held and applied to the delays at the next tick. (R363, R364, R365, R366, R368, R476, R478) -/
def Obligations.PortLinks : Prop := ∀ s : State,
  (∀ (n : LpNo) (u : Bool), s.dev.accepts (MAC_CTRL n.val) (withBits (s.dev.num (MAC_CTRL n.val) % 2 ^ 48) 0 1 u.toNat) → u = true →
    s.dev.lpState n.val = lkADMIN_DOWN → ∃ e, Sys2Proof.Machine.exec (.adminWrite n u) s = .next ⟨e, s.pending⟩ ∧ e.reply.status = stOK ∧
    e.admin n.val = true ∧ e.lpState n.val = lkDOWN ∧
    ChangesIn [.reply, .hostMem, .msix, .out, .pulses, .host, .tk, .cls, .net, .pte, .cd, .cal, .lanes, .trk0, .trk1, .pwr, .obs, .crs] [0x01, 0x02, 0x04, 0x05, 0x06, 0x07, 0x08, 0x09, 0x0A, 0x0E, 0x0F, 0x13, 0x14, 0x15, 0x16, 0x18, 0x19, 0x1A] s.dev e) ∧
  (∀ (n : LpNo) (u : Bool), s.dev.accepts (MAC_CTRL n.val) (withBits (s.dev.num (MAC_CTRL n.val) % 2 ^ 48) 0 1 u.toNat) → u = false →
    s.dev.lpState n.val = lkUP → ∃ e, Sys2Proof.Machine.exec (.adminWrite n u) s = .next ⟨e, s.pending⟩ ∧ e.reply.status = stOK ∧
    e.admin n.val = false ∧ e.lpState n.val = lkADMIN_DOWN ∧
    e.num (MAC_LINK_DOWNS n.val) = min (s.dev.num (MAC_LINK_DOWNS n.val) + 1) (2 ^ 96 - 1) ∧ (e.link n.val).flushing = true ∧
    ChangesIn [.reply, .hostMem, .msix, .out, .pulses, .host, .tk, .cls, .net, .pte, .cd, .cal, .lanes, .trk0, .trk1, .pwr, .obs, .crs] [0x01, 0x02, 0x04, 0x05, 0x06, 0x07, 0x08, 0x09, 0x0A, 0x0E, 0x0F, 0x13, 0x14, 0x15, 0x16, 0x18, 0x19, 0x1A] s.dev e) ∧
  (∀ (n : LpNo), s.dev.blockUp bkCORE = true → s.dev.lanesReady n.val = true → s.dev.lpState n.val = lkDOWN →
    (s.dev.link n.val).flushing = false → ∃ e, Sys2Proof.Machine.exec (.linkGood n) s = .next ⟨e, s.pending⟩ ∧ e.lpState n.val = lkHOLD ∧
    (e.link n.val).good = true ∧ e.runsT (tHold n.val) = true) ∧
  (∀ (n : LpNo), s.dev.blockUp bkCORE = true → s.dev.lanesReady n.val = true → s.dev.lpState n.val = lkDOWN →
    (s.dev.link n.val).flushing = true → ∃ e, Sys2Proof.Machine.exec (.linkGood n) s = .next ⟨e, s.pending⟩ ∧ e.lpState n.val = lkFLUSHING ∧
    (e.link n.val).good = true) ∧
  (∀ (n : LpNo), s.dev.runsT (tHold n.val) = true → s.dev.pulses = [] → s.dev.lpState n.val = lkHOLD → (s.dev.link n.val).good = true →
    (s.dev.link n.val).broken = false → ∃ e, Sys2Proof.Machine.exec (.upHoldExpiry n) s = .next ⟨e, s.pending⟩ ∧ e.lpState n.val = lkUP ∧
    e.runsT (tHold n.val) = false) ∧
  (∀ (n : LpNo) (b : Break), s.dev.blockUp bkCORE = true → (s.dev.link n.val).good = true → s.dev.lpState n.val = lkUP →
    s.dev.fld (MAC_TIMERS n.val) MAC_TIMERS_DOWN_DEBOUNCE ≠ 0 → s.dev.runsT (tDebounce n.val) = false →
    ∃ e, Sys2Proof.Machine.exec (.linkBreak n b) s = .next ⟨e, s.pending⟩ ∧ e.lpState n.val = lkUP ∧ (e.link n.val).broken = true ∧
    e.runsT (tDebounce n.val) = true) ∧
  (∀ (n : LpNo) (b : Break), s.dev.blockUp bkCORE = true → (s.dev.link n.val).good = true → s.dev.lpState n.val = lkUP →
    s.dev.fld (MAC_TIMERS n.val) MAC_TIMERS_DOWN_DEBOUNCE = 0 → ∃ e, Sys2Proof.Machine.exec (.linkBreak n b) s = .next ⟨e, s.pending⟩ ∧
    e.lpState n.val = lkDOWN ∧ (e.link n.val).good = false ∧
    e.num (MAC_LINK_DOWNS n.val) = min (s.dev.num (MAC_LINK_DOWNS n.val) + 1) (2 ^ 96 - 1)) ∧
  (∀ (n : LpNo), s.dev.runsT (tDebounce n.val) = true → s.dev.pulses = [] → s.dev.lpState n.val = lkUP →
    ∃ e, Sys2Proof.Machine.exec (.downDebounceExpiry n) s = .next ⟨e, s.pending⟩ ∧ e.lpState n.val = lkDOWN ∧ (e.link n.val).good = false ∧
    e.num (MAC_LINK_DOWNS n.val) = min (s.dev.num (MAC_LINK_DOWNS n.val) + 1) (2 ^ 96 - 1) ∧ e.runsT (tDebounce n.val) = false) ∧
  (∀ (n : LpNo), s.dev.blockUp bkCORE = true → (s.dev.link n.val).flushing = true → s.dev.lpState n.val = lkFLUSHING →
    ∃ e, Sys2Proof.Machine.exec (.flushComplete n) s = .next ⟨e, s.pending⟩ ∧ e.lpState n.val = lkHOLD ∧ (e.link n.val).flushing = false ∧
    e.bit RINK_STATUS (RINK_STATUS_FLUSH + 1) = true) ∧
  (∀ (c : CageNo) (v : Word), s.dev.accepts (MAC_CAGE_CTRL c.val) v.toNat →
    ∃ e, Sys2Proof.Machine.exec (.macCageCtrlWrite c v) s = .next ⟨e, s.pending⟩ ∧ e.reply.status = stOK ∧
    e.fld (MAC_CAGE_CTRL c.val) MAC_CAGE_CTRL_MODE = MAC_CAGE_CTRL_MODE.of (BitVec.ofNat 96 v.toNat) ∧ e.cal.apply = true ∧
    ChangesIn [.reply, .msix, .out, .pulses, .tk, .cls, .net, .pte, .cd, .lanes, .trk0, .trk1, .pwr, .obs, .crs, .cal] [0x01, 0x02, 0x04, 0x05, 0x06, 0x07, 0x08, 0x0A, 0x0E, 0x0F, 0x13, 0x14, 0x15, 0x16, 0x18, 0x19, 0x1A] s.dev e)

/-- A good PAUSE frame of an UP port is counted. A pause that runs out ends; one that outlasts PAUSE_WD ends too, with the class overridden,
WD_LIVE and WD_STICKY set and a count, until WD_RELEASE. A PFC state that has stood long enough is sent again. A stream without a frame
for RESET_MS takes any number next and is counted, as after a write that changes ALG, HISTORY or RECOVER. (R375, R376, R378, R379, R389,
R401) -/
def Obligations.PauseAndRecovery : Prop := ∀ s : State,
  (∀ (n : LpNo) (k : RxTerms) (f : List Byte) (c : BitVec 32) (x : Bool), s.dev.blockUp bkCORE = true → (s.dev.speedOf n.val).isSome = true →
    s.dev.lpUp n.val = true → s.dev.pwr.handOff = false → s.dev.receiving n.val = none → macControl f = true →
    rxCheck x (f.length + 4) (s.dev.num (MAC_MAX_LEN n.val)) (crc32 f == c.toNat) = 0 → beNat (slice f 0 6) = 0x0180C2000001 → be16 f 14 = 1 →
    ∃ e, Sys2Proof.Machine.exec (.macControlFrameRx n ⟨k, f⟩ c x) s = .next ⟨e, s.pending⟩ ∧
    e.num (MAC_RX_PAUSE n.val) = min (s.dev.num (MAC_RX_PAUSE n.val) + 1) (2 ^ 96 - 1)) ∧
  (∀ (n : LpNo) (p : Fin 8), s.dev.runsT (tPause n.val p.val) = true → s.dev.pulses = [] →
    ∃ e, Sys2Proof.Machine.exec (.pauseExpiry n p) s = .next ⟨e, s.pending⟩ ∧ bitsAt (e.fld (MAC_STATUS n.val) MAC_STATUS_PAUSED) p.val 1 = 0 ∧
    e.runsT (tPause n.val p.val) = false) ∧
  (∀ (n : LpNo) (p : Fin 8), s.dev.runsT (tWatch n.val p.val) = true → s.dev.pulses = [] →
    ∃ e, Sys2Proof.Machine.exec (.pauseWatchdog n p) s = .next ⟨e, s.pending⟩ ∧ e.overridden n.val p.val = true ∧
    bitsAt (e.fld (MAC_STATUS n.val) MAC_STATUS_PAUSED) p.val 1 = 0 ∧
    e.num (MAC_WD_TRIPS n.val) = min (s.dev.num (MAC_WD_TRIPS n.val) + 1) (2 ^ 96 - 1) ∧ e.bit (MAC_STATUS n.val) MAC_STATUS_WD = true ∧
    e.bit (MAC_STATUS n.val) (MAC_STATUS_WD + 1) = true ∧ e.runsT (tRelease n.val p.val) = true) ∧
  (∀ (n : LpNo) (p : Fin 8), s.dev.runsT (tRelease n.val p.val) = true → s.dev.pulses = [] →
    ∃ e, Sys2Proof.Machine.exec (.wdRelease n p) s = .next ⟨e, s.pending⟩ ∧ e.overridden n.val p.val = false ∧
    e.runsT (tRelease n.val p.val) = false) ∧
  (∀ (n : LpNo) (p : Fin 8), s.dev.runsT (tmr 1 (n.val * 8 + p.val)) = true →
    ∃ e, Sys2Proof.Machine.exec (.pfcRepeat n p) s = .next ⟨e, s.pending⟩ ∧ bitsAt (Tbl.get e.net.pfc 0 n.val) p.val 1 = 1 ∧
    e.runsT (tmr 1 (n.val * 8 + p.val)) = false) ∧
  (∀ (x : StreamNo), s.dev.runsT (tmr 2 x.val) = true → s.dev.pulses = [] →
    ∃ e, Sys2Proof.Machine.exec (.frerRecoveryReset x) s = .next ⟨e, s.pending⟩ ∧ (e.rcvy x.val).first = true ∧ (e.rcvy x.val).hist = 0 ∧
    e.num (FRER_RESETS x.val) = min (s.dev.num (FRER_RESETS x.val) + 1) (2 ^ 96 - 1) ∧ e.bit (FRER_STATUS x.val) FRER_STATUS_RESET = true ∧
    e.runsT (tmr 2 x.val) = false) ∧
  (∀ (x : StreamNo) (v : Word), s.dev.accepts (FRER_CTRL x.val) v.toNat →
    FRER_CTRL_ALG.of (BitVec.ofNat 96 v.toNat) ≠ s.dev.fld (FRER_CTRL x.val) FRER_CTRL_ALG →
    ∃ e, Sys2Proof.Machine.exec (.frerCtrlWrite x v) s = .next ⟨e, s.pending⟩ ∧ e.reply.status = stOK ∧ (e.rcvy x.val).first = true ∧
    e.num (FRER_RESETS x.val) = min (s.dev.num (FRER_RESETS x.val) + 1) (2 ^ 96 - 1)) ∧
  (∀ (x : StreamNo) (v : Word), s.dev.accepts (FRER_CTRL x.val) v.toNat →
    FRER_CTRL_ALG.of (BitVec.ofNat 96 v.toNat) = s.dev.fld (FRER_CTRL x.val) FRER_CTRL_ALG →
    FRER_CTRL_HISTORY.of (BitVec.ofNat 96 v.toNat) = s.dev.fld (FRER_CTRL x.val) FRER_CTRL_HISTORY →
    FRER_CTRL_RECOVER.of (BitVec.ofNat 96 v.toNat) = s.dev.fld (FRER_CTRL x.val) FRER_CTRL_RECOVER →
    ∃ e, Sys2Proof.Machine.exec (.frerCtrlWrite x v) s = .next ⟨e, s.pending⟩ ∧ e.reply.status = stOK ∧ e.rcvy x.val = s.dev.rcvy x.val ∧
    Changes [.reply, .msix, .out] [FRER_CTRL x.val] s.dev e)

/-- An accepted write of a punt limiter clips its credit to the new BURST, one of a pool's limits is held, and a REPARTITION gives every pool
its COUNT_K with every buffer free. Ageing drops a head copy older than AGE and counts it, and leaves a queue whose head is not that old.
SEAL leaves an OPEN set SEALED, or CAPTURED with AT_TICK, OPEN leaves it OPEN, and RESET_BUCKET marks the shaper. (R443, R458, R468, R473,
R519, R520) -/
def Obligations.QueuesAndShadows : Prop := ∀ s : State,
  (∀ (r : BitVec 8) (v : Word), s.dev.accepts (CLS_PUNT_CTRL r.toNat) v.toNat →
    ∃ e, Sys2Proof.Machine.exec (.clsPuntCtrlWrite r v) s = .next ⟨e, s.pending⟩ ∧ e.reply.status = stOK ∧
    (Tbl.get e.cls.punt none r.toNat).any (fun c => decide (c ≤ e.fld (CLS_PUNT_CTRL r.toNat) CLS_PUNT_CTRL_BURST * 0x100000000)) = true ∧
    Changes [.reply, .cls, .msix, .out] [CLS_PUNT_CTRL r.toNat] s.dev e) ∧
  (∀ (k : PoolNo), s.dev.accepts RINK_CTRL 1 → ∃ e, Sys2Proof.Machine.exec .repartition s = .next ⟨e, s.pending⟩ ∧ e.reply.status = stOK ∧
    (e.pool k.val).count = 1024 * s.dev.fld (RINK_POOL_CTRL (k.val + 1)) RINK_POOL_CTRL_COUNT_K ∧ (e.pool k.val).free = (e.pool k.val).count ∧
    ChangesIn [.reply, .msix, .out, .net] [0x0E] s.dev e) ∧
  (∀ (k : PoolNo) (v : Word), s.dev.accepts (RINK_POOL_LIM (k.val + 1)) v.toNat →
    ∃ e, Sys2Proof.Machine.exec (.rinkPoolLimWrite k v) s = .next ⟨e, s.pending⟩ ∧ e.reply.status = stOK ∧
    e.reserve k.val = RINK_POOL_LIM_RESERVE.of (BitVec.ofNat 96 v.toNat) ∧ e.reopen k.val = RINK_POOL_LIM_REOPEN.of (BitVec.ofNat 96 v.toNat) ∧
    Changes [.reply, .msix, .out] [RINK_POOL_LIM (k.val + 1), RINK_POOL_STATUS (k.val + 1)] s.dev e) ∧
  (∀ (q : QueueNo) (c : Copy), s.dev.blockUp bkCORE = true → s.dev.queue q.val = [c] → s.dev.headOld q.val = true → s.dev.frame? c.fid = none →
    ∃ e, Sys2Proof.Machine.exec (.ageingExamination q) s = .next ⟨e, s.pending⟩ ∧
    e.num (Q_AGED q.val) = min (s.dev.num (Q_AGED q.val) + 1) (2 ^ 96 - 1) ∧ e.bit (Q_STATUS q.val) Q_STATUS_AGE = true) ∧
  (∀ (q : QueueNo), s.dev.headOld q.val = false → ∃ e, Sys2Proof.Machine.exec (.ageingExamination q) s = .next ⟨e, s.pending⟩ ∧
    e.queue q.val = s.dev.queue q.val ∧ Changes [] [] s.dev e) ∧
  (∀ (x : ShadowNo) (a : Bool), s.dev.accepts (shadowItemOf x) (1 + 4 * a.toNat) →
    ∃ e, Sys2Proof.Machine.exec (.shadowSeal x a) s = .next ⟨e, s.pending⟩ ∧ e.reply.status = stOK ∧
    e.fld (shadowItemOf x) SHP_SHADOW_STATE = (if a then shCAPTURED else shSEALED) ∧ Changes [.reply, .net] [shadowItemOf x] s.dev e) ∧
  (∀ (x : ShadowNo), s.dev.accepts (shadowItemOf x) 2 → s.dev.fld (shadowItemOf x) SHP_SHADOW_STATE ≠ 3 →
    ∃ e, Sys2Proof.Machine.exec (.shadowOpen x) s = .next ⟨e, s.pending⟩ ∧ e.reply.status = stOK ∧
    e.fld (shadowItemOf x) SHP_SHADOW_STATE = shOPEN ∧ Changes [.reply, .net] [shadowItemOf x] s.dev e) ∧
  (∀ (i : Fin 2560), s.dev.accepts (SHP_RESET_BUCKET i.val) 1 → ∃ e, Sys2Proof.Machine.exec (.shpResetBucket i) s = .next ⟨e, s.pending⟩ ∧
    e.reply.status = stOK ∧ (Tbl.get e.net.shp none i.val).any (·.reset) = true ∧
    Changes [.reply, .net, .accums] [SHP_ELIG i.val 0, SHP_ELIG i.val 1, SHP_WAIT_TIME i.val] s.dev e)

/-- A lane waiting for a signal enters CDR when one is detected; at lock it enters TRAIN, or ADAPT without training, which follows training;
and once adapted it is READY. A stage of the equaliser moves by at most one code at an update and stays within its bounds. A limit that
runs out, a lost signal and RESTART each return a lane to SIGNAL_WAIT, counted. (R541, R542, R543, R544, R545, R546) -/
def Obligations.LaneBringUp : Prop := ∀ s : State,
  (∀ (l : LaneNo), s.dev.blockUp bkCORE = true → s.dev.laneState l.val = lnWAIT →
    ∃ e, Sys2Proof.Machine.exec (.signalDetect l) s = .next ⟨e, s.pending⟩ ∧ e.laneState l.val = lnCDR ∧ e.runsT (tLane l.val) = true) ∧
  (∀ (l : LaneNo), s.dev.blockUp bkCORE = true → s.dev.laneState l.val = lnCDR → s.dev.fld (LANE_CTRL l.val) LANE_CTRL_TRAIN_EN = 1 →
    ∃ e, Sys2Proof.Machine.exec (.cdrLock l) s = .next ⟨e, s.pending⟩ ∧ e.laneState l.val = lnTRAIN ∧ e.runsT (tLane l.val) = true) ∧
  (∀ (l : LaneNo), s.dev.blockUp bkCORE = true → s.dev.laneState l.val = lnCDR → s.dev.fld (LANE_CTRL l.val) LANE_CTRL_TRAIN_EN = 0 →
    ∃ e, Sys2Proof.Machine.exec (.cdrLock l) s = .next ⟨e, s.pending⟩ ∧ e.laneState l.val = lnADAPT ∧ e.runsT (tLane l.val) = true ∧
    (e.lane l.val).adapted = true) ∧
  (∀ (l : LaneNo) (v : BitVec 32), s.dev.blockUp bkCORE = true → s.dev.laneState l.val = lnTRAIN →
    ∃ e, Sys2Proof.Machine.exec (.linkTrainingDone l v) s = .next ⟨e, s.pending⟩ ∧ e.laneState l.val = lnADAPT ∧
    e.num (LANE_TX_FFE l.val) = v.toNat) ∧
  (∀ (l : LaneNo), s.dev.blockUp bkCORE = true → s.dev.laneState l.val = lnADAPT → s.dev.converged l.val = true →
    ∃ e, Sys2Proof.Machine.exec (.adaptConverged l) s = .next ⟨e, s.pending⟩ ∧ e.laneState l.val = lnREADY ∧ e.runsT (tLane l.val) = false) ∧
  (∀ (l : LaneNo) (v : List Int) (x : Fin 6), s.dev.blockUp bkCORE = true →
    (s.dev.laneState l.val = lnADAPT ∨ s.dev.laneState l.val = lnREADY) →
    s.dev.loopLo (eqLoop l.val x.val) ≤ s.dev.int (LANE_EQ_VALUE l.val x.val) →
    s.dev.int (LANE_EQ_VALUE l.val x.val) ≤ s.dev.loopHi (eqLoop l.val x.val) →
    ∃ e, Sys2Proof.Machine.exec (.laneEqUpdate l v) s = .next ⟨e, s.pending⟩ ∧
    s.dev.loopLo (eqLoop l.val x.val) ≤ e.int (LANE_EQ_VALUE l.val x.val) ∧
    e.int (LANE_EQ_VALUE l.val x.val) ≤ s.dev.loopHi (eqLoop l.val x.val) ∧
    (e.int (LANE_EQ_VALUE l.val x.val) - s.dev.int (LANE_EQ_VALUE l.val x.val)).natAbs ≤ 1) ∧
  (∀ (l : LaneNo), s.dev.runsT (tLane l.val) = true → s.dev.pulses = [] → lnCDR ≤ s.dev.laneState l.val → s.dev.laneState l.val ≤ lnREADY →
    ∃ e, Sys2Proof.Machine.exec (.laneLimitExpiry l) s = .next ⟨e, s.pending⟩ ∧ e.laneState l.val = lnWAIT ∧
    e.num (LANE_RESTARTS l.val) = min (s.dev.num (LANE_RESTARTS l.val) + 1) (2 ^ 96 - 1) ∧ e.bit (LANE_STATUS l.val) LANE_STATUS_RESTART = true) ∧
  (∀ (l : LaneNo), s.dev.blockUp bkCORE = true → lnCDR ≤ s.dev.laneState l.val → s.dev.laneState l.val ≤ lnREADY →
    ∃ e, Sys2Proof.Machine.exec (.signalLoss l) s = .next ⟨e, s.pending⟩ ∧ e.laneState l.val = lnWAIT ∧
    e.num (LANE_RESTARTS l.val) = min (s.dev.num (LANE_RESTARTS l.val) + 1) (2 ^ 96 - 1) ∧ e.bit (LANE_STATUS l.val) LANE_STATUS_RESTART = true) ∧
  (∀ (l : LaneNo), s.dev.accepts (LANE_CTRL l.val) (withBits (s.dev.num (LANE_CTRL l.val) % 2 ^ 48) 0 1 1) → s.dev.laneMay l.val = true →
    lnCDR ≤ s.dev.laneState l.val → s.dev.laneState l.val ≤ lnREADY → ∃ e, Sys2Proof.Machine.exec (.laneRestart l) s = .next ⟨e, s.pending⟩ ∧
    e.reply.status = stOK ∧ e.laneState l.val = lnWAIT ∧ e.num (LANE_RESTARTS l.val) = min (s.dev.num (LANE_RESTARTS l.val) + 1) (2 ^ 96 - 1) ∧
    ChangesIn [.reply, .msix, .out, .pulses, .tk, .cls, .net, .pte, .cd, .lanes, .trk0, .trk1, .pwr, .obs, .crs] [0x01, 0x02, 0x04, 0x05, 0x06, 0x07, 0x08, 0x0A, 0x0E, 0x0F, 0x13, 0x14, 0x15, 0x16, 0x18, 0x19, 0x1A] s.dev e)

/-- A failed bundle fails the whole chiplet link, which is trained again every second until its bundles are READY. A margin scan shows its
margins and sets MARGIN_LIVE where one is too small. A checker that locks shows CHK_LOCK, on a trunk once all four pairs have; one adds
what it has compared to its counters, and loses its lock where more than 64 bits of that differ. An accepted INJ_ONE is counted on a lane;
an accepted START clears the result of an eye scan, whose end sets DONE with the disagreements. (R547, R548, R549, R562, R563, R564, R570) -/
def Obligations.ChipletAndTests : Prop := ∀ s : State,
  (∀ (b : BundleNo) (c : BitVec 16), s.dev.blockUp bkCORE = true → s.dev.laneState (0x300 + b.val) = lnREADY → 16 < c.toNat →
    ∃ e, Sys2Proof.Machine.exec (.bundleFail b c) s = .next ⟨e, s.pending⟩ ∧ e.laneState (0x300 + b.val) = lnFAILED ∧
    e.num (LANE_CL_CRC_ERR b.val) = min (s.dev.num (LANE_CL_CRC_ERR b.val) + c.toNat) (2 ^ 96 - 1) ∧ e.runsT (tBundle (b.val / 16)) = true) ∧
  (∀ (b : BundleNo) (c : BitVec 16), s.dev.blockUp bkCORE = true → s.dev.laneState (0x300 + b.val) = lnREADY → c.toNat ≤ 16 →
    ∃ e, Sys2Proof.Machine.exec (.bundleFail b c) s = .next ⟨e, s.pending⟩ ∧
    e.num (LANE_CL_CRC_ERR b.val) = min (s.dev.num (LANE_CL_CRC_ERR b.val) + c.toNat) (2 ^ 96 - 1) ∧ Changes [] [LANE_CL_CRC_ERR b.val] s.dev e) ∧
  (∀ (k : LinkNo) (b : Fin 16), s.dev.runsT (tBundle k.val) = true → s.dev.pulses = [] →
    ∃ e, Sys2Proof.Machine.exec (.bundleRetrain k) s = .next ⟨e, s.pending⟩ ∧ e.laneState (clBase k.val + b.val) = lnTRAIN ∧
    e.num (LANE_RESTARTS (clBase k.val + b.val)) = min (s.dev.num (LANE_RESTARTS (clBase k.val + b.val)) + 1) (2 ^ 96 - 1) ∧
    e.runsT (tBundle k.val) = true) ∧
  (∀ (k : LinkNo) (m : List Nat) (b : Fin 16), s.dev.blockUp bkCORE = true → s.dev.laneState (clBase k.val) = lnTRAIN →
    ∃ e, Sys2Proof.Machine.exec (.chipletLinkTrained k m) s = .next ⟨e, s.pending⟩ ∧ e.laneState (clBase k.val + b.val) = lnREADY ∧
    e.num (LANE_CL_MAP (16 * k.val + b.val)) = m.getD b.val 0 % 0x20000 ∧ e.runsT (tBundle k.val) = false) ∧
  (∀ (b : BundleNo) (x y t u : BitVec 8), s.dev.blockUp bkCORE = true →
    ∃ e, Sys2Proof.Machine.exec (.marginScan b x y t u) s = .next ⟨e, s.pending⟩ ∧
    e.num (LANE_CL_MARGIN b.val) = x.toNat * 2 ^ 40 + y.toNat * 2 ^ 32 + t.toNat * 0x100 + u.toNat ∧
    (e.bit (LANE_STATUS (0x300 + b.val)) LANE_STATUS_MARGIN = decide (x.toNat < 12 ∨ y.toNat < 12 ∨ t.toNat < 20 ∨ u.toNat < 20)) ∧
    Changes [.msix, .out] [LANE_CL_MARGIN b.val, LANE_STATUS (0x300 + b.val)] s.dev e) ∧
  (∀ (l : LaneNo), s.dev.fld (LANE_PRBS_CTRL l.val) LANE_PRBS_CTRL_CHK_EN = 1 → s.dev.laneState l.val = lnREADY →
    ∃ e, Sys2Proof.Machine.exec (.prbsCheckerLock (.lane l)) s = .next ⟨e, s.pending⟩ ∧ e.fld (LANE_PRBS_CTRL l.val) LANE_PRBS_CTRL_CHK_LOCK = 1 ∧
    Changes [] [LANE_PRBS_CTRL l.val] s.dev e) ∧
  (∀ (t : TrunkNo) (k : Fin 4), s.dev.fld (TRK_PRBS_CTRL t.val) TRK_PRBS_CTRL_CHK_EN = 1 → s.dev.cd.pLost = false →
    ∃ e, Sys2Proof.Machine.exec (.prbsCheckerLock (.trunk t k)) s = .next ⟨e, s.pending⟩ ∧
    (e.trk t.val).locks = (s.dev.trk t.val).locks ||| 2 ^ k.val ∧
    e.fld (TRK_PRBS_CTRL t.val) TRK_PRBS_CTRL_CHK_LOCK = (if (s.dev.trk t.val).locks ||| 2 ^ k.val = 15 then 1 else 0)) ∧
  (∀ (l : LaneNo) (n m : Word), s.dev.fld (LANE_PRBS_CTRL l.val) LANE_PRBS_CTRL_CHK_LOCK = 1 → 64 < m.toNat →
    ∃ e, Sys2Proof.Machine.exec (.prbsLockLoss (.lane l) n m) s = .next ⟨e, s.pending⟩ ∧
    e.fld (LANE_PRBS_CTRL l.val) LANE_PRBS_CTRL_CHK_LOCK = 0 ∧
    e.num (LANE_PRBS_BITS l.val) = min (s.dev.num (LANE_PRBS_BITS l.val) + n.toNat) (2 ^ 96 - 1) ∧
    e.num (LANE_PRBS_ERR l.val) = min (s.dev.num (LANE_PRBS_ERR l.val) + m.toNat) (2 ^ 96 - 1) ∧
    e.num (LANE_PRBS_RELOCK l.val) = min (s.dev.num (LANE_PRBS_RELOCK l.val) + 1) (2 ^ 96 - 1) ∧
    Changes [] [LANE_PRBS_CTRL l.val, LANE_PRBS_BITS l.val, LANE_PRBS_ERR l.val, LANE_PRBS_RELOCK l.val] s.dev e) ∧
  (∀ (l : LaneNo) (n m : Word), s.dev.fld (LANE_PRBS_CTRL l.val) LANE_PRBS_CTRL_CHK_LOCK = 1 → m.toNat ≤ 64 →
    ∃ e, Sys2Proof.Machine.exec (.prbsLockLoss (.lane l) n m) s = .next ⟨e, s.pending⟩ ∧
    e.num (LANE_PRBS_BITS l.val) = min (s.dev.num (LANE_PRBS_BITS l.val) + n.toNat) (2 ^ 96 - 1) ∧
    e.num (LANE_PRBS_ERR l.val) = min (s.dev.num (LANE_PRBS_ERR l.val) + m.toNat) (2 ^ 96 - 1) ∧
    Changes [] [LANE_PRBS_BITS l.val, LANE_PRBS_ERR l.val] s.dev e) ∧
  (∀ (t : TrunkNo) (k : Fin 4) (n m : Word), bitsAt (s.dev.trk t.val).locks k.val 1 = 1 → 64 < m.toNat →
    ∃ e, Sys2Proof.Machine.exec (.prbsLockLoss (.trunk t k) n m) s = .next ⟨e, s.pending⟩ ∧
    e.fld (TRK_PRBS_CTRL t.val) TRK_PRBS_CTRL_CHK_LOCK = 0 ∧
    e.num (TRK_PRBS_BITS t.val k.val) = min (s.dev.num (TRK_PRBS_BITS t.val k.val) + n.toNat) (2 ^ 96 - 1) ∧
    e.num (TRK_PRBS_ERR t.val k.val) = min (s.dev.num (TRK_PRBS_ERR t.val k.val) + m.toNat) (2 ^ 96 - 1)) ∧
  (∀ (t : TrunkNo) (k : Fin 4) (n m : Word), bitsAt (s.dev.trk t.val).locks k.val 1 = 1 → m.toNat ≤ 64 →
    ∃ e, Sys2Proof.Machine.exec (.prbsLockLoss (.trunk t k) n m) s = .next ⟨e, s.pending⟩ ∧
    e.num (TRK_PRBS_BITS t.val k.val) = min (s.dev.num (TRK_PRBS_BITS t.val k.val) + n.toNat) (2 ^ 96 - 1) ∧
    e.num (TRK_PRBS_ERR t.val k.val) = min (s.dev.num (TRK_PRBS_ERR t.val k.val) + m.toNat) (2 ^ 96 - 1) ∧
    Changes [] [TRK_PRBS_BITS t.val k.val, TRK_PRBS_ERR t.val k.val] s.dev e) ∧
  (∀ (l : LaneNo), s.dev.accepts (LANE_PRBS_CTRL l.val) (withBits (s.dev.num (LANE_PRBS_CTRL l.val) % 2 ^ 48) 19 1 1) →
    ∃ e, Sys2Proof.Machine.exec (.injOne (.lane l)) s = .next ⟨e, s.pending⟩ ∧ e.reply.status = stOK ∧
    e.num (LANE_PRBS_INJ l.val) = min (s.dev.num (LANE_PRBS_INJ l.val) + 1) (2 ^ 96 - 1) ∧
    ChangesIn [.reply, .msix, .out, .pulses, .tk, .cls, .net, .pte, .refc, .cd, .lanes, .trk0, .trk1, .pwr, .obs] [0x01, 0x02, 0x04, 0x05, 0x06, 0x07, 0x08, 0x0A, 0x0E, 0x0F, 0x13, 0x14, 0x15, 0x16, 0x1A] s.dev e) ∧
  (∀ (t : TrunkNo), s.dev.accepts (TRK_PRBS_CTRL t.val) (withBits (s.dev.num (TRK_PRBS_CTRL t.val) % 2 ^ 48) 19 1 1) →
    ∃ e, Sys2Proof.Machine.exec (.injOne (.trunk t 0)) s = .next ⟨e, s.pending⟩ ∧ e.reply.status = stOK ∧
    ChangesIn [.reply, .msix, .out, .pulses, .tk, .cls, .net, .pte, .refc, .cd, .lanes, .trk0, .trk1, .pwr, .obs] [0x01, 0x02, 0x04, 0x05, 0x06, 0x07, 0x08, 0x0A, 0x0E, 0x0F, 0x13, 0x14, 0x15, 0x16, 0x1A] s.dev e) ∧
  (∀ (l : LaneNo) (v : Word), s.dev.accepts (LANE_EYE_CTRL l.val) (v.toNat / 2 * 2 + 1) →
    ∃ e, Sys2Proof.Machine.exec (.eyeScanStart (.lane l) v) s = .next ⟨e, s.pending⟩ ∧ e.reply.status = stOK ∧ (e.lane l.val).eye = true ∧
    e.num (LANE_EYE_RESULT l.val) = 0 ∧ Changes [.reply, .lanes, .msix, .out] [LANE_EYE_CTRL l.val, LANE_EYE_RESULT l.val] s.dev e) ∧
  (∀ (t : TrunkNo) (v : Word), s.dev.accepts (TRK_EYE_CTRL t.val) (v.toNat / 2 * 2 + 1) →
    ∃ e, Sys2Proof.Machine.exec (.eyeScanStart (.trunk t 0) v) s = .next ⟨e, s.pending⟩ ∧ e.reply.status = stOK ∧ (e.trk t.val).eye = true ∧
    e.num (TRK_EYE_RESULT t.val) = 0) ∧
  (∀ (l : LaneNo) (n : Word), (s.dev.lane l.val).eye = true → ∃ e, Sys2Proof.Machine.exec (.eyeScanDone (.lane l) n) s = .next ⟨e, s.pending⟩ ∧
    (e.lane l.val).eye = false ∧ e.num (LANE_EYE_RESULT l.val) = 2 ^ 47 + min n.toNat (2 ^ 40 - 1) ∧
    Changes [.lanes] [LANE_EYE_RESULT l.val] s.dev e) ∧
  (∀ (t : TrunkNo) (n : Word), (s.dev.trk t.val).eye = true →
    ∃ e, Sys2Proof.Machine.exec (.eyeScanDone (.trunk t 0) n) s = .next ⟨e, s.pending⟩ ∧ (e.trk t.val).eye = false ∧
    e.num (TRK_EYE_RESULT t.val) = 2 ^ 47 + min n.toNat (2 ^ 40 - 1))

/-- The end of a Keep commit writes the item's next record, counts it and puts its value in force. A checkpoint goes to the other region. The
spare core's test begins at its time and ends with its state and a count; a core that fails with the spare free is fenced, counted and
replaced by it, management being down; a start that does not complete in 30 s is counted as a failure and begun again. A counter window
written with an ID begins a capture, whose end shows the value as a counter read gives it. (R585, R586, R604, R688, R689, R695, R699,
R700, R701) -/
def Obligations.StoreAndPatrol : Prop := ∀ s : State,
  (∀ (p : BitVec 32) (c : Commit), s.dev.trust.commits = [c] → c.item = p.toNat → c.owner = none → s.dev.trust.activate = none →
    keepItem p.toNat = true → [0, 1, 2, 3].any (fun k => p.toNat == CRS_KEY_INFO k) = false →
    ∃ e, Sys2Proof.Machine.exec (.keepCommitDone p) s = .next ⟨e, s.pending⟩ ∧ e.num p.toNat = c.value % 2 ^ 48 ∧
    e.keepSeq p.toNat = s.dev.keepSeq p.toNat + 1 ∧ e.trust.commits = [] ∧
    e.num (TRUST_KEEP_COMMITS) = min (s.dev.num (TRUST_KEEP_COMMITS) + 1) (2 ^ 96 - 1)) ∧
  (s.dev.blockUp bkPATROL = true → s.dev.bit GLB_STATE GLB_STATE_GAP = false → s.dev.pulses = [] →
    ∃ e, Sys2Proof.Machine.exec .checkpoint s = .next ⟨e, s.pending⟩ ∧ e.trust.ckptRegion = 1 - s.dev.trust.ckptRegion ∧
    e.trust.ckpts = s.dev.trust.ckpts + 1 ∧ e.trust.ckptAt = max s.dev.tk.osc (s.dev.trust.ckptAt + 100 * ms1) ∧ e.tk.osc = e.trust.ckptAt ∧
    Changes [.trust, .tk] [] s.dev e) ∧
  (∀ (t : Nat), s.dev.trust.testAt = some t → s.dev.fld TRUST_PATROL TRUST_PATROL_SPARE < 2 → s.dev.pulses = [] →
    ∃ e, Sys2Proof.Machine.exec .spareSelfTest s = .next ⟨e, s.pending⟩ ∧ e.fld TRUST_PATROL TRUST_PATROL_SPARE = 3 ∧
    e.tk.time = max s.dev.tk.time (t + s.dev.fld TRUST_CTRL TRUST_CTRL_TEST_PERIOD * 3600 * sec1)) ∧
  (∀ (x : Bool), s.dev.blockUp bkPATROL = true → s.dev.fld TRUST_PATROL TRUST_PATROL_SPARE = 3 →
    ∃ e, Sys2Proof.Machine.exec (.spareTestEnd x) s = .next ⟨e, s.pending⟩ ∧ e.fld TRUST_PATROL TRUST_PATROL_SPARE = (if x then 0 else 1) ∧
    e.bit TRUST_STATUS TRUST_STATUS_SPARE = !x ∧ e.num (TRUST_SPARE_TESTS) = min (s.dev.num (TRUST_SPARE_TESTS) + 1) (2 ^ 96 - 1) ∧
    e.trust.testAt = some s.dev.tk.time ∧ Changes [.trust, .msix, .out] [TRUST_PATROL, TRUST_STATUS, TRUST_SPARE_TESTS] s.dev e) ∧
  (∀ (k : Fin 5), s.dev.blockUp bkPATROL = true → s.dev.bit GLB_STATE GLB_STATE_GAP = false → k.val ≠ 4 →
    bitsAt (s.dev.fld TRUST_PATROL TRUST_PATROL_FENCED) k.val 1 = 0 → s.dev.bit TRUST_STATUS TRUST_STATUS_SPARE = false →
    s.dev.fld TRUST_PATROL TRUST_PATROL_SPARE ≠ 2 → ∃ e, Sys2Proof.Machine.exec (.failOver (some k)) s = .next ⟨e, s.pending⟩ ∧
    e.num (TRUST_FAILOVERS) = min (s.dev.num (TRUST_FAILOVERS) + 1) (2 ^ 96 - 1) ∧ e.fld TRUST_PATROL TRUST_PATROL_SPARE = 2 ∧
    bitsAt (e.fld TRUST_PATROL TRUST_PATROL_FENCED) k.val 1 = 1 ∧ e.bit GLB_STATE GLB_STATE_GAP = true ∧ e.fld GLB_STATE GLB_STATE_READY = 0) ∧
  (s.dev.runsT tReady = true → s.dev.trust.fails < 2 → s.dev.pulses = [] → (s.dev.flash s.dev.runBank).isSome = true →
    ∃ e, Sys2Proof.Machine.exec .readyTimeout s = .next ⟨e, s.pending⟩ ∧ e.trust.fails = s.dev.trust.fails + 1 ∧ e.runBank = s.dev.runBank) ∧
  (∀ (k : SlotNo) (p : BitVec 32), s.dev.host.linkUp = true → ∃ e, Sys2Proof.Machine.exec (.cntwIdWrite k p) s = .next ⟨e, s.pending⟩ ∧
    (e.cntSlot k.val).id = p.toNat ∧ (e.cntSlot k.val).wait = true ∧ (e.cntSlot k.val).done = false ∧ Changes [.obs] [] s.dev e) ∧
  (∀ (k : SlotNo), (s.dev.cntSlot k.val).wait = true → s.dev.readable (s.dev.cntSlot k.val).id = true →
    ∃ e, Sys2Proof.Machine.exec (.counterCaptureDone k) s = .next ⟨e, s.pending⟩ ∧
    (e.cntSlot k.val).value = (s.dev.shown (s.dev.cntSlot k.val).id).toNat ∧ (e.cntSlot k.val).wait = false ∧ (e.cntSlot k.val).done = true ∧
    Changes [.obs, .freeCtr] [] s.dev e) ∧
  (∀ (t : Nat), Tbl.get s.dev.net.timers none tIpfix = some t → s.dev.pulses = [] →
    ∃ e, Sys2Proof.Machine.exec .ipfixTemplateRefresh s = .next ⟨e, s.pending⟩ ∧
    Tbl.get e.net.timers none tIpfix = some (max s.dev.tk.osc t + bitsAt (s.dev.num CNT_IPFIX_CTRL) 16 16 * sec1))

/-- While Cresor runs, a HELLO leaves on a link that carries it, the node having the ID that its parameters give. A first HELLO on a link is
taken: its sender is the neighbour, the adjacency is FULL where the HELLO names this node and INIT otherwise, and DEAD_MS runs; without
HELLOs until it expires the adjacency is DOWN. A refreshed LSR has the next SEQ and is refreshed again. An LSR of a node without one is
stored and ages; one not refreshed is removed with its route. One neighbour whose LSR lists this node gives one route, over its link at
its cost. (R656, R661, R663, R664, R666, R667, R668) -/
def Obligations.FabricLinks : Prop := ∀ s : State,
  (∀ (k : CrsNo), s.dev.crsOn = true → s.dev.crs.ctrl = s.dev.num CRS_CTRL → s.dev.crs.lost = false → s.dev.crs.id = s.dev.crsWant →
    s.dev.crs.links = [] → s.dev.txKey.isSome = true → s.dev.crsLinkUp k.val = true →
    ∃ e, Sys2Proof.Machine.exec .helloTx s = .next ⟨e, s.pending⟩ ∧ e.crs.id = s.dev.crsWant ∧
    e.num (CRS_LINK_TX (crsInst k.val)) = min (s.dev.num (CRS_LINK_TX (crsInst k.val)) + 1) (2 ^ 96 - 1)) ∧
  (s.dev.crsOn = true → s.dev.crs.ctrl = s.dev.num CRS_CTRL → s.dev.crs.lost = false →
    ∃ e, Sys2Proof.Machine.exec .helloTx s = .next ⟨e, s.pending⟩ ∧ e.crs.id = s.dev.crsWant) ∧
  (∀ (k : CrsNo) (perm : Nat) (m : List Byte) (rest : List (Nat × Nat × List Byte)), s.dev.crs.inbox = (k.val, perm, m) :: rest →
    cmType m = csHELLO → s.dev.crsOn = true → s.dev.crsLinkUp k.val = true → s.dev.txKey.isSome = true → (s.dev.crsLink k.val).heard = [] →
    s.dev.adj k.val = adDOWN → ∃ e, Sys2Proof.Machine.exec .helloRx s = .next ⟨e, s.pending⟩ ∧ e.crs.inbox = rest ∧
    (e.crsLink k.val).heard = [leNat (slice (cmPay m) 0 8)] ∧ e.adjNode k.val = leNat (slice (cmPay m) 8 2) ∧
    e.adj k.val = (if leNat (slice (cmPay m) 12 4) = Config.serial.toNat % 2 ^ 32 then adFULL else adINIT) ∧ e.runsT (tDead k.val) = true) ∧
  (∀ (k : CrsNo), s.dev.runsT (tDead k.val) = true → s.dev.bit GLB_STATE GLB_STATE_GAP = false → s.dev.pulses = [] →
    ∃ e, Sys2Proof.Machine.exec (.deadMsExpiry k) s = .next ⟨e, s.pending⟩ ∧ e.adj k.val = adDOWN ∧ (e.crsLink k.val).heard = []) ∧
  (s.dev.crsOn = true → s.dev.crs.id ≠ 0 → s.dev.txKey.isSome = true → s.dev.runsT tLsr = true → s.dev.pulses = [] →
    ∃ e, Sys2Proof.Machine.exec .lsrRefresh s = .next ⟨e, s.pending⟩ ∧ e.crs.lsrSeq = (s.dev.crs.lsrSeq + 1) % 2 ^ 32 ∧ e.runsT tLsr = true) ∧
  (∀ (i : Nat) (perm : Nat) (m : List Byte) (rest : List (Nat × Nat × List Byte)), s.dev.crs.inbox = (i, perm, m) :: rest → cmType m = csLSR →
    leNat (slice (cmPay m) 0 8) ≠ Config.serial.toNat → cmSrc m ≠ 0 → cmSrc m ≠ 0xFFFF → cmSrc m ≠ s.dev.crs.id → s.dev.crs.db = [] →
    ∃ e, Sys2Proof.Machine.exec .lsrRx s = .next ⟨e, s.pending⟩ ∧ e.crs.inbox = rest ∧
    e.crs.db.map (fun l => (l.node, l.serial, l.seq)) = [(cmSrc m, leNat (slice (cmPay m) 0 8), leNat (slice (cmPay m) 8 4))] ∧
    e.runsT (tAge (cmSrc m)) = true) ∧
  (∀ (n : BitVec 16), s.dev.runsT (tAge n.toNat) = true → s.dev.bit GLB_STATE GLB_STATE_GAP = false → s.dev.pulses = [] →
    ∃ e, Sys2Proof.Machine.exec (.lsrMaxageExpiry n) s = .next ⟨e, s.pending⟩ ∧ e.crs.db = s.dev.crs.db.filter (fun l => l.node != n.toNat) ∧
    e.crs.routes = s.dev.crs.routes.filter (fun r => r.node != n.toNat)) ∧
  (∀ (a b : CrsAdj) (l : Lsr), s.dev.crsOn = true → s.dev.crs.id ≠ 0 → s.dev.crsEntries = [a] → s.dev.crs.db = [l] → l.node = a.node →
    a.node ≠ s.dev.crs.id → l.frag0 = [b] → l.frag1 = [] → b.node = s.dev.crs.id →
    ∃ e, Sys2Proof.Machine.exec .routeComputation s = .next ⟨e, s.pending⟩ ∧ e.crs.routes = [⟨a.node, a.cost, a.node, a.link⟩]) ∧
  (s.dev.bit GLB_STATE GLB_STATE_GAP = false → (s.dev.crsOn = false ∨ s.dev.crs.id = 0) →
    ∃ e, Sys2Proof.Machine.exec .routeComputation s = .next ⟨e, s.pending⟩ ∧ e.crs.routes = [])

/-- A message on a link that carries Cresor is counted there. One without the form of R658 counts in CRS_BAD, one without a good tag in
CRS_AUTH_FAIL, with AUTH_STICKY set, one older than the window in CRS_REPLAY and one seen before in CRS_DUP. A good HELLO, or another
message to this node, is counted in CRS_RX and kept, and one to a node without a route counts in CRS_NO_ROUTE. A RESET that its key and
CRS_PERM permit, of a KIND there is, acts 10 ms later; without the permission it is discarded. (R657, R658, R660, R662, R669, R672, R723) -/
def Obligations.FabricMessages : Prop := ∀ s : State,
  (∀ (t : Term) (rest : List Term), s.dev.bit GLB_STATE GLB_STATE_GAP = false → s.dev.crsOn = true → s.dev.net.inbox = t :: rest → t.kind = 3 →
    t.lp < 0x102 → s.dev.crsLinkUp t.lp = true → crsForm t.bytes = false → ∃ e, Sys2Proof.Machine.exec .cresorMessageRx s = .next ⟨e, s.pending⟩ ∧
    e.net.inbox = rest ∧ e.num (CRS_LINK_RX (crsInst t.lp)) = min (s.dev.num (CRS_LINK_RX (crsInst t.lp)) + 1) (2 ^ 96 - 1) ∧
    e.num (CRS_BAD) = min (s.dev.num (CRS_BAD) + 1) (2 ^ 96 - 1)) ∧
  (∀ (t : Term) (rest : List Term), s.dev.bit GLB_STATE GLB_STATE_GAP = false → s.dev.crsOn = true → s.dev.net.inbox = t :: rest → t.kind = 3 →
    t.lp < 0x102 → s.dev.crsLinkUp t.lp = true → crsForm t.bytes = true → s.dev.crsAuth t.bytes = none →
    ∃ e, Sys2Proof.Machine.exec .cresorMessageRx s = .next ⟨e, s.pending⟩ ∧ e.net.inbox = rest ∧
    e.num (CRS_LINK_RX (crsInst t.lp)) = min (s.dev.num (CRS_LINK_RX (crsInst t.lp)) + 1) (2 ^ 96 - 1) ∧
    e.num (CRS_AUTH_FAIL) = min (s.dev.num (CRS_AUTH_FAIL) + 1) (2 ^ 96 - 1) ∧ e.bit CRS_STATUS (CRS_STATUS_AUTH + 1) = true) ∧
  (∀ (t : Term) (rest : List Term) (perm : Nat), s.dev.bit GLB_STATE GLB_STATE_GAP = false → s.dev.crsOn = true → s.dev.net.inbox = t :: rest →
    t.kind = 3 → t.lp < 0x102 → s.dev.crsLinkUp t.lp = true → crsForm t.bytes = true → s.dev.crsAuth t.bytes = some perm →
    (cmType t.bytes = csHELLO ∨ s.dev.adj t.lp = adFULL) →
    (crsJudge (Tbl.get s.dev.crs.wins none (cmSrc t.bytes)) (cmBoot t.bytes) (cmSeq t.bytes)).1 = 1 →
    ∃ e, Sys2Proof.Machine.exec .cresorMessageRx s = .next ⟨e, s.pending⟩ ∧ e.net.inbox = rest ∧ e.crs.inbox = s.dev.crs.inbox ∧
    e.num (CRS_LINK_RX (crsInst t.lp)) = min (s.dev.num (CRS_LINK_RX (crsInst t.lp)) + 1) (2 ^ 96 - 1) ∧
    e.num (CRS_REPLAY) = min (s.dev.num (CRS_REPLAY) + 1) (2 ^ 96 - 1)) ∧
  (∀ (t : Term) (rest : List Term) (perm : Nat), s.dev.bit GLB_STATE GLB_STATE_GAP = false → s.dev.crsOn = true → s.dev.net.inbox = t :: rest →
    t.kind = 3 → t.lp < 0x102 → s.dev.crsLinkUp t.lp = true → crsForm t.bytes = true → s.dev.crsAuth t.bytes = some perm →
    (cmType t.bytes = csHELLO ∨ s.dev.adj t.lp = adFULL) →
    (crsJudge (Tbl.get s.dev.crs.wins none (cmSrc t.bytes)) (cmBoot t.bytes) (cmSeq t.bytes)).1 = 2 →
    ∃ e, Sys2Proof.Machine.exec .cresorMessageRx s = .next ⟨e, s.pending⟩ ∧ e.net.inbox = rest ∧ e.crs.inbox = s.dev.crs.inbox ∧
    e.num (CRS_LINK_RX (crsInst t.lp)) = min (s.dev.num (CRS_LINK_RX (crsInst t.lp)) + 1) (2 ^ 96 - 1) ∧
    e.num (CRS_DUP) = min (s.dev.num (CRS_DUP) + 1) (2 ^ 96 - 1)) ∧
  (∀ (t : Term) (rest : List Term) (perm : Nat), s.dev.bit GLB_STATE GLB_STATE_GAP = false → s.dev.crsOn = true → s.dev.net.inbox = t :: rest →
    t.kind = 3 → t.lp < 0x102 → s.dev.crsLinkUp t.lp = true → crsForm t.bytes = true → s.dev.crsAuth t.bytes = some perm →
    (cmType t.bytes = csHELLO ∨ s.dev.adj t.lp = adFULL) →
    (crsJudge (Tbl.get s.dev.crs.wins none (cmSrc t.bytes)) (cmBoot t.bytes) (cmSeq t.bytes)).1 = 0 →
    (cmType t.bytes = csHELLO ∨ (cmDst t.bytes = s.dev.crs.id ∧ s.dev.crs.id ≠ 0 ∧ s.dev.crs.id ≠ 0xFFFF)) →
    ∃ e, Sys2Proof.Machine.exec .cresorMessageRx s = .next ⟨e, s.pending⟩ ∧ e.net.inbox = rest ∧
    e.crs.inbox = s.dev.crs.inbox ++ [(t.lp, perm, t.bytes)] ∧
    e.num (CRS_LINK_RX (crsInst t.lp)) = min (s.dev.num (CRS_LINK_RX (crsInst t.lp)) + 1) (2 ^ 96 - 1) ∧
    e.num (CRS_RX) = min (s.dev.num (CRS_RX) + 1) (2 ^ 96 - 1)) ∧
  (∀ (t : Term) (rest : List Term) (perm : Nat), s.dev.bit GLB_STATE GLB_STATE_GAP = false → s.dev.crsOn = true → s.dev.net.inbox = t :: rest →
    t.kind = 3 → t.lp < 0x102 → s.dev.crsLinkUp t.lp = true → crsForm t.bytes = true → s.dev.crsAuth t.bytes = some perm →
    (cmType t.bytes = csHELLO ∨ s.dev.adj t.lp = adFULL) →
    (crsJudge (Tbl.get s.dev.crs.wins none (cmSrc t.bytes)) (cmBoot t.bytes) (cmSeq t.bytes)).1 = 0 → cmType t.bytes ≠ csHELLO →
    cmDst t.bytes ≠ 0xFFFF → cmDst t.bytes ≠ s.dev.crs.id → s.dev.route (cmDst t.bytes) = none →
    ∃ e, Sys2Proof.Machine.exec .cresorMessageRx s = .next ⟨e, s.pending⟩ ∧ e.net.inbox = rest ∧ e.crs.inbox = s.dev.crs.inbox ∧
    e.num (CRS_RX) = min (s.dev.num (CRS_RX) + 1) (2 ^ 96 - 1) ∧ e.num (CRS_NO_ROUTE) = min (s.dev.num (CRS_NO_ROUTE) + 1) (2 ^ 96 - 1)) ∧
  (∀ (i : Nat) (perm : Nat) (m : List Byte) (rest : List (Nat × Nat × List Byte)), s.dev.crs.inbox = (i, perm, m) :: rest → cmType m = csRESET →
    s.dev.crsMay perm 4 = true → [rkMODULE, rkDATA_PLANE, rkPATROL].contains (byteAt (cmPay m) 0) = true →
    ∃ e, Sys2Proof.Machine.exec .resetMessageRx s = .next ⟨e, s.pending⟩ ∧ e.crs.inbox = rest ∧
    e.pwr.crsReset = s.dev.pwr.crsReset ++ [(byteAt (cmPay m) 0, cmSrc m, s.dev.tk.osc + 10 * ms1)]) ∧
  (∀ (i : Nat) (perm : Nat) (m : List Byte) (rest : List (Nat × Nat × List Byte)), s.dev.crs.inbox = (i, perm, m) :: rest → cmType m = csRESET →
    s.dev.crsMay perm 4 = false → ∃ e, Sys2Proof.Machine.exec .resetMessageRx s = .next ⟨e, s.pending⟩ ∧ e.crs.inbox = rest ∧ e.pwr = s.dev.pwr ∧
    Changes [.crs] [] s.dev e)

/-- A CRESOR_SEND REQUEST that passes its checks to one node is outstanding under the next number until TIMEOUT_MS. A RESPONSE in one message
completes it, OK, or DEGRADED where ADDR's buffer was too short; its timeout completes it DEGRADED. A permitted PORT_ADMIN that a REQUEST
carries is executed. KEY_LOAD and KEY_CLEAR that pass their checks begin the commit of the key slot. (R670, R671, R672, R673, R674, R689) -/
def Obligations.FabricRequests : Prop := ∀ s : State,
  (∀ (r : RingNo) (tag : Byte) (x : BitVec 512) (c : Cmd), s.dev.mayStartCmd r.val tag.toNat 0x70 c → byteAt c.par 0 = 1 →
    s.dev.cresorStatus c.par (byteAt (entryBytes x) 0) = stOK → csDest c.par ≠ 0xFFFF →
    ∃ e, Sys2Proof.Machine.exec (.cresorSendRequest r tag x) s = .next ⟨e, s.pending⟩ ∧
    e.crs.reqs.map (fun q => (q.corr, q.dest)) = s.dev.crs.reqs.map (fun q => (q.corr, q.dest)) ++ [(s.dev.crs.corr, csDest c.par)] ∧
    e.crs.corr = (s.dev.crs.corr + 1) % 2 ^ 32 ∧ e.runsT (tReq s.dev.crs.corr) = true) ∧
  (∀ (q : CrsReq) (r : RingNo) (tag : Byte) (c : Cmd) (i : Nat) (perm : Nat) (m : List Byte) (rest : List (Nat × Nat × List Byte)), s.dev.crs.reqs = [q] →
    q.owner = (r.val, tag.toNat) → s.dev.cmdOf r.val tag.toNat = some c → c.started = true → c.gap = false →
    s.dev.crs.inbox = (i, perm, m) :: rest → cmType m = csRESPONSE → q.corr = cmCorr m → q.dest = cmSrc m → q.dest ≠ 0xFFFF → q.frags = [] →
    cmFrag m = 0 → cmFrags m = 1 → ∃ e, Sys2Proof.Machine.exec .responseRx s = .next ⟨e, s.pending⟩ ∧ e.crs.reqs = [] ∧ e.crs.inbox = rest ∧
    e.reply.status = (if q.len < (cmPay m).length then stDEGRADED else stOK) ∧ e.reply.result = byteAt (cmPay m) 1) ∧
  (∀ (k : BitVec 32) (q : CrsReq) (r : RingNo) (tag : Byte) (c : Cmd), s.dev.crs.reqs = [q] → q.owner = (r.val, tag.toNat) →
    s.dev.cmdOf r.val tag.toNat = some c → c.started = true → c.gap = false → q.corr = k.toNat → q.dest ≠ 0xFFFF → s.dev.pulses = [] →
    ∃ e, Sys2Proof.Machine.exec (.cresorRequestTimeout k) s = .next ⟨e, s.pending⟩ ∧ e.crs.reqs = [] ∧ e.reply.status = stDEGRADED ∧
    e.reply.result = 0xFFFFFFFF ∧ e.runsT (tReq k.toNat) = false) ∧
  (∀ (i : Nat) (perm : Nat) (m : List Byte) (rest : List (Nat × Nat × List Byte)) (n : LpNo), s.dev.serving = true →
    s.dev.crs.inbox = (i, perm, m) :: rest → cmType m = csREQUEST → cmLen m = 64 → cmSrc m ≠ s.dev.crs.id →
    entryReserved (slice (cmPay m) 0 64) = false → (cmdOfBytes (slice (cmPay m) 0 64)).op = 0x50 → s.dev.crsMay perm 1 = true →
    byteAt (cmdOfBytes (slice (cmPay m) 0 64)).par 0 = 1 → byteAt (cmdOfBytes (slice (cmPay m) 0 64)).par 1 = 0 →
    zeros (slice (cmdOfBytes (slice (cmPay m) 0 64)).par 4 36) = true → leNat (slice (cmdOfBytes (slice (cmPay m) 0 64)).par 2 2) = n.val →
    (s.dev.speedOf n.val).isSome = true → ∃ e, Sys2Proof.Machine.exec .requestRx s = .next ⟨e, s.pending⟩ ∧ e.crs.inbox = rest ∧
    e.admin n.val = true) ∧
  (∀ (r : RingNo) (tag : Byte) (x : BitVec 384) (c : Cmd), s.dev.mayStartCmd r.val tag.toNat 0x70 c → byteAt c.par 0 = 2 →
    s.dev.cresorStatus c.par 0 = stOK → Tbl.get s.dev.crs.keys none (csSlot c.par) = none →
    ∃ e, Sys2Proof.Machine.exec (.keyLoad r tag x) s = .next ⟨e, s.pending⟩ ∧
    e.trust.commits = s.dev.trust.commits ++ [⟨CRS_KEY_INFO (csSlot c.par), (KeySlot.mk (leBytes 48 x.toNat) (csKeyId c.par) (csPerm c.par) (csFlags c.par)).num, some (r.val, tag.toNat)⟩] ∧
    Changes [.host, .trust] [] s.dev e) ∧
  (∀ (r : RingNo) (tag : Byte) (c : Cmd) (k : KeySlot), s.dev.mayStartCmd r.val tag.toNat 0x70 c → byteAt c.par 0 = 3 →
    s.dev.cresorStatus c.par 0 = stOK → Tbl.get s.dev.crs.keys none (csSlot c.par) = some k → k.num ≠ 0 →
    ∃ e, Sys2Proof.Machine.exec (.keyClear r tag) s = .next ⟨e, s.pending⟩ ∧
    e.trust.commits = s.dev.trust.commits ++ [⟨CRS_KEY_INFO (csSlot c.par), 0, some (r.val, tag.toNat)⟩] ∧ Changes [.host, .trust] [] s.dev e)

/-- An access that is not a naturally aligned 32-bit access reads 0xFF in every byte, or writes nothing. A read of the lower register of a
split value answers with its lower 32 bits and latches the rest, which the next read of the higher register answers with. A write of the
lower register is held, and the write of the higher one makes the whole value take effect, as a ring's or a channel's base shows. A
register or item without a row of its own is written under its access code. (R10, R11, R13, R614, R624, R642) -/
def Obligations.BarAccess : Prop := ∀ s : State,
  (∀ (off : BitVec 24) (n : Fin 4097), s.dev.host.linkUp = true → (n.val ≠ 4 ∨ off.toNat % 4 ≠ 0) →
    ∃ e, Sys2Proof.Machine.exec (.barWrongWidthAccess off n false) s = .next ⟨e, s.pending⟩ ∧ e.reply.data = List.replicate n.val 0xFF ∧
    Changes [.reply] [] s.dev e) ∧
  (∀ (off : BitVec 24) (n : Fin 4097), ∃ e, Sys2Proof.Machine.exec (.barWrongWidthAccess off n true) s = .next ⟨e, s.pending⟩ ∧
    e.host = s.dev.host ∧ Changes [] [] s.dev e) ∧
  (∀ (fn : FnNo) (off : BitVec 24) (o : Nat), s.dev.host.linkUp = true → off.toNat % 4 = 0 → barOff fn.val off.toNat = some o →
    isSplitLow o = true → ∃ e, Sys2Proof.Machine.exec (.splitLowRegisterRead fn .bar0 off) s = .next ⟨e, s.pending⟩ ∧
    e.reply.value = s.dev.splitValue o % 2 ^ 32 ∧ Tbl.get e.host.splitRead none o = some (s.dev.splitValue o / 2 ^ 32) ∧
    Changes [.reply, .host] [] s.dev e) ∧
  (∀ (fn : FnNo) (off : BitVec 24) (o u : Nat), s.dev.host.linkUp = true → off.toNat % 4 = 0 → barOff fn.val off.toNat = some o →
    isSplitLow o = false → 4 ≤ o → isSplitLow (o - 4) = true → Tbl.get s.dev.host.splitRead none (o - 4) = some u →
    ∃ e, Sys2Proof.Machine.exec (.splitLowRegisterRead fn .bar0 off) s = .next ⟨e, s.pending⟩ ∧ e.reply.value = u + s.dev.splitAbove (o - 4) ∧
    Tbl.get e.host.splitRead none (o - 4) = none ∧ Changes [.reply, .host] [] s.dev e) ∧
  (∀ (fn : FnNo) (off : BitVec 24) (v : BitVec 32) (o : Nat), s.dev.host.linkUp = true → off.toNat % 4 = 0 → barOff fn.val off.toNat = some o →
    isSplitLow o = true → ∃ e, Sys2Proof.Machine.exec (.splitLowRegisterWrite fn off v) s = .next ⟨e, s.pending⟩ ∧
    Tbl.get e.host.splitHeld none o = some v.toNat ∧ Changes [.host] [] s.dev e) ∧
  (∀ (off : BitVec 24) (v : BitVec 32) (r : RingNo) (low : Nat), s.dev.host.linkUp = true → off.toNat = ringReg r.val 4 →
    Tbl.get s.dev.host.splitHeld none (ringReg r.val 0) = some low → (s.dev.ring r.val).enable = false → s.dev.quiesced r.val = true →
    ∃ e, Sys2Proof.Machine.exec (.splitHighRegisterWrite 0 off v) s = .next ⟨e, s.pending⟩ ∧
    (e.ring r.val).cmdBase = (v.toNat * 2 ^ 32 + low) % 2 ^ 64 / 64 * 64 ∧ Tbl.get e.host.splitHeld none (ringReg r.val 0) = none ∧
    Changes [.host] [] s.dev e) ∧
  (∀ (off : BitVec 24) (v : BitVec 32) (c : ChanNo) (low : Nat), s.dev.host.linkUp = true → off.toNat = dmaReg c.val 4 →
    Tbl.get s.dev.host.splitHeld none (dmaReg c.val 0) = some low → (s.dev.ch c.val).state = dsIDLE →
    ∃ e, Sys2Proof.Machine.exec (.splitHighRegisterWrite 0 off v) s = .next ⟨e, s.pending⟩ ∧ (e.ch c.val).head = v.toNat * 2 ^ 32 + low ∧
    Tbl.get e.host.splitHeld none (dmaReg c.val 0) = none ∧ Changes [.host, .dma] [] s.dev e) ∧
  (∀ (i : BitVec 32) (v : Word), s.dev.accepts i.toNat v.toNat → keepItem i.toNat = false →
    [TK_SET 0, TK_SET 1, PWR_RESET].contains i.toNat = false → ∃ e, Sys2Proof.Machine.exec (.registerWrite (.item i v)) s = .next ⟨e, s.pending⟩ ∧
    e.reply.status = stOK) ∧
  (∀ (i : BitVec 32) (v : Word), s.dev.accepts i.toNat v.toNat → i.toNat = CRS_PERM → s.dev.noFabric →
    ∃ e, Sys2Proof.Machine.exec (.registerWrite (.item i v)) s = .next ⟨e, s.pending⟩ ∧ e.reply.status = stOK ∧
    e.num i.toNat % 32 = v.toNat % 32 ∧ Changes [.reply] [CRS_PERM] s.dev e) ∧
  (∀ (off : BitVec 24) (v : BitVec 32) (c : ChanNo), s.dev.host.linkUp = true → off.toNat = dmaReg c.val 0x20 → s.dev.noFabric →
    ∃ e, Sys2Proof.Machine.exec (.registerWrite (.reg 0 .bar0 off v)) s = .next ⟨e, s.pending⟩ ∧ (e.ch c.val).irqCfg = v.toNat ∧
    Changes [.dma, .crs] [CRS_STATUS] s.dev e)

/-- ENABLE set on a quiesced ring zeroes its four indices, and cleared leaves its sizes and indices. An index written within what R626 allows
is taken, and otherwise the write is discarded with CFG_STICKY. The ring served next fetches its command, which is in flight; a duplicate
TAG completes BUSY, and a reserved field or an opcode not listed BAD_PARAM, with CMD_HEAD advanced. A PARAM_READ that passes its checks
completes OK with COUNT and the first item's value, its items written to ADDR where that is not 0. A PARAM_WRITE of one item that passes
its checks completes OK with the value in force; where any of its items fails its checks none of them is written, and the status is that
of the first to fail. (R624, R626, R627, R629, R633, R12, R639, R640) -/
def Obligations.Mailbox : Prop := ∀ s : State,
  (∀ (r : RingNo) (v : BitVec 32), s.dev.host.linkUp = true → (s.dev.ring r.val).enable = false → s.dev.quiesced r.val = true →
    4 ≤ v.toNat / 0x100 % 16 ∧ v.toNat / 0x100 % 16 ≤ 12 ∧ 8 ≤ v.toNat / 0x1000 % 16 ∧ v.toNat / 0x1000 % 16 ≤ 12 →
    ∃ e, Sys2Proof.Machine.exec (.mbxEnableSet r v) s = .next ⟨e, s.pending⟩ ∧ (e.ring r.val).enable = true ∧
    ((e.ring r.val).cmdTail, (e.ring r.val).cmdHead, (e.ring r.val).cplHead, (e.ring r.val).cplTail) = (0, 0, 0, 0) ∧
    (e.ring r.val).cmdLog = v.toNat / 0x100 % 16 ∧ (e.ring r.val).cplLog = v.toNat / 0x1000 % 16 ∧ Changes [.host] [MBX_ST r.val] s.dev e) ∧
  (∀ (r : RingNo) (v : BitVec 32), s.dev.host.linkUp = true → v.toNat / 0x100 % 16 = (s.dev.ring r.val).cmdLog →
    v.toNat / 0x1000 % 16 = (s.dev.ring r.val).cplLog → 4 ≤ v.toNat / 0x100 % 16 ∧ v.toNat / 0x100 % 16 ≤ 12 ∧ 8 ≤ v.toNat / 0x1000 % 16 ∧
    v.toNat / 0x1000 % 16 ≤ 12 → ∃ e, Sys2Proof.Machine.exec (.mbxEnableClear r v) s = .next ⟨e, s.pending⟩ ∧
    (e.ring r.val) = ⟨(s.dev.ring r.val).cmdBase, (s.dev.ring r.val).cplBase, (s.dev.ring r.val).cmdLog, (s.dev.ring r.val).cplLog, false, (s.dev.ring r.val).cmdTail, (s.dev.ring r.val).cmdHead, (s.dev.ring r.val).cplHead, (s.dev.ring r.val).cplTail, (s.dev.ring r.val).inflight⟩ ∧
    Changes [.host] [] s.dev e) ∧
  (∀ (r : RingNo) (v : BitVec 32), s.dev.host.linkUp = true →
    idxDist (s.dev.ring r.val).cmdHead (s.dev.ring r.val).cmdTail ≤ idxDist (s.dev.ring r.val).cmdHead (v.toNat % 0x10000) →
    idxDist (s.dev.ring r.val).cmdHead (v.toNat % 0x10000) ≤ 2 ^ (s.dev.ring r.val).cmdLog →
    ∃ e, Sys2Proof.Machine.exec (.mbxCmdTailWrite r v) s = .next ⟨e, s.pending⟩ ∧ (e.ring r.val).cmdTail = v.toNat % 0x10000 ∧
    Changes [.host] [] s.dev e) ∧
  (∀ (r : RingNo) (v : BitVec 32), s.dev.host.linkUp = true →
    (idxDist (s.dev.ring r.val).cmdHead (v.toNat % 0x10000) < idxDist (s.dev.ring r.val).cmdHead (s.dev.ring r.val).cmdTail ∨ 2 ^ (s.dev.ring r.val).cmdLog < idxDist (s.dev.ring r.val).cmdHead (v.toNat % 0x10000)) →
    ∃ e, Sys2Proof.Machine.exec (.mbxCmdTailWrite r v) s = .next ⟨e, s.pending⟩ ∧ e.ring r.val = s.dev.ring r.val ∧
    e.bit (MBX_ST r.val) (MBX_ST_CFG + 1) = true ∧ Changes [.msix, .out, .pulses] [MBX_ST r.val] s.dev e) ∧
  (∀ (r : RingNo) (v : BitVec 32), s.dev.host.linkUp = true →
    idxDist (s.dev.ring r.val).cplHead (v.toNat % 0x10000) ≤ idxDist (s.dev.ring r.val).cplHead (s.dev.ring r.val).cplTail →
    ∃ e, Sys2Proof.Machine.exec (.mbxCplHeadWrite r v) s = .next ⟨e, s.pending⟩ ∧ (e.ring r.val).cplHead = v.toNat % 0x10000 ∧
    Changes [.host] [MBX_ST r.val] s.dev e) ∧
  (∀ (r : RingNo) (v : BitVec 32), s.dev.host.linkUp = true →
    idxDist (s.dev.ring r.val).cplHead (s.dev.ring r.val).cplTail < idxDist (s.dev.ring r.val).cplHead (v.toNat % 0x10000) →
    ∃ e, Sys2Proof.Machine.exec (.mbxCplHeadWrite r v) s = .next ⟨e, s.pending⟩ ∧ e.ring r.val = s.dev.ring r.val ∧
    e.bit (MBX_ST r.val) (MBX_ST_CFG + 1) = true ∧ Changes [.msix, .out, .pulses] [MBX_ST r.val] s.dev e) ∧
  (∀ (x : BitVec 512) (r : Nat), s.dev.nextRing = some r → entryReserved (entryBytes x) = false →
    opcodes.contains (cmdOfBytes (entryBytes x)).op = true →
    (s.dev.ring r).inflight.any (fun c => c.tag == (cmdOfBytes (entryBytes x)).tag) = false →
    ∃ e, Sys2Proof.Machine.exec (.commandFetch x) s = .next ⟨e, s.pending⟩ ∧
    (e.ring r).inflight = (s.dev.ring r).inflight ++ [cmdOfBytes (entryBytes x)] ∧ (e.ring r).cmdHead = ((s.dev.ring r).cmdHead + 1) % 0x10000 ∧
    e.host.lastRing = r ∧ Changes [.host] [] s.dev e) ∧
  (∀ (x : BitVec 512) (r : Nat), s.dev.nextRing = some r →
    (entryReserved (entryBytes x) = true ∨ opcodes.contains (cmdOfBytes (entryBytes x)).op = false ∨ (s.dev.ring r).inflight.any (fun c => c.tag == (cmdOfBytes (entryBytes x)).tag) = true) →
    ∃ e, Sys2Proof.Machine.exec (.commandFetch x) s = .next ⟨e, s.pending⟩ ∧ (e.ring r).inflight = (s.dev.ring r).inflight ∧
    (e.ring r).cmdHead = ((s.dev.ring r).cmdHead + 1) % 0x10000 ∧
    e.reply.status = (if (s.dev.ring r).inflight.any (fun c => c.tag == (cmdOfBytes (entryBytes x)).tag) then stBUSY else stBAD_PARAM)) ∧
  (∀ (r : RingNo) (tag : Byte) (c : Cmd), s.dev.mayStartCmd r.val tag.toNat 0x01 c → s.dev.readStatus c.par = stOK →
    ∃ e, Sys2Proof.Machine.exec (.paramRead r tag) s = .next ⟨e, s.pending⟩ ∧ e.reply.status = stOK ∧ e.reply.result = pcCount c.par ∧
    e.reply.value = (s.dev.paramValue (pcId c.par)).getD 0 % 2 ^ 48) ∧
  (∀ (r : RingNo) (tag : Byte) (c : Cmd), s.dev.mayStartCmd r.val tag.toNat 0x01 c → s.dev.readStatus c.par = stOK → s.dev.host.bme0 = false →
    leNat (slice c.par 8 8) ≠ 0 → readsTrip (pcId c.par) (pcCount c.par) = false →
    ∃ e, Sys2Proof.Machine.exec (.paramRead r tag) s = .next ⟨e, s.pending⟩ ∧ e.reply.status = stOK ∧
    e.hostMem = (s.dev.hostWrite (leNat (slice c.par 8 8)) (s.dev.readBytes (pcId c.par) (pcCount c.par))).hostMem ∧
    Changes [.host, .hostMem, .reply, .freeCtr] [] s.dev e) ∧
  (∀ (r : RingNo) (tag : Byte) (c : Cmd), s.dev.mayStartCmd r.val tag.toNat 0x02 c → pcId c.par = CRS_PERM → pcCount c.par = 1 →
    zeros (slice c.par 5 3) = true → zeros (slice c.par 16 24) = true → leNat (slice c.par 8 8) < 2 ^ 48 →
    s.dev.accepts CRS_PERM (leNat (slice c.par 8 8)) → s.dev.noFabric → ∃ e, Sys2Proof.Machine.exec (.paramWrite r tag) s = .next ⟨e, s.pending⟩ ∧
    e.reply.status = stOK ∧ e.reply.result = 1 ∧ e.num CRS_PERM % 32 = leNat (slice c.par 8 8) % 32) ∧
  (∀ (r : RingNo) (tag : Byte) (c : Cmd) (x : Nat), s.dev.mayStartCmd r.val tag.toNat 0x02 c → 1 ≤ pcCount c.par → pcCount c.par ≤ 4 →
    zeros (slice c.par 5 3) = true → zeros (slice c.par (8 + 8 * pcCount c.par) (32 - 8 * pcCount c.par)) = true →
    itemsExist (pcId c.par) (pcCount c.par) = true →
    (((List.range (pcCount c.par)).map (fun k => (pcId c.par + k, leNat (slice c.par (8 + 8 * k) 8)))).map (fun w => s.dev.writeStatus ((List.range (pcCount c.par)).map (fun k => (pcId c.par + k, leNat (slice c.par (8 + 8 * k) 8)))) w.1 w.2)).find? (fun t => t != stOK) = some x →
    x ≠ stWEAR_LIMIT → s.dev.noFabric → s.dev.crs.lsr = [] → ∃ e, Sys2Proof.Machine.exec (.paramWrite r tag) s = .next ⟨e, s.pending⟩ ∧
    e.reply.status = x ∧ Changes [.host, .hostMem, .reply, .msix, .out] [MBX_ST r.val, CRS_STATUS] s.dev e)

/-- RUN set starts an IDLE channel at DMA_HEAD and resumes a STOPPED or failed one; cleared it takes a PARKED channel to STOPPED. RESET
returns a STOPPED or failed channel to IDLE. A kick makes a PARKED channel read its tail again and go on, and sets PENDING on a running
one. HOLDOFF ends in an end-of-count event. A read fault takes a channel to ERROR without a STATUS. A function level reset disables every
ring or returns the function's channels to IDLE; Bus Master Enable going to 0 stops its channels. (R617, R618, R645, R651, R652, R653,
R655) -/
def Obligations.DmaChannels : Prop := ∀ s : State,
  (∀ (c : ChanNo) (ro again : Bool) (next : BitVec 64), s.dev.host.linkUp = true → (s.dev.ch c.val).state = dsIDLE →
    ∃ e, Sys2Proof.Machine.exec (.dmaRunSet c ro again next) s = .next ⟨e, s.pending⟩ ∧ (e.ch c.val).state = dsRUNNING ∧
    (e.ch c.val).cur = (s.dev.ch c.val).head ∧ (e.ch c.val).run = true ∧ Changes [.dma, .accums] [DMA_ST c.val, DMA_PARKED_TIME c.val] s.dev e) ∧
  (∀ (c : ChanNo) (ro again : Bool) (next : BitVec 64), s.dev.host.linkUp = true →
    ((s.dev.ch c.val).state = dsSTOPPED ∨ (s.dev.ch c.val).state = dsERROR) → (s.dev.ch c.val).tail = false →
    ∃ e, Sys2Proof.Machine.exec (.dmaRunSet c ro again next) s = .next ⟨e, s.pending⟩ ∧ (e.ch c.val).state = dsRUNNING ∧
    (e.ch c.val).cur = (s.dev.ch c.val).cur ∧ (e.ch c.val).pending = false ∧
    Changes [.dma, .accums] [DMA_ST c.val, DMA_PARKED_TIME c.val] s.dev e) ∧
  (∀ (c : ChanNo) (ro : Bool), s.dev.host.linkUp = true → (s.dev.ch c.val).state = dsPARKED → (s.dev.ch c.val).run = true →
    ∃ e, Sys2Proof.Machine.exec (.dmaRunClear c ro) s = .next ⟨e, s.pending⟩ ∧ (e.ch c.val).state = dsSTOPPED ∧ (e.ch c.val).run = false ∧
    Changes [.dma, .accums] [DMA_ST c.val, DMA_PARKED_TIME c.val] s.dev e) ∧
  (∀ (c : ChanNo) (ro : Bool), s.dev.host.linkUp = true → ((s.dev.ch c.val).state = dsSTOPPED ∨ (s.dev.ch c.val).state = dsERROR) →
    ∃ e, Sys2Proof.Machine.exec (.dmaReset c ro) s = .next ⟨e, s.pending⟩ ∧ (e.ch c.val).state = dsIDLE ∧
    (e.ch c.val).done = (s.dev.ch c.val).done ∧ (e.ch c.val).run = false ∧
    Changes [.dma, .accums, .net] [DMA_ST c.val, DMA_PARKED_TIME c.val] s.dev e) ∧
  (∀ (c : ChanNo) (again : Bool) (next : BitVec 64), s.dev.host.linkUp = true → (s.dev.ch c.val).state = dsPARKED →
    ∃ e, Sys2Proof.Machine.exec (.dmaKick c again next) s = .next ⟨e, s.pending⟩ ∧ (e.ch c.val).state = (if again then dsPARKED else dsRUNNING) ∧
    (e.ch c.val).cur = (if again then (s.dev.ch c.val).cur else next.toNat) ∧ (e.ch c.val).pending = false ∧
    Changes [.dma, .accums] [DMA_ST c.val, DMA_PARKED_TIME c.val] s.dev e) ∧
  (∀ (c : ChanNo) (again : Bool) (next : BitVec 64), s.dev.host.linkUp = true → (s.dev.ch c.val).state = dsRUNNING →
    (s.dev.ch c.val).hold = none → ∃ e, Sys2Proof.Machine.exec (.dmaKick c again next) s = .next ⟨e, s.pending⟩ ∧ (e.ch c.val).pending = true ∧
    (e.ch c.val).state = dsRUNNING ∧ Changes [.dma] [] s.dev e) ∧
  (∀ (c : ChanNo), s.dev.runsT (tHoldoff c.val) = true → s.dev.pulses = [] →
    ∃ e, Sys2Proof.Machine.exec (.holdoffExpiry c) s = .next ⟨e, s.pending⟩ ∧ (e.ch c.val).since = 0 ∧
    e.bit (DMA_ST c.val) (DMA_ST_COMP + 1) = true ∧ e.runsT (tHoldoff c.val) = false) ∧
  (∀ (c : ChanNo), ((s.dev.ch c.val).state = dsRUNNING ∨ (s.dev.ch c.val).state = dsSTOPPING ∨ (s.dev.ch c.val).state = dsPARKED) →
    ∃ e, Sys2Proof.Machine.exec (.readFault c) s = .next ⟨e, s.pending⟩ ∧ (e.ch c.val).state = dsERROR ∧ (e.ch c.val).err = deREAD_FAULT ∧
    e.bit (DMA_ST c.val) DMA_ST_ERR = true ∧ e.bit (DMA_ST c.val) (DMA_ST_ERR + 1) = true ∧
    e.num (DMA_ERRORS c.val) = min (s.dev.num (DMA_ERRORS c.val) + 1) (2 ^ 96 - 1) ∧
    Changes [.dma, .accums, .msix, .out] [DMA_ST c.val, DMA_PARKED_TIME c.val, DMA_ERRORS c.val] s.dev e) ∧
  (s.dev.host.linkUp = true → ∃ e, Sys2Proof.Machine.exec (.functionLevelReset 0) s = .next ⟨e, s.pending⟩ ∧
    e.host.rings.all (fun x => !x.2.enable) = true ∧ e.host.held = [] ∧ Changes [.host] [] s.dev e) ∧
  (∀ (f : FnNo) (c : ChanNo), s.dev.host.linkUp = true → (chans f.val).contains c.val = true →
    ∃ e, Sys2Proof.Machine.exec (.functionLevelReset f) s = .next ⟨e, s.pending⟩ ∧ (e.ch c.val).state = dsIDLE ∧
    (e.ch c.val).done = (s.dev.ch c.val).done ∧ ChangesIn [.dma, .accums, .net] [0x17] s.dev e) ∧
  (∀ (f : FnNo) (c : ChanNo), s.dev.host.linkUp = true → (chans f.val).contains c.val = true →
    ((s.dev.ch c.val).state = dsRUNNING ∨ (s.dev.ch c.val).state = dsSTOPPING ∨ (s.dev.ch c.val).state = dsPARKED) →
    ∃ e, Sys2Proof.Machine.exec (.busMasterDisable f) s = .next ⟨e, s.pending⟩ ∧ (e.ch c.val).state = dsSTOPPED ∧
    ChangesIn [.host, .dma, .accums, .net] [0x17] s.dev e) ∧
  (s.dev.host.linkUp = true → ∃ e, Sys2Proof.Machine.exec (.busMasterDisable 0) s = .next ⟨e, s.pending⟩ ∧ e.host.bme0 = false ∧
    Changes [.host] [] s.dev e) ∧
  (∀ (f : FnNo), s.dev.host.linkUp = true → s.dev.host.held = [] → ∃ e, Sys2Proof.Machine.exec (.busMasterEnable f) s = .next ⟨e, s.pending⟩ ∧
    (e.host.bme0, e.host.bme1, e.host.bme2) = (if f = 0 then (true, s.dev.host.bme1, s.dev.host.bme2) else if f = 1 then (s.dev.host.bme0, true, s.dev.host.bme2) else (s.dev.host.bme0, s.dev.host.bme1, true)) ∧
    Changes [.host] [] s.dev e)

/-- A descriptor that does not end its frame or block is gathered, its STATUS written and counted, and the channel goes on at NEXT or parks at
END. A telemetry buffer takes the records that wait. A punted frame cut by the end of the chain is truncated after 1 ms. A frame of an
inject channel that keeps to R647 completes its descriptor without an error, and a table block is applied as TABLE_WRITE applies it.
(R644, R645, R647, R648, R649, R650, R655) -/
def Obligations.DmaBlocks : Prop := ∀ s : State,
  (∀ (c : ChanNo) (a : BitVec 64) (ctl : BitVec 32) (next : BitVec 64) (data : List Byte) (again : Bool), 56 ≤ c.val → s.dev.host.bme2 = true →
    (s.dev.ch c.val).state = dsRUNNING → (s.dev.ch c.val).hold = none → (s.dev.ch c.val).tail = false → (s.dev.ch c.val).pending = false →
    (s.dev.ch c.val).cur % 32 = 0 → ctLen ctl.toNat ≠ 0 → ctEop ctl.toNat = false →
    ∃ e, Sys2Proof.Machine.exec (.descriptorComplete c a ctl next data again) s = .next ⟨e, s.pending⟩ ∧
    (e.ch c.val).gather = (if ctSop ctl.toNat then [] else (s.dev.ch c.val).gather) ++ slice data 0 (ctLen ctl.toNat) ∧
    (e.ch c.val).done = ((s.dev.ch c.val).done + 1) % 2 ^ 32 ∧ (e.ch c.val).state = (if ctEnd ctl.toNat then dsPARKED else dsRUNNING) ∧
    (e.ch c.val).cur = (if ctEnd ctl.toNat then (s.dev.ch c.val).cur else next.toNat) ∧
    e.num (DMA_DESC_DONE c.val) = min (s.dev.num (DMA_DESC_DONE c.val) + 1) (2 ^ 96 - 1) ∧
    e.num (DMA_BYTES c.val) = min (s.dev.num (DMA_BYTES c.val) + ctLen ctl.toNat) (2 ^ 96 - 1) ∧
    e.hostMem = (s.dev.hostWrite ((s.dev.ch c.val).cur + 16) (leBytes 8 (({ at_ := (s.dev.ch c.val).cur, ctrl := ctl.toNat, next := next.toNat, sop := ctSop ctl.toNat, count := ctLen ctl.toNat } : DmaHold).status (s.dev.ch c.val).done))).hostMem) ∧
  (∀ (c : ChanNo) (a : BitVec 64) (ctl : BitVec 32) (next : BitVec 64) (data : List Byte) (again : Bool) (x : Rec), 48 ≤ c.val → c.val < 56 →
    s.dev.host.bme2 = true → (s.dev.ch c.val).state = dsRUNNING → (s.dev.ch c.val).hold = none → (s.dev.ch c.val).tail = false →
    (s.dev.ch c.val).pending = false → (s.dev.ch c.val).cur % 32 = 0 → Tbl.get s.dev.net.tele [] c.val = [x] →
    ctLen ctl.toNat / recLen x.kind = 1 → ∃ e, Sys2Proof.Machine.exec (.descriptorComplete c a ctl next data again) s = .next ⟨e, s.pending⟩ ∧
    (e.ch c.val).done = ((s.dev.ch c.val).done + 1) % 2 ^ 32 ∧ Tbl.get e.net.tele [] c.val = [] ∧
    e.num (DMA_FRAMES c.val) = min (s.dev.num (DMA_FRAMES c.val) + 1) (2 ^ 96 - 1) ∧
    e.num (DMA_BYTES c.val) = min (s.dev.num (DMA_BYTES c.val) + x.bytes.length) (2 ^ 96 - 1) ∧
    e.hostMem = ((s.dev.hostWrite a.toNat x.bytes).hostWrite ((s.dev.ch c.val).cur + 16) (leBytes 8 (({ at_ := (s.dev.ch c.val).cur, ctrl := ctl.toNat, next := next.toNat, sop := true, eop := true, kind := x.kind, count := x.bytes.length } : DmaHold).status (s.dev.ch c.val).done))).hostMem) ∧
  (∀ (c : Fin 32) (h : DmaHold), s.dev.runsT (tCut c.val) = true → s.dev.pulses = [] → (s.dev.ch c.val).inFrame = true →
    (s.dev.ch c.val).hold = some h → ∃ e, Sys2Proof.Machine.exec (.puntTruncTimeout c) s = .next ⟨e, s.pending⟩ ∧
    (e.ch c.val).done = ((s.dev.ch c.val).done + 1) % 2 ^ 32 ∧ (e.ch c.val).inFrame = false ∧ (e.ch c.val).gather = [] ∧
    (e.ch c.val).hold = none ∧ e.num (DMA_TRUNC c.val) = min (s.dev.num (DMA_TRUNC c.val) + 1) (2 ^ 96 - 1) ∧ e.runsT (tCut c.val) = false) ∧
  (∀ (k : SlotNo) (a : BitVec 64) (l q : Bool) (next : BitVec 64) (data : List Byte) (again : Bool), s.dev.host.bme1 = true →
    (s.dev.ch (32 + k.val)).state = dsRUNNING → (s.dev.ch (32 + k.val)).hold = none → (s.dev.ch (32 + k.val)).tail = false →
    (s.dev.ch (32 + k.val)).pending = false → (s.dev.ch (32 + k.val)).cur % 32 = 0 → s.dev.blockUp bkCORE = true → s.dev.pwr.target = none →
    injectOk data = true → data.length < 2 ^ 24 → ∃ e, Sys2Proof.Machine.exec (.injectFrame k a l q next data again) s = .next ⟨e, s.pending⟩ ∧
    (e.ch (32 + k.val)).done = ((s.dev.ch (32 + k.val)).done + 1) % 2 ^ 32 ∧
    e.num (DMA_FRAMES (32 + k.val)) = min (s.dev.num (DMA_FRAMES (32 + k.val)) + 1) (2 ^ 96 - 1) ∧ (e.ch (32 + k.val)).gather = []) ∧
  (∀ (k : Fin 8) (a : BitVec 64) (l q : Bool) (next : BitVec 64) (data : List Byte) (again : Bool), s.dev.host.bme2 = true →
    (s.dev.ch (56 + k.val)).state = dsRUNNING → (s.dev.ch (56 + k.val)).hold = none → (s.dev.ch (56 + k.val)).tail = false →
    (s.dev.ch (56 + k.val)).pending = false → (s.dev.ch (56 + k.val)).cur % 32 = 0 → s.dev.blockUp bkCORE = true → byteAt data 0 < 8 →
    data.length = 40 + leNat (slice data 20 4) → leNat (slice data 12 8) = 0 → data.length < 2 ^ 24 →
    ∃ e, Sys2Proof.Machine.exec (.tableLoadBlock k a l q next data again) s = .next ⟨e, s.pending⟩ ∧
    (e.ch (56 + k.val)).done = ((s.dev.ch (56 + k.val)).done + 1) % 2 ^ 32 ∧ e.cls = (s.dev.tableWrite (data.take 40) (data.drop 40)).1.cls)

/-- A COUNTER_READ of a readable item writes its record at ADDR. DEFINE keeps a sweep's destination and IDs, START queues it, and ABORT ends
it, its START being over. The running sweep reads its next ID, and after the last one ends, with SWEEP_STICKY set. (R583, R589, R591,
R592, R593, R608) -/
def Obligations.CountersAndSweeps : Prop := ∀ s : State,
  (∀ (r : RingNo) (tag : Byte) (c : Cmd), s.dev.mayStartCmd r.val tag.toNat 0x30 c → zeros (slice c.par 4 4) = true →
    zeros (slice c.par 16 24) = true → s.dev.readable (leNat (slice c.par 0 4)) = true → s.dev.host.bme0 = false →
    ∃ e, Sys2Proof.Machine.exec (.counterRead r tag) s = .next ⟨e, s.pending⟩ ∧ e.reply.status = stOK ∧
    e.hostMem = (s.dev.hostWrite (leNat (slice c.par 8 8)) ((s.dev.record (leNat (slice c.par 0 4)) 0 0).2.1)).hostMem ∧
    Changes [.host, .hostMem, .reply, .freeCtr] [] s.dev e) ∧
  (∀ (r : RingNo) (tag : Byte) (l : List (BitVec 32)) (c : Cmd), s.dev.mayStartCmd r.val tag.toNat 0x31 c → byteAt c.par 2 = 1 →
    s.dev.sweepStatus c.par = stOK → ∃ e, Sys2Proof.Machine.exec (.sweepDefine r tag l) s = .next ⟨e, s.pending⟩ ∧ e.reply.status = stOK ∧
    e.sweepOf (leNat (slice c.par 0 2)) = some ⟨byteAt c.par 3, (l.map (fun x => x.toNat)).take (leNat (slice c.par 4 4)) ++ List.replicate (leNat (slice c.par 4 4) - l.length) 0⟩) ∧
  (∀ (r : RingNo) (tag : Byte) (c : Cmd), s.dev.mayStartCmd r.val tag.toNat 0x31 c → byteAt c.par 2 = 2 → s.dev.sweepStatus c.par = stOK →
    ∃ e, Sys2Proof.Machine.exec (.sweepStart r tag) s = .next ⟨e, s.pending⟩ ∧
    e.obs.runs.map (fun x => (x.sweep, x.owner)) = s.dev.obs.runs.map (fun x => (x.sweep, x.owner)) ++ [(leNat (slice c.par 0 2), some (r.val, tag.toNat))] ∧
    e.bit CNT_STATUS CNT_STATUS_SWEEP = true) ∧
  (∀ (r : RingNo) (tag : Byte) (c : Cmd), s.dev.mayStartCmd r.val tag.toNat 0x31 c → byteAt c.par 2 = 3 → s.dev.sweepStatus c.par = stOK →
    ∃ e, Sys2Proof.Machine.exec (.sweepAbort r tag) s = .next ⟨e, s.pending⟩ ∧ e.reply.status = stOK ∧
    e.sweepBusy (leNat (slice c.par 0 2)) = false) ∧
  (∀ (r : SweepRun) (rest : List SweepRun) (x : Sweep), s.dev.obs.runs = r :: rest → s.dev.sweepOf r.sweep = some x → r.pos + 1 < x.ids.length →
    ∃ e, Sys2Proof.Machine.exec .sweepRead s = .next ⟨e, s.pending⟩ ∧
    e.obs.runs.map (fun x => (x.sweep, x.pos)) = (r.sweep, r.pos + 1) :: rest.map (fun x => (x.sweep, x.pos))) ∧
  (∀ (r : SweepRun) (rest : List SweepRun) (x : Sweep), s.dev.obs.runs = r :: rest → rest.all (fun x => x.sweep != r.sweep) = true →
    s.dev.sweepOf r.sweep = some x → r.pos + 1 = x.ids.length → ∃ e, Sys2Proof.Machine.exec .sweepRead s = .next ⟨e, s.pending⟩ ∧
    e.sweepBusy r.sweep = false ∧ e.bit CNT_STATUS (CNT_STATUS_SWEEP + 1) = true)

/-- ATTEST writes a report, the certificate or log entries at ADDR, RESULT being their length. A FIRST chunk waits for the erase of the bank
that Eodin does not run from, and is staged when it ends; a later chunk at its place is staged at once. VERIFY of a whole staged image
installs it, with the boot pointer naming it, where it is valid, and is BAD_PARAM otherwise. ACTIVATE with no commit under way enters the
warm path into the bank that the boot pointer names. STORE_STATUS gives the commits of a Keep item and what is left. PORT_ADMIN of a port
that its cage's mode uses sets or clears ADMIN. A CAL_RUN that passes its checks is the module's run: one with SCHEDULED waits for its
CAL_WINDOW, and one of an input or output opens its window at once otherwise. (R686, R687, R693, R696, R697, R348, R349, R350, R368) -/
def Obligations.TrustPortAndCalibrationCommands : Prop := ∀ s : State,
  (∀ (r : RingNo) (tag : Byte) (c : Cmd), s.dev.mayStartCmd r.val tag.toNat 0x40 c → byteAt c.par 0 = 1 → (s.dev.attest c.par).1 = stOK →
    s.dev.host.bme0 = false → ∃ e, Sys2Proof.Machine.exec (.attestReport r tag) s = .next ⟨e, s.pending⟩ ∧ e.reply.status = stOK ∧
    e.reply.result = (s.dev.attest c.par).2.length ∧ e.hostMem = (s.dev.hostWrite (leNat (slice c.par 32 8)) ((s.dev.attest c.par).2)).hostMem ∧
    Changes [.host, .hostMem, .reply] [] s.dev e) ∧
  (∀ (r : RingNo) (tag : Byte) (c : Cmd), s.dev.mayStartCmd r.val tag.toNat 0x40 c → byteAt c.par 0 = 2 → (s.dev.attest c.par).1 = stOK →
    s.dev.host.bme0 = false → ∃ e, Sys2Proof.Machine.exec (.attestCertificate r tag) s = .next ⟨e, s.pending⟩ ∧ e.reply.status = stOK ∧
    e.reply.result = (s.dev.attest c.par).2.length ∧ e.hostMem = (s.dev.hostWrite (leNat (slice c.par 32 8)) ((s.dev.attest c.par).2)).hostMem ∧
    Changes [.host, .hostMem, .reply] [] s.dev e) ∧
  (∀ (r : RingNo) (tag : Byte) (c : Cmd), s.dev.mayStartCmd r.val tag.toNat 0x40 c → byteAt c.par 0 = 3 → (s.dev.attest c.par).1 = stOK →
    s.dev.host.bme0 = false → ∃ e, Sys2Proof.Machine.exec (.attestLog r tag) s = .next ⟨e, s.pending⟩ ∧ e.reply.status = stOK ∧
    e.reply.result = (s.dev.attest c.par).2.length ∧ e.hostMem = (s.dev.hostWrite (leNat (slice c.par 32 8)) ((s.dev.attest c.par).2)).hostMem ∧
    Changes [.host, .hostMem, .reply] [] s.dev e) ∧
  (∀ (r : RingNo) (tag : Byte) (data : List Byte) (c : Cmd), s.dev.mayStartCmd r.val tag.toNat 0x41 c → 1 ≤ (leNat (slice c.par 8 4)) →
    (leNat (slice c.par 8 4)) ≤ 1048576 → (byteAt c.par 16 = 1 ∨ byteAt c.par 16 = 3) → zeros (slice c.par 17 23) = true →
    s.dev.imageBusy = false → leNat (slice c.par 12 4) = 0 → s.dev.runBank ≤ 1 →
    ∃ e, Sys2Proof.Machine.exec (.imageStage r tag data) s = .next ⟨e, s.pending⟩ ∧
    e.trust.erase = some (r.val, tag.toNat, slice data 0 (leNat (slice c.par 8 4)), decide (byteAt c.par 16 = 3)) ∧
    e.fld TRUST_IMAGE TRUST_IMAGE_STAGE = 1 ∧ e.trust.staged = [] ∧ e.flash (1 - s.dev.runBank) = none) ∧
  (∀ (r : RingNo) (tag : Byte) (data : List Byte) (c : Cmd), s.dev.mayStartCmd r.val tag.toNat 0x41 c → 1 ≤ (leNat (slice c.par 8 4)) →
    (leNat (slice c.par 8 4)) ≤ 1048576 → (byteAt c.par 16 = 0 ∨ byteAt c.par 16 = 2) → zeros (slice c.par 17 23) = true →
    s.dev.imageBusy = false → s.dev.fld TRUST_IMAGE TRUST_IMAGE_STAGE = 1 → leNat (slice c.par 12 4) = s.dev.trust.staged.length →
    leNat (slice c.par 12 4) + (leNat (slice c.par 8 4)) ≤ 31 * 1048576 →
    ∃ e, Sys2Proof.Machine.exec (.imageStage r tag data) s = .next ⟨e, s.pending⟩ ∧ e.reply.status = stOK ∧
    e.trust.staged = s.dev.trust.staged ++ slice data 0 (leNat (slice c.par 8 4)) ∧
    e.fld TRUST_IMAGE TRUST_IMAGE_STAGE = (if byteAt c.par 16 = 2 then 2 else 1)) ∧
  (∀ (r tag : Nat) (l : List Byte) (last : Bool), s.dev.trust.erase = some (r, tag, l, last) →
    ∃ e, Sys2Proof.Machine.exec .stageEraseComplete s = .next ⟨e, s.pending⟩ ∧ e.trust.erase = none ∧ e.trust.staged = s.dev.trust.staged ++ l ∧
    e.fld TRUST_IMAGE TRUST_IMAGE_STAGE = (if last then 2 else 1)) ∧
  (∀ (r : RingNo) (tag : Byte) (c : Cmd), s.dev.mayStartCmd r.val tag.toNat 0x42 c → byteAt c.par 0 = 1 → zeros (slice c.par 1 39) = true →
    s.dev.imageBusy = false → s.dev.fld TRUST_IMAGE TRUST_IMAGE_STAGE = 2 → s.dev.trust.ptrSeq < keepLimit →
    ∃ e, Sys2Proof.Machine.exec (.verify r tag) s = .next ⟨e, s.pending⟩ ∧
    e.reply.status = (if (imageOf s.dev.trust.staged).isSome then stOK else stBAD_PARAM) ∧
    e.fld TRUST_IMAGE TRUST_IMAGE_STAGE = (if (imageOf s.dev.trust.staged).isSome then 3 else 2) ∧
    e.ptrBank = (if (imageOf s.dev.trust.staged).isSome then 1 - s.dev.runBank else s.dev.ptrBank)) ∧
  (∀ (r : RingNo) (tag : Byte) (c : Cmd), s.dev.mayStartCmd r.val tag.toNat 0x42 c → byteAt c.par 0 = 2 → zeros (slice c.par 1 39) = true →
    s.dev.imageBusy = false → s.dev.cal.run = none → s.dev.ptrBank ≠ s.dev.runBank → s.dev.trust.commits = [] →
    (s.dev.flash s.dev.ptrBank).isSome = true → ∃ e, Sys2Proof.Machine.exec (.activate r tag) s = .next ⟨e, s.pending⟩ ∧
    e.bit GLB_STATE GLB_STATE_GAP = true ∧ e.fld GLB_STATE GLB_STATE_READY = 0 ∧ e.runBank = s.dev.ptrBank ∧ e.trust.booting = true) ∧
  (∀ (r : RingNo) (tag : Byte) (c : Cmd), s.dev.mayStartCmd r.val tag.toNat 0x43 c → zeros (slice c.par 5 35) = true → byteAt c.par 4 = 0 →
    keepItem (leNat (slice c.par 0 4)) = true → ∃ e, Sys2Proof.Machine.exec (.storeStatus r tag) s = .next ⟨e, s.pending⟩ ∧
    e.reply.status = stOK ∧ e.reply.result = s.dev.keepSeq (leNat (slice c.par 0 4)) ∧
    e.reply.value = keepLimit - s.dev.keepSeq (leNat (slice c.par 0 4)) ∧ Changes [.host, .hostMem, .reply, .msix, .out] [MBX_ST r.val] s.dev e) ∧
  (∀ (r : RingNo) (tag : Byte) (c : Cmd), s.dev.mayStartCmd r.val tag.toNat 0x50 c → byteAt c.par 0 ≤ 1 → byteAt c.par 1 = 0 →
    zeros (slice c.par 4 36) = true → leNat (slice c.par 2 2) < 256 → (s.dev.speedOf (leNat (slice c.par 2 2))).isSome = true →
    ∃ e, Sys2Proof.Machine.exec (.portAdmin r tag) s = .next ⟨e, s.pending⟩ ∧ e.reply.status = stOK ∧
    e.admin (leNat (slice c.par 2 2)) = decide (byteAt c.par 0 = 1)) ∧
  (∀ (r : RingNo) (tag : Byte) (c : Cmd), s.dev.mayStartCmd r.val tag.toNat 0x60 c → s.dev.calStatus c.par = stOK → crKind c.par ≠ crENTER →
    crFlags c.par % 2 = 1 → ∃ e, Sys2Proof.Machine.exec (.calRun r tag) s = .next ⟨e, s.pending⟩ ∧
    e.cal.run = some ⟨c.par, some (r.val, tag.toNat), 0, [], [], {}⟩ ∧ e.bit CAL_STATUS CAL_STATUS_RUN = true) ∧
  (∀ (r : RingNo) (tag : Byte) (c : Cmd), s.dev.mayStartCmd r.val tag.toNat 0x60 c → s.dev.calStatus c.par = stOK →
    (crKind c.par = crINPUT ∨ crKind c.par = crOUTPUT) → crFlags c.par % 2 = 0 →
    ∃ e, Sys2Proof.Machine.exec (.calRun r tag) s = .next ⟨e, s.pending⟩ ∧ e.cal.run = some ⟨c.par, some (r.val, tag.toNat), 2, [], [], {}⟩ ∧
    e.bit CAL_STATUS CAL_STATUS_RUN = true ∧ e.runsT tCalWin = true)

/-- The head of a frame on a port that is UP makes a frame with its bytes and its ingress stamp. A good tail counts the frame and its octets,
and a bad FCS counts and drops it. A first pass that waits for no byte counts in PRS_FRAMES and is over: the frame is dispatched, dropped
or given its next pass, and a message for an engine is handed to it. A pass not complete in time drops its frame with PASS_LATE, at that
instant. A port's stamps lose VAR_UNKNOWN once its lanes are aligned. (R107, R110, R117, R370, R403, R404, R405) -/
def Obligations.Reception : Prop := ∀ s : State,
  (∀ (n : LpNo) (t : RxTerms) (head : List Byte) (sp : Nat), s.dev.blockUp bkCORE = true → s.dev.speedOf n.val = some sp →
    s.dev.lpUp n.val = true → s.dev.pwr.handOff = false → s.dev.receiving n.val = none → (s.dev.lanesOf n.val).contains t.lane = true →
    macControl head = false → s.dev.staged (n.val / 16) + head.length ≤ 262144 →
    ∃ e, Sys2Proof.Machine.exec (.frameHeadRx n t head) s = .next ⟨e, s.pending⟩ ∧
    (e.frame? s.dev.net.nextId).map (fun f => (f.lp, f.stamp, f.orig, f.tail)) = some (n.val, s.dev.ingressStamp n.val sp t, head, false) ∧
    e.net.nextId = s.dev.net.nextId + 1) ∧
  (∀ (n : LpNo) (r : List Byte) (x : BitVec 32) (fid : Nat) (f : Frame), s.dev.blockUp bkCORE = true → s.dev.receiving n.val = some fid →
    s.dev.frame? fid = some f → f.stage = 0 → f.pass = 1 → f.dead = false → s.dev.carving fid = false →
    rxCheck false ((f.orig ++ r).length + 4) (s.dev.num (MAC_MAX_LEN n.val)) (crc32 (f.orig ++ r) == x.toNat) = 0 →
    ∃ e, Sys2Proof.Machine.exec (.frameTailRx n r x none) s = .next ⟨e, s.pending⟩ ∧
    e.num (MAC_RX_FRAMES n.val) = min (s.dev.num (MAC_RX_FRAMES n.val) + 1) (2 ^ 96 - 1) ∧
    e.num (MAC_RX_OCTETS n.val) = min (s.dev.num (MAC_RX_OCTETS n.val) + (f.orig ++ r).length + 4) (2 ^ 96 - 1) ∧
    (e.frame? fid).map (fun g => (g.orig, g.tail)) = some (f.orig ++ r, true)) ∧
  (∀ (n : LpNo) (r : List Byte) (x : BitVec 32) (fid : Nat) (f : Frame), s.dev.blockUp bkCORE = true → s.dev.receiving n.val = some fid →
    s.dev.frame? fid = some f → f.stage = 0 → f.dead = false → s.dev.carving fid = false → s.dev.refs fid = 0 →
    rxCheck false ((f.orig ++ r).length + 4) (s.dev.num (MAC_MAX_LEN n.val)) (crc32 (f.orig ++ r) == x.toNat) = drFCS_BAD →
    ∃ e, Sys2Proof.Machine.exec (.frameTailRx n r x none) s = .next ⟨e, s.pending⟩ ∧
    e.num (MAC_RX_FCS_BAD n.val) = min (s.dev.num (MAC_RX_FCS_BAD n.val) + 1) (2 ^ 96 - 1) ∧
    e.num (RINK_DROP drFCS_BAD) = min (s.dev.num (RINK_DROP drFCS_BAD) + 1) (2 ^ 96 - 1) ∧ (e.frame? fid).all (fun g => g.dead) = true) ∧
  (∀ (fid : Nat) (f : Frame), s.dev.blockUp bkCORE = true → s.dev.frame? fid = some f → f.stage = 0 → f.dead = false → f.pass = 1 → f.lp < 256 →
    s.dev.tk.time ≤ s.dev.passEnd f → s.dev.fixedLogic f = .ordinary → (parseFrame (s.dev.bank f.bank) f.body f.tail).wait = false →
    s.dev.profileWaits f (parseFrame (s.dev.bank f.bank) f.body f.tail) = false →
    ∃ e, Sys2Proof.Machine.exec (.classifyPass fid) s = .next ⟨e, s.pending⟩ ∧
    e.num (PRS_FRAMES (f.lp / 16)) = min (s.dev.num (PRS_FRAMES (f.lp / 16)) + 1) (2 ^ 96 - 1) ∧
    (e.frame? fid).all (fun x => x.dead || x.stage != 0 || x.pass != f.pass) = true) ∧
  (∀ (fid : Nat) (f : Frame) (t : Term), s.dev.blockUp bkCORE = true → s.dev.frame? fid = some f → f.stage = 0 → f.dead = false → f.pass = 1 →
    f.lp < 256 → s.dev.tk.time ≤ s.dev.passEnd f → s.dev.fixedLogic f = .terminated t → 2 ≤ t.kind →
    ∃ e, Sys2Proof.Machine.exec (.classifyPass fid) s = .next ⟨e, s.pending⟩ ∧
    e.num (PRS_FRAMES (f.lp / 16)) = min (s.dev.num (PRS_FRAMES (f.lp / 16)) + 1) (2 ^ 96 - 1) ∧ e.net.inbox = s.dev.net.inbox ++ [t] ∧
    (e.frame? fid).all (fun x => x.dead || x.stage != 0 || x.pass != f.pass) = true) ∧
  (∀ (fid : Nat) (f : Frame), s.dev.blockUp bkCORE = true → s.dev.frame? fid = some f → f.stage = 0 → f.dead = false →
    ∃ e, Sys2Proof.Machine.exec (.passLate fid) s = .next ⟨e, s.pending⟩ ∧
    e.num (CLS_PASS_LATE) = min (s.dev.num (CLS_PASS_LATE) + 1) (2 ^ 96 - 1) ∧
    e.num (RINK_DROP drPASS_LATE) = min (s.dev.num (RINK_DROP drPASS_LATE) + 1) (2 ^ 96 - 1) ∧ e.tk.time = max s.dev.tk.time (s.dev.passEnd f) ∧
    (e.frame? fid).all (fun g => g.dead) = true) ∧
  (∀ (n : LpNo), s.dev.blockUp bkCORE = true → s.dev.lanesReady n.val = true → (s.dev.link n.val).good = true →
    ∃ e, Sys2Proof.Machine.exec (.varUnknownEnd n) s = .next ⟨e, s.pending⟩ ∧ e.bit (TSU_STATUS n.val) TSU_STATUS_VAR = false ∧
    Changes [.net, .msix, .out] [TSU_STATUS n.val] s.dev e)

/-- A request served takes the next buffer of its pool. One that its pool cannot serve moves to the next larger pool where that one lets it,
and otherwise its copies are dropped with POOL_EMPTY. A port that may send sends a PFC frame asked for first. Otherwise the head of Q7,
where it can be committed and fits, leaves its queue and is counted. At its last byte a good frame goes out whole and is counted, and the
port is free. (R118, R373, R374, R379, R462, R463, R466) -/
def Obligations.BuffersAndTransmission : Prop := ∀ s : State,
  (∀ (k : PoolNo) (x : Fin 17) (fid : Nat) (f : Frame), s.dev.blockUp bkCORE = true → s.dev.requests k.val x.val = [fid] →
    s.dev.frame? fid = some f → (s.dev.pool k.val).freed = [] → (s.dev.pool k.val).fresh < (s.dev.pool k.val).count →
    s.dev.available k.val f.guar ≠ 0 → ∃ e, Sys2Proof.Machine.exec (.bufferRequest k x) s = .next ⟨e, s.pending⟩ ∧
    (e.frame? fid).any (fun g => decide (g.buf = some (k.val, (s.dev.pool k.val).fresh))) = true ∧
    (e.pool k.val).fresh = (s.dev.pool k.val).fresh + 1 ∧ (e.pool k.val).free + 1 = (s.dev.pool k.val).free) ∧
  (∀ (k : PoolNo) (fid : Nat) (f : Frame), s.dev.blockUp bkCORE = true → s.dev.net.frames = [(fid, some f)] → f.unserved = true →
    f.pool = k.val → k.val < 3 → s.dev.fld (RINK_POOL_CTRL (k.val + 2)) RINK_POOL_CTRL_SPILL = 1 →
    ∃ e, Sys2Proof.Machine.exec (.spill k) s = .next ⟨e, s.pending⟩ ∧ e.num (RINK_SPILLS) = min (s.dev.num (RINK_SPILLS) + 1) (2 ^ 96 - 1) ∧
    (e.frame? fid).map (fun g => (g.pool, g.unserved)) = some (k.val + 1, false)) ∧
  (∀ (k : PoolNo) (fid : Nat) (f : Frame) (c : Copy), s.dev.blockUp bkCORE = true → s.dev.net.frames = [(fid, some f)] →
    s.dev.net.queues = [(c.q, [c])] → c.fid = fid → c.kind = 0 → f.unserved = true → f.pool = k.val →
    (k.val = 3 ∨ s.dev.fld (RINK_POOL_CTRL (k.val + 2)) RINK_POOL_CTRL_SPILL = 0) →
    ∃ e, Sys2Proof.Machine.exec (.spill k) s = .next ⟨e, s.pending⟩ ∧ (e.queue c.q).contains c = false ∧
    e.num (RINK_DROP drPOOL_EMPTY) = min (s.dev.num (RINK_DROP drPOOL_EMPTY) + 1) (2 ^ 96 - 1) ∧ (e.frame? fid).all (fun g => g.dead) = true) ∧
  (∀ (n : LpNo) (t : TxTerms), s.dev.blockUp bkCORE = true → (s.dev.speedOf n.val).isSome = true → s.dev.lpUp n.val = true →
    Tbl.get s.dev.net.tx none n.val = none → (s.dev.lanesOf n.val).contains t.lane = true → s.dev.fld (MAC_CTRL n.val) MAC_CTRL_TX_PFC_EN = 1 →
    Tbl.get s.dev.net.pfc 0 n.val ≠ 0 → s.dev.net.eodinRecs = [] → ∃ e, Sys2Proof.Machine.exec (.launchCommitment n t) s = .next ⟨e, s.pending⟩ ∧
    (Tbl.get e.net.tx none n.val).any (fun x => x.copy.kind == 4) = true ∧
    e.num (MAC_TX_PFC n.val) = min (s.dev.num (MAC_TX_PFC n.val) + 1) (2 ^ 96 - 1) ∧ Tbl.get e.net.pfc 0 n.val = 0) ∧
  (∀ (n : LpNo) (t : TxTerms) (sp : Nat) (c : Copy) (f : Frame), s.dev.blockUp bkCORE = true → s.dev.speedOf n.val = some sp →
    s.dev.lpUp n.val = true → Tbl.get s.dev.net.tx none n.val = none → (s.dev.lanesOf n.val).contains t.lane = true →
    Tbl.get s.dev.net.pfc 0 n.val = 0 → s.dev.queue (qOf n.val 7) = [c] → c.q = qOf n.val 7 → c.kind = 0 → s.dev.eligible n.val 7 = true →
    s.dev.frame? c.fid = some f → f.buf.isSome = true → f.tail = true →
    s.dev.fits n.val 7 sp (s.dev.egressTime n.val sp t) ((s.dev.carried f c n.val).length + 4) = true →
    (s.dev.carried f c n.val).length + 4 ≤ s.dev.num (MAC_MAX_LEN n.val) → s.dev.ptpOut c (s.dev.carried f c n.val) n.val = none →
    s.dev.net.eodinRecs = [] → ∃ e, Sys2Proof.Machine.exec (.launchCommitment n t) s = .next ⟨e, s.pending⟩ ∧
    (Tbl.get e.net.tx none n.val).map (fun x => (x.copy, x.e)) = some (c, s.dev.egressTime n.val sp t) ∧ e.queue (qOf n.val 7) = [] ∧
    e.num (Q_DEQ_FRAMES (qOf n.val 7)) = min (s.dev.num (Q_DEQ_FRAMES (qOf n.val 7)) + 1) (2 ^ 96 - 1) ∧
    e.num (Q_DEQ_OCTETS (qOf n.val 7)) = min (s.dev.num (Q_DEQ_OCTETS (qOf n.val 7)) + (s.dev.carried f c n.val).length + 4) (2 ^ 96 - 1)) ∧
  (∀ (n : LpNo) (x : TxSt) (f : Frame), s.dev.blockUp bkCORE = true → Tbl.get s.dev.net.tx none n.val = some x → x.cause = 0 →
    s.dev.frame? x.copy.fid = some f → f.tail = true → ∃ e, Sys2Proof.Machine.exec (.lastByteSent n) s = .next ⟨e, s.pending⟩ ∧
    e.out.contains (Out.frame n.val (s.dev.rewritten f x.copy n.val x.e x.steps x.opOn).bytes) = true ∧ Tbl.get e.net.tx none n.val = none ∧
    e.num (MAC_TX_FRAMES n.val) = min (s.dev.num (MAC_TX_FRAMES n.val) + 1) (2 ^ 96 - 1) ∧
    e.num (MAC_TX_OCTETS n.val) = min (s.dev.num (MAC_TX_OCTETS n.val) + (s.dev.rewritten f x.copy n.val x.e x.steps x.opOn).bytes.length + 4) (2 ^ 96 - 1))

/-- Where no LIVE bit stands for a second, each of these commands completes and changes only the parts of the module and the classes of items
that the statement names for it: those of its own unit, and the interrupts, logs and timers that every unit uses. Everything else stays,
host memory, rule sets, keys and measurement registers among it. (R364, R376, R462, R541, R563) -/
def Obligations.FramesOfPortsAndLanes : Prop := ∀ s : State,
  (∀ (n : LpNo), s.dev.pulses = [] → ∃ e, Sys2Proof.Machine.exec (.linkGood n) s = .next ⟨e, s.pending⟩ ∧ ChangesIn [.msix, .out, .pulses, .tk, .cls, .net, .pte, .cd, .lanes, .trk0, .trk1, .pwr, .obs, .crs] [0x01, 0x02, 0x04, 0x05, 0x06, 0x07, 0x08, 0x0A, 0x0E, 0x0F, 0x13, 0x14, 0x15, 0x16, 0x18, 0x19, 0x1A] s.dev e) ∧
  (∀ (n : LpNo) (p : Fin 8), s.dev.pulses = [] → ∃ e, Sys2Proof.Machine.exec (.pauseExpiry n p) s = .next ⟨e, s.pending⟩ ∧ ChangesIn [.pulses, .accums, .tk, .net] [0x08, 0x0A] s.dev e) ∧
  (∀ (n : LpNo) (p : Fin 8), s.dev.pulses = [] → ∃ e, Sys2Proof.Machine.exec (.pauseWatchdog n p) s = .next ⟨e, s.pending⟩ ∧ ChangesIn [.msix, .out, .pulses, .accums, .tk, .net] [0x08, 0x0A] s.dev e) ∧
  (∀ (n : LpNo) (p : Fin 8), s.dev.pulses = [] → ∃ e, Sys2Proof.Machine.exec (.wdRelease n p) s = .next ⟨e, s.pending⟩ ∧ ChangesIn [.pulses, .tk, .net] [0x08, 0x0A] s.dev e) ∧
  (∀ (n : LpNo) (p : Fin 8), s.dev.pulses = [] → ∃ e, Sys2Proof.Machine.exec (.pfcRepeat n p) s = .next ⟨e, s.pending⟩ ∧ ChangesIn [.pulses, .tk, .net] [0x08] s.dev e) ∧
  (∀ (stream : StreamNo), s.dev.pulses = [] → ∃ e, Sys2Proof.Machine.exec (.frerRecoveryReset stream) s = .next ⟨e, s.pending⟩ ∧ ChangesIn [.msix, .out, .pulses, .tk, .net] [0x08, 0x0B] s.dev e) ∧
  (∀ (pool : PoolNo) (start : Fin 17), s.dev.pulses = [] → ∃ e, Sys2Proof.Machine.exec (.bufferRequest pool start) s = .next ⟨e, s.pending⟩ ∧ ChangesIn [.msix, .out, .pulses, .cls, .net, .pte, .cd, .lanes, .pwr, .obs] [0x01, 0x02, 0x04, 0x05, 0x06, 0x07, 0x08, 0x0A, 0x0E, 0x0F, 0x13, 0x14, 0x15, 0x16, 0x1A] s.dev e) ∧
  s.dev.pulses = [] → ∃ e, Sys2Proof.Machine.exec .slotBoundary s = .next ⟨e, s.pending⟩ ∧ ChangesIn [.msix, .out, .pulses, .accums, .tk, .cls, .net, .pte, .cd, .lanes, .pwr, .obs] [0x01, 0x02, 0x04, 0x05, 0x06, 0x07, 0x08, 0x0A, 0x0E, 0x0F, 0x10, 0x12, 0x13, 0x14, 0x15, 0x16, 0x1A] s.dev e ∧
  ∃ e, Sys2Proof.Machine.exec .handoverCapture s = .next ⟨e, s.pending⟩ ∧ ∀ p, p ∉ ([.msix, .out, .pulses, .tk, .tl, .cls, .net, .pte, .cd, .lanes, .pwr, .obs] : List Part) → p.same s.dev e ∧
  (∀ (l : LaneNo), s.dev.pulses = [] → ∃ e, Sys2Proof.Machine.exec (.signalDetect l) s = .next ⟨e, s.pending⟩ ∧ ChangesIn [.msix, .out, .pulses, .cls, .net, .pte, .cd, .lanes, .pwr, .obs] [0x01, 0x02, 0x04, 0x05, 0x06, 0x07, 0x08, 0x0A, 0x0E, 0x0F, 0x13, 0x14, 0x15, 0x16, 0x1A] s.dev e) ∧
  (∀ (l : LaneNo), s.dev.pulses = [] → ∃ e, Sys2Proof.Machine.exec (.cdrLock l) s = .next ⟨e, s.pending⟩ ∧ ChangesIn [.msix, .out, .pulses, .cls, .net, .pte, .cd, .lanes, .pwr, .obs] [0x01, 0x02, 0x04, 0x05, 0x06, 0x07, 0x08, 0x0A, 0x0E, 0x0F, 0x13, 0x14, 0x15, 0x16, 0x1A] s.dev e) ∧
  (∀ (l : LaneNo) (ffe : BitVec 32), s.dev.pulses = [] → ∃ e, Sys2Proof.Machine.exec (.linkTrainingDone l ffe) s = .next ⟨e, s.pending⟩ ∧ ChangesIn [.msix, .out, .pulses, .cls, .net, .pte, .cd, .lanes, .pwr, .obs] [0x01, 0x02, 0x04, 0x05, 0x06, 0x07, 0x08, 0x0A, 0x0E, 0x0F, 0x13, 0x14, 0x15, 0x16, 0x1A] s.dev e) ∧
  (∀ (l : LaneNo), s.dev.pulses = [] → ∃ e, Sys2Proof.Machine.exec (.adaptConverged l) s = .next ⟨e, s.pending⟩ ∧ ChangesIn [.msix, .out, .pulses, .cls, .net, .pte, .cd, .lanes, .pwr, .obs] [0x01, 0x02, 0x04, 0x05, 0x06, 0x07, 0x08, 0x0A, 0x0E, 0x0F, 0x13, 0x14, 0x15, 0x16, 0x1A] s.dev e) ∧
  (∀ (l : LaneNo) (demand : List Int), s.dev.pulses = [] → ∃ e, Sys2Proof.Machine.exec (.laneEqUpdate l demand) s = .next ⟨e, s.pending⟩ ∧ ChangesIn [.msix, .out, .pulses, .accums, .tk, .cls, .net, .pte, .cd, .lanes, .pwr, .obs] [0x01, 0x02, 0x04, 0x05, 0x06, 0x07, 0x08, 0x0A, 0x0E, 0x0F, 0x13, 0x14, 0x15, 0x16, 0x1A] s.dev e) ∧
  (∀ (k : LinkNo), s.dev.pulses = [] → ∃ e, Sys2Proof.Machine.exec (.bundleRetrain k) s = .next ⟨e, s.pending⟩ ∧ ChangesIn [.msix, .out, .pulses, .tk, .net, .lanes] [0x08, 0x0A, 0x13] s.dev e) ∧
  (∀ (k : LinkNo) (maps : List Nat), s.dev.pulses = [] → ∃ e, Sys2Proof.Machine.exec (.chipletLinkTrained k maps) s = .next ⟨e, s.pending⟩ ∧ ChangesIn [.msix, .out, .pulses, .cls, .net, .pte, .cd, .lanes, .pwr, .obs] [0x01, 0x02, 0x04, 0x05, 0x06, 0x07, 0x08, 0x0A, 0x0E, 0x0F, 0x13, 0x14, 0x15, 0x16, 0x1A] s.dev e) ∧
  (∀ (t : TrunkNo), s.dev.pulses = [] → ∃ e, Sys2Proof.Machine.exec (.trunkMarkerTx t) s = .next ⟨e, s.pending⟩ ∧ ChangesIn [.msix, .out, .pulses, .accums, .tk, .cls, .net, .pte, .cd, .lanes, .trk0, .trk1, .pwr, .obs] [0x01, 0x02, 0x04, 0x05, 0x06, 0x07, 0x08, 0x09, 0x0A, 0x0E, 0x0F, 0x10, 0x12, 0x13, 0x14, 0x15, 0x16, 0x1A] s.dev e)

/-- Where no LIVE bit stands for a second, each of these commands completes and changes only the parts of the module and the classes of items
that the statement names for it: those of its own unit, and the interrupts, logs and timers that every unit uses. Everything else stays,
host memory, rule sets, the Timeline store, keys and measurement registers among it. (R203, R218, R262, R294, R335) -/
def Obligations.FramesOfTimeAndClocks : Prop := ∀ s : State,
  (∀ (k : PisteNo), s.dev.pulses = [] → ∃ e, Sys2Proof.Machine.exec (.pisteLost k) s = .next ⟨e, s.pending⟩ ∧ ChangesIn [.msix, .out, .pulses, .cls, .net, .pte, .cd, .lanes, .pwr, .obs] [0x01, 0x02, 0x04, 0x05, 0x06, 0x07, 0x08, 0x0A, 0x0E, 0x0F, 0x13, 0x14, 0x15, 0x16, 0x1A] s.dev e) ∧
  s.dev.pulses = [] → ∃ e, Sys2Proof.Machine.exec .waitToRestoreEnd s = .next ⟨e, s.pending⟩ ∧ ChangesIn [.msix, .out, .pulses, .tk, .net, .pte] [0x02, 0x05, 0x08, 0x18] s.dev e ∧
  s.dev.pulses = [] → ∃ e, Sys2Proof.Machine.exec .grantExpiry s = .next ⟨e, s.pending⟩ ∧ ChangesIn [.msix, .out, .pulses, .tk, .cls, .net, .pte, .cd, .lanes, .pwr, .obs] [0x01, 0x02, 0x04, 0x05, 0x06, 0x07, 0x08, 0x0A, 0x0E, 0x0F, 0x13, 0x14, 0x15, 0x16, 0x1A] s.dev e ∧
  s.dev.pulses = [] → ∃ e, Sys2Proof.Machine.exec .todSentenceTx s = .next ⟨e, s.pending⟩ ∧ ChangesIn [.msix, .out, .pulses, .tk, .cls, .net, .pte, .cd, .lanes, .pwr, .obs] [0x01, 0x02, 0x04, 0x05, 0x06, 0x07, 0x08, 0x0A, 0x0E, 0x0F, 0x13, 0x14, 0x15, 0x16, 0x18, 0x1A] s.dev e ∧
  (∀ (text : List Byte), s.dev.pulses = [] → ∃ e, Sys2Proof.Machine.exec (.todSentenceRx text) s = .next ⟨e, s.pending⟩ ∧ ChangesIn [.msix, .out, .pulses, .cls, .net, .pte, .cd, .lanes, .pwr, .obs] [0x01, 0x02, 0x04, 0x05, 0x06, 0x07, 0x08, 0x0A, 0x0E, 0x0F, 0x13, 0x14, 0x15, 0x16, 0x1A] s.dev e) ∧
  s.dev.pulses = [] → ∃ e, Sys2Proof.Machine.exec .todSentenceMissing s = .next ⟨e, s.pending⟩ ∧ ChangesIn [.msix, .out, .pulses, .cls, .net, .pte, .cd, .lanes, .pwr, .obs] [0x01, 0x02, 0x04, 0x05, 0x06, 0x07, 0x08, 0x0A, 0x0E, 0x0F, 0x13, 0x14, 0x15, 0x16, 0x1A] s.dev e ∧
  (∀ (c : EmuNo) (bin : Fin 512) (rise : Bool), s.dev.pulses = [] → ∃ e, Sys2Proof.Machine.exec (.emuEdge c bin rise) s = .next ⟨e, s.pending⟩ ∧ ChangesIn [.hostMem, .msix, .out, .pulses, .accums, .dma, .tk, .cls, .net, .pte, .emu, .refc, .cd, .cal, .lanes, .pwr, .obs] [0x00, 0x01, 0x02, 0x04, 0x05, 0x06, 0x07, 0x08, 0x0A, 0x0E, 0x0F, 0x13, 0x14, 0x15, 0x16, 0x17, 0x1A] s.dev e) ∧
  (∀ (c : EmuNo), s.dev.pulses = [] → ∃ e, Sys2Proof.Machine.exec (.intervalTimeout c) s = .next ⟨e, s.pending⟩ ∧ ChangesIn [.hostMem, .msix, .out, .pulses, .accums, .dma, .tk, .cls, .net, .pte, .emu, .cd, .lanes, .pwr, .obs] [0x00, 0x01, 0x02, 0x04, 0x05, 0x06, 0x07, 0x08, 0x0A, 0x0E, 0x0F, 0x13, 0x14, 0x15, 0x16, 0x17, 0x1A] s.dev e) ∧
  (∀ (c : EmuNo), s.dev.pulses = [] → ∃ e, Sys2Proof.Machine.exec (.gateEnd c) s = .next ⟨e, s.pending⟩ ∧ ChangesIn [.hostMem, .msix, .out, .pulses, .accums, .dma, .tk, .cls, .net, .pte, .emu, .cd, .lanes, .pwr, .obs] [0x00, 0x01, 0x02, 0x04, 0x05, 0x06, 0x07, 0x08, 0x0A, 0x0E, 0x0F, 0x13, 0x14, 0x15, 0x16, 0x17, 0x1A] s.dev e) ∧
  (∀ (c : EmuNo), s.dev.pulses = [] → ∃ e, Sys2Proof.Machine.exec (.noEdgeTimeout c) s = .next ⟨e, s.pending⟩ ∧ ChangesIn [.msix, .out, .pulses, .tk, .cls, .net, .pte, .cd, .lanes, .pwr, .obs] [0x01, 0x02, 0x04, 0x05, 0x06, 0x07, 0x08, 0x0A, 0x0E, 0x0F, 0x13, 0x14, 0x15, 0x16, 0x1A] s.dev e) ∧
  (∀ (c : EmuNo), s.dev.pulses = [] → ∃ e, Sys2Proof.Machine.exec (.emuFlushExpiry c) s = .next ⟨e, s.pending⟩ ∧ ChangesIn [.hostMem, .msix, .out, .pulses, .accums, .dma, .tk, .net] [0x00, 0x08, 0x17] s.dev e) ∧
  (∀ (c : EmuNo) (hits : List Nat), s.dev.pulses = [] → ∃ e, Sys2Proof.Machine.exec (.interpolatorExchange c hits) s = .next ⟨e, s.pending⟩ ∧ ChangesIn [.msix, .out, .pulses, .tk, .cls, .net, .pte, .emu, .cd, .lanes, .pwr, .obs] [0x01, 0x02, 0x04, 0x05, 0x06, 0x07, 0x08, 0x0A, 0x0E, 0x0F, 0x13, 0x14, 0x15, 0x16, 0x1A] s.dev e) ∧
  s.dev.pulses = [] → ∃ e, Sys2Proof.Machine.exec .rawCounterWrap s = .next ⟨e, s.pending⟩ ∧ ChangesIn [.msix, .out, .pulses, .tk, .cls, .net, .pte, .emu, .cd, .lanes, .pwr, .obs] [0x01, 0x02, 0x04, 0x05, 0x06, 0x07, 0x08, 0x0A, 0x0E, 0x0F, 0x13, 0x14, 0x15, 0x16, 0x1A] s.dev e ∧
  (∀ (i : CandNo), s.dev.pulses = [] → ∃ e, Sys2Proof.Machine.exec (.candidateWtrEnd i) s = .next ⟨e, s.pending⟩ ∧ ChangesIn [.msix, .out, .pulses, .tk, .net, .refc] [0x07, 0x08] s.dev e) ∧
  s.dev.pulses = [] → ∃ e, Sys2Proof.Machine.exec .selectorSwitch s = .next ⟨e, s.pending⟩ ∧ ChangesIn [.msix, .out, .pulses, .cls, .net, .pte, .refc, .cd, .lanes, .pwr, .obs] [0x01, 0x02, 0x04, 0x05, 0x06, 0x07, 0x08, 0x0A, 0x0E, 0x0F, 0x13, 0x14, 0x15, 0x16, 0x1A] s.dev e ∧
  s.dev.pulses = [] → ∃ e, Sys2Proof.Machine.exec .hoMaxExpiry s = .next ⟨e, s.pending⟩ ∧ ChangesIn [.msix, .out, .pulses, .cls, .net, .pte, .refc, .cd, .lanes, .pwr, .obs] [0x01, 0x02, 0x04, 0x05, 0x06, 0x07, 0x08, 0x0A, 0x0E, 0x0F, 0x13, 0x14, 0x15, 0x16, 0x1A] s.dev e ∧
  s.dev.pulses = [] → ∃ e, Sys2Proof.Machine.exec .learningPoint s = .next ⟨e, s.pending⟩ ∧ ChangesIn [.msix, .out, .pulses, .tk, .cls, .net, .pte, .refc, .cd, .lanes, .pwr, .obs] [0x01, 0x02, 0x04, 0x05, 0x06, 0x07, 0x08, 0x0A, 0x0E, 0x0F, 0x13, 0x14, 0x15, 0x16, 0x1A] s.dev e ∧
  (∀ (i : DomainNo), s.dev.pulses = [] → ∃ e, Sys2Proof.Machine.exec (.lockfailTimeout i) s = .next ⟨e, s.pending⟩ ∧ ChangesIn [.msix, .out, .pulses, .tk, .net] [0x08] s.dev e) ∧
  (∀ (i : DomainNo), s.dev.pulses = [] → ∃ e, Sys2Proof.Machine.exec (.pllRelockRetry i) s = .next ⟨e, s.pending⟩ ∧ ChangesIn [.pulses, .tk, .net] [0x08] s.dev e) ∧
  s.dev.pulses = [] → ∃ e, Sys2Proof.Machine.exec .dividerSync s = .next ⟨e, s.pending⟩ ∧ ChangesIn [.msix, .out, .pulses, .tk, .cls, .net, .pte, .cd, .lanes, .trk0, .trk1, .pwr, .obs, .crs] [0x01, 0x02, 0x04, 0x05, 0x06, 0x07, 0x08, 0x0A, 0x0E, 0x0F, 0x13, 0x14, 0x15, 0x16, 0x18, 0x19, 0x1A] s.dev e ∧
  (∀ (g : CageNo) (tau : Word) (back : BitVec 16) (rms : BitVec 32) (stepped : Bool), s.dev.pulses = [] → ∃ e, Sys2Proof.Machine.exec (.twinMeasurement g tau back rms stepped) s = .next ⟨e, s.pending⟩ ∧ ChangesIn [.msix, .out, .pulses, .tk, .cls, .net, .pte, .cd, .cal, .lanes, .pwr, .obs] [0x01, 0x02, 0x04, 0x05, 0x06, 0x07, 0x08, 0x09, 0x0A, 0x0E, 0x0F, 0x13, 0x14, 0x15, 0x16, 0x1A] s.dev e) ∧
  (∀ (g : CageNo), s.dev.pulses = [] → ∃ e, Sys2Proof.Machine.exec (.twinStale g) s = .next ⟨e, s.pending⟩ ∧ ChangesIn [.msix, .out, .pulses, .tk, .net, .cal] [0x04, 0x08, 0x09] s.dev e) ∧
  s.dev.pulses = [] → ∃ e, Sys2Proof.Machine.exec .calWindowOpen s = .next ⟨e, s.pending⟩ ∧ ChangesIn [.net, .cal] [0x04, 0x05, 0x06, 0x07, 0x0A, 0x13] s.dev e

/-- Where no LIVE bit stands for a second, each of these commands completes and changes only the parts of the module and the classes of items
that the statement names for it: those of its own unit, and the interrupts, logs and timers that every unit uses. Everything else stays,
rule sets, the Timeline store, clock domains and lanes among it. (R649, R653, R667, R674, R696, R699, R726) -/
def Obligations.FramesOfManagement : Prop := ∀ s : State,
  s.dev.pulses = [] → ∃ e, Sys2Proof.Machine.exec .spareSelfTest s = .next ⟨e, s.pending⟩ ∧ ChangesIn [.pulses, .tk] [0x08, 0x19] s.dev e ∧
  (∀ (node : BitVec 16), s.dev.pulses = [] → ∃ e, Sys2Proof.Machine.exec (.lsrMaxageExpiry node) s = .next ⟨e, s.pending⟩ ∧ ChangesIn [.pulses, .tk, .net, .crs] [0x01, 0x08, 0x18] s.dev e) ∧
  s.dev.pulses = [] → ∃ e, Sys2Proof.Machine.exec .routeComputation s = .next ⟨e, s.pending⟩ ∧ ChangesIn [.crs] [0x01, 0x05, 0x0A, 0x14, 0x18, 0x1A] s.dev e ∧
  s.dev.pulses = [] → ∃ e, Sys2Proof.Machine.exec .responseRx s = .next ⟨e, s.pending⟩ ∧ ChangesIn [.hostMem, .msix, .out, .reply, .host, .net, .crs] [0x00, 0x05] s.dev e ∧
  (∀ (corr : BitVec 32), s.dev.pulses = [] → ∃ e, Sys2Proof.Machine.exec (.cresorRequestTimeout corr) s = .next ⟨e, s.pending⟩ ∧ ChangesIn [.hostMem, .msix, .out, .reply, .pulses, .host, .tk, .net, .crs] [0x00, 0x05, 0x08] s.dev e) ∧
  (∀ (ch : ChanNo), s.dev.pulses = [] → ∃ e, Sys2Proof.Machine.exec (.holdoffExpiry ch) s = .next ⟨e, s.pending⟩ ∧ ChangesIn [.msix, .out, .pulses, .dma, .tk, .net] [0x00, 0x08] s.dev e) ∧
  (∀ (ch : Fin 32), s.dev.pulses = [] → ∃ e, Sys2Proof.Machine.exec (.puntTruncTimeout ch) s = .next ⟨e, s.pending⟩ ∧ ChangesIn [.hostMem, .msix, .out, .pulses, .accums, .dma, .tk, .net] [0x00, 0x08, 0x17] s.dev e) ∧
  s.dev.pulses = [] → ∃ e, Sys2Proof.Machine.exec .stageEraseComplete s = .next ⟨e, s.pending⟩ ∧ ChangesIn [.hostMem, .msix, .out, .reply, .host, .trust, .crs] [0x00, 0x05, 0x19] s.dev e ∧
  (∀ (slot : CageNo), s.dev.pulses = [] → ∃ e, Sys2Proof.Machine.exec (.standbyStart slot) s = .next ⟨e, s.pending⟩ ∧ ChangesIn [.msix, .out, .pulses, .accums, .net, .pwr, .obs] [0x18, 0x19, 0x1A, 0x1B] s.dev e)

/-- Where no LIVE bit stands for a second, each of these commands completes and changes only the parts of the module and the classes of items
that the statement names for it: those of its own unit, and the interrupts, logs and timers that every unit uses. Everything else stays,
rule sets as the host loads them, the Timeline store, clock domains and keys among it. (R107, R374, R403, R462, R593) -/
def Obligations.FramesOfThePacketPath : Prop := ∀ s : State,
  (∀ (n : LpNo), s.dev.pulses = [] → ∃ e, Sys2Proof.Machine.exec (.flushComplete n) s = .next ⟨e, s.pending⟩ ∧ ChangesIn [.msix, .out, .pulses, .cls, .net, .pte, .cd, .lanes, .pwr, .obs] [0x01, 0x02, 0x04, 0x05, 0x06, 0x07, 0x08, 0x0A, 0x0E, 0x0F, 0x13, 0x14, 0x15, 0x16, 0x1A] s.dev e) ∧
  (∀ (n : LpNo), s.dev.pulses = [] → ∃ e, Sys2Proof.Machine.exec (.lastByteSent n) s = .next ⟨e, s.pending⟩ ∧ ChangesIn [.msix, .out, .pulses, .tk, .cls, .net, .pte, .cd, .lanes, .pwr, .obs] [0x01, 0x02, 0x04, 0x05, 0x06, 0x07, 0x08, 0x0A, 0x0B, 0x0E, 0x0F, 0x13, 0x14, 0x15, 0x16, 0x1A] s.dev e) ∧
  (∀ (pool : PoolNo), s.dev.pulses = [] → ∃ e, Sys2Proof.Machine.exec (.spill pool) s = .next ⟨e, s.pending⟩ ∧ ChangesIn [.msix, .out, .pulses, .cls, .net, .pte, .cd, .lanes, .pwr, .obs] [0x01, 0x02, 0x04, 0x05, 0x06, 0x07, 0x08, 0x0A, 0x0E, 0x0F, 0x13, 0x14, 0x15, 0x16, 0x1A] s.dev e) ∧
  (∀ (n : LpNo) (t : Machine.RxTerms) (head : List Byte), s.dev.pulses = [] → ∃ e, Sys2Proof.Machine.exec (.frameHeadRx n t head) s = .next ⟨e, s.pending⟩ ∧ ChangesIn [.msix, .out, .pulses, .cls, .net, .pte, .cd, .lanes, .pwr, .obs] [0x01, 0x02, 0x04, 0x05, 0x06, 0x07, 0x08, 0x09, 0x0A, 0x0D, 0x0E, 0x0F, 0x13, 0x14, 0x15, 0x16, 0x1A] s.dev e) ∧
  (∀ (n : LpNo) (rest : List Byte) (fcs : BitVec 32) (err : Option Nat), s.dev.pulses = [] → ∃ e, Sys2Proof.Machine.exec (.frameTailRx n rest fcs err) s = .next ⟨e, s.pending⟩ ∧ ChangesIn [.msix, .out, .pulses, .tk, .cls, .net, .pte, .cd, .lanes, .pwr, .obs] [0x01, 0x02, 0x04, 0x05, 0x06, 0x07, 0x08, 0x0A, 0x0B, 0x0C, 0x0D, 0x0E, 0x0F, 0x13, 0x14, 0x15, 0x16, 0x1A] s.dev e) ∧
  (∀ (frame : Nat), s.dev.pulses = [] → ∃ e, Sys2Proof.Machine.exec (.passLate frame) s = .next ⟨e, s.pending⟩ ∧ ChangesIn [.msix, .out, .pulses, .tk, .cls, .net, .pte, .cd, .lanes, .pwr, .obs] [0x01, 0x02, 0x04, 0x05, 0x06, 0x07, 0x08, 0x0A, 0x0D, 0x0E, 0x0F, 0x13, 0x14, 0x15, 0x16, 0x1A] s.dev e) ∧
  (∀ (frame : Nat), s.dev.pulses = [] → ∃ e, Sys2Proof.Machine.exec (.classifyPass frame) s = .next ⟨e, s.pending⟩ ∧ ChangesIn [.msix, .out, .freeCtr, .pulses, .tk, .cls, .net, .pte, .cd, .lanes, .pwr, .obs] [0x01, 0x02, 0x04, 0x05, 0x06, 0x07, 0x08, 0x0A, 0x0B, 0x0C, 0x0D, 0x0E, 0x0F, 0x11, 0x13, 0x14, 0x15, 0x16, 0x18, 0x1A] s.dev e) ∧
  (∀ (n : LpNo) (frame : Machine.ControlFrame) (fcs : BitVec 32) (err : Bool), s.dev.pulses = [] → ∃ e, Sys2Proof.Machine.exec (.macControlFrameRx n frame fcs err) s = .next ⟨e, s.pending⟩ ∧ ChangesIn [.msix, .out, .pulses, .accums, .tk, .cls, .net, .pte, .cd, .lanes, .pwr, .obs] [0x01, 0x02, 0x04, 0x05, 0x06, 0x07, 0x08, 0x09, 0x0A, 0x0D, 0x0E, 0x0F, 0x13, 0x14, 0x15, 0x16, 0x1A] s.dev e) ∧
  (∀ (n : LpNo) (t : Machine.TxTerms), s.dev.pulses = [] → ∃ e, Sys2Proof.Machine.exec (.launchCommitment n t) s = .next ⟨e, s.pending⟩ ∧ ChangesIn [.msix, .out, .freeCtr, .pulses, .accums, .tk, .cls, .net, .pte, .cd, .lanes, .pwr, .obs] [0x01, 0x02, 0x04, 0x05, 0x06, 0x07, 0x08, 0x0A, 0x0E, 0x0F, 0x10, 0x12, 0x13, 0x14, 0x15, 0x16, 0x18, 0x1A] s.dev e) ∧
  s.dev.pulses = [] → ∃ e, Sys2Proof.Machine.exec .ipfixTemplateRefresh s = .next ⟨e, s.pending⟩ ∧ ChangesIn [.msix, .out, .freeCtr, .pulses, .tk, .cls, .net, .pte, .cd, .lanes, .pwr, .obs] [0x01, 0x02, 0x04, 0x05, 0x06, 0x07, 0x08, 0x0A, 0x0E, 0x0F, 0x13, 0x14, 0x15, 0x16, 0x18, 0x1A] s.dev e ∧
  s.dev.pulses = [] → ∃ e, Sys2Proof.Machine.exec .delayReqRx s = .next ⟨e, s.pending⟩ ∧ ChangesIn [.msix, .out, .pulses, .cls, .net, .pte, .cd, .lanes, .pwr, .obs] [0x01, 0x02, 0x04, 0x05, 0x06, 0x07, 0x08, 0x0A, 0x0E, 0x0F, 0x13, 0x14, 0x15, 0x16, 0x1A] s.dev e ∧
  s.dev.pulses = [] → ∃ e, Sys2Proof.Machine.exec .pdelayReqRx s = .next ⟨e, s.pending⟩ ∧ ChangesIn [.msix, .out, .pulses, .cls, .net, .pte, .cd, .lanes, .pwr, .obs] [0x01, 0x02, 0x04, 0x05, 0x06, 0x07, 0x08, 0x0A, 0x0E, 0x0F, 0x13, 0x14, 0x15, 0x16, 0x1A] s.dev e ∧
  (∀ (n : LpNo) (k : PisteNo), s.dev.pulses = [] → ∃ e, Sys2Proof.Machine.exec (.announceTx n k) s = .next ⟨e, s.pending⟩ ∧ ChangesIn [.msix, .out, .pulses, .cls, .net, .pte, .cd, .lanes, .pwr, .obs] [0x01, 0x02, 0x04, 0x05, 0x06, 0x07, 0x08, 0x0A, 0x0E, 0x0F, 0x13, 0x14, 0x15, 0x16, 0x1A] s.dev e) ∧
  (∀ (n : LpNo) (k : PisteNo), s.dev.pulses = [] → ∃ e, Sys2Proof.Machine.exec (.syncTx n k) s = .next ⟨e, s.pending⟩ ∧ ChangesIn [.msix, .out, .pulses, .cls, .net, .pte, .cd, .lanes, .pwr, .obs] [0x01, 0x02, 0x04, 0x05, 0x06, 0x07, 0x08, 0x0A, 0x0E, 0x0F, 0x13, 0x14, 0x15, 0x16, 0x1A] s.dev e) ∧
  (∀ (n : LpNo) (k : PisteNo), s.dev.pulses = [] → ∃ e, Sys2Proof.Machine.exec (.delayReqTx n k) s = .next ⟨e, s.pending⟩ ∧ ChangesIn [.msix, .out, .freeCtr, .pulses, .cls, .net, .pte, .cd, .lanes, .pwr, .obs] [0x01, 0x02, 0x04, 0x05, 0x06, 0x07, 0x08, 0x0A, 0x0E, 0x0F, 0x13, 0x14, 0x15, 0x16, 0x1A] s.dev e) ∧
  (∀ (n : LpNo) (k : PisteNo), s.dev.pulses = [] → ∃ e, Sys2Proof.Machine.exec (.pdelayReqTx n k) s = .next ⟨e, s.pending⟩ ∧ ChangesIn [.msix, .out, .pulses, .cls, .net, .pte, .cd, .lanes, .pwr, .obs] [0x01, 0x02, 0x04, 0x05, 0x06, 0x07, 0x08, 0x0A, 0x0E, 0x0F, 0x13, 0x14, 0x15, 0x16, 0x1A] s.dev e) ∧
  (∀ (n : LpNo), s.dev.pulses = [] → ∃ e, Sys2Proof.Machine.exec (.esmcEventTx n) s = .next ⟨e, s.pending⟩ ∧ ChangesIn [.msix, .out, .pulses, .cls, .net, .pte, .refc, .cd, .lanes, .pwr, .obs] [0x01, 0x02, 0x04, 0x05, 0x06, 0x07, 0x08, 0x0A, 0x0E, 0x0F, 0x13, 0x14, 0x15, 0x16, 0x1A] s.dev e) ∧
  (∀ (n : LpNo), s.dev.pulses = [] → ∃ e, Sys2Proof.Machine.exec (.esmcInfoTx n) s = .next ⟨e, s.pending⟩ ∧ ChangesIn [.msix, .out, .pulses, .cls, .net, .pte, .refc, .cd, .lanes, .pwr, .obs] [0x01, 0x02, 0x04, 0x05, 0x06, 0x07, 0x08, 0x0A, 0x0E, 0x0F, 0x13, 0x14, 0x15, 0x16, 0x1A] s.dev e)

/-- Where no LIVE bit stands for a second, each of these commands completes and changes only the parts of the module and the classes of items
that the statement names for it: those of its own unit, and the interrupts, logs and timers that every unit uses. Everything else stays,
host memory, rings, DMA channels, the Timeline store and keys among it. (R162, R247, R255, R258, R318) -/
def Obligations.FramesOfTimeMessages : Prop := ∀ s : State,
  (∀ (k : PisteNo), s.dev.pulses = [] → ∃ e, Sys2Proof.Machine.exec (.servoUpdate k) s = .next ⟨e, s.pending⟩ ∧ ChangesIn [.msix, .out, .freeCtr, .pulses, .tk, .cls, .net, .att, .pte, .cd, .lanes, .pwr, .obs, .trust] [0x01, 0x02, 0x04, 0x05, 0x06, 0x07, 0x08, 0x0A, 0x0E, 0x0F, 0x13, 0x14, 0x15, 0x16, 0x18, 0x19, 0x1A] s.dev e) ∧
  (∀ (i : CandNo), s.dev.pulses = [] → ∃ e, Sys2Proof.Machine.exec (.candidateFail i) s = .next ⟨e, s.pending⟩ ∧ ChangesIn [.msix, .out, .pulses, .tk, .cls, .net, .pte, .refc, .cd, .lanes, .pwr, .obs] [0x01, 0x02, 0x04, 0x05, 0x06, 0x07, 0x08, 0x0A, 0x0E, 0x0F, 0x13, 0x14, 0x15, 0x16, 0x1A] s.dev e) ∧
  (∀ (i : CandNo), s.dev.pulses = [] → ∃ e, Sys2Proof.Machine.exec (.candidateFailEnd i) s = .next ⟨e, s.pending⟩ ∧ ChangesIn [.msix, .out, .pulses, .cls, .net, .pte, .refc, .cd, .lanes, .pwr, .obs] [0x01, 0x02, 0x04, 0x05, 0x06, 0x07, 0x08, 0x0A, 0x0E, 0x0F, 0x13, 0x14, 0x15, 0x16, 0x1A] s.dev e) ∧
  s.dev.pulses = [] → ∃ e, Sys2Proof.Machine.exec .esmcPduRx s = .next ⟨e, s.pending⟩ ∧ ChangesIn [.msix, .out, .pulses, .cls, .net, .pte, .refc, .cd, .lanes, .pwr, .obs] [0x01, 0x02, 0x04, 0x05, 0x06, 0x07, 0x08, 0x0A, 0x0E, 0x0F, 0x13, 0x14, 0x15, 0x16, 0x1A] s.dev e ∧
  (∀ (t : TrunkNo), s.dev.pulses = [] → ∃ e, Sys2Proof.Machine.exec (.qlRecordRx t) s = .next ⟨e, s.pending⟩ ∧ ChangesIn [.msix, .out, .pulses, .cls, .net, .pte, .refc, .cd, .lanes, .pwr, .obs] [0x01, 0x02, 0x04, 0x05, 0x06, 0x07, 0x08, 0x0A, 0x0E, 0x0F, 0x13, 0x14, 0x15, 0x16, 0x1A] s.dev e) ∧
  (∀ (n : LpNo), s.dev.pulses = [] → ∃ e, Sys2Proof.Machine.exec (.esmcTimeout n) s = .next ⟨e, s.pending⟩ ∧ ChangesIn [.msix, .out, .pulses, .tk, .net, .pte, .refc] [0x05, 0x06, 0x07, 0x08, 0x0A, 0x13, 0x14] s.dev e) ∧
  (∀ (t : TrunkNo), s.dev.pulses = [] → ∃ e, Sys2Proof.Machine.exec (.qlRecordTimeout t) s = .next ⟨e, s.pending⟩ ∧ ChangesIn [.msix, .out, .pulses, .tk, .cls, .net, .pte, .refc, .cd, .lanes, .pwr, .obs] [0x01, 0x02, 0x04, 0x05, 0x06, 0x07, 0x08, 0x0A, 0x0E, 0x0F, 0x13, 0x14, 0x15, 0x16, 0x1A] s.dev e) ∧
  (∀ (theta : BitVec 24), s.dev.pulses = [] → ∃ e, Sys2Proof.Machine.exec (.monitorSecond theta) s = .next ⟨e, s.pending⟩ ∧ ChangesIn [.msix, .out, .pulses, .tk, .cls, .net, .pte, .refc, .cd, .lanes, .pwr, .obs] [0x01, 0x02, 0x04, 0x05, 0x06, 0x07, 0x08, 0x0A, 0x0E, 0x0F, 0x13, 0x14, 0x15, 0x16, 0x1A] s.dev e) ∧
  s.dev.pulses = [] → ∃ e, Sys2Proof.Machine.exec .pllTSlewUpdate s = .next ⟨e, s.pending⟩ ∧ ChangesIn [.msix, .out, .pulses, .tk, .cls, .net, .pte, .cd, .lanes, .pwr, .obs] [0x01, 0x02, 0x04, 0x05, 0x06, 0x07, 0x08, 0x0A, 0x0E, 0x0F, 0x13, 0x14, 0x15, 0x16, 0x18, 0x1A] s.dev e ∧
  (∀ (t : TrunkNo), s.dev.pulses = [] → ∃ e, Sys2Proof.Machine.exec (.announceRecordRx t) s = .next ⟨e, s.pending⟩ ∧ ChangesIn [.msix, .out, .pulses, .tk, .cls, .net, .pte, .cd, .lanes, .trk0, .trk1, .pwr, .obs, .crs] [0x01, 0x02, 0x04, 0x05, 0x06, 0x07, 0x08, 0x0A, 0x0E, 0x0F, 0x13, 0x14, 0x15, 0x16, 0x18, 0x19, 0x1A] s.dev e) ∧
  s.dev.pulses = [] → ∃ e, Sys2Proof.Machine.exec .announceRx s = .next ⟨e, s.pending⟩ ∧ ChangesIn [.msix, .out, .pulses, .tk, .cls, .net, .pte, .cd, .lanes, .trk0, .trk1, .pwr, .obs, .crs] [0x01, 0x02, 0x04, 0x05, 0x06, 0x07, 0x08, 0x0A, 0x0E, 0x0F, 0x13, 0x14, 0x15, 0x16, 0x18, 0x19, 0x1A] s.dev e ∧
  (∀ (k : PisteNo), s.dev.pulses = [] → ∃ e, Sys2Proof.Machine.exec (.pisteLocked k) s = .next ⟨e, s.pending⟩ ∧ ChangesIn [.msix, .out, .pulses, .tk, .cls, .net, .pte, .cd, .lanes, .trk0, .trk1, .pwr, .obs, .crs] [0x01, 0x02, 0x04, 0x05, 0x06, 0x07, 0x08, 0x0A, 0x0E, 0x0F, 0x13, 0x14, 0x15, 0x16, 0x18, 0x19, 0x1A] s.dev e) ∧
  (∀ (p : ClkPortNo) (k : PisteNo), s.dev.pulses = [] → ∃ e, Sys2Proof.Machine.exec (.announceReceiptTimeout p k) s = .next ⟨e, s.pending⟩ ∧ ChangesIn [.msix, .out, .pulses, .tk, .cls, .net, .pte, .cd, .lanes, .trk0, .trk1, .pwr, .obs, .crs] [0x01, 0x02, 0x04, 0x05, 0x06, 0x07, 0x08, 0x0A, 0x0E, 0x0F, 0x13, 0x14, 0x15, 0x16, 0x18, 0x19, 0x1A] s.dev e) ∧
  (∀ (k : PisteNo), s.dev.pulses = [] → ∃ e, Sys2Proof.Machine.exec (.bestMasterSelection k) s = .next ⟨e, s.pending⟩ ∧ ChangesIn [.msix, .out, .freeCtr, .pulses, .tk, .cls, .net, .pte, .cd, .lanes, .trk0, .trk1, .pwr, .obs, .crs] [0x01, 0x02, 0x04, 0x05, 0x06, 0x07, 0x08, 0x0A, 0x0E, 0x0F, 0x13, 0x14, 0x15, 0x16, 0x18, 0x19, 0x1A] s.dev e) ∧
  s.dev.pulses = [] → ∃ e, Sys2Proof.Machine.exec .oscFail s = .next ⟨e, s.pending⟩ ∧ ChangesIn [.msix, .out, .pulses, .tk, .cls, .net, .pte, .cd, .lanes, .trk0, .trk1, .pwr, .obs, .crs] [0x01, 0x02, 0x04, 0x05, 0x06, 0x07, 0x08, 0x0A, 0x0E, 0x0F, 0x13, 0x14, 0x15, 0x16, 0x18, 0x19, 0x1A] s.dev e ∧
  (∀ (i : DomainNo), s.dev.pulses = [] → ∃ e, Sys2Proof.Machine.exec (.lossOfLock i) s = .next ⟨e, s.pending⟩ ∧ ChangesIn [.msix, .out, .pulses, .accums, .tk, .cls, .net, .pte, .refc, .cd, .lanes, .trk0, .trk1, .pwr, .obs, .crs] [0x01, 0x02, 0x04, 0x05, 0x06, 0x07, 0x08, 0x09, 0x0A, 0x0E, 0x0F, 0x10, 0x12, 0x13, 0x14, 0x15, 0x16, 0x18, 0x19, 0x1A] s.dev e)

/-- Where no LIVE bit stands for a second, each of these commands completes and changes only the parts of the module and the classes of items
that the statement names for it: those of its own unit, and the interrupts, logs and timers that every unit uses. Everything else stays,
host memory, rings, DMA channels, the Timeline store and measurement registers among it. (R365, R541, R552, R575, R660, R664) -/
def Obligations.FramesOfLinksAndTrunks : Prop := ∀ s : State,
  s.dev.pulses = [] → ∃ e, Sys2Proof.Machine.exec .cresorMessageRx s = .next ⟨e, s.pending⟩ ∧ ChangesIn [.msix, .out, .pulses, .tk, .cls, .net, .pte, .cd, .lanes, .trk0, .trk1, .pwr, .obs, .crs] [0x01, 0x02, 0x04, 0x05, 0x06, 0x07, 0x08, 0x0A, 0x0E, 0x0F, 0x13, 0x14, 0x15, 0x16, 0x18, 0x1A] s.dev e ∧
  s.dev.pulses = [] → ∃ e, Sys2Proof.Machine.exec .helloRx s = .next ⟨e, s.pending⟩ ∧ ChangesIn [.msix, .out, .pulses, .tk, .cls, .net, .pte, .cd, .lanes, .trk0, .trk1, .pwr, .obs, .crs] [0x01, 0x02, 0x04, 0x05, 0x06, 0x07, 0x08, 0x0A, 0x0E, 0x0F, 0x13, 0x14, 0x15, 0x16, 0x18, 0x19, 0x1A] s.dev e ∧
  s.dev.pulses = [] → ∃ e, Sys2Proof.Machine.exec .helloTx s = .next ⟨e, s.pending⟩ ∧ ChangesIn [.msix, .out, .pulses, .tk, .cls, .net, .pte, .cd, .lanes, .trk0, .trk1, .pwr, .obs, .crs] [0x01, 0x02, 0x04, 0x05, 0x06, 0x07, 0x08, 0x0A, 0x0E, 0x0F, 0x13, 0x14, 0x15, 0x16, 0x18, 0x19, 0x1A] s.dev e ∧
  s.dev.pulses = [] → ∃ e, Sys2Proof.Machine.exec .lsrRx s = .next ⟨e, s.pending⟩ ∧ ChangesIn [.msix, .out, .pulses, .tk, .cls, .net, .pte, .cd, .lanes, .trk0, .trk1, .pwr, .obs, .crs] [0x01, 0x02, 0x04, 0x05, 0x06, 0x07, 0x08, 0x0A, 0x0E, 0x0F, 0x13, 0x14, 0x15, 0x16, 0x18, 0x1A] s.dev e ∧
  (∀ (k : CrsNo), s.dev.pulses = [] → ∃ e, Sys2Proof.Machine.exec (.deadMsExpiry k) s = .next ⟨e, s.pending⟩ ∧ ChangesIn [.msix, .out, .pulses, .tk, .cls, .net, .pte, .cd, .lanes, .trk0, .trk1, .pwr, .obs, .crs] [0x01, 0x02, 0x04, 0x05, 0x06, 0x07, 0x08, 0x0A, 0x0E, 0x0F, 0x13, 0x14, 0x15, 0x16, 0x18, 0x19, 0x1A] s.dev e) ∧
  (∀ (n : LpNo) (by_ : Machine.Break), s.dev.pulses = [] → ∃ e, Sys2Proof.Machine.exec (.linkBreak n by_) s = .next ⟨e, s.pending⟩ ∧ ChangesIn [.msix, .out, .pulses, .tk, .cls, .net, .pte, .cd, .lanes, .trk0, .trk1, .pwr, .obs, .crs] [0x01, 0x02, 0x04, 0x05, 0x06, 0x07, 0x08, 0x0A, 0x0E, 0x0F, 0x13, 0x14, 0x15, 0x16, 0x18, 0x19, 0x1A] s.dev e) ∧
  s.dev.pulses = [] → ∃ e, Sys2Proof.Machine.exec .lsrRefresh s = .next ⟨e, s.pending⟩ ∧ ChangesIn [.msix, .out, .pulses, .tk, .cls, .net, .pte, .cd, .lanes, .trk0, .trk1, .pwr, .obs, .crs] [0x01, 0x02, 0x04, 0x05, 0x06, 0x07, 0x08, 0x0A, 0x0E, 0x0F, 0x13, 0x14, 0x15, 0x16, 0x18, 0x19, 0x1A] s.dev e ∧
  (∀ (b : BundleNo) (crc : BitVec 16), s.dev.pulses = [] → ∃ e, Sys2Proof.Machine.exec (.bundleFail b crc) s = .next ⟨e, s.pending⟩ ∧ ChangesIn [.msix, .out, .pulses, .tk, .cls, .net, .pte, .cd, .lanes, .trk0, .trk1, .pwr, .obs, .crs] [0x01, 0x02, 0x04, 0x05, 0x06, 0x07, 0x08, 0x0A, 0x0E, 0x0F, 0x13, 0x14, 0x15, 0x16, 0x18, 0x19, 0x1A] s.dev e) ∧
  (∀ (n : LpNo), s.dev.pulses = [] → ∃ e, Sys2Proof.Machine.exec (.downDebounceExpiry n) s = .next ⟨e, s.pending⟩ ∧ ChangesIn [.msix, .out, .pulses, .tk, .cls, .net, .pte, .cd, .lanes, .trk0, .trk1, .pwr, .obs, .crs] [0x01, 0x02, 0x04, 0x05, 0x06, 0x07, 0x08, 0x0A, 0x0E, 0x0F, 0x13, 0x14, 0x15, 0x16, 0x18, 0x19, 0x1A] s.dev e) ∧
  (∀ (l : LaneNo), s.dev.pulses = [] → ∃ e, Sys2Proof.Machine.exec (.signalLoss l) s = .next ⟨e, s.pending⟩ ∧ ChangesIn [.msix, .out, .pulses, .tk, .cls, .net, .pte, .cd, .lanes, .trk0, .trk1, .pwr, .obs, .crs] [0x01, 0x02, 0x04, 0x05, 0x06, 0x07, 0x08, 0x0A, 0x0E, 0x0F, 0x13, 0x14, 0x15, 0x16, 0x18, 0x19, 0x1A] s.dev e) ∧
  (∀ (n : LpNo), s.dev.pulses = [] → ∃ e, Sys2Proof.Machine.exec (.upHoldExpiry n) s = .next ⟨e, s.pending⟩ ∧ ChangesIn [.msix, .out, .pulses, .tk, .cls, .net, .pte, .cd, .lanes, .trk0, .trk1, .pwr, .obs, .crs] [0x01, 0x02, 0x04, 0x05, 0x06, 0x07, 0x08, 0x0A, 0x0E, 0x0F, 0x13, 0x14, 0x15, 0x16, 0x18, 0x19, 0x1A] s.dev e) ∧
  (∀ (l : LaneNo), s.dev.pulses = [] → ∃ e, Sys2Proof.Machine.exec (.laneLimitExpiry l) s = .next ⟨e, s.pending⟩ ∧ ChangesIn [.msix, .out, .pulses, .tk, .cls, .net, .pte, .cd, .lanes, .trk0, .trk1, .pwr, .obs, .crs] [0x01, 0x02, 0x04, 0x05, 0x06, 0x07, 0x08, 0x0A, 0x0E, 0x0F, 0x13, 0x14, 0x15, 0x16, 0x18, 0x19, 0x1A] s.dev e) ∧
  (∀ (t : TrunkNo) (bin : Fin 512) (cycles : BitVec 32), s.dev.pulses = [] → ∃ e, Sys2Proof.Machine.exec (.trunkMarkerRx t bin cycles) s = .next ⟨e, s.pending⟩ ∧ ChangesIn [.msix, .out, .pulses, .tk, .cls, .net, .pte, .emu, .refc, .cd, .cal, .lanes, .trk0, .trk1, .pwr, .obs, .crs] [0x01, 0x02, 0x04, 0x05, 0x06, 0x07, 0x08, 0x0A, 0x0E, 0x0F, 0x13, 0x14, 0x15, 0x16, 0x18, 0x19, 0x1A] s.dev e) ∧
  (∀ (t : TrunkNo), s.dev.pulses = [] → ∃ e, Sys2Proof.Machine.exec (.trunkMarkersStopped t) s = .next ⟨e, s.pending⟩ ∧ ChangesIn [.msix, .out, .pulses, .tk, .cls, .net, .pte, .cd, .lanes, .trk0, .trk1, .pwr, .obs, .crs] [0x01, 0x02, 0x04, 0x05, 0x06, 0x07, 0x08, 0x0A, 0x0E, 0x0F, 0x13, 0x14, 0x15, 0x16, 0x18, 0x19, 0x1A] s.dev e) ∧
  (∀ (t : TrunkNo) (errors : BitVec 16), s.dev.pulses = [] → ∃ e, Sys2Proof.Machine.exec (.codeErrorBurst t errors) s = .next ⟨e, s.pending⟩ ∧ ChangesIn [.msix, .out, .pulses, .tk, .cls, .net, .pte, .refc, .cd, .lanes, .trk0, .trk1, .pwr, .obs, .crs] [0x01, 0x02, 0x04, 0x05, 0x06, 0x07, 0x08, 0x0A, 0x0E, 0x0F, 0x13, 0x14, 0x15, 0x16, 0x18, 0x19, 0x1A] s.dev e) ∧
  (∀ (t : TrunkNo) (set : Machine.TrainSet), s.dev.pulses = [] → ∃ e, Sys2Proof.Machine.exec (.trainingSetRx t set) s = .next ⟨e, s.pending⟩ ∧ ChangesIn [.msix, .out, .pulses, .tk, .cls, .net, .pte, .refc, .cd, .lanes, .trk0, .trk1, .pwr, .obs, .crs] [0x01, 0x02, 0x04, 0x05, 0x06, 0x07, 0x08, 0x0A, 0x0E, 0x0F, 0x13, 0x14, 0x15, 0x16, 0x18, 0x19, 0x1A] s.dev e) ∧
  (∀ (t : TrunkNo), s.dev.pulses = [] → ∃ e, Sys2Proof.Machine.exec (.trunkAlignmentDone t) s = .next ⟨e, s.pending⟩ ∧ ChangesIn [.msix, .out, .pulses, .tk, .cls, .net, .pte, .refc, .cd, .lanes, .trk0, .trk1, .pwr, .obs, .crs] [0x01, 0x02, 0x04, 0x05, 0x06, 0x07, 0x08, 0x0A, 0x0E, 0x0F, 0x13, 0x14, 0x15, 0x16, 0x18, 0x19, 0x1A] s.dev e) ∧
  (∀ (t : TrunkNo), s.dev.pulses = [] → ∃ e, Sys2Proof.Machine.exec (.trunkClockLost t) s = .next ⟨e, s.pending⟩ ∧ ChangesIn [.msix, .out, .pulses, .tk, .cls, .net, .pte, .refc, .cd, .lanes, .trk0, .trk1, .pwr, .obs, .crs] [0x01, 0x02, 0x04, 0x05, 0x06, 0x07, 0x08, 0x0A, 0x0E, 0x0F, 0x13, 0x14, 0x15, 0x16, 0x18, 0x19, 0x1A] s.dev e) ∧
  (∀ (t : TrunkNo), s.dev.pulses = [] → ∃ e, Sys2Proof.Machine.exec (.trunkClockQualified t) s = .next ⟨e, s.pending⟩ ∧ ChangesIn [.msix, .out, .pulses, .tk, .cls, .net, .pte, .refc, .cd, .lanes, .trk0, .trk1, .pwr, .obs, .crs] [0x01, 0x02, 0x04, 0x05, 0x06, 0x07, 0x08, 0x0A, 0x0E, 0x0F, 0x13, 0x14, 0x15, 0x16, 0x18, 0x19, 0x1A] s.dev e) ∧
  (∀ (t : TrunkNo), s.dev.pulses = [] → ∃ e, Sys2Proof.Machine.exec (.trunkAlignmentTimeout t) s = .next ⟨e, s.pending⟩ ∧ ChangesIn [.msix, .out, .pulses, .tk, .cls, .net, .pte, .refc, .cd, .lanes, .trk0, .trk1, .pwr, .obs, .crs] [0x01, 0x02, 0x04, 0x05, 0x06, 0x07, 0x08, 0x0A, 0x0E, 0x0F, 0x13, 0x14, 0x15, 0x16, 0x18, 0x19, 0x1A] s.dev e) ∧
  (∀ (t : TrunkNo), s.dev.pulses = [] → ∃ e, Sys2Proof.Machine.exec (.trunkTrainTimeout t) s = .next ⟨e, s.pending⟩ ∧ ChangesIn [.msix, .out, .pulses, .tk, .cls, .net, .pte, .refc, .cd, .lanes, .trk0, .trk1, .pwr, .obs, .crs] [0x01, 0x02, 0x04, 0x05, 0x06, 0x07, 0x08, 0x0A, 0x0E, 0x0F, 0x13, 0x14, 0x15, 0x16, 0x18, 0x19, 0x1A] s.dev e)

/-- Where no LIVE bit stands for a second, each of these commands completes and changes only the parts of the module and the classes of items
that the statement names for it: those of its own unit, and the interrupts, logs and timers that every unit uses. Everything else stays,
clock domains, calibration and trunks among it. (R645, R650, R689, R700, R733, R753) -/
def Obligations.FramesOfStartsAndBlocks : Prop := ∀ s : State,
  s.dev.pulses = [] → ∃ e, Sys2Proof.Machine.exec .coldStart s = .next ⟨e, s.pending⟩ ∧ ChangesIn [.hostMem, .msix, .out, .reply, .pulses, .accums, .host, .tk, .cls, .net, .att, .pte, .emu, .refc, .cd, .cal, .lanes, .trk0, .trk1, .pwr, .obs, .trust, .crs] [0x00, 0x01, 0x02, 0x04, 0x05, 0x06, 0x07, 0x08, 0x09, 0x0A, 0x0E, 0x0F, 0x13, 0x14, 0x15, 0x16, 0x18, 0x19, 0x1A, 0x1B] s.dev e ∧
  s.dev.pulses = [] → ∃ e, Sys2Proof.Machine.exec .modRstRelease s = .next ⟨e, s.pending⟩ ∧ ChangesIn [.hostMem, .msix, .out, .reply, .pulses, .accums, .host, .tk, .cls, .net, .att, .pte, .cd, .cal, .lanes, .trk0, .trk1, .pwr, .obs, .trust, .crs] [0x00, 0x01, 0x02, 0x04, 0x05, 0x06, 0x07, 0x08, 0x09, 0x0A, 0x0E, 0x0F, 0x13, 0x14, 0x15, 0x16, 0x18, 0x19, 0x1A] s.dev e ∧
  s.dev.pulses = [] → ∃ e, Sys2Proof.Machine.exec .powerOn s = .next ⟨e, s.pending⟩ ∧ ChangesIn [.hostMem, .msix, .out, .reply, .pulses, .accums, .host, .tk, .cls, .net, .att, .pte, .emu, .refc, .cd, .cal, .lanes, .trk0, .trk1, .pwr, .obs, .trust, .crs] [0x00, 0x01, 0x02, 0x04, 0x05, 0x06, 0x07, 0x08, 0x09, 0x0A, 0x0E, 0x0F, 0x13, 0x14, 0x15, 0x16, 0x18, 0x19, 0x1A, 0x1B] s.dev e ∧
  s.dev.pulses = [] → ∃ e, Sys2Proof.Machine.exec .readyTimeout s = .next ⟨e, s.pending⟩ ∧ ChangesIn [.msix, .out, .pulses, .tk, .net, .att, .pwr, .trust, .crs] [0x01, 0x02, 0x08, 0x19] s.dev e ∧
  s.dev.pulses = [] → ∃ e, Sys2Proof.Machine.exec .tripRestart s = .next ⟨e, s.pending⟩ ∧ ChangesIn [.hostMem, .msix, .out, .reply, .pulses, .accums, .host, .tk, .cls, .net, .att, .pte, .emu, .refc, .cd, .cal, .lanes, .trk0, .trk1, .pwr, .obs, .trust, .crs] [0x00, 0x01, 0x02, 0x04, 0x05, 0x06, 0x07, 0x08, 0x09, 0x0A, 0x0E, 0x0F, 0x13, 0x14, 0x15, 0x16, 0x18, 0x19, 0x1A, 0x1B] s.dev e ∧
  (∀ (core : Option (Fin 5)), s.dev.pulses = [] → ∃ e, Sys2Proof.Machine.exec (.failOver core) s = .next ⟨e, s.pending⟩ ∧ ChangesIn [.msix, .out, .pulses, .accums, .host, .tk, .cls, .net, .att, .pte, .cd, .lanes, .trk0, .trk1, .pwr, .obs, .trust, .crs] [0x00, 0x01, 0x02, 0x04, 0x05, 0x06, 0x07, 0x08, 0x0A, 0x0E, 0x0F, 0x13, 0x14, 0x15, 0x16, 0x18, 0x19, 0x1A] s.dev e) ∧
  (∀ (id : BitVec 32), ∃ e, Sys2Proof.Machine.exec (.keepCommitDone id) s = .next ⟨e, s.pending⟩ ∧ ∀ p, p ∉ ([.hostMem, .msix, .out, .reply, .pulses, .accums, .host, .tk, .cls, .net, .att, .pte, .cd, .cal, .lanes, .trk0, .trk1, .pwr, .obs, .trust, .crs] : List Part) → p.same s.dev e) ∧
  (∀ (k : BankNo), s.dev.pulses = [] → ∃ e, Sys2Proof.Machine.exec (.cloneComplete k) s = .next ⟨e, s.pending⟩ ∧ ChangesIn [.hostMem, .msix, .out, .reply, .accums, .host, .dma, .cls, .net, .att, .crs] [0x00, 0x02, 0x05, 0x0D, 0x17, 0x19] s.dev e) ∧
  (∀ (k : BankNo), s.dev.pulses = [] → ∃ e, Sys2Proof.Machine.exec (.sealComplete k) s = .next ⟨e, s.pending⟩ ∧ ChangesIn [.hostMem, .msix, .out, .reply, .accums, .host, .dma, .cls, .net, .att, .crs] [0x00, 0x02, 0x05, 0x0D, 0x17, 0x19] s.dev e) ∧
  (∀ (ch : ChanNo) (addr : BitVec 64) (ctrl : BitVec 32) (next : BitVec 64) (data : List Byte) (again : Bool), s.dev.pulses = [] → ∃ e, Sys2Proof.Machine.exec (.descriptorComplete ch addr ctrl next data again) s = .next ⟨e, s.pending⟩ ∧ ChangesIn [.hostMem, .msix, .out, .freeCtr, .pulses, .accums, .dma, .tk, .cls, .net, .pte, .emu, .cd, .lanes, .pwr, .obs] [0x00, 0x01, 0x02, 0x04, 0x05, 0x06, 0x07, 0x08, 0x0A, 0x0D, 0x0E, 0x0F, 0x13, 0x14, 0x15, 0x16, 0x17, 0x1A] s.dev e) ∧
  (∀ (ch : SlotNo) (addr : BitVec 64) (last : Bool) (irq : Bool) (next : BitVec 64) (data : List Byte) (again : Bool), s.dev.pulses = [] → ∃ e, Sys2Proof.Machine.exec (.injectFrame ch addr last irq next data again) s = .next ⟨e, s.pending⟩ ∧ ChangesIn [.hostMem, .msix, .out, .freeCtr, .pulses, .accums, .dma, .tk, .cls, .net, .pte, .emu, .cd, .lanes, .pwr, .obs] [0x00, 0x01, 0x02, 0x04, 0x05, 0x06, 0x07, 0x08, 0x0A, 0x0D, 0x0E, 0x0F, 0x13, 0x14, 0x15, 0x16, 0x17, 0x1A] s.dev e) ∧
  (∀ (ch : Fin 8) (addr : BitVec 64) (last : Bool) (irq : Bool) (next : BitVec 64) (data : List Byte) (again : Bool), s.dev.pulses = [] → ∃ e, Sys2Proof.Machine.exec (.tableLoadBlock ch addr last irq next data again) s = .next ⟨e, s.pending⟩ ∧ ChangesIn [.hostMem, .msix, .out, .freeCtr, .pulses, .accums, .dma, .tk, .cls, .net, .pte, .emu, .cd, .lanes, .pwr, .obs] [0x00, 0x01, 0x02, 0x04, 0x05, 0x06, 0x07, 0x08, 0x0A, 0x0D, 0x0E, 0x0F, 0x13, 0x14, 0x15, 0x16, 0x17, 0x1A] s.dev e)

/-- Where no LIVE bit stands for a second, each of these commands completes and changes only the parts of the module and the classes of items
that the statement names for it: those of its own unit, and the interrupts, logs and timers that every unit uses. Everything else stays,
references, clock domains, edge channels, trunks and optics among it. (R81, R348, R434, R591, R627, R633, R696) -/
def Obligations.FramesOfMailboxCommands : Prop := ∀ s : State,
  (∀ (r : RingNo) (tag : Byte) (ids : List (BitVec 32)), s.dev.pulses = [] → ∃ e, Sys2Proof.Machine.exec (.sweepDefine r tag ids) s = .next ⟨e, s.pending⟩ ∧ ChangesIn [.hostMem, .msix, .out, .reply, .pulses, .host, .cls, .net, .pte, .cd, .lanes, .pwr, .obs] [0x00, 0x01, 0x02, 0x04, 0x05, 0x06, 0x07, 0x08, 0x0A, 0x0E, 0x0F, 0x13, 0x14, 0x15, 0x16, 0x1A] s.dev e) ∧
  (∀ (r : RingNo) (tag : Byte), s.dev.pulses = [] → ∃ e, Sys2Proof.Machine.exec (.sweepStart r tag) s = .next ⟨e, s.pending⟩ ∧ ChangesIn [.hostMem, .msix, .out, .reply, .pulses, .host, .cls, .net, .pte, .cd, .lanes, .pwr, .obs] [0x00, 0x01, 0x02, 0x04, 0x05, 0x06, 0x07, 0x08, 0x0A, 0x0E, 0x0F, 0x13, 0x14, 0x15, 0x16, 0x1A] s.dev e) ∧
  (∀ (r : RingNo) (tag : Byte), s.dev.pulses = [] → ∃ e, Sys2Proof.Machine.exec (.sweepAbort r tag) s = .next ⟨e, s.pending⟩ ∧ ChangesIn [.hostMem, .msix, .out, .reply, .pulses, .host, .cls, .net, .pte, .cd, .lanes, .pwr, .obs, .crs] [0x00, 0x01, 0x02, 0x04, 0x05, 0x06, 0x07, 0x08, 0x0A, 0x0E, 0x0F, 0x13, 0x14, 0x15, 0x16, 0x1A] s.dev e) ∧
  s.dev.pulses = [] → ∃ e, Sys2Proof.Machine.exec .sweepRead s = .next ⟨e, s.pending⟩ ∧ ChangesIn [.hostMem, .msix, .out, .reply, .freeCtr, .pulses, .accums, .host, .tk, .cls, .net, .pte, .cd, .lanes, .pwr, .obs, .crs] [0x00, 0x01, 0x02, 0x04, 0x05, 0x06, 0x07, 0x08, 0x0A, 0x0E, 0x0F, 0x10, 0x11, 0x13, 0x14, 0x15, 0x16, 0x18, 0x19, 0x1A] s.dev e ∧
  (∀ (r : RingNo) (tag : Byte), s.dev.pulses = [] → ∃ e, Sys2Proof.Machine.exec (.cloneBank r tag) s = .next ⟨e, s.pending⟩ ∧ ChangesIn [.hostMem, .msix, .out, .reply, .freeCtr, .pulses, .host, .cls, .net, .pte, .cd, .lanes, .pwr, .obs] [0x00, 0x01, 0x02, 0x04, 0x05, 0x06, 0x07, 0x08, 0x0A, 0x0D, 0x0E, 0x0F, 0x13, 0x14, 0x15, 0x16, 0x1A] s.dev e) ∧
  (∀ (r : RingNo) (tag : Byte), s.dev.pulses = [] → ∃ e, Sys2Proof.Machine.exec (.openBank r tag) s = .next ⟨e, s.pending⟩ ∧ ChangesIn [.hostMem, .msix, .out, .reply, .freeCtr, .pulses, .host, .cls, .net, .pte, .cd, .lanes, .pwr, .obs] [0x00, 0x01, 0x02, 0x04, 0x05, 0x06, 0x07, 0x08, 0x0A, 0x0D, 0x0E, 0x0F, 0x13, 0x14, 0x15, 0x16, 0x1A] s.dev e) ∧
  (∀ (r : RingNo) (tag : Byte), s.dev.pulses = [] → ∃ e, Sys2Proof.Machine.exec (.sealBank r tag) s = .next ⟨e, s.pending⟩ ∧ ChangesIn [.hostMem, .msix, .out, .reply, .freeCtr, .pulses, .host, .cls, .net, .pte, .cd, .lanes, .pwr, .obs] [0x00, 0x01, 0x02, 0x04, 0x05, 0x06, 0x07, 0x08, 0x0A, 0x0D, 0x0E, 0x0F, 0x13, 0x14, 0x15, 0x16, 0x1A] s.dev e) ∧
  (∀ (r : RingNo) (tag : Byte) (recs : List Byte), s.dev.pulses = [] → ∃ e, Sys2Proof.Machine.exec (.tableWrite r tag recs) s = .next ⟨e, s.pending⟩ ∧ ChangesIn [.hostMem, .msix, .out, .reply, .freeCtr, .pulses, .host, .cls, .net, .pte, .cd, .lanes, .pwr, .obs] [0x00, 0x01, 0x02, 0x04, 0x05, 0x06, 0x07, 0x08, 0x0A, 0x0D, 0x0E, 0x0F, 0x13, 0x14, 0x15, 0x16, 0x1A] s.dev e) ∧
  (∀ (r : RingNo) (tag : Byte), s.dev.pulses = [] → ∃ e, Sys2Proof.Machine.exec (.epochArm r tag) s = .next ⟨e, s.pending⟩ ∧ ChangesIn [.hostMem, .msix, .out, .reply, .freeCtr, .pulses, .host, .tl, .cls, .net, .pte, .cd, .lanes, .pwr, .obs] [0x00, 0x01, 0x02, 0x04, 0x05, 0x06, 0x07, 0x08, 0x0A, 0x0D, 0x0E, 0x0F, 0x13, 0x14, 0x15, 0x16, 0x1A] s.dev e) ∧
  (∀ (r : RingNo) (tag : Byte) (data : List Byte), s.dev.pulses = [] → ∃ e, Sys2Proof.Machine.exec (.imageStage r tag data) s = .next ⟨e, s.pending⟩ ∧ ChangesIn [.hostMem, .msix, .out, .reply, .pulses, .host, .cls, .net, .pte, .cd, .lanes, .pwr, .obs, .trust] [0x00, 0x01, 0x02, 0x04, 0x05, 0x06, 0x07, 0x08, 0x0A, 0x0E, 0x0F, 0x13, 0x14, 0x15, 0x16, 0x19, 0x1A] s.dev e) ∧
  (∀ (r : RingNo) (tag : Byte), s.dev.pulses = [] → ∃ e, Sys2Proof.Machine.exec (.verify r tag) s = .next ⟨e, s.pending⟩ ∧ ChangesIn [.hostMem, .msix, .out, .reply, .pulses, .host, .cls, .net, .pte, .cd, .lanes, .pwr, .obs, .trust] [0x00, 0x01, 0x02, 0x04, 0x05, 0x06, 0x07, 0x08, 0x0A, 0x0E, 0x0F, 0x13, 0x14, 0x15, 0x16, 0x19, 0x1A] s.dev e) ∧
  (∀ (r : RingNo) (tag : Byte), s.dev.pulses = [] → ∃ e, Sys2Proof.Machine.exec (.activate r tag) s = .next ⟨e, s.pending⟩ ∧ ChangesIn [.hostMem, .msix, .out, .reply, .pulses, .accums, .host, .cls, .net, .att, .pte, .cd, .lanes, .pwr, .obs, .trust, .crs] [0x00, 0x01, 0x02, 0x04, 0x05, 0x06, 0x07, 0x08, 0x0A, 0x0E, 0x0F, 0x13, 0x14, 0x15, 0x16, 0x19, 0x1A] s.dev e) ∧
  (∀ (r : RingNo) (tag : Byte), s.dev.pulses = [] → ∃ e, Sys2Proof.Machine.exec (.calRun r tag) s = .next ⟨e, s.pending⟩ ∧ ChangesIn [.hostMem, .msix, .out, .reply, .pulses, .host, .tk, .cls, .net, .pte, .cd, .cal, .lanes, .trk0, .trk1, .pwr, .obs, .crs] [0x00, 0x01, 0x02, 0x04, 0x05, 0x06, 0x07, 0x08, 0x09, 0x0A, 0x0E, 0x0F, 0x13, 0x14, 0x15, 0x16, 0x18, 0x19, 0x1A] s.dev e) ∧
  s.dev.pulses = [] → ∃ e, Sys2Proof.Machine.exec .calLinkTimeout s = .next ⟨e, s.pending⟩ ∧ ChangesIn [.hostMem, .msix, .out, .reply, .pulses, .host, .tk, .cls, .net, .pte, .cd, .cal, .lanes, .trk0, .trk1, .pwr, .obs, .crs] [0x00, 0x01, 0x02, 0x04, 0x05, 0x06, 0x07, 0x08, 0x09, 0x0A, 0x0E, 0x0F, 0x13, 0x14, 0x15, 0x16, 0x18, 0x19, 0x1A] s.dev e ∧
  (∀ (lanes : List (List (Int × Bool))), s.dev.pulses = [] → ∃ e, Sys2Proof.Machine.exec (.calWindowClose lanes) s = .next ⟨e, s.pending⟩ ∧ ChangesIn [.hostMem, .msix, .out, .reply, .pulses, .host, .tk, .cls, .net, .pte, .cd, .cal, .lanes, .trk0, .trk1, .pwr, .obs, .crs] [0x00, 0x01, 0x02, 0x04, 0x05, 0x06, 0x07, 0x08, 0x09, 0x0A, 0x0E, 0x0F, 0x13, 0x14, 0x15, 0x16, 0x18, 0x19, 0x1A] s.dev e) ∧
  (∀ (r : RingNo) (tag : Byte) (entry : BitVec 512), s.dev.pulses = [] → ∃ e, Sys2Proof.Machine.exec (.cresorSendRequest r tag entry) s = .next ⟨e, s.pending⟩ ∧ ChangesIn [.hostMem, .msix, .out, .reply, .freeCtr, .pulses, .host, .tk, .cls, .net, .pte, .cd, .lanes, .trk0, .trk1, .pwr, .obs, .crs] [0x00, 0x01, 0x02, 0x04, 0x05, 0x06, 0x07, 0x08, 0x0A, 0x0E, 0x0F, 0x13, 0x14, 0x15, 0x16, 0x18, 0x19, 0x1A] s.dev e) ∧
  (∀ (r : RingNo) (tag : Byte), s.dev.pulses = [] → ∃ e, Sys2Proof.Machine.exec (.portAdmin r tag) s = .next ⟨e, s.pending⟩ ∧ ChangesIn [.hostMem, .msix, .out, .reply, .pulses, .host, .tk, .cls, .net, .pte, .cd, .cal, .lanes, .trk0, .trk1, .pwr, .obs, .crs] [0x00, 0x01, 0x02, 0x04, 0x05, 0x06, 0x07, 0x08, 0x09, 0x0A, 0x0E, 0x0F, 0x13, 0x14, 0x15, 0x16, 0x18, 0x19, 0x1A] s.dev e) ∧
  (∀ (r : RingNo) (tag : Byte), s.dev.pulses = [] → ∃ e, Sys2Proof.Machine.exec (.powerState r tag) s = .next ⟨e, s.pending⟩ ∧ ChangesIn [.hostMem, .msix, .out, .reply, .pulses, .host, .tk, .cls, .net, .pte, .refc, .cd, .lanes, .trk0, .trk1, .pwr, .obs, .crs] [0x00, 0x01, 0x02, 0x04, 0x05, 0x06, 0x07, 0x08, 0x0A, 0x0E, 0x0F, 0x13, 0x14, 0x15, 0x16, 0x18, 0x19, 0x1A] s.dev e) ∧
  (∀ (r : RingNo) (tag : Byte), s.dev.pulses = [] → ∃ e, Sys2Proof.Machine.exec (.timelineAdd r tag) s = .next ⟨e, s.pending⟩ ∧ ChangesIn [.hostMem, .msix, .out, .reply, .freeCtr, .pulses, .host, .tl, .cls, .net, .pte, .cd, .lanes, .pwr, .obs] [0x00, 0x01, 0x02, 0x04, 0x05, 0x06, 0x07, 0x08, 0x0A, 0x0E, 0x0F, 0x13, 0x14, 0x15, 0x16, 0x1A] s.dev e) ∧
  (∀ (r : RingNo) (tag : Byte), ∃ e, Sys2Proof.Machine.exec (.timelineCancel r tag) s = .next ⟨e, s.pending⟩ ∧ ∀ p, p ∉ ([.hostMem, .msix, .out, .reply, .pulses, .host, .tl, .cls, .net, .pte, .cd, .lanes, .pwr, .obs] : List Part) → p.same s.dev e) ∧
  (∀ (lag : BitVec 64), ∃ e, Sys2Proof.Machine.exec (.calWindow lag) s = .next ⟨e, s.pending⟩ ∧ ∀ p, p ∉ ([.hostMem, .msix, .out, .reply, .pulses, .accums, .host, .tk, .tl, .cls, .net, .pte, .cd, .cal, .lanes, .trk0, .trk1, .pwr, .obs, .crs] : List Part) → p.same s.dev e) ∧
  (∀ (lag : BitVec 64), ∃ e, Sys2Proof.Machine.exec (.counterSweepStart lag) s = .next ⟨e, s.pending⟩ ∧ ∀ p, p ∉ ([.hostMem, .msix, .out, .reply, .pulses, .accums, .host, .tk, .tl, .cls, .net, .pte, .cd, .cal, .lanes, .trk0, .trk1, .pwr, .obs, .crs] : List Part) → p.same s.dev e) ∧
  (∀ (lag : BitVec 64), ∃ e, Sys2Proof.Machine.exec (.epochSwap lag) s = .next ⟨e, s.pending⟩ ∧ ∀ p, p ∉ ([.hostMem, .msix, .out, .reply, .pulses, .accums, .host, .tk, .tl, .cls, .net, .pte, .cd, .cal, .lanes, .pwr, .obs, .crs] : List Part) → p.same s.dev e) ∧
  (∀ (lag : BitVec 64), ∃ e, Sys2Proof.Machine.exec (.portAdminAction lag) s = .next ⟨e, s.pending⟩ ∧ ∀ p, p ∉ ([.hostMem, .msix, .out, .reply, .pulses, .accums, .host, .tk, .tl, .cls, .net, .pte, .cd, .cal, .lanes, .trk0, .trk1, .pwr, .obs, .crs] : List Part) → p.same s.dev e) ∧
  (∀ (lag : BitVec 64), ∃ e, Sys2Proof.Machine.exec (.shadowHandover lag) s = .next ⟨e, s.pending⟩ ∧ ∀ p, p ∉ ([.hostMem, .msix, .out, .reply, .pulses, .accums, .host, .tk, .tl, .cls, .net, .pte, .cd, .cal, .lanes, .trk0, .trk1, .pwr, .obs, .crs] : List Part) → p.same s.dev e) ∧
  (∀ (lag : BitVec 64), ∃ e, Sys2Proof.Machine.exec (.timeOutputProgram lag) s = .next ⟨e, s.pending⟩ ∧ ∀ p, p ∉ ([.hostMem, .msix, .out, .reply, .pulses, .accums, .host, .tk, .tl, .cls, .net, .pte, .cd, .cal, .lanes, .trk0, .trk1, .pwr, .obs, .crs] : List Part) → p.same s.dev e)

/-- Where no LIVE bit stands for a second, each of these commands completes and changes only the parts of the module and the classes of items
that the statement names for it: those of its own unit, and the interrupts, logs and timers that every unit uses. Everything else stays,
the power switches of the optics among it, and for a reset the edge channels, clock domains and trunks too. (R709, R720, R724, R725, R764) -/
def Obligations.FramesOfResets : Prop := ∀ s : State,
  (∀ (cause : Fin 7) (src : BitVec 16), ∃ e, Sys2Proof.Machine.exec (.moduleReset cause src) s = .next ⟨e, s.pending⟩ ∧ ∀ p, p ∉ ([.hostMem, .msix, .out, .reply, .pulses, .accums, .host, .dma, .tk, .tl, .cls, .net, .att, .pte, .refc, .cd, .cal, .lanes, .trk0, .trk1, .pwr, .obs, .trust, .crs] : List Part) → p.same s.dev e) ∧
  (∀ (cause : Fin 7) (src : BitVec 16), s.dev.pulses = [] → ∃ e, Sys2Proof.Machine.exec (.dataPlaneReset cause src) s = .next ⟨e, s.pending⟩ ∧ ChangesIn [.hostMem, .msix, .out, .reply, .pulses, .accums, .host, .tk, .tl, .cls, .net, .pte, .refc, .cd, .cal, .lanes, .trk0, .trk1, .pwr, .obs, .crs] [0x00, 0x01, 0x02, 0x04, 0x05, 0x06, 0x07, 0x08, 0x09, 0x0A, 0x0B, 0x0C, 0x0D, 0x0E, 0x0F, 0x10, 0x11, 0x12, 0x13, 0x14, 0x15, 0x16, 0x18, 0x19, 0x1A] s.dev e) ∧
  (∀ (cause : Fin 7) (src : BitVec 16), ∃ e, Sys2Proof.Machine.exec (.patrolReset cause src) s = .next ⟨e, s.pending⟩ ∧ ∀ p, p ∉ ([.hostMem, .msix, .out, .reply, .pulses, .accums, .host, .dma, .tk, .tl, .cls, .net, .att, .pte, .refc, .cd, .cal, .lanes, .trk0, .trk1, .pwr, .obs, .trust, .crs] : List Part) → p.same s.dev e) ∧
  ∃ e, Sys2Proof.Machine.exec .watchdogReset s = .next ⟨e, s.pending⟩ ∧ ∀ p, p ∉ ([.hostMem, .msix, .out, .reply, .pulses, .accums, .host, .dma, .tk, .tl, .cls, .net, .att, .pte, .refc, .cd, .cal, .lanes, .trk0, .trk1, .pwr, .obs, .trust, .crs] : List Part) → p.same s.dev e ∧
  ∃ e, Sys2Proof.Machine.exec .cresorResetAct s = .next ⟨e, s.pending⟩ ∧ ∀ p, p ∉ ([.hostMem, .msix, .out, .reply, .pulses, .accums, .host, .dma, .tk, .tl, .cls, .net, .att, .pte, .refc, .cd, .cal, .lanes, .trk0, .trk1, .pwr, .obs, .trust, .crs] : List Part) → p.same s.dev e ∧
  ∃ e, Sys2Proof.Machine.exec .modRstAssert s = .next ⟨e, s.pending⟩ ∧ ∀ p, p ∉ ([.hostMem, .msix, .out, .reply, .pulses, .accums, .host, .dma, .tk, .tl, .cls, .net, .att, .pte, .refc, .cd, .cal, .lanes, .trk0, .trk1, .pwr, .obs, .trust, .crs] : List Part) → p.same s.dev e ∧
  s.dev.pulses = [] → ∃ e, Sys2Proof.Machine.exec .perstAssert s = .next ⟨e, s.pending⟩ ∧ ChangesIn [.msix, .accums, .host, .dma, .net] [0x00, 0x17, 0x1A] s.dev e ∧
  ∃ e, Sys2Proof.Machine.exec .refillTick s = .next ⟨e, s.pending⟩ ∧ ∀ p, p ∉ ([.hostMem, .msix, .out, .reply, .freeCtr, .pulses, .accums, .host, .tk, .tl, .cls, .net, .pte, .refc, .cd, .cal, .lanes, .trk0, .trk1, .pwr, .obs, .crs] : List Part) → p.same s.dev e ∧
  ∃ e, Sys2Proof.Machine.exec .restoreDone s = .next ⟨e, s.pending⟩ ∧ ∀ p, p ∉ ([.hostMem, .msix, .out, .reply, .pulses, .accums, .host, .tk, .tl, .cls, .net, .att, .pte, .emu, .refc, .cd, .cal, .lanes, .trk0, .trk1, .pwr, .obs, .trust, .crs] : List Part) → p.same s.dev e ∧
  ∃ e, Sys2Proof.Machine.exec .eodinReady s = .next ⟨e, s.pending⟩ ∧ ∀ p, p ∉ ([.hostMem, .msix, .out, .reply, .freeCtr, .pulses, .accums, .host, .tk, .tl, .cls, .net, .att, .pte, .emu, .refc, .cd, .cal, .lanes, .trk0, .trk1, .pwr, .obs, .trust, .crs] : List Part) → p.same s.dev e ∧
  ∃ e, Sys2Proof.Machine.exec .surpriseRemoval s = .next ⟨e, s.pending⟩ ∧ ∀ p, p ∉ ([.hostMem, .msix, .out, .reply, .pulses, .accums, .host, .dma, .tk, .tl, .cls, .net, .att, .pte, .emu, .refc, .cd, .cal, .lanes, .trk0, .trk1, .pwr, .obs, .trust, .crs] : List Part) → p.same s.dev e ∧
  (∀ (i : SensorNo), ∃ e, Sys2Proof.Machine.exec (.thermalTrip i) s = .next ⟨e, s.pending⟩ ∧ ∀ p, p ∉ ([.hostMem, .msix, .out, .reply, .pulses, .accums, .host, .dma, .tk, .tl, .cls, .net, .att, .pte, .emu, .refc, .cd, .cal, .lanes, .trk0, .trk1, .pwr, .obs, .trust, .crs] : List Part) → p.same s.dev e) ∧
  (∀ (a : BitVec 16) (b : BitVec 16), ∃ e, Sys2Proof.Machine.exec (.undervolt a b) s = .next ⟨e, s.pending⟩ ∧ ∀ p, p ∉ ([.hostMem, .msix, .out, .reply, .pulses, .accums, .host, .dma, .tk, .tl, .cls, .net, .att, .pte, .emu, .refc, .cd, .cal, .lanes, .trk0, .trk1, .pwr, .obs, .trust, .crs] : List Part) → p.same s.dev e) ∧
  ∃ e, Sys2Proof.Machine.exec .stateTransitionDone s = .next ⟨e, s.pending⟩ ∧ ∀ p, p ∉ ([.hostMem, .msix, .out, .reply, .pulses, .accums, .host, .dma, .tk, .tl, .cls, .net, .att, .pte, .emu, .refc, .cd, .cal, .lanes, .trk0, .trk1, .pwr, .obs, .trust, .crs] : List Part) → p.same s.dev e ∧
  ∃ e, Sys2Proof.Machine.exec .requestRx s = .next ⟨e, s.pending⟩ ∧ ∀ p, p ∉ ([.hostMem, .msix, .out, .reply, .freeCtr, .pulses, .accums, .host, .dma, .tk, .tl, .cls, .net, .att, .pte, .emu, .refc, .cd, .cal, .lanes, .trk0, .trk1, .pwr, .obs, .trust, .crs] : List Part) → p.same s.dev e
end

