-- ==== Sys2Proof/Laws/Bits.lean ====
section
/-! SUPPORT. Fields of words: what a field reads after one has been replaced, and bytes and the numbers they spell. -/

set_option Elab.async false

namespace Sys2Proof.Machine

theorem bitsAt_eq (v lo w : Nat) : bitsAt v lo w = v / 2 ^ lo % 2 ^ w := by
  simp [bitsAt, Nat.shiftRight_eq_div_pow]

theorem bitsAt_lt (v lo w : Nat) : bitsAt v lo w < 2 ^ w := by
  rw [bitsAt_eq]; exact Nat.mod_lt _ (by positivity)

/-- A word split at a field. -/
theorem split_field (v lo w : Nat) : v = v / 2 ^ (lo + w) * 2 ^ (lo + w) + bitsAt v lo w * 2 ^ lo + v % 2 ^ lo := by
  rw [bitsAt_eq, pow_add, ← Nat.div_div_eq_div_mul]
  have h1 := Nat.div_add_mod v (2 ^ lo)
  have h2 := Nat.div_add_mod (v / 2 ^ lo) (2 ^ w)
  calc v = 2 ^ lo * (v / 2 ^ lo) + v % 2 ^ lo := h1.symm
    _ = 2 ^ lo * (2 ^ w * (v / 2 ^ lo / 2 ^ w) + v / 2 ^ lo % 2 ^ w) + v % 2 ^ lo := by rw [h2]
    _ = _ := by ring

/-- A word with a field replaced, in the same form. -/
theorem withBits_eq (v lo w n : Nat) : withBits v lo w n = v / 2 ^ (lo + w) * 2 ^ (lo + w) + n % 2 ^ w * 2 ^ lo + v % 2 ^ lo := by
  have h := split_field v lo w
  unfold withBits
  rw [Nat.shiftLeft_eq, Nat.shiftLeft_eq]
  have : v - bitsAt v lo w * 2 ^ lo = v / 2 ^ (lo + w) * 2 ^ (lo + w) + v % 2 ^ lo := by omega
  omega

theorem withBits_low (v lo w n : Nat) : withBits v lo w n % 2 ^ lo = v % 2 ^ lo := by
  have : withBits v lo w n = v % 2 ^ lo + 2 ^ lo * (v / 2 ^ (lo + w) * 2 ^ w + n % 2 ^ w) := by
    rw [withBits_eq, pow_add]; ring
  rw [this, Nat.add_mul_mod_self_left, Nat.mod_mod]

theorem withBits_div (v lo w n : Nat) : withBits v lo w n / 2 ^ lo = v / 2 ^ (lo + w) * 2 ^ w + n % 2 ^ w := by
  have : withBits v lo w n = v % 2 ^ lo + 2 ^ lo * (v / 2 ^ (lo + w) * 2 ^ w + n % 2 ^ w) := by
    rw [withBits_eq, pow_add]; ring
  rw [this, Nat.add_mul_div_left _ _ (by positivity), Nat.div_eq_of_lt (Nat.mod_lt _ (by positivity)), Nat.zero_add]

theorem withBits_high (v lo w n : Nat) : withBits v lo w n / 2 ^ (lo + w) = v / 2 ^ (lo + w) := by
  rw [pow_add, ← Nat.div_div_eq_div_mul, withBits_div, ← pow_add, Nat.add_comm, Nat.mul_comm,
    Nat.add_mul_div_left _ _ (by positivity), Nat.div_eq_of_lt (Nat.mod_lt _ (by positivity)), Nat.zero_add]

/-- The field replaced reads as the low bits of the number written. -/
theorem bitsAt_withBits_same (v lo w n : Nat) : bitsAt (withBits v lo w n) lo w = n % 2 ^ w := by
  rw [bitsAt_eq, withBits_div, Nat.add_comm, Nat.add_mul_mod_self_right, Nat.mod_mod]

theorem bitsAt_of_mod (x y lo w k : Nat) (h : lo + w ≤ k) (e : x % 2 ^ k = y % 2 ^ k) : bitsAt x lo w = bitsAt y lo w := by
  have key : ∀ z : Nat, bitsAt z lo w = bitsAt (z % 2 ^ k) lo w := by
    intro z
    apply Nat.eq_of_testBit_eq
    intro i
    simp only [bitsAt, Nat.testBit_mod_two_pow, Nat.testBit_shiftRight]
    by_cases hi : i < w
    · have : lo + i < k := by omega
      simp [hi, this]
    · simp [hi]
  rw [key x, key y, e]

theorem bitsAt_of_div (x y lo w k : Nat) (h : k ≤ lo) (e : x / 2 ^ k = y / 2 ^ k) : bitsAt x lo w = bitsAt y lo w := by
  have key : ∀ z : Nat, bitsAt z lo w = bitsAt (z / 2 ^ k) (lo - k) w := by
    intro z
    simp only [bitsAt_eq, Nat.div_div_eq_div_mul, ← pow_add]
    rw [Nat.add_sub_cancel' h]
  rw [key x, key y, e]

/-- Every other field reads as before. -/
theorem bitsAt_withBits_other (v lo w n lo2 w2 : Nat) (h : lo2 + w2 ≤ lo ∨ lo + w ≤ lo2) :
    bitsAt (withBits v lo w n) lo2 w2 = bitsAt v lo2 w2 := by
  rcases h with h | h
  · exact bitsAt_of_mod _ _ _ _ lo h (withBits_low v lo w n)
  · exact bitsAt_of_div _ _ _ _ (lo + w) h (withBits_high v lo w n)

theorem withBits_lt (v lo w n k : Nat) (hv : v < 2 ^ k) (h : lo + w ≤ k) : withBits v lo w n < 2 ^ k := by
  obtain ⟨j, rfl⟩ := Nat.exists_eq_add_of_le h
  have hh := withBits_high v lo w n
  have hd : v / 2 ^ (lo + w) < 2 ^ j := by
    rw [Nat.div_lt_iff_lt_mul (by positivity), ← pow_add, Nat.add_comm]; exact hv
  rw [← hh, Nat.div_lt_iff_lt_mul (by positivity), ← pow_add, Nat.add_comm] at hd
  exact hd

/-- One bit of a word is the field of width 1 there. -/
theorem getLsbD_eq_bitsAt (v : Wide) (b : Nat) : v.getLsbD b = (bitsAt v.toNat b 1 == 1) := by
  rw [BitVec.getLsbD, Nat.testBit_eq_decide_div_mod_eq, bitsAt_eq]
  simp [Bool.beq_eq_decide_eq]

/-! ### Bytes -/

theorem leBytes_length (n v : Nat) : (leBytes n v).length = n := by
  induction n generalizing v with
  | zero => rfl
  | succ n ih => simp [leBytes, ih]

theorem leNat_leBytes (n v : Nat) : leNat (leBytes n v) = v % 256 ^ n := by
  induction n generalizing v with
  | zero => simp [leBytes, leNat, Nat.mod_one]
  | succ n ih =>
    simp only [leBytes, leNat, ih, BitVec.toNat_ofNat]
    have h : (2 : Nat) ^ 8 = 256 := by norm_num
    rw [h, pow_succ', Nat.mod_mul]

theorem beNat_reverse (l : List Byte) : beNat l.reverse = leNat l := by
  simp only [beNat, List.foldl_reverse]
  induction l with
  | nil => rfl
  | cons b r ih => rw [List.foldr_cons, ih, leNat]; omega

theorem beNat_beBytes (n v : Nat) : beNat (beBytes n v) = v % 256 ^ n := by rw [beBytes, beNat_reverse, leNat_leBytes]

end Sys2Proof.Machine
end

