-- ==== Sys2Proof/Laws/State.lean ====
section
/-! SUPPORT. What each basic operation leaves alone in the state, one lemma per part and operation. -/

set_option Elab.async false

namespace Sys2Proof.Machine

variable (d : Dev)

/-! ### `Dev.put` -/

@[simp] theorem Dev.put_hostMem (p : Nat) (v : Wide) : (d.put p v).hostMem = d.hostMem := rfl
@[simp] theorem Dev.put_msix (p : Nat) (v : Wide) : (d.put p v).msix = d.msix := rfl
@[simp] theorem Dev.put_cond (p : Nat) (v : Wide) : (d.put p v).cond = d.cond := rfl
@[simp] theorem Dev.put_out (p : Nat) (v : Wide) : (d.put p v).out = d.out := rfl
@[simp] theorem Dev.put_reply (p : Nat) (v : Wide) : (d.put p v).reply = d.reply := rfl
@[simp] theorem Dev.put_freeCtr (p : Nat) (v : Wide) : (d.put p v).freeCtr = d.freeCtr := rfl
@[simp] theorem Dev.put_pulses (p : Nat) (v : Wide) : (d.put p v).pulses = d.pulses := rfl
@[simp] theorem Dev.put_accums (p : Nat) (v : Wide) : (d.put p v).accums = d.accums := rfl
@[simp] theorem Dev.put_host (p : Nat) (v : Wide) : (d.put p v).host = d.host := rfl
@[simp] theorem Dev.put_dma (p : Nat) (v : Wide) : (d.put p v).dma = d.dma := rfl
@[simp] theorem Dev.put_tk (p : Nat) (v : Wide) : (d.put p v).tk = d.tk := rfl
@[simp] theorem Dev.put_tl (p : Nat) (v : Wide) : (d.put p v).tl = d.tl := rfl
@[simp] theorem Dev.put_cls (p : Nat) (v : Wide) : (d.put p v).cls = d.cls := rfl
@[simp] theorem Dev.put_net (p : Nat) (v : Wide) : (d.put p v).net = d.net := rfl
@[simp] theorem Dev.put_att (p : Nat) (v : Wide) : (d.put p v).att = d.att := rfl
@[simp] theorem Dev.put_pte (p : Nat) (v : Wide) : (d.put p v).pte = d.pte := rfl
@[simp] theorem Dev.put_emu (p : Nat) (v : Wide) : (d.put p v).emu = d.emu := rfl
@[simp] theorem Dev.put_refc (p : Nat) (v : Wide) : (d.put p v).refc = d.refc := rfl
@[simp] theorem Dev.put_cd (p : Nat) (v : Wide) : (d.put p v).cd = d.cd := rfl
@[simp] theorem Dev.put_cal (p : Nat) (v : Wide) : (d.put p v).cal = d.cal := rfl
@[simp] theorem Dev.put_lanes (p : Nat) (v : Wide) : (d.put p v).lanes = d.lanes := rfl
@[simp] theorem Dev.put_trk0 (p : Nat) (v : Wide) : (d.put p v).trk0 = d.trk0 := rfl
@[simp] theorem Dev.put_trk1 (p : Nat) (v : Wide) : (d.put p v).trk1 = d.trk1 := rfl
@[simp] theorem Dev.put_optics (p : Nat) (v : Wide) : (d.put p v).optics = d.optics := rfl
@[simp] theorem Dev.put_pwr (p : Nat) (v : Wide) : (d.put p v).pwr = d.pwr := rfl
@[simp] theorem Dev.put_obs (p : Nat) (v : Wide) : (d.put p v).obs = d.obs := rfl
@[simp] theorem Dev.put_trust (p : Nat) (v : Wide) : (d.put p v).trust = d.trust := rfl
@[simp] theorem Dev.put_crs (p : Nat) (v : Wide) : (d.put p v).crs = d.crs := rfl

/-! ### `Dev.setFld` -/

@[simp] theorem Dev.setFld_hostMem (p : Nat) (f : Fld) (n : Nat) : (d.setFld p f n).hostMem = d.hostMem := rfl
@[simp] theorem Dev.setFld_msix (p : Nat) (f : Fld) (n : Nat) : (d.setFld p f n).msix = d.msix := rfl
@[simp] theorem Dev.setFld_cond (p : Nat) (f : Fld) (n : Nat) : (d.setFld p f n).cond = d.cond := rfl
@[simp] theorem Dev.setFld_out (p : Nat) (f : Fld) (n : Nat) : (d.setFld p f n).out = d.out := rfl
@[simp] theorem Dev.setFld_reply (p : Nat) (f : Fld) (n : Nat) : (d.setFld p f n).reply = d.reply := rfl
@[simp] theorem Dev.setFld_freeCtr (p : Nat) (f : Fld) (n : Nat) : (d.setFld p f n).freeCtr = d.freeCtr := rfl
@[simp] theorem Dev.setFld_pulses (p : Nat) (f : Fld) (n : Nat) : (d.setFld p f n).pulses = d.pulses := rfl
@[simp] theorem Dev.setFld_accums (p : Nat) (f : Fld) (n : Nat) : (d.setFld p f n).accums = d.accums := rfl
@[simp] theorem Dev.setFld_host (p : Nat) (f : Fld) (n : Nat) : (d.setFld p f n).host = d.host := rfl
@[simp] theorem Dev.setFld_dma (p : Nat) (f : Fld) (n : Nat) : (d.setFld p f n).dma = d.dma := rfl
@[simp] theorem Dev.setFld_tk (p : Nat) (f : Fld) (n : Nat) : (d.setFld p f n).tk = d.tk := rfl
@[simp] theorem Dev.setFld_tl (p : Nat) (f : Fld) (n : Nat) : (d.setFld p f n).tl = d.tl := rfl
@[simp] theorem Dev.setFld_cls (p : Nat) (f : Fld) (n : Nat) : (d.setFld p f n).cls = d.cls := rfl
@[simp] theorem Dev.setFld_net (p : Nat) (f : Fld) (n : Nat) : (d.setFld p f n).net = d.net := rfl
@[simp] theorem Dev.setFld_att (p : Nat) (f : Fld) (n : Nat) : (d.setFld p f n).att = d.att := rfl
@[simp] theorem Dev.setFld_pte (p : Nat) (f : Fld) (n : Nat) : (d.setFld p f n).pte = d.pte := rfl
@[simp] theorem Dev.setFld_emu (p : Nat) (f : Fld) (n : Nat) : (d.setFld p f n).emu = d.emu := rfl
@[simp] theorem Dev.setFld_refc (p : Nat) (f : Fld) (n : Nat) : (d.setFld p f n).refc = d.refc := rfl
@[simp] theorem Dev.setFld_cd (p : Nat) (f : Fld) (n : Nat) : (d.setFld p f n).cd = d.cd := rfl
@[simp] theorem Dev.setFld_cal (p : Nat) (f : Fld) (n : Nat) : (d.setFld p f n).cal = d.cal := rfl
@[simp] theorem Dev.setFld_lanes (p : Nat) (f : Fld) (n : Nat) : (d.setFld p f n).lanes = d.lanes := rfl
@[simp] theorem Dev.setFld_trk0 (p : Nat) (f : Fld) (n : Nat) : (d.setFld p f n).trk0 = d.trk0 := rfl
@[simp] theorem Dev.setFld_trk1 (p : Nat) (f : Fld) (n : Nat) : (d.setFld p f n).trk1 = d.trk1 := rfl
@[simp] theorem Dev.setFld_optics (p : Nat) (f : Fld) (n : Nat) : (d.setFld p f n).optics = d.optics := rfl
@[simp] theorem Dev.setFld_pwr (p : Nat) (f : Fld) (n : Nat) : (d.setFld p f n).pwr = d.pwr := rfl
@[simp] theorem Dev.setFld_obs (p : Nat) (f : Fld) (n : Nat) : (d.setFld p f n).obs = d.obs := rfl
@[simp] theorem Dev.setFld_trust (p : Nat) (f : Fld) (n : Nat) : (d.setFld p f n).trust = d.trust := rfl
@[simp] theorem Dev.setFld_crs (p : Nat) (f : Fld) (n : Nat) : (d.setFld p f n).crs = d.crs := rfl

/-! ### `Dev.setBit` -/

@[simp] theorem Dev.setBit_hostMem (p b : Nat) (v : Bool) : (d.setBit p b v).hostMem = d.hostMem := rfl
@[simp] theorem Dev.setBit_msix (p b : Nat) (v : Bool) : (d.setBit p b v).msix = d.msix := rfl
@[simp] theorem Dev.setBit_cond (p b : Nat) (v : Bool) : (d.setBit p b v).cond = d.cond := rfl
@[simp] theorem Dev.setBit_out (p b : Nat) (v : Bool) : (d.setBit p b v).out = d.out := rfl
@[simp] theorem Dev.setBit_reply (p b : Nat) (v : Bool) : (d.setBit p b v).reply = d.reply := rfl
@[simp] theorem Dev.setBit_freeCtr (p b : Nat) (v : Bool) : (d.setBit p b v).freeCtr = d.freeCtr := rfl
@[simp] theorem Dev.setBit_pulses (p b : Nat) (v : Bool) : (d.setBit p b v).pulses = d.pulses := rfl
@[simp] theorem Dev.setBit_accums (p b : Nat) (v : Bool) : (d.setBit p b v).accums = d.accums := rfl
@[simp] theorem Dev.setBit_host (p b : Nat) (v : Bool) : (d.setBit p b v).host = d.host := rfl
@[simp] theorem Dev.setBit_dma (p b : Nat) (v : Bool) : (d.setBit p b v).dma = d.dma := rfl
@[simp] theorem Dev.setBit_tk (p b : Nat) (v : Bool) : (d.setBit p b v).tk = d.tk := rfl
@[simp] theorem Dev.setBit_tl (p b : Nat) (v : Bool) : (d.setBit p b v).tl = d.tl := rfl
@[simp] theorem Dev.setBit_cls (p b : Nat) (v : Bool) : (d.setBit p b v).cls = d.cls := rfl
@[simp] theorem Dev.setBit_net (p b : Nat) (v : Bool) : (d.setBit p b v).net = d.net := rfl
@[simp] theorem Dev.setBit_att (p b : Nat) (v : Bool) : (d.setBit p b v).att = d.att := rfl
@[simp] theorem Dev.setBit_pte (p b : Nat) (v : Bool) : (d.setBit p b v).pte = d.pte := rfl
@[simp] theorem Dev.setBit_emu (p b : Nat) (v : Bool) : (d.setBit p b v).emu = d.emu := rfl
@[simp] theorem Dev.setBit_refc (p b : Nat) (v : Bool) : (d.setBit p b v).refc = d.refc := rfl
@[simp] theorem Dev.setBit_cd (p b : Nat) (v : Bool) : (d.setBit p b v).cd = d.cd := rfl
@[simp] theorem Dev.setBit_cal (p b : Nat) (v : Bool) : (d.setBit p b v).cal = d.cal := rfl
@[simp] theorem Dev.setBit_lanes (p b : Nat) (v : Bool) : (d.setBit p b v).lanes = d.lanes := rfl
@[simp] theorem Dev.setBit_trk0 (p b : Nat) (v : Bool) : (d.setBit p b v).trk0 = d.trk0 := rfl
@[simp] theorem Dev.setBit_trk1 (p b : Nat) (v : Bool) : (d.setBit p b v).trk1 = d.trk1 := rfl
@[simp] theorem Dev.setBit_optics (p b : Nat) (v : Bool) : (d.setBit p b v).optics = d.optics := rfl
@[simp] theorem Dev.setBit_pwr (p b : Nat) (v : Bool) : (d.setBit p b v).pwr = d.pwr := rfl
@[simp] theorem Dev.setBit_obs (p b : Nat) (v : Bool) : (d.setBit p b v).obs = d.obs := rfl
@[simp] theorem Dev.setBit_trust (p b : Nat) (v : Bool) : (d.setBit p b v).trust = d.trust := rfl
@[simp] theorem Dev.setBit_crs (p b : Nat) (v : Bool) : (d.setBit p b v).crs = d.crs := rfl

/-! ### `Dev.putNum` -/

@[simp] theorem Dev.putNum_hostMem (p n : Nat) : (d.putNum p n).hostMem = d.hostMem := rfl
@[simp] theorem Dev.putNum_msix (p n : Nat) : (d.putNum p n).msix = d.msix := rfl
@[simp] theorem Dev.putNum_cond (p n : Nat) : (d.putNum p n).cond = d.cond := rfl
@[simp] theorem Dev.putNum_out (p n : Nat) : (d.putNum p n).out = d.out := rfl
@[simp] theorem Dev.putNum_reply (p n : Nat) : (d.putNum p n).reply = d.reply := rfl
@[simp] theorem Dev.putNum_freeCtr (p n : Nat) : (d.putNum p n).freeCtr = d.freeCtr := rfl
@[simp] theorem Dev.putNum_pulses (p n : Nat) : (d.putNum p n).pulses = d.pulses := rfl
@[simp] theorem Dev.putNum_accums (p n : Nat) : (d.putNum p n).accums = d.accums := rfl
@[simp] theorem Dev.putNum_host (p n : Nat) : (d.putNum p n).host = d.host := rfl
@[simp] theorem Dev.putNum_dma (p n : Nat) : (d.putNum p n).dma = d.dma := rfl
@[simp] theorem Dev.putNum_tk (p n : Nat) : (d.putNum p n).tk = d.tk := rfl
@[simp] theorem Dev.putNum_tl (p n : Nat) : (d.putNum p n).tl = d.tl := rfl
@[simp] theorem Dev.putNum_cls (p n : Nat) : (d.putNum p n).cls = d.cls := rfl
@[simp] theorem Dev.putNum_net (p n : Nat) : (d.putNum p n).net = d.net := rfl
@[simp] theorem Dev.putNum_att (p n : Nat) : (d.putNum p n).att = d.att := rfl
@[simp] theorem Dev.putNum_pte (p n : Nat) : (d.putNum p n).pte = d.pte := rfl
@[simp] theorem Dev.putNum_emu (p n : Nat) : (d.putNum p n).emu = d.emu := rfl
@[simp] theorem Dev.putNum_refc (p n : Nat) : (d.putNum p n).refc = d.refc := rfl
@[simp] theorem Dev.putNum_cd (p n : Nat) : (d.putNum p n).cd = d.cd := rfl
@[simp] theorem Dev.putNum_cal (p n : Nat) : (d.putNum p n).cal = d.cal := rfl
@[simp] theorem Dev.putNum_lanes (p n : Nat) : (d.putNum p n).lanes = d.lanes := rfl
@[simp] theorem Dev.putNum_trk0 (p n : Nat) : (d.putNum p n).trk0 = d.trk0 := rfl
@[simp] theorem Dev.putNum_trk1 (p n : Nat) : (d.putNum p n).trk1 = d.trk1 := rfl
@[simp] theorem Dev.putNum_optics (p n : Nat) : (d.putNum p n).optics = d.optics := rfl
@[simp] theorem Dev.putNum_pwr (p n : Nat) : (d.putNum p n).pwr = d.pwr := rfl
@[simp] theorem Dev.putNum_obs (p n : Nat) : (d.putNum p n).obs = d.obs := rfl
@[simp] theorem Dev.putNum_trust (p n : Nat) : (d.putNum p n).trust = d.trust := rfl
@[simp] theorem Dev.putNum_crs (p n : Nat) : (d.putNum p n).crs = d.crs := rfl

/-! ### `Dev.putInt` -/

@[simp] theorem Dev.putInt_hostMem (p : Nat) (x : Int) : (d.putInt p x).hostMem = d.hostMem := rfl
@[simp] theorem Dev.putInt_msix (p : Nat) (x : Int) : (d.putInt p x).msix = d.msix := rfl
@[simp] theorem Dev.putInt_cond (p : Nat) (x : Int) : (d.putInt p x).cond = d.cond := rfl
@[simp] theorem Dev.putInt_out (p : Nat) (x : Int) : (d.putInt p x).out = d.out := rfl
@[simp] theorem Dev.putInt_reply (p : Nat) (x : Int) : (d.putInt p x).reply = d.reply := rfl
@[simp] theorem Dev.putInt_freeCtr (p : Nat) (x : Int) : (d.putInt p x).freeCtr = d.freeCtr := rfl
@[simp] theorem Dev.putInt_pulses (p : Nat) (x : Int) : (d.putInt p x).pulses = d.pulses := rfl
@[simp] theorem Dev.putInt_accums (p : Nat) (x : Int) : (d.putInt p x).accums = d.accums := rfl
@[simp] theorem Dev.putInt_host (p : Nat) (x : Int) : (d.putInt p x).host = d.host := rfl
@[simp] theorem Dev.putInt_dma (p : Nat) (x : Int) : (d.putInt p x).dma = d.dma := rfl
@[simp] theorem Dev.putInt_tk (p : Nat) (x : Int) : (d.putInt p x).tk = d.tk := rfl
@[simp] theorem Dev.putInt_tl (p : Nat) (x : Int) : (d.putInt p x).tl = d.tl := rfl
@[simp] theorem Dev.putInt_cls (p : Nat) (x : Int) : (d.putInt p x).cls = d.cls := rfl
@[simp] theorem Dev.putInt_net (p : Nat) (x : Int) : (d.putInt p x).net = d.net := rfl
@[simp] theorem Dev.putInt_att (p : Nat) (x : Int) : (d.putInt p x).att = d.att := rfl
@[simp] theorem Dev.putInt_pte (p : Nat) (x : Int) : (d.putInt p x).pte = d.pte := rfl
@[simp] theorem Dev.putInt_emu (p : Nat) (x : Int) : (d.putInt p x).emu = d.emu := rfl
@[simp] theorem Dev.putInt_refc (p : Nat) (x : Int) : (d.putInt p x).refc = d.refc := rfl
@[simp] theorem Dev.putInt_cd (p : Nat) (x : Int) : (d.putInt p x).cd = d.cd := rfl
@[simp] theorem Dev.putInt_cal (p : Nat) (x : Int) : (d.putInt p x).cal = d.cal := rfl
@[simp] theorem Dev.putInt_lanes (p : Nat) (x : Int) : (d.putInt p x).lanes = d.lanes := rfl
@[simp] theorem Dev.putInt_trk0 (p : Nat) (x : Int) : (d.putInt p x).trk0 = d.trk0 := rfl
@[simp] theorem Dev.putInt_trk1 (p : Nat) (x : Int) : (d.putInt p x).trk1 = d.trk1 := rfl
@[simp] theorem Dev.putInt_optics (p : Nat) (x : Int) : (d.putInt p x).optics = d.optics := rfl
@[simp] theorem Dev.putInt_pwr (p : Nat) (x : Int) : (d.putInt p x).pwr = d.pwr := rfl
@[simp] theorem Dev.putInt_obs (p : Nat) (x : Int) : (d.putInt p x).obs = d.obs := rfl
@[simp] theorem Dev.putInt_trust (p : Nat) (x : Int) : (d.putInt p x).trust = d.trust := rfl
@[simp] theorem Dev.putInt_crs (p : Nat) (x : Int) : (d.putInt p x).crs = d.crs := rfl

/-! ### `Dev.bump` -/

@[simp] theorem Dev.bump_hostMem (p n : Nat) : (d.bump p n).hostMem = d.hostMem := rfl
@[simp] theorem Dev.bump_msix (p n : Nat) : (d.bump p n).msix = d.msix := rfl
@[simp] theorem Dev.bump_cond (p n : Nat) : (d.bump p n).cond = d.cond := rfl
@[simp] theorem Dev.bump_out (p n : Nat) : (d.bump p n).out = d.out := rfl
@[simp] theorem Dev.bump_reply (p n : Nat) : (d.bump p n).reply = d.reply := rfl
@[simp] theorem Dev.bump_freeCtr (p n : Nat) : (d.bump p n).freeCtr = d.freeCtr := rfl
@[simp] theorem Dev.bump_pulses (p n : Nat) : (d.bump p n).pulses = d.pulses := rfl
@[simp] theorem Dev.bump_accums (p n : Nat) : (d.bump p n).accums = d.accums := rfl
@[simp] theorem Dev.bump_host (p n : Nat) : (d.bump p n).host = d.host := rfl
@[simp] theorem Dev.bump_dma (p n : Nat) : (d.bump p n).dma = d.dma := rfl
@[simp] theorem Dev.bump_tk (p n : Nat) : (d.bump p n).tk = d.tk := rfl
@[simp] theorem Dev.bump_tl (p n : Nat) : (d.bump p n).tl = d.tl := rfl
@[simp] theorem Dev.bump_cls (p n : Nat) : (d.bump p n).cls = d.cls := rfl
@[simp] theorem Dev.bump_net (p n : Nat) : (d.bump p n).net = d.net := rfl
@[simp] theorem Dev.bump_att (p n : Nat) : (d.bump p n).att = d.att := rfl
@[simp] theorem Dev.bump_pte (p n : Nat) : (d.bump p n).pte = d.pte := rfl
@[simp] theorem Dev.bump_emu (p n : Nat) : (d.bump p n).emu = d.emu := rfl
@[simp] theorem Dev.bump_refc (p n : Nat) : (d.bump p n).refc = d.refc := rfl
@[simp] theorem Dev.bump_cd (p n : Nat) : (d.bump p n).cd = d.cd := rfl
@[simp] theorem Dev.bump_cal (p n : Nat) : (d.bump p n).cal = d.cal := rfl
@[simp] theorem Dev.bump_lanes (p n : Nat) : (d.bump p n).lanes = d.lanes := rfl
@[simp] theorem Dev.bump_trk0 (p n : Nat) : (d.bump p n).trk0 = d.trk0 := rfl
@[simp] theorem Dev.bump_trk1 (p n : Nat) : (d.bump p n).trk1 = d.trk1 := rfl
@[simp] theorem Dev.bump_optics (p n : Nat) : (d.bump p n).optics = d.optics := rfl
@[simp] theorem Dev.bump_pwr (p n : Nat) : (d.bump p n).pwr = d.pwr := rfl
@[simp] theorem Dev.bump_obs (p n : Nat) : (d.bump p n).obs = d.obs := rfl
@[simp] theorem Dev.bump_trust (p n : Nat) : (d.bump p n).trust = d.trust := rfl
@[simp] theorem Dev.bump_crs (p n : Nat) : (d.bump p n).crs = d.crs := rfl

/-! ### `Dev.live` -/

@[simp] theorem Dev.live_hostMem (p b : Nat) (v : Bool) : (d.live p b v).hostMem = d.hostMem := rfl
@[simp] theorem Dev.live_msix (p b : Nat) (v : Bool) : (d.live p b v).msix = d.msix := rfl
@[simp] theorem Dev.live_cond (p b : Nat) (v : Bool) : (d.live p b v).cond = d.cond := rfl
@[simp] theorem Dev.live_out (p b : Nat) (v : Bool) : (d.live p b v).out = d.out := rfl
@[simp] theorem Dev.live_reply (p b : Nat) (v : Bool) : (d.live p b v).reply = d.reply := rfl
@[simp] theorem Dev.live_freeCtr (p b : Nat) (v : Bool) : (d.live p b v).freeCtr = d.freeCtr := rfl
@[simp] theorem Dev.live_pulses (p b : Nat) (v : Bool) : (d.live p b v).pulses = d.pulses := rfl
@[simp] theorem Dev.live_accums (p b : Nat) (v : Bool) : (d.live p b v).accums = d.accums := rfl
@[simp] theorem Dev.live_host (p b : Nat) (v : Bool) : (d.live p b v).host = d.host := rfl
@[simp] theorem Dev.live_dma (p b : Nat) (v : Bool) : (d.live p b v).dma = d.dma := rfl
@[simp] theorem Dev.live_tk (p b : Nat) (v : Bool) : (d.live p b v).tk = d.tk := rfl
@[simp] theorem Dev.live_tl (p b : Nat) (v : Bool) : (d.live p b v).tl = d.tl := rfl
@[simp] theorem Dev.live_cls (p b : Nat) (v : Bool) : (d.live p b v).cls = d.cls := rfl
@[simp] theorem Dev.live_net (p b : Nat) (v : Bool) : (d.live p b v).net = d.net := rfl
@[simp] theorem Dev.live_att (p b : Nat) (v : Bool) : (d.live p b v).att = d.att := rfl
@[simp] theorem Dev.live_pte (p b : Nat) (v : Bool) : (d.live p b v).pte = d.pte := rfl
@[simp] theorem Dev.live_emu (p b : Nat) (v : Bool) : (d.live p b v).emu = d.emu := rfl
@[simp] theorem Dev.live_refc (p b : Nat) (v : Bool) : (d.live p b v).refc = d.refc := rfl
@[simp] theorem Dev.live_cd (p b : Nat) (v : Bool) : (d.live p b v).cd = d.cd := rfl
@[simp] theorem Dev.live_cal (p b : Nat) (v : Bool) : (d.live p b v).cal = d.cal := rfl
@[simp] theorem Dev.live_lanes (p b : Nat) (v : Bool) : (d.live p b v).lanes = d.lanes := rfl
@[simp] theorem Dev.live_trk0 (p b : Nat) (v : Bool) : (d.live p b v).trk0 = d.trk0 := rfl
@[simp] theorem Dev.live_trk1 (p b : Nat) (v : Bool) : (d.live p b v).trk1 = d.trk1 := rfl
@[simp] theorem Dev.live_optics (p b : Nat) (v : Bool) : (d.live p b v).optics = d.optics := rfl
@[simp] theorem Dev.live_pwr (p b : Nat) (v : Bool) : (d.live p b v).pwr = d.pwr := rfl
@[simp] theorem Dev.live_obs (p b : Nat) (v : Bool) : (d.live p b v).obs = d.obs := rfl
@[simp] theorem Dev.live_trust (p b : Nat) (v : Bool) : (d.live p b v).trust = d.trust := rfl
@[simp] theorem Dev.live_crs (p b : Nat) (v : Bool) : (d.live p b v).crs = d.crs := rfl

/-! ### `Dev.took` -/

@[simp] theorem Dev.took_params : (d.took).params = d.params := rfl
@[simp] theorem Dev.took_hostMem : (d.took).hostMem = d.hostMem := rfl
@[simp] theorem Dev.took_msix : (d.took).msix = d.msix := rfl
@[simp] theorem Dev.took_cond : (d.took).cond = d.cond := rfl
@[simp] theorem Dev.took_out : (d.took).out = d.out := rfl
@[simp] theorem Dev.took_reply : (d.took).reply = d.reply := rfl
@[simp] theorem Dev.took_pulses : (d.took).pulses = d.pulses := rfl
@[simp] theorem Dev.took_accums : (d.took).accums = d.accums := rfl
@[simp] theorem Dev.took_host : (d.took).host = d.host := rfl
@[simp] theorem Dev.took_dma : (d.took).dma = d.dma := rfl
@[simp] theorem Dev.took_tk : (d.took).tk = d.tk := rfl
@[simp] theorem Dev.took_tl : (d.took).tl = d.tl := rfl
@[simp] theorem Dev.took_cls : (d.took).cls = d.cls := rfl
@[simp] theorem Dev.took_net : (d.took).net = d.net := rfl
@[simp] theorem Dev.took_att : (d.took).att = d.att := rfl
@[simp] theorem Dev.took_pte : (d.took).pte = d.pte := rfl
@[simp] theorem Dev.took_emu : (d.took).emu = d.emu := rfl
@[simp] theorem Dev.took_refc : (d.took).refc = d.refc := rfl
@[simp] theorem Dev.took_cd : (d.took).cd = d.cd := rfl
@[simp] theorem Dev.took_cal : (d.took).cal = d.cal := rfl
@[simp] theorem Dev.took_lanes : (d.took).lanes = d.lanes := rfl
@[simp] theorem Dev.took_trk0 : (d.took).trk0 = d.trk0 := rfl
@[simp] theorem Dev.took_trk1 : (d.took).trk1 = d.trk1 := rfl
@[simp] theorem Dev.took_optics : (d.took).optics = d.optics := rfl
@[simp] theorem Dev.took_pwr : (d.took).pwr = d.pwr := rfl
@[simp] theorem Dev.took_obs : (d.took).obs = d.obs := rfl
@[simp] theorem Dev.took_trust : (d.took).trust = d.trust := rfl
@[simp] theorem Dev.took_crs : (d.took).crs = d.crs := rfl

/-! ### `Dev.answer` -/

@[simp] theorem Dev.answer_params (n : Nat) : (d.answer n).params = d.params := rfl
@[simp] theorem Dev.answer_hostMem (n : Nat) : (d.answer n).hostMem = d.hostMem := rfl
@[simp] theorem Dev.answer_msix (n : Nat) : (d.answer n).msix = d.msix := rfl
@[simp] theorem Dev.answer_cond (n : Nat) : (d.answer n).cond = d.cond := rfl
@[simp] theorem Dev.answer_out (n : Nat) : (d.answer n).out = d.out := rfl
@[simp] theorem Dev.answer_freeCtr (n : Nat) : (d.answer n).freeCtr = d.freeCtr := rfl
@[simp] theorem Dev.answer_pulses (n : Nat) : (d.answer n).pulses = d.pulses := rfl
@[simp] theorem Dev.answer_accums (n : Nat) : (d.answer n).accums = d.accums := rfl
@[simp] theorem Dev.answer_host (n : Nat) : (d.answer n).host = d.host := rfl
@[simp] theorem Dev.answer_dma (n : Nat) : (d.answer n).dma = d.dma := rfl
@[simp] theorem Dev.answer_tk (n : Nat) : (d.answer n).tk = d.tk := rfl
@[simp] theorem Dev.answer_tl (n : Nat) : (d.answer n).tl = d.tl := rfl
@[simp] theorem Dev.answer_cls (n : Nat) : (d.answer n).cls = d.cls := rfl
@[simp] theorem Dev.answer_net (n : Nat) : (d.answer n).net = d.net := rfl
@[simp] theorem Dev.answer_att (n : Nat) : (d.answer n).att = d.att := rfl
@[simp] theorem Dev.answer_pte (n : Nat) : (d.answer n).pte = d.pte := rfl
@[simp] theorem Dev.answer_emu (n : Nat) : (d.answer n).emu = d.emu := rfl
@[simp] theorem Dev.answer_refc (n : Nat) : (d.answer n).refc = d.refc := rfl
@[simp] theorem Dev.answer_cd (n : Nat) : (d.answer n).cd = d.cd := rfl
@[simp] theorem Dev.answer_cal (n : Nat) : (d.answer n).cal = d.cal := rfl
@[simp] theorem Dev.answer_lanes (n : Nat) : (d.answer n).lanes = d.lanes := rfl
@[simp] theorem Dev.answer_trk0 (n : Nat) : (d.answer n).trk0 = d.trk0 := rfl
@[simp] theorem Dev.answer_trk1 (n : Nat) : (d.answer n).trk1 = d.trk1 := rfl
@[simp] theorem Dev.answer_optics (n : Nat) : (d.answer n).optics = d.optics := rfl
@[simp] theorem Dev.answer_pwr (n : Nat) : (d.answer n).pwr = d.pwr := rfl
@[simp] theorem Dev.answer_obs (n : Nat) : (d.answer n).obs = d.obs := rfl
@[simp] theorem Dev.answer_trust (n : Nat) : (d.answer n).trust = d.trust := rfl
@[simp] theorem Dev.answer_crs (n : Nat) : (d.answer n).crs = d.crs := rfl

/-! ### `Dev.signal` -/

@[simp] theorem Dev.signal_params (fn vec : Nat) : (d.signal fn vec).params = d.params := by simp only [Dev.signal]; (repeat' split) <;> rfl
@[simp] theorem Dev.signal_hostMem (fn vec : Nat) : (d.signal fn vec).hostMem = d.hostMem := by simp only [Dev.signal]; (repeat' split) <;> rfl
@[simp] theorem Dev.signal_cond (fn vec : Nat) : (d.signal fn vec).cond = d.cond := by simp only [Dev.signal]; (repeat' split) <;> rfl
@[simp] theorem Dev.signal_reply (fn vec : Nat) : (d.signal fn vec).reply = d.reply := by simp only [Dev.signal]; (repeat' split) <;> rfl
@[simp] theorem Dev.signal_freeCtr (fn vec : Nat) : (d.signal fn vec).freeCtr = d.freeCtr := by simp only [Dev.signal]; (repeat' split) <;> rfl
@[simp] theorem Dev.signal_pulses (fn vec : Nat) : (d.signal fn vec).pulses = d.pulses := by simp only [Dev.signal]; (repeat' split) <;> rfl
@[simp] theorem Dev.signal_accums (fn vec : Nat) : (d.signal fn vec).accums = d.accums := by simp only [Dev.signal]; (repeat' split) <;> rfl
@[simp] theorem Dev.signal_host (fn vec : Nat) : (d.signal fn vec).host = d.host := by simp only [Dev.signal]; (repeat' split) <;> rfl
@[simp] theorem Dev.signal_dma (fn vec : Nat) : (d.signal fn vec).dma = d.dma := by simp only [Dev.signal]; (repeat' split) <;> rfl
@[simp] theorem Dev.signal_tk (fn vec : Nat) : (d.signal fn vec).tk = d.tk := by simp only [Dev.signal]; (repeat' split) <;> rfl
@[simp] theorem Dev.signal_tl (fn vec : Nat) : (d.signal fn vec).tl = d.tl := by simp only [Dev.signal]; (repeat' split) <;> rfl
@[simp] theorem Dev.signal_cls (fn vec : Nat) : (d.signal fn vec).cls = d.cls := by simp only [Dev.signal]; (repeat' split) <;> rfl
@[simp] theorem Dev.signal_net (fn vec : Nat) : (d.signal fn vec).net = d.net := by simp only [Dev.signal]; (repeat' split) <;> rfl
@[simp] theorem Dev.signal_att (fn vec : Nat) : (d.signal fn vec).att = d.att := by simp only [Dev.signal]; (repeat' split) <;> rfl
@[simp] theorem Dev.signal_pte (fn vec : Nat) : (d.signal fn vec).pte = d.pte := by simp only [Dev.signal]; (repeat' split) <;> rfl
@[simp] theorem Dev.signal_emu (fn vec : Nat) : (d.signal fn vec).emu = d.emu := by simp only [Dev.signal]; (repeat' split) <;> rfl
@[simp] theorem Dev.signal_refc (fn vec : Nat) : (d.signal fn vec).refc = d.refc := by simp only [Dev.signal]; (repeat' split) <;> rfl
@[simp] theorem Dev.signal_cd (fn vec : Nat) : (d.signal fn vec).cd = d.cd := by simp only [Dev.signal]; (repeat' split) <;> rfl
@[simp] theorem Dev.signal_cal (fn vec : Nat) : (d.signal fn vec).cal = d.cal := by simp only [Dev.signal]; (repeat' split) <;> rfl
@[simp] theorem Dev.signal_lanes (fn vec : Nat) : (d.signal fn vec).lanes = d.lanes := by simp only [Dev.signal]; (repeat' split) <;> rfl
@[simp] theorem Dev.signal_trk0 (fn vec : Nat) : (d.signal fn vec).trk0 = d.trk0 := by simp only [Dev.signal]; (repeat' split) <;> rfl
@[simp] theorem Dev.signal_trk1 (fn vec : Nat) : (d.signal fn vec).trk1 = d.trk1 := by simp only [Dev.signal]; (repeat' split) <;> rfl
@[simp] theorem Dev.signal_optics (fn vec : Nat) : (d.signal fn vec).optics = d.optics := by simp only [Dev.signal]; (repeat' split) <;> rfl
@[simp] theorem Dev.signal_pwr (fn vec : Nat) : (d.signal fn vec).pwr = d.pwr := by simp only [Dev.signal]; (repeat' split) <;> rfl
@[simp] theorem Dev.signal_obs (fn vec : Nat) : (d.signal fn vec).obs = d.obs := by simp only [Dev.signal]; (repeat' split) <;> rfl
@[simp] theorem Dev.signal_trust (fn vec : Nat) : (d.signal fn vec).trust = d.trust := by simp only [Dev.signal]; (repeat' split) <;> rfl
@[simp] theorem Dev.signal_crs (fn vec : Nat) : (d.signal fn vec).crs = d.crs := by simp only [Dev.signal]; (repeat' split) <;> rfl

/-! ### `Dev.raise` -/

@[simp] theorem Dev.raise_params (p : Nat) : (d.raise p).params = d.params := by simp [Dev.raise]
@[simp] theorem Dev.raise_hostMem (p : Nat) : (d.raise p).hostMem = d.hostMem := by simp [Dev.raise]
@[simp] theorem Dev.raise_cond (p : Nat) : (d.raise p).cond = d.cond := by simp [Dev.raise]
@[simp] theorem Dev.raise_reply (p : Nat) : (d.raise p).reply = d.reply := by simp [Dev.raise]
@[simp] theorem Dev.raise_freeCtr (p : Nat) : (d.raise p).freeCtr = d.freeCtr := by simp [Dev.raise]
@[simp] theorem Dev.raise_pulses (p : Nat) : (d.raise p).pulses = d.pulses := by simp [Dev.raise]
@[simp] theorem Dev.raise_accums (p : Nat) : (d.raise p).accums = d.accums := by simp [Dev.raise]
@[simp] theorem Dev.raise_host (p : Nat) : (d.raise p).host = d.host := by simp [Dev.raise]
@[simp] theorem Dev.raise_dma (p : Nat) : (d.raise p).dma = d.dma := by simp [Dev.raise]
@[simp] theorem Dev.raise_tk (p : Nat) : (d.raise p).tk = d.tk := by simp [Dev.raise]
@[simp] theorem Dev.raise_tl (p : Nat) : (d.raise p).tl = d.tl := by simp [Dev.raise]
@[simp] theorem Dev.raise_cls (p : Nat) : (d.raise p).cls = d.cls := by simp [Dev.raise]
@[simp] theorem Dev.raise_net (p : Nat) : (d.raise p).net = d.net := by simp [Dev.raise]
@[simp] theorem Dev.raise_att (p : Nat) : (d.raise p).att = d.att := by simp [Dev.raise]
@[simp] theorem Dev.raise_pte (p : Nat) : (d.raise p).pte = d.pte := by simp [Dev.raise]
@[simp] theorem Dev.raise_emu (p : Nat) : (d.raise p).emu = d.emu := by simp [Dev.raise]
@[simp] theorem Dev.raise_refc (p : Nat) : (d.raise p).refc = d.refc := by simp [Dev.raise]
@[simp] theorem Dev.raise_cd (p : Nat) : (d.raise p).cd = d.cd := by simp [Dev.raise]
@[simp] theorem Dev.raise_cal (p : Nat) : (d.raise p).cal = d.cal := by simp [Dev.raise]
@[simp] theorem Dev.raise_lanes (p : Nat) : (d.raise p).lanes = d.lanes := by simp [Dev.raise]
@[simp] theorem Dev.raise_trk0 (p : Nat) : (d.raise p).trk0 = d.trk0 := by simp [Dev.raise]
@[simp] theorem Dev.raise_trk1 (p : Nat) : (d.raise p).trk1 = d.trk1 := by simp [Dev.raise]
@[simp] theorem Dev.raise_optics (p : Nat) : (d.raise p).optics = d.optics := by simp [Dev.raise]
@[simp] theorem Dev.raise_pwr (p : Nat) : (d.raise p).pwr = d.pwr := by simp [Dev.raise]
@[simp] theorem Dev.raise_obs (p : Nat) : (d.raise p).obs = d.obs := by simp [Dev.raise]
@[simp] theorem Dev.raise_trust (p : Nat) : (d.raise p).trust = d.trust := by simp [Dev.raise]
@[simp] theorem Dev.raise_crs (p : Nat) : (d.raise p).crs = d.crs := by simp [Dev.raise]

/-! ### `Dev.noteCond` -/

@[simp] theorem Dev.noteCond_params (p b : Nat) : (d.noteCond p b).params = d.params := rfl
@[simp] theorem Dev.noteCond_hostMem (p b : Nat) : (d.noteCond p b).hostMem = d.hostMem := rfl
@[simp] theorem Dev.noteCond_msix (p b : Nat) : (d.noteCond p b).msix = d.msix := rfl
@[simp] theorem Dev.noteCond_out (p b : Nat) : (d.noteCond p b).out = d.out := rfl
@[simp] theorem Dev.noteCond_reply (p b : Nat) : (d.noteCond p b).reply = d.reply := rfl
@[simp] theorem Dev.noteCond_freeCtr (p b : Nat) : (d.noteCond p b).freeCtr = d.freeCtr := rfl
@[simp] theorem Dev.noteCond_pulses (p b : Nat) : (d.noteCond p b).pulses = d.pulses := rfl
@[simp] theorem Dev.noteCond_accums (p b : Nat) : (d.noteCond p b).accums = d.accums := rfl
@[simp] theorem Dev.noteCond_host (p b : Nat) : (d.noteCond p b).host = d.host := rfl
@[simp] theorem Dev.noteCond_dma (p b : Nat) : (d.noteCond p b).dma = d.dma := rfl
@[simp] theorem Dev.noteCond_tk (p b : Nat) : (d.noteCond p b).tk = d.tk := rfl
@[simp] theorem Dev.noteCond_tl (p b : Nat) : (d.noteCond p b).tl = d.tl := rfl
@[simp] theorem Dev.noteCond_cls (p b : Nat) : (d.noteCond p b).cls = d.cls := rfl
@[simp] theorem Dev.noteCond_net (p b : Nat) : (d.noteCond p b).net = d.net := rfl
@[simp] theorem Dev.noteCond_att (p b : Nat) : (d.noteCond p b).att = d.att := rfl
@[simp] theorem Dev.noteCond_pte (p b : Nat) : (d.noteCond p b).pte = d.pte := rfl
@[simp] theorem Dev.noteCond_emu (p b : Nat) : (d.noteCond p b).emu = d.emu := rfl
@[simp] theorem Dev.noteCond_refc (p b : Nat) : (d.noteCond p b).refc = d.refc := rfl
@[simp] theorem Dev.noteCond_cd (p b : Nat) : (d.noteCond p b).cd = d.cd := rfl
@[simp] theorem Dev.noteCond_cal (p b : Nat) : (d.noteCond p b).cal = d.cal := rfl
@[simp] theorem Dev.noteCond_lanes (p b : Nat) : (d.noteCond p b).lanes = d.lanes := rfl
@[simp] theorem Dev.noteCond_trk0 (p b : Nat) : (d.noteCond p b).trk0 = d.trk0 := rfl
@[simp] theorem Dev.noteCond_trk1 (p b : Nat) : (d.noteCond p b).trk1 = d.trk1 := rfl
@[simp] theorem Dev.noteCond_optics (p b : Nat) : (d.noteCond p b).optics = d.optics := rfl
@[simp] theorem Dev.noteCond_pwr (p b : Nat) : (d.noteCond p b).pwr = d.pwr := rfl
@[simp] theorem Dev.noteCond_obs (p b : Nat) : (d.noteCond p b).obs = d.obs := rfl
@[simp] theorem Dev.noteCond_trust (p b : Nat) : (d.noteCond p b).trust = d.trust := rfl
@[simp] theorem Dev.noteCond_crs (p b : Nat) : (d.noteCond p b).crs = d.crs := rfl

/-! ### `Dev.stick` -/

@[simp] theorem Dev.stick_hostMem (p b : Nat) : (d.stick p b).hostMem = d.hostMem := by simp only [Dev.stick]; (repeat' split) <;> simp
@[simp] theorem Dev.stick_reply (p b : Nat) : (d.stick p b).reply = d.reply := by simp only [Dev.stick]; (repeat' split) <;> simp
@[simp] theorem Dev.stick_freeCtr (p b : Nat) : (d.stick p b).freeCtr = d.freeCtr := by simp only [Dev.stick]; (repeat' split) <;> simp
@[simp] theorem Dev.stick_pulses (p b : Nat) : (d.stick p b).pulses = d.pulses := by simp only [Dev.stick]; (repeat' split) <;> simp
@[simp] theorem Dev.stick_accums (p b : Nat) : (d.stick p b).accums = d.accums := by simp only [Dev.stick]; (repeat' split) <;> simp
@[simp] theorem Dev.stick_host (p b : Nat) : (d.stick p b).host = d.host := by simp only [Dev.stick]; (repeat' split) <;> simp
@[simp] theorem Dev.stick_dma (p b : Nat) : (d.stick p b).dma = d.dma := by simp only [Dev.stick]; (repeat' split) <;> simp
@[simp] theorem Dev.stick_tk (p b : Nat) : (d.stick p b).tk = d.tk := by simp only [Dev.stick]; (repeat' split) <;> simp
@[simp] theorem Dev.stick_tl (p b : Nat) : (d.stick p b).tl = d.tl := by simp only [Dev.stick]; (repeat' split) <;> simp
@[simp] theorem Dev.stick_cls (p b : Nat) : (d.stick p b).cls = d.cls := by simp only [Dev.stick]; (repeat' split) <;> simp
@[simp] theorem Dev.stick_net (p b : Nat) : (d.stick p b).net = d.net := by simp only [Dev.stick]; (repeat' split) <;> simp
@[simp] theorem Dev.stick_att (p b : Nat) : (d.stick p b).att = d.att := by simp only [Dev.stick]; (repeat' split) <;> simp
@[simp] theorem Dev.stick_pte (p b : Nat) : (d.stick p b).pte = d.pte := by simp only [Dev.stick]; (repeat' split) <;> simp
@[simp] theorem Dev.stick_emu (p b : Nat) : (d.stick p b).emu = d.emu := by simp only [Dev.stick]; (repeat' split) <;> simp
@[simp] theorem Dev.stick_refc (p b : Nat) : (d.stick p b).refc = d.refc := by simp only [Dev.stick]; (repeat' split) <;> simp
@[simp] theorem Dev.stick_cd (p b : Nat) : (d.stick p b).cd = d.cd := by simp only [Dev.stick]; (repeat' split) <;> simp
@[simp] theorem Dev.stick_cal (p b : Nat) : (d.stick p b).cal = d.cal := by simp only [Dev.stick]; (repeat' split) <;> simp
@[simp] theorem Dev.stick_lanes (p b : Nat) : (d.stick p b).lanes = d.lanes := by simp only [Dev.stick]; (repeat' split) <;> simp
@[simp] theorem Dev.stick_trk0 (p b : Nat) : (d.stick p b).trk0 = d.trk0 := by simp only [Dev.stick]; (repeat' split) <;> simp
@[simp] theorem Dev.stick_trk1 (p b : Nat) : (d.stick p b).trk1 = d.trk1 := by simp only [Dev.stick]; (repeat' split) <;> simp
@[simp] theorem Dev.stick_optics (p b : Nat) : (d.stick p b).optics = d.optics := by simp only [Dev.stick]; (repeat' split) <;> simp
@[simp] theorem Dev.stick_pwr (p b : Nat) : (d.stick p b).pwr = d.pwr := by simp only [Dev.stick]; (repeat' split) <;> simp
@[simp] theorem Dev.stick_obs (p b : Nat) : (d.stick p b).obs = d.obs := by simp only [Dev.stick]; (repeat' split) <;> simp
@[simp] theorem Dev.stick_trust (p b : Nat) : (d.stick p b).trust = d.trust := by simp only [Dev.stick]; (repeat' split) <;> simp
@[simp] theorem Dev.stick_crs (p b : Nat) : (d.stick p b).crs = d.crs := by simp only [Dev.stick]; (repeat' split) <;> simp

/-! ### `Dev.liveEdge` -/

@[simp] theorem Dev.liveEdge_hostMem (p b : Nat) (v : Bool) : (d.liveEdge p b v).hostMem = d.hostMem := by unfold Dev.liveEdge; split <;> simp
@[simp] theorem Dev.liveEdge_reply (p b : Nat) (v : Bool) : (d.liveEdge p b v).reply = d.reply := by unfold Dev.liveEdge; split <;> simp
@[simp] theorem Dev.liveEdge_freeCtr (p b : Nat) (v : Bool) : (d.liveEdge p b v).freeCtr = d.freeCtr := by unfold Dev.liveEdge; split <;> simp
@[simp] theorem Dev.liveEdge_pulses (p b : Nat) (v : Bool) : (d.liveEdge p b v).pulses = d.pulses := by unfold Dev.liveEdge; split <;> simp
@[simp] theorem Dev.liveEdge_accums (p b : Nat) (v : Bool) : (d.liveEdge p b v).accums = d.accums := by unfold Dev.liveEdge; split <;> simp
@[simp] theorem Dev.liveEdge_host (p b : Nat) (v : Bool) : (d.liveEdge p b v).host = d.host := by unfold Dev.liveEdge; split <;> simp
@[simp] theorem Dev.liveEdge_dma (p b : Nat) (v : Bool) : (d.liveEdge p b v).dma = d.dma := by unfold Dev.liveEdge; split <;> simp
@[simp] theorem Dev.liveEdge_tk (p b : Nat) (v : Bool) : (d.liveEdge p b v).tk = d.tk := by unfold Dev.liveEdge; split <;> simp
@[simp] theorem Dev.liveEdge_tl (p b : Nat) (v : Bool) : (d.liveEdge p b v).tl = d.tl := by unfold Dev.liveEdge; split <;> simp
@[simp] theorem Dev.liveEdge_cls (p b : Nat) (v : Bool) : (d.liveEdge p b v).cls = d.cls := by unfold Dev.liveEdge; split <;> simp
@[simp] theorem Dev.liveEdge_net (p b : Nat) (v : Bool) : (d.liveEdge p b v).net = d.net := by unfold Dev.liveEdge; split <;> simp
@[simp] theorem Dev.liveEdge_att (p b : Nat) (v : Bool) : (d.liveEdge p b v).att = d.att := by unfold Dev.liveEdge; split <;> simp
@[simp] theorem Dev.liveEdge_pte (p b : Nat) (v : Bool) : (d.liveEdge p b v).pte = d.pte := by unfold Dev.liveEdge; split <;> simp
@[simp] theorem Dev.liveEdge_emu (p b : Nat) (v : Bool) : (d.liveEdge p b v).emu = d.emu := by unfold Dev.liveEdge; split <;> simp
@[simp] theorem Dev.liveEdge_refc (p b : Nat) (v : Bool) : (d.liveEdge p b v).refc = d.refc := by unfold Dev.liveEdge; split <;> simp
@[simp] theorem Dev.liveEdge_cd (p b : Nat) (v : Bool) : (d.liveEdge p b v).cd = d.cd := by unfold Dev.liveEdge; split <;> simp
@[simp] theorem Dev.liveEdge_cal (p b : Nat) (v : Bool) : (d.liveEdge p b v).cal = d.cal := by unfold Dev.liveEdge; split <;> simp
@[simp] theorem Dev.liveEdge_lanes (p b : Nat) (v : Bool) : (d.liveEdge p b v).lanes = d.lanes := by unfold Dev.liveEdge; split <;> simp
@[simp] theorem Dev.liveEdge_trk0 (p b : Nat) (v : Bool) : (d.liveEdge p b v).trk0 = d.trk0 := by unfold Dev.liveEdge; split <;> simp
@[simp] theorem Dev.liveEdge_trk1 (p b : Nat) (v : Bool) : (d.liveEdge p b v).trk1 = d.trk1 := by unfold Dev.liveEdge; split <;> simp
@[simp] theorem Dev.liveEdge_optics (p b : Nat) (v : Bool) : (d.liveEdge p b v).optics = d.optics := by unfold Dev.liveEdge; split <;> simp
@[simp] theorem Dev.liveEdge_pwr (p b : Nat) (v : Bool) : (d.liveEdge p b v).pwr = d.pwr := by unfold Dev.liveEdge; split <;> simp
@[simp] theorem Dev.liveEdge_obs (p b : Nat) (v : Bool) : (d.liveEdge p b v).obs = d.obs := by unfold Dev.liveEdge; split <;> simp
@[simp] theorem Dev.liveEdge_trust (p b : Nat) (v : Bool) : (d.liveEdge p b v).trust = d.trust := by unfold Dev.liveEdge; split <;> simp
@[simp] theorem Dev.liveEdge_crs (p b : Nat) (v : Bool) : (d.liveEdge p b v).crs = d.crs := by unfold Dev.liveEdge; split <;> simp

/-! ### `Dev.pulse` -/

@[simp] theorem Dev.pulse_hostMem (p b : Nat) : (d.pulse p b).hostMem = d.hostMem := by simp [Dev.pulse]
@[simp] theorem Dev.pulse_reply (p b : Nat) : (d.pulse p b).reply = d.reply := by simp [Dev.pulse]
@[simp] theorem Dev.pulse_freeCtr (p b : Nat) : (d.pulse p b).freeCtr = d.freeCtr := by simp [Dev.pulse]
@[simp] theorem Dev.pulse_accums (p b : Nat) : (d.pulse p b).accums = d.accums := by simp [Dev.pulse]
@[simp] theorem Dev.pulse_host (p b : Nat) : (d.pulse p b).host = d.host := by simp [Dev.pulse]
@[simp] theorem Dev.pulse_dma (p b : Nat) : (d.pulse p b).dma = d.dma := by simp [Dev.pulse]
@[simp] theorem Dev.pulse_tk (p b : Nat) : (d.pulse p b).tk = d.tk := by simp [Dev.pulse]
@[simp] theorem Dev.pulse_tl (p b : Nat) : (d.pulse p b).tl = d.tl := by simp [Dev.pulse]
@[simp] theorem Dev.pulse_cls (p b : Nat) : (d.pulse p b).cls = d.cls := by simp [Dev.pulse]
@[simp] theorem Dev.pulse_net (p b : Nat) : (d.pulse p b).net = d.net := by simp [Dev.pulse]
@[simp] theorem Dev.pulse_att (p b : Nat) : (d.pulse p b).att = d.att := by simp [Dev.pulse]
@[simp] theorem Dev.pulse_pte (p b : Nat) : (d.pulse p b).pte = d.pte := by simp [Dev.pulse]
@[simp] theorem Dev.pulse_emu (p b : Nat) : (d.pulse p b).emu = d.emu := by simp [Dev.pulse]
@[simp] theorem Dev.pulse_refc (p b : Nat) : (d.pulse p b).refc = d.refc := by simp [Dev.pulse]
@[simp] theorem Dev.pulse_cd (p b : Nat) : (d.pulse p b).cd = d.cd := by simp [Dev.pulse]
@[simp] theorem Dev.pulse_cal (p b : Nat) : (d.pulse p b).cal = d.cal := by simp [Dev.pulse]
@[simp] theorem Dev.pulse_lanes (p b : Nat) : (d.pulse p b).lanes = d.lanes := by simp [Dev.pulse]
@[simp] theorem Dev.pulse_trk0 (p b : Nat) : (d.pulse p b).trk0 = d.trk0 := by simp [Dev.pulse]
@[simp] theorem Dev.pulse_trk1 (p b : Nat) : (d.pulse p b).trk1 = d.trk1 := by simp [Dev.pulse]
@[simp] theorem Dev.pulse_optics (p b : Nat) : (d.pulse p b).optics = d.optics := by simp [Dev.pulse]
@[simp] theorem Dev.pulse_pwr (p b : Nat) : (d.pulse p b).pwr = d.pwr := by simp [Dev.pulse]
@[simp] theorem Dev.pulse_obs (p b : Nat) : (d.pulse p b).obs = d.obs := by simp [Dev.pulse]
@[simp] theorem Dev.pulse_trust (p b : Nat) : (d.pulse p b).trust = d.trust := by simp [Dev.pulse]
@[simp] theorem Dev.pulse_crs (p b : Nat) : (d.pulse p b).crs = d.crs := by simp [Dev.pulse]

/-! ### `Dev.alertN` -/

@[simp] theorem Dev.alertN_params : (d.alertN).params = d.params := by simp only [Dev.alertN]; (repeat' split) <;> rfl
@[simp] theorem Dev.alertN_hostMem : (d.alertN).hostMem = d.hostMem := by simp only [Dev.alertN]; (repeat' split) <;> rfl
@[simp] theorem Dev.alertN_msix : (d.alertN).msix = d.msix := by simp only [Dev.alertN]; (repeat' split) <;> rfl
@[simp] theorem Dev.alertN_cond : (d.alertN).cond = d.cond := by simp only [Dev.alertN]; (repeat' split) <;> rfl
@[simp] theorem Dev.alertN_reply : (d.alertN).reply = d.reply := by simp only [Dev.alertN]; (repeat' split) <;> rfl
@[simp] theorem Dev.alertN_freeCtr : (d.alertN).freeCtr = d.freeCtr := by simp only [Dev.alertN]; (repeat' split) <;> rfl
@[simp] theorem Dev.alertN_pulses : (d.alertN).pulses = d.pulses := by simp only [Dev.alertN]; (repeat' split) <;> rfl
@[simp] theorem Dev.alertN_accums : (d.alertN).accums = d.accums := by simp only [Dev.alertN]; (repeat' split) <;> rfl
@[simp] theorem Dev.alertN_host : (d.alertN).host = d.host := by simp only [Dev.alertN]; (repeat' split) <;> rfl
@[simp] theorem Dev.alertN_dma : (d.alertN).dma = d.dma := by simp only [Dev.alertN]; (repeat' split) <;> rfl
@[simp] theorem Dev.alertN_tk : (d.alertN).tk = d.tk := by simp only [Dev.alertN]; (repeat' split) <;> rfl
@[simp] theorem Dev.alertN_tl : (d.alertN).tl = d.tl := by simp only [Dev.alertN]; (repeat' split) <;> rfl
@[simp] theorem Dev.alertN_cls : (d.alertN).cls = d.cls := by simp only [Dev.alertN]; (repeat' split) <;> rfl
@[simp] theorem Dev.alertN_net : (d.alertN).net = d.net := by simp only [Dev.alertN]; (repeat' split) <;> rfl
@[simp] theorem Dev.alertN_att : (d.alertN).att = d.att := by simp only [Dev.alertN]; (repeat' split) <;> rfl
@[simp] theorem Dev.alertN_pte : (d.alertN).pte = d.pte := by simp only [Dev.alertN]; (repeat' split) <;> rfl
@[simp] theorem Dev.alertN_emu : (d.alertN).emu = d.emu := by simp only [Dev.alertN]; (repeat' split) <;> rfl
@[simp] theorem Dev.alertN_refc : (d.alertN).refc = d.refc := by simp only [Dev.alertN]; (repeat' split) <;> rfl
@[simp] theorem Dev.alertN_cd : (d.alertN).cd = d.cd := by simp only [Dev.alertN]; (repeat' split) <;> rfl
@[simp] theorem Dev.alertN_cal : (d.alertN).cal = d.cal := by simp only [Dev.alertN]; (repeat' split) <;> rfl
@[simp] theorem Dev.alertN_lanes : (d.alertN).lanes = d.lanes := by simp only [Dev.alertN]; (repeat' split) <;> rfl
@[simp] theorem Dev.alertN_trk0 : (d.alertN).trk0 = d.trk0 := by simp only [Dev.alertN]; (repeat' split) <;> rfl
@[simp] theorem Dev.alertN_trk1 : (d.alertN).trk1 = d.trk1 := by simp only [Dev.alertN]; (repeat' split) <;> rfl
@[simp] theorem Dev.alertN_optics : (d.alertN).optics = d.optics := by simp only [Dev.alertN]; (repeat' split) <;> rfl
@[simp] theorem Dev.alertN_obs : (d.alertN).obs = d.obs := by simp only [Dev.alertN]; (repeat' split) <;> rfl
@[simp] theorem Dev.alertN_trust : (d.alertN).trust = d.trust := by simp only [Dev.alertN]; (repeat' split) <;> rfl
@[simp] theorem Dev.alertN_crs : (d.alertN).crs = d.crs := by simp only [Dev.alertN]; (repeat' split) <;> rfl

/-! ### `Dev.startTimer` -/

@[simp] theorem Dev.startTimer_params (p : Nat) : (d.startTimer p).params = d.params := by simp only [Dev.startTimer]; (repeat' split) <;> rfl
@[simp] theorem Dev.startTimer_hostMem (p : Nat) : (d.startTimer p).hostMem = d.hostMem := by simp only [Dev.startTimer]; (repeat' split) <;> rfl
@[simp] theorem Dev.startTimer_msix (p : Nat) : (d.startTimer p).msix = d.msix := by simp only [Dev.startTimer]; (repeat' split) <;> rfl
@[simp] theorem Dev.startTimer_cond (p : Nat) : (d.startTimer p).cond = d.cond := by simp only [Dev.startTimer]; (repeat' split) <;> rfl
@[simp] theorem Dev.startTimer_out (p : Nat) : (d.startTimer p).out = d.out := by simp only [Dev.startTimer]; (repeat' split) <;> rfl
@[simp] theorem Dev.startTimer_reply (p : Nat) : (d.startTimer p).reply = d.reply := by simp only [Dev.startTimer]; (repeat' split) <;> rfl
@[simp] theorem Dev.startTimer_freeCtr (p : Nat) : (d.startTimer p).freeCtr = d.freeCtr := by simp only [Dev.startTimer]; (repeat' split) <;> rfl
@[simp] theorem Dev.startTimer_pulses (p : Nat) : (d.startTimer p).pulses = d.pulses := by simp only [Dev.startTimer]; (repeat' split) <;> rfl
@[simp] theorem Dev.startTimer_host (p : Nat) : (d.startTimer p).host = d.host := by simp only [Dev.startTimer]; (repeat' split) <;> rfl
@[simp] theorem Dev.startTimer_dma (p : Nat) : (d.startTimer p).dma = d.dma := by simp only [Dev.startTimer]; (repeat' split) <;> rfl
@[simp] theorem Dev.startTimer_tk (p : Nat) : (d.startTimer p).tk = d.tk := by simp only [Dev.startTimer]; (repeat' split) <;> rfl
@[simp] theorem Dev.startTimer_tl (p : Nat) : (d.startTimer p).tl = d.tl := by simp only [Dev.startTimer]; (repeat' split) <;> rfl
@[simp] theorem Dev.startTimer_cls (p : Nat) : (d.startTimer p).cls = d.cls := by simp only [Dev.startTimer]; (repeat' split) <;> rfl
@[simp] theorem Dev.startTimer_net (p : Nat) : (d.startTimer p).net = d.net := by simp only [Dev.startTimer]; (repeat' split) <;> rfl
@[simp] theorem Dev.startTimer_att (p : Nat) : (d.startTimer p).att = d.att := by simp only [Dev.startTimer]; (repeat' split) <;> rfl
@[simp] theorem Dev.startTimer_pte (p : Nat) : (d.startTimer p).pte = d.pte := by simp only [Dev.startTimer]; (repeat' split) <;> rfl
@[simp] theorem Dev.startTimer_emu (p : Nat) : (d.startTimer p).emu = d.emu := by simp only [Dev.startTimer]; (repeat' split) <;> rfl
@[simp] theorem Dev.startTimer_refc (p : Nat) : (d.startTimer p).refc = d.refc := by simp only [Dev.startTimer]; (repeat' split) <;> rfl
@[simp] theorem Dev.startTimer_cd (p : Nat) : (d.startTimer p).cd = d.cd := by simp only [Dev.startTimer]; (repeat' split) <;> rfl
@[simp] theorem Dev.startTimer_cal (p : Nat) : (d.startTimer p).cal = d.cal := by simp only [Dev.startTimer]; (repeat' split) <;> rfl
@[simp] theorem Dev.startTimer_lanes (p : Nat) : (d.startTimer p).lanes = d.lanes := by simp only [Dev.startTimer]; (repeat' split) <;> rfl
@[simp] theorem Dev.startTimer_trk0 (p : Nat) : (d.startTimer p).trk0 = d.trk0 := by simp only [Dev.startTimer]; (repeat' split) <;> rfl
@[simp] theorem Dev.startTimer_trk1 (p : Nat) : (d.startTimer p).trk1 = d.trk1 := by simp only [Dev.startTimer]; (repeat' split) <;> rfl
@[simp] theorem Dev.startTimer_optics (p : Nat) : (d.startTimer p).optics = d.optics := by simp only [Dev.startTimer]; (repeat' split) <;> rfl
@[simp] theorem Dev.startTimer_pwr (p : Nat) : (d.startTimer p).pwr = d.pwr := by simp only [Dev.startTimer]; (repeat' split) <;> rfl
@[simp] theorem Dev.startTimer_obs (p : Nat) : (d.startTimer p).obs = d.obs := by simp only [Dev.startTimer]; (repeat' split) <;> rfl
@[simp] theorem Dev.startTimer_trust (p : Nat) : (d.startTimer p).trust = d.trust := by simp only [Dev.startTimer]; (repeat' split) <;> rfl
@[simp] theorem Dev.startTimer_crs (p : Nat) : (d.startTimer p).crs = d.crs := by simp only [Dev.startTimer]; (repeat' split) <;> rfl

/-! ### `Dev.stopTimerAt` -/

@[simp] theorem Dev.stopTimerAt_hostMem (p n : Nat) : (d.stopTimerAt p n).hostMem = d.hostMem := by simp only [Dev.stopTimerAt]; (repeat' split) <;> rfl
@[simp] theorem Dev.stopTimerAt_msix (p n : Nat) : (d.stopTimerAt p n).msix = d.msix := by simp only [Dev.stopTimerAt]; (repeat' split) <;> rfl
@[simp] theorem Dev.stopTimerAt_cond (p n : Nat) : (d.stopTimerAt p n).cond = d.cond := by simp only [Dev.stopTimerAt]; (repeat' split) <;> rfl
@[simp] theorem Dev.stopTimerAt_out (p n : Nat) : (d.stopTimerAt p n).out = d.out := by simp only [Dev.stopTimerAt]; (repeat' split) <;> rfl
@[simp] theorem Dev.stopTimerAt_reply (p n : Nat) : (d.stopTimerAt p n).reply = d.reply := by simp only [Dev.stopTimerAt]; (repeat' split) <;> rfl
@[simp] theorem Dev.stopTimerAt_freeCtr (p n : Nat) : (d.stopTimerAt p n).freeCtr = d.freeCtr := by simp only [Dev.stopTimerAt]; (repeat' split) <;> rfl
@[simp] theorem Dev.stopTimerAt_pulses (p n : Nat) : (d.stopTimerAt p n).pulses = d.pulses := by simp only [Dev.stopTimerAt]; (repeat' split) <;> rfl
@[simp] theorem Dev.stopTimerAt_host (p n : Nat) : (d.stopTimerAt p n).host = d.host := by simp only [Dev.stopTimerAt]; (repeat' split) <;> rfl
@[simp] theorem Dev.stopTimerAt_dma (p n : Nat) : (d.stopTimerAt p n).dma = d.dma := by simp only [Dev.stopTimerAt]; (repeat' split) <;> rfl
@[simp] theorem Dev.stopTimerAt_tk (p n : Nat) : (d.stopTimerAt p n).tk = d.tk := by simp only [Dev.stopTimerAt]; (repeat' split) <;> rfl
@[simp] theorem Dev.stopTimerAt_tl (p n : Nat) : (d.stopTimerAt p n).tl = d.tl := by simp only [Dev.stopTimerAt]; (repeat' split) <;> rfl
@[simp] theorem Dev.stopTimerAt_cls (p n : Nat) : (d.stopTimerAt p n).cls = d.cls := by simp only [Dev.stopTimerAt]; (repeat' split) <;> rfl
@[simp] theorem Dev.stopTimerAt_net (p n : Nat) : (d.stopTimerAt p n).net = d.net := by simp only [Dev.stopTimerAt]; (repeat' split) <;> rfl
@[simp] theorem Dev.stopTimerAt_att (p n : Nat) : (d.stopTimerAt p n).att = d.att := by simp only [Dev.stopTimerAt]; (repeat' split) <;> rfl
@[simp] theorem Dev.stopTimerAt_pte (p n : Nat) : (d.stopTimerAt p n).pte = d.pte := by simp only [Dev.stopTimerAt]; (repeat' split) <;> rfl
@[simp] theorem Dev.stopTimerAt_emu (p n : Nat) : (d.stopTimerAt p n).emu = d.emu := by simp only [Dev.stopTimerAt]; (repeat' split) <;> rfl
@[simp] theorem Dev.stopTimerAt_refc (p n : Nat) : (d.stopTimerAt p n).refc = d.refc := by simp only [Dev.stopTimerAt]; (repeat' split) <;> rfl
@[simp] theorem Dev.stopTimerAt_cd (p n : Nat) : (d.stopTimerAt p n).cd = d.cd := by simp only [Dev.stopTimerAt]; (repeat' split) <;> rfl
@[simp] theorem Dev.stopTimerAt_cal (p n : Nat) : (d.stopTimerAt p n).cal = d.cal := by simp only [Dev.stopTimerAt]; (repeat' split) <;> rfl
@[simp] theorem Dev.stopTimerAt_lanes (p n : Nat) : (d.stopTimerAt p n).lanes = d.lanes := by simp only [Dev.stopTimerAt]; (repeat' split) <;> rfl
@[simp] theorem Dev.stopTimerAt_trk0 (p n : Nat) : (d.stopTimerAt p n).trk0 = d.trk0 := by simp only [Dev.stopTimerAt]; (repeat' split) <;> rfl
@[simp] theorem Dev.stopTimerAt_trk1 (p n : Nat) : (d.stopTimerAt p n).trk1 = d.trk1 := by simp only [Dev.stopTimerAt]; (repeat' split) <;> rfl
@[simp] theorem Dev.stopTimerAt_optics (p n : Nat) : (d.stopTimerAt p n).optics = d.optics := by simp only [Dev.stopTimerAt]; (repeat' split) <;> rfl
@[simp] theorem Dev.stopTimerAt_pwr (p n : Nat) : (d.stopTimerAt p n).pwr = d.pwr := by simp only [Dev.stopTimerAt]; (repeat' split) <;> rfl
@[simp] theorem Dev.stopTimerAt_obs (p n : Nat) : (d.stopTimerAt p n).obs = d.obs := by simp only [Dev.stopTimerAt]; (repeat' split) <;> rfl
@[simp] theorem Dev.stopTimerAt_trust (p n : Nat) : (d.stopTimerAt p n).trust = d.trust := by simp only [Dev.stopTimerAt]; (repeat' split) <;> rfl
@[simp] theorem Dev.stopTimerAt_crs (p n : Nat) : (d.stopTimerAt p n).crs = d.crs := by simp only [Dev.stopTimerAt]; (repeat' split) <;> rfl

/-! ### `Dev.stopTimer` -/

@[simp] theorem Dev.stopTimer_hostMem (p : Nat) : (d.stopTimer p).hostMem = d.hostMem := by simp [Dev.stopTimer]
@[simp] theorem Dev.stopTimer_msix (p : Nat) : (d.stopTimer p).msix = d.msix := by simp [Dev.stopTimer]
@[simp] theorem Dev.stopTimer_cond (p : Nat) : (d.stopTimer p).cond = d.cond := by simp [Dev.stopTimer]
@[simp] theorem Dev.stopTimer_out (p : Nat) : (d.stopTimer p).out = d.out := by simp [Dev.stopTimer]
@[simp] theorem Dev.stopTimer_reply (p : Nat) : (d.stopTimer p).reply = d.reply := by simp [Dev.stopTimer]
@[simp] theorem Dev.stopTimer_freeCtr (p : Nat) : (d.stopTimer p).freeCtr = d.freeCtr := by simp [Dev.stopTimer]
@[simp] theorem Dev.stopTimer_pulses (p : Nat) : (d.stopTimer p).pulses = d.pulses := by simp [Dev.stopTimer]
@[simp] theorem Dev.stopTimer_host (p : Nat) : (d.stopTimer p).host = d.host := by simp [Dev.stopTimer]
@[simp] theorem Dev.stopTimer_dma (p : Nat) : (d.stopTimer p).dma = d.dma := by simp [Dev.stopTimer]
@[simp] theorem Dev.stopTimer_tk (p : Nat) : (d.stopTimer p).tk = d.tk := by simp [Dev.stopTimer]
@[simp] theorem Dev.stopTimer_tl (p : Nat) : (d.stopTimer p).tl = d.tl := by simp [Dev.stopTimer]
@[simp] theorem Dev.stopTimer_cls (p : Nat) : (d.stopTimer p).cls = d.cls := by simp [Dev.stopTimer]
@[simp] theorem Dev.stopTimer_net (p : Nat) : (d.stopTimer p).net = d.net := by simp [Dev.stopTimer]
@[simp] theorem Dev.stopTimer_att (p : Nat) : (d.stopTimer p).att = d.att := by simp [Dev.stopTimer]
@[simp] theorem Dev.stopTimer_pte (p : Nat) : (d.stopTimer p).pte = d.pte := by simp [Dev.stopTimer]
@[simp] theorem Dev.stopTimer_emu (p : Nat) : (d.stopTimer p).emu = d.emu := by simp [Dev.stopTimer]
@[simp] theorem Dev.stopTimer_refc (p : Nat) : (d.stopTimer p).refc = d.refc := by simp [Dev.stopTimer]
@[simp] theorem Dev.stopTimer_cd (p : Nat) : (d.stopTimer p).cd = d.cd := by simp [Dev.stopTimer]
@[simp] theorem Dev.stopTimer_cal (p : Nat) : (d.stopTimer p).cal = d.cal := by simp [Dev.stopTimer]
@[simp] theorem Dev.stopTimer_lanes (p : Nat) : (d.stopTimer p).lanes = d.lanes := by simp [Dev.stopTimer]
@[simp] theorem Dev.stopTimer_trk0 (p : Nat) : (d.stopTimer p).trk0 = d.trk0 := by simp [Dev.stopTimer]
@[simp] theorem Dev.stopTimer_trk1 (p : Nat) : (d.stopTimer p).trk1 = d.trk1 := by simp [Dev.stopTimer]
@[simp] theorem Dev.stopTimer_optics (p : Nat) : (d.stopTimer p).optics = d.optics := by simp [Dev.stopTimer]
@[simp] theorem Dev.stopTimer_pwr (p : Nat) : (d.stopTimer p).pwr = d.pwr := by simp [Dev.stopTimer]
@[simp] theorem Dev.stopTimer_obs (p : Nat) : (d.stopTimer p).obs = d.obs := by simp [Dev.stopTimer]
@[simp] theorem Dev.stopTimer_trust (p : Nat) : (d.stopTimer p).trust = d.trust := by simp [Dev.stopTimer]
@[simp] theorem Dev.stopTimer_crs (p : Nat) : (d.stopTimer p).crs = d.crs := by simp [Dev.stopTimer]

/-! ### `Dev.writeWord` -/

@[simp] theorem Dev.writeWord_hostMem (p v : Nat) : (d.writeWord p v).hostMem = d.hostMem := by simp only [Dev.writeWord]; (repeat' split) <;> simp
@[simp] theorem Dev.writeWord_cond (p v : Nat) : (d.writeWord p v).cond = d.cond := by simp only [Dev.writeWord]; (repeat' split) <;> simp
@[simp] theorem Dev.writeWord_reply (p v : Nat) : (d.writeWord p v).reply = d.reply := by simp only [Dev.writeWord]; (repeat' split) <;> simp
@[simp] theorem Dev.writeWord_freeCtr (p v : Nat) : (d.writeWord p v).freeCtr = d.freeCtr := by simp only [Dev.writeWord]; (repeat' split) <;> simp
@[simp] theorem Dev.writeWord_pulses (p v : Nat) : (d.writeWord p v).pulses = d.pulses := by simp only [Dev.writeWord]; (repeat' split) <;> simp
@[simp] theorem Dev.writeWord_accums (p v : Nat) : (d.writeWord p v).accums = d.accums := by simp only [Dev.writeWord]; (repeat' split) <;> simp
@[simp] theorem Dev.writeWord_host (p v : Nat) : (d.writeWord p v).host = d.host := by simp only [Dev.writeWord]; (repeat' split) <;> simp
@[simp] theorem Dev.writeWord_dma (p v : Nat) : (d.writeWord p v).dma = d.dma := by simp only [Dev.writeWord]; (repeat' split) <;> simp
@[simp] theorem Dev.writeWord_tk (p v : Nat) : (d.writeWord p v).tk = d.tk := by simp only [Dev.writeWord]; (repeat' split) <;> simp
@[simp] theorem Dev.writeWord_tl (p v : Nat) : (d.writeWord p v).tl = d.tl := by simp only [Dev.writeWord]; (repeat' split) <;> simp
@[simp] theorem Dev.writeWord_cls (p v : Nat) : (d.writeWord p v).cls = d.cls := by simp only [Dev.writeWord]; (repeat' split) <;> simp
@[simp] theorem Dev.writeWord_net (p v : Nat) : (d.writeWord p v).net = d.net := by simp only [Dev.writeWord]; (repeat' split) <;> simp
@[simp] theorem Dev.writeWord_att (p v : Nat) : (d.writeWord p v).att = d.att := by simp only [Dev.writeWord]; (repeat' split) <;> simp
@[simp] theorem Dev.writeWord_pte (p v : Nat) : (d.writeWord p v).pte = d.pte := by simp only [Dev.writeWord]; (repeat' split) <;> simp
@[simp] theorem Dev.writeWord_emu (p v : Nat) : (d.writeWord p v).emu = d.emu := by simp only [Dev.writeWord]; (repeat' split) <;> simp
@[simp] theorem Dev.writeWord_refc (p v : Nat) : (d.writeWord p v).refc = d.refc := by simp only [Dev.writeWord]; (repeat' split) <;> simp
@[simp] theorem Dev.writeWord_cd (p v : Nat) : (d.writeWord p v).cd = d.cd := by simp only [Dev.writeWord]; (repeat' split) <;> simp
@[simp] theorem Dev.writeWord_cal (p v : Nat) : (d.writeWord p v).cal = d.cal := by simp only [Dev.writeWord]; (repeat' split) <;> simp
@[simp] theorem Dev.writeWord_lanes (p v : Nat) : (d.writeWord p v).lanes = d.lanes := by simp only [Dev.writeWord]; (repeat' split) <;> simp
@[simp] theorem Dev.writeWord_trk0 (p v : Nat) : (d.writeWord p v).trk0 = d.trk0 := by simp only [Dev.writeWord]; (repeat' split) <;> simp
@[simp] theorem Dev.writeWord_trk1 (p v : Nat) : (d.writeWord p v).trk1 = d.trk1 := by simp only [Dev.writeWord]; (repeat' split) <;> simp
@[simp] theorem Dev.writeWord_optics (p v : Nat) : (d.writeWord p v).optics = d.optics := by simp only [Dev.writeWord]; (repeat' split) <;> simp
@[simp] theorem Dev.writeWord_pwr (p v : Nat) : (d.writeWord p v).pwr = d.pwr := by simp only [Dev.writeWord]; (repeat' split) <;> simp
@[simp] theorem Dev.writeWord_obs (p v : Nat) : (d.writeWord p v).obs = d.obs := by simp only [Dev.writeWord]; (repeat' split) <;> simp
@[simp] theorem Dev.writeWord_trust (p v : Nat) : (d.writeWord p v).trust = d.trust := by simp only [Dev.writeWord]; (repeat' split) <;> simp
@[simp] theorem Dev.writeWord_crs (p v : Nat) : (d.writeWord p v).crs = d.crs := by simp only [Dev.writeWord]; (repeat' split) <;> simp

/-! ### `Dev.startT` -/

@[simp] theorem Dev.startT_params (k n : Nat) : (d.startT k n).params = d.params := rfl
@[simp] theorem Dev.startT_hostMem (k n : Nat) : (d.startT k n).hostMem = d.hostMem := rfl
@[simp] theorem Dev.startT_msix (k n : Nat) : (d.startT k n).msix = d.msix := rfl
@[simp] theorem Dev.startT_cond (k n : Nat) : (d.startT k n).cond = d.cond := rfl
@[simp] theorem Dev.startT_out (k n : Nat) : (d.startT k n).out = d.out := rfl
@[simp] theorem Dev.startT_reply (k n : Nat) : (d.startT k n).reply = d.reply := rfl
@[simp] theorem Dev.startT_freeCtr (k n : Nat) : (d.startT k n).freeCtr = d.freeCtr := rfl
@[simp] theorem Dev.startT_pulses (k n : Nat) : (d.startT k n).pulses = d.pulses := rfl
@[simp] theorem Dev.startT_accums (k n : Nat) : (d.startT k n).accums = d.accums := rfl
@[simp] theorem Dev.startT_host (k n : Nat) : (d.startT k n).host = d.host := rfl
@[simp] theorem Dev.startT_dma (k n : Nat) : (d.startT k n).dma = d.dma := rfl
@[simp] theorem Dev.startT_tk (k n : Nat) : (d.startT k n).tk = d.tk := rfl
@[simp] theorem Dev.startT_tl (k n : Nat) : (d.startT k n).tl = d.tl := rfl
@[simp] theorem Dev.startT_cls (k n : Nat) : (d.startT k n).cls = d.cls := rfl
@[simp] theorem Dev.startT_att (k n : Nat) : (d.startT k n).att = d.att := rfl
@[simp] theorem Dev.startT_pte (k n : Nat) : (d.startT k n).pte = d.pte := rfl
@[simp] theorem Dev.startT_emu (k n : Nat) : (d.startT k n).emu = d.emu := rfl
@[simp] theorem Dev.startT_refc (k n : Nat) : (d.startT k n).refc = d.refc := rfl
@[simp] theorem Dev.startT_cd (k n : Nat) : (d.startT k n).cd = d.cd := rfl
@[simp] theorem Dev.startT_cal (k n : Nat) : (d.startT k n).cal = d.cal := rfl
@[simp] theorem Dev.startT_lanes (k n : Nat) : (d.startT k n).lanes = d.lanes := rfl
@[simp] theorem Dev.startT_trk0 (k n : Nat) : (d.startT k n).trk0 = d.trk0 := rfl
@[simp] theorem Dev.startT_trk1 (k n : Nat) : (d.startT k n).trk1 = d.trk1 := rfl
@[simp] theorem Dev.startT_optics (k n : Nat) : (d.startT k n).optics = d.optics := rfl
@[simp] theorem Dev.startT_pwr (k n : Nat) : (d.startT k n).pwr = d.pwr := rfl
@[simp] theorem Dev.startT_obs (k n : Nat) : (d.startT k n).obs = d.obs := rfl
@[simp] theorem Dev.startT_trust (k n : Nat) : (d.startT k n).trust = d.trust := rfl
@[simp] theorem Dev.startT_crs (k n : Nat) : (d.startT k n).crs = d.crs := rfl

/-! ### `Dev.stopT` -/

@[simp] theorem Dev.stopT_params (k : Nat) : (d.stopT k).params = d.params := rfl
@[simp] theorem Dev.stopT_hostMem (k : Nat) : (d.stopT k).hostMem = d.hostMem := rfl
@[simp] theorem Dev.stopT_msix (k : Nat) : (d.stopT k).msix = d.msix := rfl
@[simp] theorem Dev.stopT_cond (k : Nat) : (d.stopT k).cond = d.cond := rfl
@[simp] theorem Dev.stopT_out (k : Nat) : (d.stopT k).out = d.out := rfl
@[simp] theorem Dev.stopT_reply (k : Nat) : (d.stopT k).reply = d.reply := rfl
@[simp] theorem Dev.stopT_freeCtr (k : Nat) : (d.stopT k).freeCtr = d.freeCtr := rfl
@[simp] theorem Dev.stopT_pulses (k : Nat) : (d.stopT k).pulses = d.pulses := rfl
@[simp] theorem Dev.stopT_accums (k : Nat) : (d.stopT k).accums = d.accums := rfl
@[simp] theorem Dev.stopT_host (k : Nat) : (d.stopT k).host = d.host := rfl
@[simp] theorem Dev.stopT_dma (k : Nat) : (d.stopT k).dma = d.dma := rfl
@[simp] theorem Dev.stopT_tk (k : Nat) : (d.stopT k).tk = d.tk := rfl
@[simp] theorem Dev.stopT_tl (k : Nat) : (d.stopT k).tl = d.tl := rfl
@[simp] theorem Dev.stopT_cls (k : Nat) : (d.stopT k).cls = d.cls := rfl
@[simp] theorem Dev.stopT_att (k : Nat) : (d.stopT k).att = d.att := rfl
@[simp] theorem Dev.stopT_pte (k : Nat) : (d.stopT k).pte = d.pte := rfl
@[simp] theorem Dev.stopT_emu (k : Nat) : (d.stopT k).emu = d.emu := rfl
@[simp] theorem Dev.stopT_refc (k : Nat) : (d.stopT k).refc = d.refc := rfl
@[simp] theorem Dev.stopT_cd (k : Nat) : (d.stopT k).cd = d.cd := rfl
@[simp] theorem Dev.stopT_cal (k : Nat) : (d.stopT k).cal = d.cal := rfl
@[simp] theorem Dev.stopT_lanes (k : Nat) : (d.stopT k).lanes = d.lanes := rfl
@[simp] theorem Dev.stopT_trk0 (k : Nat) : (d.stopT k).trk0 = d.trk0 := rfl
@[simp] theorem Dev.stopT_trk1 (k : Nat) : (d.stopT k).trk1 = d.trk1 := rfl
@[simp] theorem Dev.stopT_optics (k : Nat) : (d.stopT k).optics = d.optics := rfl
@[simp] theorem Dev.stopT_pwr (k : Nat) : (d.stopT k).pwr = d.pwr := rfl
@[simp] theorem Dev.stopT_obs (k : Nat) : (d.stopT k).obs = d.obs := rfl
@[simp] theorem Dev.stopT_trust (k : Nat) : (d.stopT k).trust = d.trust := rfl
@[simp] theorem Dev.stopT_crs (k : Nat) : (d.stopT k).crs = d.crs := rfl

/-! ### `Dev.display` -/

@[simp] theorem Dev.display_hostMem (p n : Nat) : (d.display p n).hostMem = d.hostMem := by simp only [Dev.display]; (repeat' split) <;> rfl
@[simp] theorem Dev.display_msix (p n : Nat) : (d.display p n).msix = d.msix := by simp only [Dev.display]; (repeat' split) <;> rfl
@[simp] theorem Dev.display_cond (p n : Nat) : (d.display p n).cond = d.cond := by simp only [Dev.display]; (repeat' split) <;> rfl
@[simp] theorem Dev.display_out (p n : Nat) : (d.display p n).out = d.out := by simp only [Dev.display]; (repeat' split) <;> rfl
@[simp] theorem Dev.display_reply (p n : Nat) : (d.display p n).reply = d.reply := by simp only [Dev.display]; (repeat' split) <;> rfl
@[simp] theorem Dev.display_freeCtr (p n : Nat) : (d.display p n).freeCtr = d.freeCtr := by simp only [Dev.display]; (repeat' split) <;> rfl
@[simp] theorem Dev.display_pulses (p n : Nat) : (d.display p n).pulses = d.pulses := by simp only [Dev.display]; (repeat' split) <;> rfl
@[simp] theorem Dev.display_accums (p n : Nat) : (d.display p n).accums = d.accums := by simp only [Dev.display]; (repeat' split) <;> rfl
@[simp] theorem Dev.display_host (p n : Nat) : (d.display p n).host = d.host := by simp only [Dev.display]; (repeat' split) <;> rfl
@[simp] theorem Dev.display_dma (p n : Nat) : (d.display p n).dma = d.dma := by simp only [Dev.display]; (repeat' split) <;> rfl
@[simp] theorem Dev.display_tk (p n : Nat) : (d.display p n).tk = d.tk := by simp only [Dev.display]; (repeat' split) <;> rfl
@[simp] theorem Dev.display_tl (p n : Nat) : (d.display p n).tl = d.tl := by simp only [Dev.display]; (repeat' split) <;> rfl
@[simp] theorem Dev.display_cls (p n : Nat) : (d.display p n).cls = d.cls := by simp only [Dev.display]; (repeat' split) <;> rfl
@[simp] theorem Dev.display_net (p n : Nat) : (d.display p n).net = d.net := by simp only [Dev.display]; (repeat' split) <;> rfl
@[simp] theorem Dev.display_att (p n : Nat) : (d.display p n).att = d.att := by simp only [Dev.display]; (repeat' split) <;> rfl
@[simp] theorem Dev.display_pte (p n : Nat) : (d.display p n).pte = d.pte := by simp only [Dev.display]; (repeat' split) <;> rfl
@[simp] theorem Dev.display_emu (p n : Nat) : (d.display p n).emu = d.emu := by simp only [Dev.display]; (repeat' split) <;> rfl
@[simp] theorem Dev.display_refc (p n : Nat) : (d.display p n).refc = d.refc := by simp only [Dev.display]; (repeat' split) <;> rfl
@[simp] theorem Dev.display_cd (p n : Nat) : (d.display p n).cd = d.cd := by simp only [Dev.display]; (repeat' split) <;> rfl
@[simp] theorem Dev.display_cal (p n : Nat) : (d.display p n).cal = d.cal := by simp only [Dev.display]; (repeat' split) <;> rfl
@[simp] theorem Dev.display_lanes (p n : Nat) : (d.display p n).lanes = d.lanes := by simp only [Dev.display]; (repeat' split) <;> rfl
@[simp] theorem Dev.display_trk0 (p n : Nat) : (d.display p n).trk0 = d.trk0 := by simp only [Dev.display]; (repeat' split) <;> rfl
@[simp] theorem Dev.display_trk1 (p n : Nat) : (d.display p n).trk1 = d.trk1 := by simp only [Dev.display]; (repeat' split) <;> rfl
@[simp] theorem Dev.display_optics (p n : Nat) : (d.display p n).optics = d.optics := by simp only [Dev.display]; (repeat' split) <;> rfl
@[simp] theorem Dev.display_pwr (p n : Nat) : (d.display p n).pwr = d.pwr := by simp only [Dev.display]; (repeat' split) <;> rfl
@[simp] theorem Dev.display_obs (p n : Nat) : (d.display p n).obs = d.obs := by simp only [Dev.display]; (repeat' split) <;> rfl
@[simp] theorem Dev.display_trust (p n : Nat) : (d.display p n).trust = d.trust := by simp only [Dev.display]; (repeat' split) <;> rfl
@[simp] theorem Dev.display_crs (p n : Nat) : (d.display p n).crs = d.crs := by simp only [Dev.display]; (repeat' split) <;> rfl

/-! ### `Dev.settle` -/

@[simp] theorem Dev.settle_hostMem : (d.settle).hostMem = d.hostMem := by simp [Dev.settle]
@[simp] theorem Dev.settle_msix : (d.settle).msix = d.msix := by simp [Dev.settle]
@[simp] theorem Dev.settle_cond : (d.settle).cond = d.cond := by simp [Dev.settle]
@[simp] theorem Dev.settle_out : (d.settle).out = d.out := by simp [Dev.settle]
@[simp] theorem Dev.settle_reply : (d.settle).reply = d.reply := by simp [Dev.settle]
@[simp] theorem Dev.settle_freeCtr : (d.settle).freeCtr = d.freeCtr := by simp [Dev.settle]
@[simp] theorem Dev.settle_pulses : (d.settle).pulses = d.pulses := by simp [Dev.settle]
@[simp] theorem Dev.settle_accums : (d.settle).accums = d.accums := by simp [Dev.settle]
@[simp] theorem Dev.settle_host : (d.settle).host = d.host := by simp [Dev.settle]
@[simp] theorem Dev.settle_dma : (d.settle).dma = d.dma := by simp [Dev.settle]
@[simp] theorem Dev.settle_tk : (d.settle).tk = d.tk := by simp [Dev.settle]
@[simp] theorem Dev.settle_tl : (d.settle).tl = d.tl := by simp [Dev.settle]
@[simp] theorem Dev.settle_cls : (d.settle).cls = d.cls := by simp [Dev.settle]
@[simp] theorem Dev.settle_net : (d.settle).net = d.net := by simp [Dev.settle]
@[simp] theorem Dev.settle_att : (d.settle).att = d.att := by simp [Dev.settle]
@[simp] theorem Dev.settle_pte : (d.settle).pte = d.pte := by simp [Dev.settle]
@[simp] theorem Dev.settle_emu : (d.settle).emu = d.emu := by simp [Dev.settle]
@[simp] theorem Dev.settle_refc : (d.settle).refc = d.refc := by simp [Dev.settle]
@[simp] theorem Dev.settle_cd : (d.settle).cd = d.cd := by simp [Dev.settle]
@[simp] theorem Dev.settle_cal : (d.settle).cal = d.cal := by simp [Dev.settle]
@[simp] theorem Dev.settle_lanes : (d.settle).lanes = d.lanes := by simp [Dev.settle]
@[simp] theorem Dev.settle_trk0 : (d.settle).trk0 = d.trk0 := by simp [Dev.settle]
@[simp] theorem Dev.settle_trk1 : (d.settle).trk1 = d.trk1 := by simp [Dev.settle]
@[simp] theorem Dev.settle_optics : (d.settle).optics = d.optics := by simp [Dev.settle]
@[simp] theorem Dev.settle_pwr : (d.settle).pwr = d.pwr := by simp [Dev.settle]
@[simp] theorem Dev.settle_obs : (d.settle).obs = d.obs := by simp [Dev.settle]
@[simp] theorem Dev.settle_trust : (d.settle).trust = d.trust := by simp [Dev.settle]
@[simp] theorem Dev.settle_crs : (d.settle).crs = d.crs := by simp [Dev.settle]

/-! ### `Dev.setRing` -/

@[simp] theorem Dev.setRing_params (r : Nat) (x : Ring) : (d.setRing r x).params = d.params := rfl
@[simp] theorem Dev.setRing_hostMem (r : Nat) (x : Ring) : (d.setRing r x).hostMem = d.hostMem := rfl
@[simp] theorem Dev.setRing_msix (r : Nat) (x : Ring) : (d.setRing r x).msix = d.msix := rfl
@[simp] theorem Dev.setRing_cond (r : Nat) (x : Ring) : (d.setRing r x).cond = d.cond := rfl
@[simp] theorem Dev.setRing_out (r : Nat) (x : Ring) : (d.setRing r x).out = d.out := rfl
@[simp] theorem Dev.setRing_reply (r : Nat) (x : Ring) : (d.setRing r x).reply = d.reply := rfl
@[simp] theorem Dev.setRing_freeCtr (r : Nat) (x : Ring) : (d.setRing r x).freeCtr = d.freeCtr := rfl
@[simp] theorem Dev.setRing_pulses (r : Nat) (x : Ring) : (d.setRing r x).pulses = d.pulses := rfl
@[simp] theorem Dev.setRing_accums (r : Nat) (x : Ring) : (d.setRing r x).accums = d.accums := rfl
@[simp] theorem Dev.setRing_dma (r : Nat) (x : Ring) : (d.setRing r x).dma = d.dma := rfl
@[simp] theorem Dev.setRing_tk (r : Nat) (x : Ring) : (d.setRing r x).tk = d.tk := rfl
@[simp] theorem Dev.setRing_tl (r : Nat) (x : Ring) : (d.setRing r x).tl = d.tl := rfl
@[simp] theorem Dev.setRing_cls (r : Nat) (x : Ring) : (d.setRing r x).cls = d.cls := rfl
@[simp] theorem Dev.setRing_net (r : Nat) (x : Ring) : (d.setRing r x).net = d.net := rfl
@[simp] theorem Dev.setRing_att (r : Nat) (x : Ring) : (d.setRing r x).att = d.att := rfl
@[simp] theorem Dev.setRing_pte (r : Nat) (x : Ring) : (d.setRing r x).pte = d.pte := rfl
@[simp] theorem Dev.setRing_emu (r : Nat) (x : Ring) : (d.setRing r x).emu = d.emu := rfl
@[simp] theorem Dev.setRing_refc (r : Nat) (x : Ring) : (d.setRing r x).refc = d.refc := rfl
@[simp] theorem Dev.setRing_cd (r : Nat) (x : Ring) : (d.setRing r x).cd = d.cd := rfl
@[simp] theorem Dev.setRing_cal (r : Nat) (x : Ring) : (d.setRing r x).cal = d.cal := rfl
@[simp] theorem Dev.setRing_lanes (r : Nat) (x : Ring) : (d.setRing r x).lanes = d.lanes := rfl
@[simp] theorem Dev.setRing_trk0 (r : Nat) (x : Ring) : (d.setRing r x).trk0 = d.trk0 := rfl
@[simp] theorem Dev.setRing_trk1 (r : Nat) (x : Ring) : (d.setRing r x).trk1 = d.trk1 := rfl
@[simp] theorem Dev.setRing_optics (r : Nat) (x : Ring) : (d.setRing r x).optics = d.optics := rfl
@[simp] theorem Dev.setRing_pwr (r : Nat) (x : Ring) : (d.setRing r x).pwr = d.pwr := rfl
@[simp] theorem Dev.setRing_obs (r : Nat) (x : Ring) : (d.setRing r x).obs = d.obs := rfl
@[simp] theorem Dev.setRing_trust (r : Nat) (x : Ring) : (d.setRing r x).trust = d.trust := rfl
@[simp] theorem Dev.setRing_crs (r : Nat) (x : Ring) : (d.setRing r x).crs = d.crs := rfl

end Sys2Proof.Machine
end

