-- ==== Sys2Proof/Laws/Tbl.lean ====
section
/-! SUPPORT. Sparse tables: what a read after a write gives, and that every write keeps the canonical form. -/

set_option Elab.async false

namespace Sys2Proof.Machine

variable {α : Type}

@[simp] theorem Tbl.get_nil (d : α) (k : Nat) : Tbl.get [] d k = d := rfl

theorem Tbl.get_cons (j k : Nat) (v d : α) (r : Tbl α) : Tbl.get ((j, v) :: r) d k = if j = k then v else Tbl.get r d k := rfl

theorem Tbl.get_erase_same (t : Tbl α) (d : α) (k : Nat) : Tbl.get (Tbl.erase t k) d k = d := by
  induction t with
  | nil => rfl
  | cons e r ih =>
    by_cases h : e.1 = k
    · simpa [Tbl.erase, h] using ih
    · simpa [Tbl.erase, h, Tbl.get] using ih

theorem Tbl.get_erase_ne (t : Tbl α) (d : α) {k q : Nat} (h : q ≠ k) : Tbl.get (Tbl.erase t k) d q = Tbl.get t d q := by
  induction t with
  | nil => rfl
  | cons e r ih =>
    obtain ⟨j, u⟩ := e
    by_cases hj : j = k
    · subst hj
      simpa [Tbl.erase, Tbl.get, Ne.symm h] using ih
    · by_cases hq : j = q
      · subst hq; simp [Tbl.erase, Tbl.get, hj]
      · simpa [Tbl.erase, hj, Tbl.get, hq] using ih

theorem Tbl.get_insert_same (t : Tbl α) (d : α) (k : Nat) (v : α) : Tbl.get (Tbl.insert t k v) d k = v := by
  induction t with
  | nil => simp [Tbl.insert, Tbl.get]
  | cons e r ih =>
    obtain ⟨j, u⟩ := e
    by_cases h1 : k < j
    · simp [Tbl.insert, h1, Tbl.get]
    · by_cases h2 : j = k
      · simp [Tbl.insert, h2, Tbl.get]
      · simp [Tbl.insert, h1, h2, Tbl.get, ih]

theorem Tbl.get_insert_ne (t : Tbl α) (d : α) {k q : Nat} (v : α) (h : q ≠ k) : Tbl.get (Tbl.insert t k v) d q = Tbl.get t d q := by
  induction t with
  | nil => simp [Tbl.insert, Tbl.get, Ne.symm h]
  | cons e r ih =>
    obtain ⟨j, u⟩ := e
    by_cases h1 : k < j
    · simp [Tbl.insert, h1, Tbl.get, Ne.symm h]
    · by_cases h2 : j = k
      · subst h2; simp [Tbl.insert, Tbl.get, Ne.symm h]
      · simp only [Tbl.insert, h1, h2, ↓reduceIte, Tbl.get, ih]

variable [DecidableEq α]

/-- A read of the key just written gives the value written. -/
@[simp] theorem Tbl.get_set_same (t : Tbl α) (d : α) (k : Nat) (v : α) : Tbl.get (Tbl.set t d k v) d k = v := by
  unfold Tbl.set
  split
  · rename_i h; rw [Tbl.get_erase_same, h]
  · exact Tbl.get_insert_same t d k v

/-- A write leaves every other key alone. -/
theorem Tbl.get_set_ne (t : Tbl α) (d : α) {k q : Nat} (v : α) (h : q ≠ k) : Tbl.get (Tbl.set t d k v) d q = Tbl.get t d q := by
  unfold Tbl.set
  split
  · exact Tbl.get_erase_ne t d h
  · exact Tbl.get_insert_ne t d v h

theorem Tbl.get_set (t : Tbl α) (d : α) (k q : Nat) (v : α) : Tbl.get (Tbl.set t d k v) d q = if q = k then v else Tbl.get t d q := by
  by_cases h : q = k
  · subst h; simp
  · simp [h, Tbl.get_set_ne t d v h]

/-- The same for a table whose unlisted keys do not all read alike. -/
theorem Tbl.get_set_at (t : Tbl α) (d e : α) (k q : Nat) (v : α) (h : q ≠ k) : Tbl.get (Tbl.set t d k v) e q = Tbl.get t e q := by
  unfold Tbl.set
  split
  · exact Tbl.get_erase_ne t e h
  · exact Tbl.get_insert_ne t e v h

/-! ### The canonical form -/

theorem Tbl.wfFrom_mono (d : Nat → α) {b c : Option Nat} (t : Tbl α) (h : ∀ j, c = some j → ∃ i, b = some i ∧ j ≤ i)
    (w : Tbl.wfFrom d b t = true) : Tbl.wfFrom d c t = true := by
  cases t with
  | nil => rfl
  | cons e r =>
    obtain ⟨k, v⟩ := e
    simp only [Tbl.wfFrom, Bool.and_eq_true, decide_eq_true_eq] at w ⊢
    refine ⟨⟨?_, w.1.2⟩, w.2⟩
    cases c with
    | none => rfl
    | some j =>
      obtain ⟨i, rfl, hji⟩ := h j rfl
      have hik : i < k := by simpa using w.1.1
      have : j < k := by omega
      simpa using this

theorem Tbl.wfFrom_erase (d : Nat → α) (b : Option Nat) (t : Tbl α) (k : Nat) (w : Tbl.wfFrom d b t = true) :
    Tbl.wfFrom d b (Tbl.erase t k) = true := by
  induction t generalizing b with
  | nil => rfl
  | cons e r ih =>
    obtain ⟨j, v⟩ := e
    have w' := w
    simp only [Tbl.wfFrom, Bool.and_eq_true, decide_eq_true_eq] at w
    by_cases h : j = k
    · have hr : Tbl.wfFrom d b r = true := by
        refine Tbl.wfFrom_mono d (b := some j) r ?_ w.2
        intro i hi
        subst hi
        have : i < j := by simpa using w.1.1
        exact ⟨j, rfl, by omega⟩
      simpa [Tbl.erase, h] using ih b hr
    · have := ih (some j) w.2
      simp only [Tbl.erase, List.filter_cons, h, Bool.not_eq_true', beq_eq_false_iff_ne, ne_eq, not_false_eq_true, ↓reduceIte,
        Tbl.wfFrom, Bool.and_eq_true, decide_eq_true_eq]
      exact ⟨w.1, this⟩

theorem Tbl.wfFrom_insert (d : Nat → α) (b : Option Nat) (t : Tbl α) (k : Nat) (v : α) (hv : v ≠ d k)
    (hb : ∀ j, b = some j → j < k) (w : Tbl.wfFrom d b t = true) : Tbl.wfFrom d b (Tbl.insert t k v) = true := by
  induction t generalizing b with
  | nil => simp only [Tbl.insert, Tbl.wfFrom, Bool.and_eq_true, decide_eq_true_eq]; exact ⟨⟨by cases b <;> simp_all, hv⟩, trivial⟩
  | cons e r ih =>
    obtain ⟨j, u⟩ := e
    simp only [Tbl.wfFrom, Bool.and_eq_true, decide_eq_true_eq] at w
    by_cases h1 : k < j
    · simp only [Tbl.insert, h1, ↓reduceIte, Tbl.wfFrom, Bool.and_eq_true, decide_eq_true_eq]
      exact ⟨⟨by cases b <;> simp_all, hv⟩, ⟨trivial, w.1.2⟩, w.2⟩
    · by_cases h2 : j = k
      · subst h2
        simp only [Tbl.insert, Nat.lt_irrefl, ↓reduceIte, Tbl.wfFrom, Bool.and_eq_true, decide_eq_true_eq]
        exact ⟨⟨w.1.1, hv⟩, w.2⟩
      · simp only [Tbl.insert, h1, h2, ↓reduceIte, Tbl.wfFrom, Bool.and_eq_true, decide_eq_true_eq]
        refine ⟨w.1, ih (some j) ?_ w.2⟩
        intro i hi; cases hi; omega

/-- A write keeps the canonical form. -/
theorem Tbl.wf_set (f : Nat → α) (t : Tbl α) (k : Nat) (v : α) (w : Tbl.wf f t = true) : Tbl.wf f (Tbl.set t (f k) k v) = true := by
  unfold Tbl.set
  split
  · exact Tbl.wfFrom_erase f none t k w
  · rename_i h
    exact Tbl.wfFrom_insert f none t k v h (by simp) w

@[simp] theorem Tbl.wf_nil (f : Nat → α) : Tbl.wf f ([] : Tbl α) = true := rfl

end Sys2Proof.Machine
end

