-- ==== Sys2Proof/Laws/Items.lean ====
section
/-! SUPPORT. Items: what an item, a field or a bit reads after each of the operations that change one. -/

set_option Elab.async false

namespace Sys2Proof.Machine

variable (d : Dev)

/-! ### Whole items -/

@[simp] theorem Dev.get_put_same (p : Nat) (v : Wide) : (d.put p v).get p = v := by simp [Dev.get, Dev.put]

theorem Dev.get_put_ne {p q : Nat} (v : Wide) (h : q ≠ p) : (d.put p v).get q = d.get q := by
  simp [Dev.get, Dev.put, Tbl.get_set_at _ _ _ _ _ _ h]

/-- Only the items count in what is read of them. -/
theorem Dev.get_congr {d e : Dev} (h : d.params = e.params) (p : Nat) : d.get p = e.get p := by simp [Dev.get, h]

theorem Dev.get_setFld_ne {p q : Nat} (f : Fld) (n : Nat) (h : q ≠ p) : (d.setFld p f n).get q = d.get q := d.get_put_ne _ h
theorem Dev.get_setBit_ne {p q : Nat} (b : Nat) (v : Bool) (h : q ≠ p) : (d.setBit p b v).get q = d.get q := d.get_put_ne _ h
theorem Dev.get_putNum_ne {p q : Nat} (n : Nat) (h : q ≠ p) : (d.putNum p n).get q = d.get q := d.get_put_ne _ h
theorem Dev.get_putInt_ne {p q : Nat} (x : Int) (h : q ≠ p) : (d.putInt p x).get q = d.get q := d.get_put_ne _ h
theorem Dev.get_bump_ne {p q : Nat} (n : Nat) (h : q ≠ p) : (d.bump p n).get q = d.get q := d.get_put_ne _ h
theorem Dev.get_live_ne {p q : Nat} (b : Nat) (v : Bool) (h : q ≠ p) : (d.live p b v).get q = d.get q := d.get_put_ne _ h

theorem Dev.signal_params' (fn vec : Nat) : (d.signal fn vec).params = d.params := by simp
@[simp] theorem Dev.get_signal (fn vec q : Nat) : (d.signal fn vec).get q = d.get q := Dev.get_congr (by simp) q
@[simp] theorem Dev.get_raise (p q : Nat) : (d.raise p).get q = d.get q := Dev.get_congr (by simp) q

@[simp] theorem Dev.get_noteCond (p b q : Nat) : (d.noteCond p b).get q = d.get q := rfl
@[simp] theorem Dev.bit_noteCond (p b q c : Nat) : (d.noteCond p b).bit q c = d.bit q c := rfl
@[simp] theorem Dev.fld_noteCond (p b q : Nat) (f : Fld) : (d.noteCond p b).fld q f = d.fld q f := rfl

theorem Dev.get_stick_ne {p q : Nat} (b : Nat) (h : q ≠ p) : (d.stick p b).get q = d.get q := by
  simp only [Dev.stick]
  (repeat' split) <;> simp [Dev.get_setBit_ne _ _ _ h]

theorem Dev.get_liveEdge_ne {p q : Nat} (b : Nat) (v : Bool) (h : q ≠ p) : (d.liveEdge p b v).get q = d.get q := by
  unfold Dev.liveEdge
  split <;> simp [Dev.get_stick_ne _ _ h, Dev.get_live_ne _ _ _ h]

theorem Dev.get_pulse_ne {p q : Nat} (b : Nat) (h : q ≠ p) : (d.pulse p b).get q = d.get q := by
  have : (d.pulse p b).get q = ((d.live p b true).stick p b).get q := rfl
  rw [this, Dev.get_stick_ne _ _ h, Dev.get_live_ne _ _ _ h]

@[simp] theorem Dev.get_alertN (q : Nat) : d.alertN.get q = d.get q := Dev.get_congr (by simp) q
@[simp] theorem Dev.get_startTimer (p q : Nat) : (d.startTimer p).get q = d.get q := Dev.get_congr (by simp) q
@[simp] theorem Dev.get_startT (k n q : Nat) : (d.startT k n).get q = d.get q := Dev.get_congr (by simp) q
@[simp] theorem Dev.get_stopT (k q : Nat) : (d.stopT k).get q = d.get q := Dev.get_congr (by simp) q
@[simp] theorem Dev.get_setRing (r : Nat) (x : Ring) (q : Nat) : (d.setRing r x).get q = d.get q := Dev.get_congr (by simp) q
@[simp] theorem Dev.get_took (q : Nat) : d.took.get q = d.get q := Dev.get_congr (by simp) q
@[simp] theorem Dev.get_answer (n q : Nat) : (d.answer n).get q = d.get q := Dev.get_congr (by simp) q

/-- A counter of time that stops changes itself alone. -/
theorem Dev.get_stopTimer_ne {p q : Nat} (h : q ≠ p) : (d.stopTimer p).get q = d.get q := by
  simp only [Dev.stopTimer, Dev.stopTimerAt]
  split
  · rw [Dev.get_bump_ne _ _ h]; rfl
  · rfl

theorem Dev.get_display_ne {p q : Nat} (n : Nat) (h : q ≠ p) : (d.display p n).get q = d.get q := by
  unfold Dev.display
  split
  · rfl
  · exact d.get_putNum_ne n h

theorem Dev.num_putNum_same (p n : Nat) : (d.putNum p n).num p = n % 2 ^ 48 := by
  simp only [Dev.num, Dev.putNum, Dev.get_put_same, BitVec.toNat_ofNat]
  omega

/-! ### Counters (R8) -/

/-- A counter advances by exactly `n`, and stops at all ones. -/
theorem Dev.num_bump_same (p n : Nat) : (d.bump p n).num p = min (d.num p + n) (2 ^ 96 - 1) := by
  have e : (d.bump p n).num p = (if d.num p + n < 2 ^ 96 then BitVec.ofNat 96 (d.num p + n) else BitVec.allOnes 96 : Wide).toNat :=
    congrArg BitVec.toNat (Dev.get_put_same d p _)
  rw [e]
  by_cases h : d.num p + n < 2 ^ 96
  · rw [if_pos h, BitVec.toNat_ofNat]; omega
  · rw [if_neg h, BitVec.toNat_allOnes]; omega

/-! ### Fields and bits -/

theorem Dev.fld_def (p : Nat) (f : Fld) : d.fld p f = bitsAt (d.num p) f.lo f.w := rfl

theorem Dev.bit_eq_fld (p b : Nat) : d.bit p b = (d.fld p ⟨b, 1⟩ == 1) := getLsbD_eq_bitsAt (d.get p) b

theorem Dev.fld_congr {d e : Dev} {p : Nat} (h : d.get p = e.get p) (f : Fld) : d.fld p f = e.fld p f := by simp [Dev.fld, h]
theorem Dev.bit_congr {d e : Dev} {p : Nat} (h : d.get p = e.get p) (b : Nat) : d.bit p b = e.bit p b := by simp [Dev.bit, h]
theorem Dev.num_congr {d e : Dev} {p : Nat} (h : d.get p = e.get p) : d.num p = e.num p := by simp [Dev.num, h]

theorem Fld.into_toNat (f : Fld) (v : Wide) (n : Nat) (h : f.lo + f.w ≤ 96) : (f.into v n).toNat = withBits v.toNat f.lo f.w n := by
  simp only [Fld.into, BitVec.toNat_ofNat]
  exact Nat.mod_eq_of_lt (withBits_lt _ _ _ _ 96 v.isLt h)

theorem Dev.num_setFld_same (p : Nat) (f : Fld) (n : Nat) (h : f.lo + f.w ≤ 96) :
    (d.setFld p f n).num p = withBits (d.num p) f.lo f.w n := by
  simp [Dev.num, Dev.setFld, Fld.into_toNat f _ n h]

/-- A field written reads as the number written. -/
theorem Dev.fld_setFld_same (p : Nat) (f : Fld) (n : Nat) (h : f.lo + f.w ≤ 96 := by decide) : (d.setFld p f n).fld p f = n % 2 ^ f.w := by
  rw [Dev.fld_def, Dev.num_setFld_same d p f n h, bitsAt_withBits_same]

/-- The other fields of its item read as before. -/
theorem Dev.fld_setFld_other (p : Nat) (f g : Fld) (n : Nat) (h : f.lo + f.w ≤ 96 := by decide)
    (o : g.lo + g.w ≤ f.lo ∨ f.lo + f.w ≤ g.lo := by decide) : (d.setFld p f n).fld p g = d.fld p g := by
  rw [Dev.fld_def, Dev.num_setFld_same d p f n h, bitsAt_withBits_other _ _ _ _ _ _ o, Dev.fld_def]

theorem Dev.fld_setFld_ne {p q : Nat} (f g : Fld) (n : Nat) (h : q ≠ p) : (d.setFld p f n).fld q g = d.fld q g :=
  Dev.fld_congr (d.get_setFld_ne f n h) g

theorem Dev.bit_setFld_other (p : Nat) (f : Fld) (b n : Nat) (h : f.lo + f.w ≤ 96 := by decide)
    (o : b + 1 ≤ f.lo ∨ f.lo + f.w ≤ b := by decide) : (d.setFld p f n).bit p b = d.bit p b := by
  rw [Dev.bit_eq_fld, Dev.bit_eq_fld, Dev.fld_setFld_other d p f ⟨b, 1⟩ n h o]

theorem Dev.bit_setBit_same (p b : Nat) (v : Bool) (h : b < 96 := by decide) : (d.setBit p b v).bit p b = v := by
  rw [Dev.bit_eq_fld, Dev.setBit, Dev.fld_setFld_same d p ⟨b, 1⟩ v.toNat h]
  cases v <;> rfl

theorem Dev.bit_setBit_other (p b c : Nat) (v : Bool) (h : b < 96 := by decide) (o : c ≠ b := by decide) :
    (d.setBit p b v).bit p c = d.bit p c :=
  d.bit_setFld_other p ⟨b, 1⟩ c v.toNat h (by show c + 1 ≤ b ∨ b + 1 ≤ c; omega)

theorem Dev.fld_setBit_other (p b : Nat) (v : Bool) (g : Fld) (h : b < 96 := by decide)
    (o : g.lo + g.w ≤ b ∨ b + 1 ≤ g.lo := by decide) : (d.setBit p b v).fld p g = d.fld p g :=
  d.fld_setFld_other p ⟨b, 1⟩ g v.toNat h o

theorem Dev.bit_live_same (p b : Nat) (v : Bool) (h : b < 96 := by decide) : (d.live p b v).bit p b = v := d.bit_setBit_same p b v h
theorem Dev.bit_live_other (p b c : Nat) (v : Bool) (h : b < 96 := by decide) (o : c ≠ b := by decide) :
    (d.live p b v).bit p c = d.bit p c := d.bit_setBit_other p b c v h o
theorem Dev.fld_live_other (p b : Nat) (v : Bool) (g : Fld) (h : b < 96 := by decide)
    (o : g.lo + g.w ≤ b ∨ b + 1 ≤ g.lo := by decide) : (d.live p b v).fld p g = d.fld p g := d.fld_setBit_other p b v g h o

@[simp] theorem Dev.bit_raise (p q b : Nat) : (d.raise p).bit q b = d.bit q b := Dev.bit_congr (by simp) b
@[simp] theorem Dev.fld_raise (p q : Nat) (f : Fld) : (d.raise p).fld q f = d.fld q f := Dev.fld_congr (by simp) f

/-- STICKY is set. -/
theorem Dev.bit_stick_same (p b : Nat) (h : b + 1 < 96 := by decide) : (d.stick p b).bit p (b + 1) = true := by
  simp only [Dev.stick]
  split
  · assumption
  · split <;> simp [Dev.bit_setBit_same _ p (b + 1) true h]

theorem Dev.bit_stick_other (p b c : Nat) (h : b + 1 < 96 := by decide) (o : c ≠ b + 1 := by decide) : (d.stick p b).bit p c = d.bit p c := by
  simp only [Dev.stick]
  (repeat' split) <;> simp [Dev.bit_setBit_other _ p (b + 1) c true h o]

theorem Dev.fld_stick_other (p b : Nat) (g : Fld) (h : b + 1 < 96 := by decide)
    (o : g.lo + g.w ≤ b + 1 ∨ b + 1 + 1 ≤ g.lo := by decide) : (d.stick p b).fld p g = d.fld p g := by
  simp only [Dev.stick]
  (repeat' split) <;> simp [Dev.fld_setBit_other _ p (b + 1) true g h o]

/-- LIVE takes its value. -/
theorem Dev.bit_liveEdge_same (p b : Nat) (v : Bool) (h : b + 1 < 96 := by decide) : (d.liveEdge p b v).bit p b = v := by
  unfold Dev.liveEdge
  split
  · rename_i hv
    rw [Dev.bit_stick_other _ p b b h (by omega), Dev.bit_live_same _ p b true (by omega)]
    cases v <;> simp_all
  · exact d.bit_live_same p b v (by omega)

/-- STICKY is set where LIVE goes from 0 to 1, and keeps its value otherwise. -/
theorem Dev.bit_liveEdge_sticky (p b : Nat) (v : Bool) (h : b + 1 < 96 := by decide) :
    (d.liveEdge p b v).bit p (b + 1) = (d.bit p (b + 1) || (v && !d.bit p b)) := by
  unfold Dev.liveEdge
  split
  · rename_i hv
    rw [Dev.bit_stick_same _ p b h]; simp_all
  · rename_i hv
    rw [Dev.bit_live_other _ p b (b + 1) v (by omega) (by omega)]
    cases v <;> simp_all

theorem Dev.bit_pulse_live (p b : Nat) (h : b + 1 < 96 := by decide) : (d.pulse p b).bit p b = true := by
  have : (d.pulse p b).bit p b = ((d.live p b true).stick p b).bit p b := rfl
  rw [this, Dev.bit_stick_other _ p b b h (by omega), Dev.bit_live_same _ p b true (by omega)]

theorem Dev.bit_pulse_sticky (p b : Nat) (h : b + 1 < 96 := by decide) : (d.pulse p b).bit p (b + 1) = true := by
  have : (d.pulse p b).bit p (b + 1) = ((d.live p b true).stick p b).bit p (b + 1) := rfl
  rw [this, Dev.bit_stick_same _ p b h]

end Sys2Proof.Machine
end

