-- ==== Sys2Proof/Laws/Settle.lean ====
section
/-! SUPPORT. What follows every command: the items that show other state, and nothing else; and how a command that has run answers. -/

set_option Elab.async false

namespace Sys2Proof.Machine

variable (d : Dev)

/-- Every item that follows no other state keeps its value. -/
theorem Dev.get_settle {q : Nat} (h : q ∉ followItems) : d.settle.get q = d.get q := by
  simp only [followItems, List.mem_cons, List.not_mem_nil, or_false, not_or] at h
  obtain ⟨h1, h2, h3, h4, h5, h6⟩ := h
  simp only [Dev.settle]
  rw [Dev.get_display_ne _ _ h6, Dev.get_display_ne _ _ h5, Dev.get_display_ne _ _ h4, Dev.get_display_ne _ _ h3, Dev.get_display_ne _ _ h2,
    Dev.get_display_ne _ _ h1]

theorem Dev.num_settle {q : Nat} (h : q ∉ followItems := by decide) : d.settle.num q = d.num q := Dev.num_congr (d.get_settle h)
theorem Dev.fld_settle {q : Nat} (f : Fld) (h : q ∉ followItems := by decide) : d.settle.fld q f = d.fld q f := Dev.fld_congr (d.get_settle h) f
theorem Dev.bit_settle {q : Nat} (b : Nat) (h : q ∉ followItems := by decide) : d.settle.bit q b = d.bit q b := Dev.bit_congr (d.get_settle h) b

/-- Off and without adjacencies, the fabric follows nothing. -/
theorem Dev.crsCheck_off (h : d.noFabric) : d.crsCheck = d := by
  have hc : d.crsOn = false := by simp [Dev.crsOn, h.1]
  simp [Dev.crsCheck, hc, h.2, Dev.lsrFlood]

/-! ### Answers -/

theorem run_eq (s : State) (f : Dev → Dev) : run s f = .next ⟨(f s.dev).settle, s.pending⟩ := rfl

/-- A command that runs `f` completes, the module then being what `f` makes of it and its status items shown. -/
theorem answers_run {c : Instr} {s : State} {f : Dev → Dev} {P : Dev → Prop} (e : exec c s = run s f) (h : P (f s.dev).settle) :
    ∃ e, exec c s = .next ⟨e, s.pending⟩ ∧ P e :=
  ⟨_, e.trans (run_eq s f), h⟩

/-- The same for a command after which links that no longer serve are given up. -/
theorem answers_runNet {c : Instr} {s : State} {f : Dev → Dev} {P : Dev → Prop} (e : exec c s = runNet s f)
    (h : P (f s.dev).crsCheck.settle) : ∃ e, exec c s = .next ⟨e, s.pending⟩ ∧ P e :=
  answers_run (f := fun d => (f d).crsCheck) e h

/-- The same where the fabric is not in use. -/
theorem answers_quiet {c : Instr} {s : State} {f : Dev → Dev} {P : Dev → Prop} (e : exec c s = runNet s f) (q : (f s.dev).noFabric)
    (h : P (f s.dev).settle) : ∃ e, exec c s = .next ⟨e, s.pending⟩ ∧ P e :=
  answers_runNet e (by rw [Dev.crsCheck_off _ q]; exact h)

/-- An event of a block that is up occurs. -/
theorem Dev.inBlock_up {b : Nat} (f : Dev → Dev) (h : d.blockUp b = true) : d.inBlock b f = f d := by simp [Dev.inBlock, h]

/-! ### Frames -/

theorem changes_settle {ps : List Part} {qs : List Nat} {d e : Dev} (h : Changes ps qs d e) : Changes ps qs d e.settle := by
  refine ⟨fun p hp => ?_, fun q hq hs => (e.get_settle hs).trans (h.2 q hq hs)⟩
  have := h.1 p hp
  cases p <;> simpa [Part.same] using this

theorem changes_refl (d : Dev) (ps : List Part) (qs : List Nat) : Changes ps qs d d :=
  ⟨fun p _ => by cases p <;> first | rfl | exact ⟨rfl, rfl⟩, fun _ _ _ => rfl⟩

theorem changes_trans {ps : List Part} {qs : List Nat} {d e f : Dev} (h : Changes ps qs d e) (k : Changes ps qs e f) : Changes ps qs d f := by
  refine ⟨fun p hp => ?_, fun q hq hs => (k.2 q hq hs).trans (h.2 q hq hs)⟩
  have h1 := h.1 p hp
  have h2 := k.1 p hp
  cases p <;> first | exact Eq.trans h2 h1 | exact ⟨h2.1.trans h1.1, h2.2.trans h1.2⟩

end Sys2Proof.Machine
end

