-- ==== Sys2Proof/Laws/Mailbox.lean ====
section
/-! SUPPORT. Completions: what posting one, or ending a command, leaves alone; and how a command of a ring runs. -/

set_option Elab.async false

namespace Sys2Proof.Machine

variable (d : Dev)


/-! ### `Dev.hostWrite` -/

@[simp] theorem Dev.hostWrite_params (a : Nat) (l : List Byte) : (d.hostWrite a l).params = d.params := by
  induction l generalizing a d with
  | nil => rfl
  | cons b r ih => rw [Dev.hostWrite, ih]
@[simp] theorem Dev.hostWrite_msix (a : Nat) (l : List Byte) : (d.hostWrite a l).msix = d.msix := by
  induction l generalizing a d with
  | nil => rfl
  | cons b r ih => rw [Dev.hostWrite, ih]
@[simp] theorem Dev.hostWrite_cond (a : Nat) (l : List Byte) : (d.hostWrite a l).cond = d.cond := by
  induction l generalizing a d with
  | nil => rfl
  | cons b r ih => rw [Dev.hostWrite, ih]
@[simp] theorem Dev.hostWrite_out (a : Nat) (l : List Byte) : (d.hostWrite a l).out = d.out := by
  induction l generalizing a d with
  | nil => rfl
  | cons b r ih => rw [Dev.hostWrite, ih]
@[simp] theorem Dev.hostWrite_reply (a : Nat) (l : List Byte) : (d.hostWrite a l).reply = d.reply := by
  induction l generalizing a d with
  | nil => rfl
  | cons b r ih => rw [Dev.hostWrite, ih]
@[simp] theorem Dev.hostWrite_freeCtr (a : Nat) (l : List Byte) : (d.hostWrite a l).freeCtr = d.freeCtr := by
  induction l generalizing a d with
  | nil => rfl
  | cons b r ih => rw [Dev.hostWrite, ih]
@[simp] theorem Dev.hostWrite_pulses (a : Nat) (l : List Byte) : (d.hostWrite a l).pulses = d.pulses := by
  induction l generalizing a d with
  | nil => rfl
  | cons b r ih => rw [Dev.hostWrite, ih]
@[simp] theorem Dev.hostWrite_accums (a : Nat) (l : List Byte) : (d.hostWrite a l).accums = d.accums := by
  induction l generalizing a d with
  | nil => rfl
  | cons b r ih => rw [Dev.hostWrite, ih]
@[simp] theorem Dev.hostWrite_host (a : Nat) (l : List Byte) : (d.hostWrite a l).host = d.host := by
  induction l generalizing a d with
  | nil => rfl
  | cons b r ih => rw [Dev.hostWrite, ih]
@[simp] theorem Dev.hostWrite_dma (a : Nat) (l : List Byte) : (d.hostWrite a l).dma = d.dma := by
  induction l generalizing a d with
  | nil => rfl
  | cons b r ih => rw [Dev.hostWrite, ih]
@[simp] theorem Dev.hostWrite_tk (a : Nat) (l : List Byte) : (d.hostWrite a l).tk = d.tk := by
  induction l generalizing a d with
  | nil => rfl
  | cons b r ih => rw [Dev.hostWrite, ih]
@[simp] theorem Dev.hostWrite_tl (a : Nat) (l : List Byte) : (d.hostWrite a l).tl = d.tl := by
  induction l generalizing a d with
  | nil => rfl
  | cons b r ih => rw [Dev.hostWrite, ih]
@[simp] theorem Dev.hostWrite_cls (a : Nat) (l : List Byte) : (d.hostWrite a l).cls = d.cls := by
  induction l generalizing a d with
  | nil => rfl
  | cons b r ih => rw [Dev.hostWrite, ih]
@[simp] theorem Dev.hostWrite_net (a : Nat) (l : List Byte) : (d.hostWrite a l).net = d.net := by
  induction l generalizing a d with
  | nil => rfl
  | cons b r ih => rw [Dev.hostWrite, ih]
@[simp] theorem Dev.hostWrite_att (a : Nat) (l : List Byte) : (d.hostWrite a l).att = d.att := by
  induction l generalizing a d with
  | nil => rfl
  | cons b r ih => rw [Dev.hostWrite, ih]
@[simp] theorem Dev.hostWrite_pte (a : Nat) (l : List Byte) : (d.hostWrite a l).pte = d.pte := by
  induction l generalizing a d with
  | nil => rfl
  | cons b r ih => rw [Dev.hostWrite, ih]
@[simp] theorem Dev.hostWrite_emu (a : Nat) (l : List Byte) : (d.hostWrite a l).emu = d.emu := by
  induction l generalizing a d with
  | nil => rfl
  | cons b r ih => rw [Dev.hostWrite, ih]
@[simp] theorem Dev.hostWrite_refc (a : Nat) (l : List Byte) : (d.hostWrite a l).refc = d.refc := by
  induction l generalizing a d with
  | nil => rfl
  | cons b r ih => rw [Dev.hostWrite, ih]
@[simp] theorem Dev.hostWrite_cd (a : Nat) (l : List Byte) : (d.hostWrite a l).cd = d.cd := by
  induction l generalizing a d with
  | nil => rfl
  | cons b r ih => rw [Dev.hostWrite, ih]
@[simp] theorem Dev.hostWrite_cal (a : Nat) (l : List Byte) : (d.hostWrite a l).cal = d.cal := by
  induction l generalizing a d with
  | nil => rfl
  | cons b r ih => rw [Dev.hostWrite, ih]
@[simp] theorem Dev.hostWrite_lanes (a : Nat) (l : List Byte) : (d.hostWrite a l).lanes = d.lanes := by
  induction l generalizing a d with
  | nil => rfl
  | cons b r ih => rw [Dev.hostWrite, ih]
@[simp] theorem Dev.hostWrite_trk0 (a : Nat) (l : List Byte) : (d.hostWrite a l).trk0 = d.trk0 := by
  induction l generalizing a d with
  | nil => rfl
  | cons b r ih => rw [Dev.hostWrite, ih]
@[simp] theorem Dev.hostWrite_trk1 (a : Nat) (l : List Byte) : (d.hostWrite a l).trk1 = d.trk1 := by
  induction l generalizing a d with
  | nil => rfl
  | cons b r ih => rw [Dev.hostWrite, ih]
@[simp] theorem Dev.hostWrite_optics (a : Nat) (l : List Byte) : (d.hostWrite a l).optics = d.optics := by
  induction l generalizing a d with
  | nil => rfl
  | cons b r ih => rw [Dev.hostWrite, ih]
@[simp] theorem Dev.hostWrite_pwr (a : Nat) (l : List Byte) : (d.hostWrite a l).pwr = d.pwr := by
  induction l generalizing a d with
  | nil => rfl
  | cons b r ih => rw [Dev.hostWrite, ih]
@[simp] theorem Dev.hostWrite_obs (a : Nat) (l : List Byte) : (d.hostWrite a l).obs = d.obs := by
  induction l generalizing a d with
  | nil => rfl
  | cons b r ih => rw [Dev.hostWrite, ih]
@[simp] theorem Dev.hostWrite_trust (a : Nat) (l : List Byte) : (d.hostWrite a l).trust = d.trust := by
  induction l generalizing a d with
  | nil => rfl
  | cons b r ih => rw [Dev.hostWrite, ih]
@[simp] theorem Dev.hostWrite_crs (a : Nat) (l : List Byte) : (d.hostWrite a l).crs = d.crs := by
  induction l generalizing a d with
  | nil => rfl
  | cons b r ih => rw [Dev.hostWrite, ih]

/-! ### `Dev.postBytes` -/

@[simp] theorem Dev.postBytes_reply (r : Nat) (q : Bool) (l : List Byte) : (d.postBytes r q l).reply = d.reply := by simp only [Dev.postBytes]; split <;> simp
@[simp] theorem Dev.postBytes_freeCtr (r : Nat) (q : Bool) (l : List Byte) : (d.postBytes r q l).freeCtr = d.freeCtr := by simp only [Dev.postBytes]; split <;> simp
@[simp] theorem Dev.postBytes_pulses (r : Nat) (q : Bool) (l : List Byte) : (d.postBytes r q l).pulses = d.pulses := by simp only [Dev.postBytes]; split <;> simp
@[simp] theorem Dev.postBytes_accums (r : Nat) (q : Bool) (l : List Byte) : (d.postBytes r q l).accums = d.accums := by simp only [Dev.postBytes]; split <;> simp
@[simp] theorem Dev.postBytes_dma (r : Nat) (q : Bool) (l : List Byte) : (d.postBytes r q l).dma = d.dma := by simp only [Dev.postBytes]; split <;> simp
@[simp] theorem Dev.postBytes_tk (r : Nat) (q : Bool) (l : List Byte) : (d.postBytes r q l).tk = d.tk := by simp only [Dev.postBytes]; split <;> simp
@[simp] theorem Dev.postBytes_tl (r : Nat) (q : Bool) (l : List Byte) : (d.postBytes r q l).tl = d.tl := by simp only [Dev.postBytes]; split <;> simp
@[simp] theorem Dev.postBytes_cls (r : Nat) (q : Bool) (l : List Byte) : (d.postBytes r q l).cls = d.cls := by simp only [Dev.postBytes]; split <;> simp
@[simp] theorem Dev.postBytes_net (r : Nat) (q : Bool) (l : List Byte) : (d.postBytes r q l).net = d.net := by simp only [Dev.postBytes]; split <;> simp
@[simp] theorem Dev.postBytes_att (r : Nat) (q : Bool) (l : List Byte) : (d.postBytes r q l).att = d.att := by simp only [Dev.postBytes]; split <;> simp
@[simp] theorem Dev.postBytes_pte (r : Nat) (q : Bool) (l : List Byte) : (d.postBytes r q l).pte = d.pte := by simp only [Dev.postBytes]; split <;> simp
@[simp] theorem Dev.postBytes_emu (r : Nat) (q : Bool) (l : List Byte) : (d.postBytes r q l).emu = d.emu := by simp only [Dev.postBytes]; split <;> simp
@[simp] theorem Dev.postBytes_refc (r : Nat) (q : Bool) (l : List Byte) : (d.postBytes r q l).refc = d.refc := by simp only [Dev.postBytes]; split <;> simp
@[simp] theorem Dev.postBytes_cd (r : Nat) (q : Bool) (l : List Byte) : (d.postBytes r q l).cd = d.cd := by simp only [Dev.postBytes]; split <;> simp
@[simp] theorem Dev.postBytes_cal (r : Nat) (q : Bool) (l : List Byte) : (d.postBytes r q l).cal = d.cal := by simp only [Dev.postBytes]; split <;> simp
@[simp] theorem Dev.postBytes_lanes (r : Nat) (q : Bool) (l : List Byte) : (d.postBytes r q l).lanes = d.lanes := by simp only [Dev.postBytes]; split <;> simp
@[simp] theorem Dev.postBytes_trk0 (r : Nat) (q : Bool) (l : List Byte) : (d.postBytes r q l).trk0 = d.trk0 := by simp only [Dev.postBytes]; split <;> simp
@[simp] theorem Dev.postBytes_trk1 (r : Nat) (q : Bool) (l : List Byte) : (d.postBytes r q l).trk1 = d.trk1 := by simp only [Dev.postBytes]; split <;> simp
@[simp] theorem Dev.postBytes_optics (r : Nat) (q : Bool) (l : List Byte) : (d.postBytes r q l).optics = d.optics := by simp only [Dev.postBytes]; split <;> simp
@[simp] theorem Dev.postBytes_pwr (r : Nat) (q : Bool) (l : List Byte) : (d.postBytes r q l).pwr = d.pwr := by simp only [Dev.postBytes]; split <;> simp
@[simp] theorem Dev.postBytes_obs (r : Nat) (q : Bool) (l : List Byte) : (d.postBytes r q l).obs = d.obs := by simp only [Dev.postBytes]; split <;> simp
@[simp] theorem Dev.postBytes_trust (r : Nat) (q : Bool) (l : List Byte) : (d.postBytes r q l).trust = d.trust := by simp only [Dev.postBytes]; split <;> simp
@[simp] theorem Dev.postBytes_crs (r : Nat) (q : Bool) (l : List Byte) : (d.postBytes r q l).crs = d.crs := by simp only [Dev.postBytes]; split <;> simp

/-! ### `Dev.post` -/

@[simp] theorem Dev.post_reply (r : Nat) (c : Cmd) (l : List Byte) : (d.post r c l).reply = d.reply := by simp only [Dev.post]; split <;> simp
@[simp] theorem Dev.post_freeCtr (r : Nat) (c : Cmd) (l : List Byte) : (d.post r c l).freeCtr = d.freeCtr := by simp only [Dev.post]; split <;> simp
@[simp] theorem Dev.post_pulses (r : Nat) (c : Cmd) (l : List Byte) : (d.post r c l).pulses = d.pulses := by simp only [Dev.post]; split <;> simp
@[simp] theorem Dev.post_accums (r : Nat) (c : Cmd) (l : List Byte) : (d.post r c l).accums = d.accums := by simp only [Dev.post]; split <;> simp
@[simp] theorem Dev.post_dma (r : Nat) (c : Cmd) (l : List Byte) : (d.post r c l).dma = d.dma := by simp only [Dev.post]; split <;> simp
@[simp] theorem Dev.post_tk (r : Nat) (c : Cmd) (l : List Byte) : (d.post r c l).tk = d.tk := by simp only [Dev.post]; split <;> simp
@[simp] theorem Dev.post_tl (r : Nat) (c : Cmd) (l : List Byte) : (d.post r c l).tl = d.tl := by simp only [Dev.post]; split <;> simp
@[simp] theorem Dev.post_cls (r : Nat) (c : Cmd) (l : List Byte) : (d.post r c l).cls = d.cls := by simp only [Dev.post]; split <;> simp
@[simp] theorem Dev.post_net (r : Nat) (c : Cmd) (l : List Byte) : (d.post r c l).net = d.net := by simp only [Dev.post]; split <;> simp
@[simp] theorem Dev.post_att (r : Nat) (c : Cmd) (l : List Byte) : (d.post r c l).att = d.att := by simp only [Dev.post]; split <;> simp
@[simp] theorem Dev.post_pte (r : Nat) (c : Cmd) (l : List Byte) : (d.post r c l).pte = d.pte := by simp only [Dev.post]; split <;> simp
@[simp] theorem Dev.post_emu (r : Nat) (c : Cmd) (l : List Byte) : (d.post r c l).emu = d.emu := by simp only [Dev.post]; split <;> simp
@[simp] theorem Dev.post_refc (r : Nat) (c : Cmd) (l : List Byte) : (d.post r c l).refc = d.refc := by simp only [Dev.post]; split <;> simp
@[simp] theorem Dev.post_cd (r : Nat) (c : Cmd) (l : List Byte) : (d.post r c l).cd = d.cd := by simp only [Dev.post]; split <;> simp
@[simp] theorem Dev.post_cal (r : Nat) (c : Cmd) (l : List Byte) : (d.post r c l).cal = d.cal := by simp only [Dev.post]; split <;> simp
@[simp] theorem Dev.post_lanes (r : Nat) (c : Cmd) (l : List Byte) : (d.post r c l).lanes = d.lanes := by simp only [Dev.post]; split <;> simp
@[simp] theorem Dev.post_trk0 (r : Nat) (c : Cmd) (l : List Byte) : (d.post r c l).trk0 = d.trk0 := by simp only [Dev.post]; split <;> simp
@[simp] theorem Dev.post_trk1 (r : Nat) (c : Cmd) (l : List Byte) : (d.post r c l).trk1 = d.trk1 := by simp only [Dev.post]; split <;> simp
@[simp] theorem Dev.post_optics (r : Nat) (c : Cmd) (l : List Byte) : (d.post r c l).optics = d.optics := by simp only [Dev.post]; split <;> simp
@[simp] theorem Dev.post_pwr (r : Nat) (c : Cmd) (l : List Byte) : (d.post r c l).pwr = d.pwr := by simp only [Dev.post]; split <;> simp
@[simp] theorem Dev.post_obs (r : Nat) (c : Cmd) (l : List Byte) : (d.post r c l).obs = d.obs := by simp only [Dev.post]; split <;> simp
@[simp] theorem Dev.post_trust (r : Nat) (c : Cmd) (l : List Byte) : (d.post r c l).trust = d.trust := by simp only [Dev.post]; split <;> simp
@[simp] theorem Dev.post_crs (r : Nat) (c : Cmd) (l : List Byte) : (d.post r c l).crs = d.crs := by simp only [Dev.post]; split <;> simp

/-! ### `Dev.complete` -/

@[simp] theorem Dev.complete_freeCtr (r : Nat) (c : Cmd) (a : Ans) : (d.complete r c a).freeCtr = d.freeCtr := by simp only [Dev.complete]; split <;> simp
@[simp] theorem Dev.complete_pulses (r : Nat) (c : Cmd) (a : Ans) : (d.complete r c a).pulses = d.pulses := by simp only [Dev.complete]; split <;> simp
@[simp] theorem Dev.complete_accums (r : Nat) (c : Cmd) (a : Ans) : (d.complete r c a).accums = d.accums := by simp only [Dev.complete]; split <;> simp
@[simp] theorem Dev.complete_dma (r : Nat) (c : Cmd) (a : Ans) : (d.complete r c a).dma = d.dma := by simp only [Dev.complete]; split <;> simp
@[simp] theorem Dev.complete_tk (r : Nat) (c : Cmd) (a : Ans) : (d.complete r c a).tk = d.tk := by simp only [Dev.complete]; split <;> simp
@[simp] theorem Dev.complete_tl (r : Nat) (c : Cmd) (a : Ans) : (d.complete r c a).tl = d.tl := by simp only [Dev.complete]; split <;> simp
@[simp] theorem Dev.complete_cls (r : Nat) (c : Cmd) (a : Ans) : (d.complete r c a).cls = d.cls := by simp only [Dev.complete]; split <;> simp
@[simp] theorem Dev.complete_net (r : Nat) (c : Cmd) (a : Ans) : (d.complete r c a).net = d.net := by simp only [Dev.complete]; split <;> simp
@[simp] theorem Dev.complete_att (r : Nat) (c : Cmd) (a : Ans) : (d.complete r c a).att = d.att := by simp only [Dev.complete]; split <;> simp
@[simp] theorem Dev.complete_pte (r : Nat) (c : Cmd) (a : Ans) : (d.complete r c a).pte = d.pte := by simp only [Dev.complete]; split <;> simp
@[simp] theorem Dev.complete_emu (r : Nat) (c : Cmd) (a : Ans) : (d.complete r c a).emu = d.emu := by simp only [Dev.complete]; split <;> simp
@[simp] theorem Dev.complete_refc (r : Nat) (c : Cmd) (a : Ans) : (d.complete r c a).refc = d.refc := by simp only [Dev.complete]; split <;> simp
@[simp] theorem Dev.complete_cd (r : Nat) (c : Cmd) (a : Ans) : (d.complete r c a).cd = d.cd := by simp only [Dev.complete]; split <;> simp
@[simp] theorem Dev.complete_cal (r : Nat) (c : Cmd) (a : Ans) : (d.complete r c a).cal = d.cal := by simp only [Dev.complete]; split <;> simp
@[simp] theorem Dev.complete_lanes (r : Nat) (c : Cmd) (a : Ans) : (d.complete r c a).lanes = d.lanes := by simp only [Dev.complete]; split <;> simp
@[simp] theorem Dev.complete_trk0 (r : Nat) (c : Cmd) (a : Ans) : (d.complete r c a).trk0 = d.trk0 := by simp only [Dev.complete]; split <;> simp
@[simp] theorem Dev.complete_trk1 (r : Nat) (c : Cmd) (a : Ans) : (d.complete r c a).trk1 = d.trk1 := by simp only [Dev.complete]; split <;> simp
@[simp] theorem Dev.complete_optics (r : Nat) (c : Cmd) (a : Ans) : (d.complete r c a).optics = d.optics := by simp only [Dev.complete]; split <;> simp
@[simp] theorem Dev.complete_pwr (r : Nat) (c : Cmd) (a : Ans) : (d.complete r c a).pwr = d.pwr := by simp only [Dev.complete]; split <;> simp
@[simp] theorem Dev.complete_obs (r : Nat) (c : Cmd) (a : Ans) : (d.complete r c a).obs = d.obs := by simp only [Dev.complete]; split <;> simp
@[simp] theorem Dev.complete_trust (r : Nat) (c : Cmd) (a : Ans) : (d.complete r c a).trust = d.trust := by simp only [Dev.complete]; split <;> simp
@[simp] theorem Dev.complete_crs (r : Nat) (c : Cmd) (a : Ans) : (d.complete r c a).crs = d.crs := by simp only [Dev.complete]; split <;> simp

/-! ### `Dev.finish` -/

@[simp] theorem Dev.finish_freeCtr (r tag : Nat) (a : Ans) : (d.finish r tag a).freeCtr = d.freeCtr := by simp only [Dev.finish]; (repeat' split) <;> simp
@[simp] theorem Dev.finish_pulses (r tag : Nat) (a : Ans) : (d.finish r tag a).pulses = d.pulses := by simp only [Dev.finish]; (repeat' split) <;> simp
@[simp] theorem Dev.finish_accums (r tag : Nat) (a : Ans) : (d.finish r tag a).accums = d.accums := by simp only [Dev.finish]; (repeat' split) <;> simp
@[simp] theorem Dev.finish_dma (r tag : Nat) (a : Ans) : (d.finish r tag a).dma = d.dma := by simp only [Dev.finish]; (repeat' split) <;> simp
@[simp] theorem Dev.finish_tk (r tag : Nat) (a : Ans) : (d.finish r tag a).tk = d.tk := by simp only [Dev.finish]; (repeat' split) <;> simp
@[simp] theorem Dev.finish_tl (r tag : Nat) (a : Ans) : (d.finish r tag a).tl = d.tl := by simp only [Dev.finish]; (repeat' split) <;> simp
@[simp] theorem Dev.finish_cls (r tag : Nat) (a : Ans) : (d.finish r tag a).cls = d.cls := by simp only [Dev.finish]; (repeat' split) <;> simp
@[simp] theorem Dev.finish_net (r tag : Nat) (a : Ans) : (d.finish r tag a).net = d.net := by simp only [Dev.finish]; (repeat' split) <;> simp
@[simp] theorem Dev.finish_att (r tag : Nat) (a : Ans) : (d.finish r tag a).att = d.att := by simp only [Dev.finish]; (repeat' split) <;> simp
@[simp] theorem Dev.finish_pte (r tag : Nat) (a : Ans) : (d.finish r tag a).pte = d.pte := by simp only [Dev.finish]; (repeat' split) <;> simp
@[simp] theorem Dev.finish_emu (r tag : Nat) (a : Ans) : (d.finish r tag a).emu = d.emu := by simp only [Dev.finish]; (repeat' split) <;> simp
@[simp] theorem Dev.finish_refc (r tag : Nat) (a : Ans) : (d.finish r tag a).refc = d.refc := by simp only [Dev.finish]; (repeat' split) <;> simp
@[simp] theorem Dev.finish_cd (r tag : Nat) (a : Ans) : (d.finish r tag a).cd = d.cd := by simp only [Dev.finish]; (repeat' split) <;> simp
@[simp] theorem Dev.finish_cal (r tag : Nat) (a : Ans) : (d.finish r tag a).cal = d.cal := by simp only [Dev.finish]; (repeat' split) <;> simp
@[simp] theorem Dev.finish_lanes (r tag : Nat) (a : Ans) : (d.finish r tag a).lanes = d.lanes := by simp only [Dev.finish]; (repeat' split) <;> simp
@[simp] theorem Dev.finish_trk0 (r tag : Nat) (a : Ans) : (d.finish r tag a).trk0 = d.trk0 := by simp only [Dev.finish]; (repeat' split) <;> simp
@[simp] theorem Dev.finish_trk1 (r tag : Nat) (a : Ans) : (d.finish r tag a).trk1 = d.trk1 := by simp only [Dev.finish]; (repeat' split) <;> simp
@[simp] theorem Dev.finish_optics (r tag : Nat) (a : Ans) : (d.finish r tag a).optics = d.optics := by simp only [Dev.finish]; (repeat' split) <;> simp
@[simp] theorem Dev.finish_pwr (r tag : Nat) (a : Ans) : (d.finish r tag a).pwr = d.pwr := by simp only [Dev.finish]; (repeat' split) <;> simp
@[simp] theorem Dev.finish_obs (r tag : Nat) (a : Ans) : (d.finish r tag a).obs = d.obs := by simp only [Dev.finish]; (repeat' split) <;> simp
@[simp] theorem Dev.finish_trust (r tag : Nat) (a : Ans) : (d.finish r tag a).trust = d.trust := by simp only [Dev.finish]; (repeat' split) <;> simp

/-! ### `Dev.setCmd` -/

@[simp] theorem Dev.setCmd_hostMem (r tag : Nat) (f : Cmd → Cmd) : (d.setCmd r tag f).hostMem = d.hostMem := by simp [Dev.setCmd]
@[simp] theorem Dev.setCmd_msix (r tag : Nat) (f : Cmd → Cmd) : (d.setCmd r tag f).msix = d.msix := by simp [Dev.setCmd]
@[simp] theorem Dev.setCmd_cond (r tag : Nat) (f : Cmd → Cmd) : (d.setCmd r tag f).cond = d.cond := by simp [Dev.setCmd]
@[simp] theorem Dev.setCmd_out (r tag : Nat) (f : Cmd → Cmd) : (d.setCmd r tag f).out = d.out := by simp [Dev.setCmd]
@[simp] theorem Dev.setCmd_reply (r tag : Nat) (f : Cmd → Cmd) : (d.setCmd r tag f).reply = d.reply := by simp [Dev.setCmd]
@[simp] theorem Dev.setCmd_freeCtr (r tag : Nat) (f : Cmd → Cmd) : (d.setCmd r tag f).freeCtr = d.freeCtr := by simp [Dev.setCmd]
@[simp] theorem Dev.setCmd_pulses (r tag : Nat) (f : Cmd → Cmd) : (d.setCmd r tag f).pulses = d.pulses := by simp [Dev.setCmd]
@[simp] theorem Dev.setCmd_accums (r tag : Nat) (f : Cmd → Cmd) : (d.setCmd r tag f).accums = d.accums := by simp [Dev.setCmd]
@[simp] theorem Dev.setCmd_dma (r tag : Nat) (f : Cmd → Cmd) : (d.setCmd r tag f).dma = d.dma := by simp [Dev.setCmd]
@[simp] theorem Dev.setCmd_tk (r tag : Nat) (f : Cmd → Cmd) : (d.setCmd r tag f).tk = d.tk := by simp [Dev.setCmd]
@[simp] theorem Dev.setCmd_tl (r tag : Nat) (f : Cmd → Cmd) : (d.setCmd r tag f).tl = d.tl := by simp [Dev.setCmd]
@[simp] theorem Dev.setCmd_cls (r tag : Nat) (f : Cmd → Cmd) : (d.setCmd r tag f).cls = d.cls := by simp [Dev.setCmd]
@[simp] theorem Dev.setCmd_net (r tag : Nat) (f : Cmd → Cmd) : (d.setCmd r tag f).net = d.net := by simp [Dev.setCmd]
@[simp] theorem Dev.setCmd_att (r tag : Nat) (f : Cmd → Cmd) : (d.setCmd r tag f).att = d.att := by simp [Dev.setCmd]
@[simp] theorem Dev.setCmd_pte (r tag : Nat) (f : Cmd → Cmd) : (d.setCmd r tag f).pte = d.pte := by simp [Dev.setCmd]
@[simp] theorem Dev.setCmd_emu (r tag : Nat) (f : Cmd → Cmd) : (d.setCmd r tag f).emu = d.emu := by simp [Dev.setCmd]
@[simp] theorem Dev.setCmd_refc (r tag : Nat) (f : Cmd → Cmd) : (d.setCmd r tag f).refc = d.refc := by simp [Dev.setCmd]
@[simp] theorem Dev.setCmd_cd (r tag : Nat) (f : Cmd → Cmd) : (d.setCmd r tag f).cd = d.cd := by simp [Dev.setCmd]
@[simp] theorem Dev.setCmd_cal (r tag : Nat) (f : Cmd → Cmd) : (d.setCmd r tag f).cal = d.cal := by simp [Dev.setCmd]
@[simp] theorem Dev.setCmd_lanes (r tag : Nat) (f : Cmd → Cmd) : (d.setCmd r tag f).lanes = d.lanes := by simp [Dev.setCmd]
@[simp] theorem Dev.setCmd_trk0 (r tag : Nat) (f : Cmd → Cmd) : (d.setCmd r tag f).trk0 = d.trk0 := by simp [Dev.setCmd]
@[simp] theorem Dev.setCmd_trk1 (r tag : Nat) (f : Cmd → Cmd) : (d.setCmd r tag f).trk1 = d.trk1 := by simp [Dev.setCmd]
@[simp] theorem Dev.setCmd_optics (r tag : Nat) (f : Cmd → Cmd) : (d.setCmd r tag f).optics = d.optics := by simp [Dev.setCmd]
@[simp] theorem Dev.setCmd_pwr (r tag : Nat) (f : Cmd → Cmd) : (d.setCmd r tag f).pwr = d.pwr := by simp [Dev.setCmd]
@[simp] theorem Dev.setCmd_obs (r tag : Nat) (f : Cmd → Cmd) : (d.setCmd r tag f).obs = d.obs := by simp [Dev.setCmd]
@[simp] theorem Dev.setCmd_trust (r tag : Nat) (f : Cmd → Cmd) : (d.setCmd r tag f).trust = d.trust := by simp [Dev.setCmd]
@[simp] theorem Dev.setCmd_crs (r tag : Nat) (f : Cmd → Cmd) : (d.setCmd r tag f).crs = d.crs := by simp [Dev.setCmd]

/-! ### Items and answers -/

@[simp] theorem Dev.complete_reply (r : Nat) (c : Cmd) (a : Ans) :
    (d.complete r c a).reply = { status := a.status, result := a.result, value := a.value, time := a.time } := rfl

@[simp] theorem Dev.get_setCmd (r tag : Nat) (f : Cmd → Cmd) (q : Nat) : (d.setCmd r tag f).get q = d.get q := rfl

theorem Dev.get_postBytes_ne {r q : Nat} (b : Bool) (l : List Byte) (h : q ≠ MBX_ST r) : (d.postBytes r b l).get q = d.get q := by
  simp only [Dev.postBytes]
  split
  · rw [Dev.get_live_ne _ _ _ h]; exact Dev.get_congr (by simp) q
  · rw [Dev.get_stick_ne _ _ h, Dev.get_live_ne _ _ _ h]; exact Dev.get_congr (by simp) q

theorem Dev.get_complete_ne {r q : Nat} (c : Cmd) (a : Ans) (h : q ≠ MBX_ST r) : (d.complete r c a).get q = d.get q := by
  simp only [Dev.complete, Dev.post]
  (repeat' split) <;> first | rfl | exact Dev.get_postBytes_ne _ _ _ h

/-- A command that may start runs, and completes where it has an answer. -/
theorem Dev.runCmd_start {r tag op : Nat} {c : Cmd} (f : Dev → Cmd → Dev × Option Ans) (h : d.mayStartCmd r tag op c) :
    d.runCmd r tag op f =
      (match (f (d.setCmd r tag (fun c => { c with started := true })) c).2 with
       | some a => (f (d.setCmd r tag (fun c => { c with started := true })) c).1.complete r c a
       | none => (f (d.setCmd r tag (fun c => { c with started := true })) c).1) := by
  obtain ⟨h1, h2, h3, h4⟩ := h
  simp only [Dev.runCmd, h1, h2, h3, h4, and_self, if_true]
  all_goals rfl

/-- The same for opcodes that several commands share. -/
theorem Dev.subCmd_start {r tag op off : Nat} {c : Cmd} (sel : Nat → Bool) (f : Dev → Cmd → Dev × Option Ans)
    (h : d.mayStartCmd r tag op c) (s : sel (byteAt c.par off) = true) :
    d.subCmd r tag op off sel f = d.runCmd r tag op f := by
  simp [Dev.subCmd, h.1, s]

end Sys2Proof.Machine
end

