-- ==== Sys2Proof/Laws/Memory.lean ====
section
/-! SUPPORT. The memories: every operation on host memory, the parameter space and the MSI-X tables keeps their canonical form, and the module
after reset has it. -/

set_option Elab.async false

namespace Sys2Proof.Machine

variable (d : Dev)

theorem Dev.memWf_iff : d.memWf = true ↔
    Tbl.wf (fun _ => 0) d.hostMem = true ∧ Tbl.wf itemDefault d.params = true ∧ Tbl.wf (fun _ => {}) d.msix = true := by
  simp only [Dev.memWf, Bool.and_eq_true, and_assoc]

/-- A write of an item keeps the form of the parameter space. -/
theorem Dev.put_memWf (p : Nat) (v : Wide) (h : d.memWf = true) : (d.put p v).memWf = true := by
  rw [Dev.memWf_iff] at h ⊢
  exact ⟨h.1, Tbl.wf_set itemDefault d.params p v h.2.1, h.2.2⟩

/-- A write of bytes keeps the form of host memory. -/
theorem Dev.hostWrite_memWf (a : Nat) (l : List Byte) (h : d.memWf = true) : (d.hostWrite a l).memWf = true := by
  induction l generalizing d a with
  | nil => exact h
  | cons b r ih =>
    rw [Dev.hostWrite]
    refine ih _ _ ?_
    rw [Dev.memWf_iff] at h ⊢
    exact ⟨Tbl.wf_set (fun _ => (0 : Byte)) d.hostMem a b h.1, h.2⟩

/-- An interrupt keeps the form of the MSI-X tables. -/
theorem Dev.signal_memWf (fn vec : Nat) (h : d.memWf = true) : (d.signal fn vec).memWf = true := by
  unfold Dev.signal
  rw [Dev.memWf_iff] at h
  dsimp only
  split <;> rw [Dev.memWf_iff]
  · exact ⟨h.1, h.2.1, Tbl.wf_set (fun _ => ({} : MsixEntry)) d.msix (msixKey fn vec) _ h.2.2⟩
  · exact h

/-- An MSI-X entry written by the host keeps the form of the MSI-X tables. -/
theorem Dev.setMsix_memWf (fn vec : Nat) (e : MsixEntry) (h : d.memWf = true) : (d.setMsix fn vec e).memWf = true := by
  unfold Dev.setMsix
  rw [Dev.memWf_iff] at h
  split <;> rw [Dev.memWf_iff] <;>
    exact ⟨h.1, h.2.1, Tbl.wf_set (fun _ => ({} : MsixEntry)) d.msix (msixKey fn vec) _ h.2.2⟩

theorem reset_memWf : State.reset.dev.memWf = true := rfl

end Sys2Proof.Machine
end

