-- ==== Sys2Proof/Laws/Units.lean ====
section
/-! SUPPORT. The tables of rings, channels, lanes, links and candidates, timers, and adaptive loops: what each operation on them can do. -/

set_option Elab.async false

namespace Sys2Proof.Machine

variable (d : Dev)

/-! ### Tables -/

@[simp] theorem Dev.ring_setRing_same (r : Nat) (x : Ring) : (d.setRing r x).ring r = x := Tbl.get_set_same _ _ _ _
theorem Dev.ring_setRing_ne {r q : Nat} (x : Ring) (h : q ≠ r) : (d.setRing r x).ring q = d.ring q := Tbl.get_set_ne _ _ _ h

@[simp] theorem Dev.ch_setCh_same (c : Nat) (x : DmaCh) : (d.setCh c x).ch c = x := Tbl.get_set_same _ _ _ _
theorem Dev.ch_setCh_ne {c q : Nat} (x : DmaCh) (h : q ≠ c) : (d.setCh c x).ch q = d.ch q := Tbl.get_set_ne _ _ _ h

@[simp] theorem Dev.emuCh_setEmuCh_same (c : Nat) (x : EmuCh) : (d.setEmuCh c x).emuCh c = x := Tbl.get_set_same _ _ _ _
theorem Dev.emuCh_setEmuCh_ne {c q : Nat} (x : EmuCh) (h : q ≠ c) : (d.setEmuCh c x).emuCh q = d.emuCh q := Tbl.get_set_ne _ _ _ h

@[simp] theorem Dev.rcvy_setRcvy_same (s : Nat) (x : RcvySt) : (d.setRcvy s x).rcvy s = x := Tbl.get_set_same _ _ _ _
theorem Dev.rcvy_setRcvy_ne {s q : Nat} (x : RcvySt) (h : q ≠ s) : (d.setRcvy s x).rcvy q = d.rcvy q := Tbl.get_set_ne _ _ _ h

@[simp] theorem Dev.cntSlot_setCntSlot_same (k : Nat) (x : CntSlot) : (d.setCntSlot k x).cntSlot k = x := Tbl.get_set_same _ _ _ _
theorem Dev.cntSlot_setCntSlot_ne {k q : Nat} (x : CntSlot) (h : q ≠ k) : (d.setCntSlot k x).cntSlot q = d.cntSlot q := Tbl.get_set_ne _ _ _ h

@[simp] theorem Dev.optic_setOptic_same (c : Nat) (x : Option Optic) : (d.setOptic c x).optic c = x := Tbl.get_set_same _ _ _ _
theorem Dev.optic_setOptic_ne {c q : Nat} (x : Option Optic) (h : q ≠ c) : (d.setOptic c x).optic q = d.optic q := Tbl.get_set_ne _ _ _ h

@[simp] theorem Dev.lane_setLane_same (l : Nat) (x : LaneSt) : (d.setLane l x).lane l = x := Tbl.get_set_same _ _ _ _
theorem Dev.lane_setLane_ne {l q : Nat} (x : LaneSt) (h : q ≠ l) : (d.setLane l x).lane q = d.lane q := Tbl.get_set_ne _ _ _ h

@[simp] theorem Dev.link_setLink_same (n : Nat) (x : LinkSt) : (d.setLink n x).link n = x := Tbl.get_set_same _ _ _ _
theorem Dev.link_setLink_ne {n q : Nat} (x : LinkSt) (h : q ≠ n) : (d.setLink n x).link q = d.link q := Tbl.get_set_ne _ _ _ h

@[simp] theorem Dev.cand_setCand_same (i : Nat) (x : CandSt) : (d.setCand i x).cand i = x := Tbl.get_set_same _ _ _ _
theorem Dev.cand_setCand_ne {i q : Nat} (x : CandSt) (h : q ≠ i) : (d.setCand i x).cand q = d.cand q := Tbl.get_set_ne _ _ _ h

@[simp] theorem Dev.frame_setFrame_same (f : Nat) (x : Frame) : (d.setFrame f x).frame? f = some x := by
  simp only [Dev.frame?, Dev.setFrame, Tbl.get_set_same]
theorem Dev.frame_setFrame_ne {f q : Nat} (x : Frame) (h : q ≠ f) : (d.setFrame f x).frame? q = d.frame? q := by
  simp only [Dev.frame?, Dev.setFrame, Tbl.get_set_ne _ _ _ h]

@[simp] theorem Dev.cport_setCport_same (i k : Nat) (x : ClkPort) : (d.setCport i k x).cport i k = x := Tbl.get_set_same _ _ _ _
theorem Dev.cport_setCport_ne {i k j l : Nat} (x : ClkPort) (h : cpKey j l ≠ cpKey i k) : (d.setCport i k x).cport j l = d.cport j l :=
  Tbl.get_set_ne _ _ _ h

@[simp] theorem Dev.queue_setQueue_same (q : Nat) (l : List Copy) : (d.setQueue q l).queue q = l := Tbl.get_set_same _ _ _ _
theorem Dev.queue_setQueue_ne {q r : Nat} (l : List Copy) (h : r ≠ q) : (d.setQueue q l).queue r = d.queue r := Tbl.get_set_ne _ _ _ h

/-! ### Timers -/

@[simp] theorem Dev.runsT_startT_same (k n : Nat) : (d.startT k n).runsT k = true := by
  simp [Dev.runsT, Dev.startT]

theorem Dev.runsT_startT_ne {k j : Nat} (n : Nat) (h : j ≠ k) : (d.startT k n).runsT j = d.runsT j := by
  simp [Dev.runsT, Dev.startT, Tbl.get_set_ne _ _ _ h]

@[simp] theorem Dev.runsT_stopT_same (k : Nat) : (d.stopT k).runsT k = false := by
  simp [Dev.runsT, Dev.stopT]

theorem Dev.runsT_stopT_ne {k j : Nat} (h : j ≠ k) : (d.stopT k).runsT j = d.runsT j := by
  simp [Dev.runsT, Dev.stopT, Tbl.get_set_ne _ _ _ h]

/-- A timer that is due no longer runs. -/
@[simp] theorem Dev.runsT_dueT (k : Nat) : (d.dueT k).runsT k = false := by
  unfold Dev.dueT
  split
  · exact Dev.runsT_stopT_same _ k
  · rename_i h; simp [Dev.runsT, h]

/-! ### Values held to bounds -/

theorem clampTo_bounds {lo hi : Int} (x : Int) (h : lo ≤ hi) : lo ≤ clampTo lo hi x ∧ clampTo lo hi x ≤ hi := by
  unfold clampTo; split
  · omega
  · split <;> omega

theorem clampTo_inside {lo hi x : Int} (h : lo ≤ x) (k : x ≤ hi) : clampTo lo hi x = x := by
  unfold clampTo; split
  · omega
  · split <;> omega

theorem sideOf_zero {lo hi x : Int} : sideOf lo hi x = 0 ↔ lo ≤ x ∧ x ≤ hi := by
  unfold sideOf; split
  · simp; omega
  · split
    · simp; omega
    · simp; omega

end Sys2Proof.Machine
end

