-- ==== Sys2Proof/WellFormed.lean ====
section
/-! DEFINITION. Commands that something outside the module can send: what their types alone do not hold them to. A command that is not well
formed still has a meaning; no event of the hardware looks like it. -/

namespace Sys2Proof

/-- An access of a wrong width or alignment: bytes that are not one naturally aligned 32-bit access (R10). -/
def wrongWidthWf (off bytes : Nat) : Bool := decide (0 < bytes) && !(bytes == 4 && off % 4 == 0)

/-- A lower register of a split value in BAR0 of a function (R11). -/
def splitLowWf (fn off : Nat) : Bool := (Machine.barOff fn off).any Machine.isSplitLow

/-- A higher register of a split value (R11). -/
def splitHighWf (fn off : Nat) : Bool := (Machine.barOff fn off).any (fun o => decide (4 ≤ o) && Machine.isSplitLow (o - 4))

/-- A naturally aligned register (R10). -/
def alignedWf (off : Nat) : Bool := off % 4 == 0

/-- A buffer that one descriptor holds: its length is a field of 24 bits, and not 0 (R644). -/
def bufferWf (data : List Byte) : Bool := decide (0 < data.length) && decide (data.length < 2 ^ 24)

/-- A MAC control frame as the MAC keeps it: at least 60 bytes, of EtherType 0x8808 (R375). -/
def controlFrameWf (frame : List Byte) : Bool := decide (60 ≤ frame.length) && Machine.macControl frame

/-- Whether something outside the module can send the command. -/
def Instr.wf (c : Instr) : Bool :=
  match c with
  | .barWrongWidthAccess off bytes _ => wrongWidthWf off.toNat bytes.val
  | .splitLowRegisterRead _ _ off => alignedWf off.toNat
  | .splitLowRegisterWrite fn off _ => splitLowWf fn.val off.toNat
  | .splitHighRegisterWrite fn off _ => splitHighWf fn.val off.toNat
  | .registerWrite (.reg _ _ off _) => alignedWf off.toNat
  | .tableLoadBlock _ _ _ _ _ data _ => bufferWf data
  | .injectFrame _ _ _ _ _ data _ => bufferWf data
  | .interpolatorExchange _ hits => hits.length == 512 && hits.sum == 1048576
  | .laneEqUpdate _ demand => demand.length == 6
  | .chipletLinkTrained _ maps => maps.length == 16
  | .timeWordRx _ w => w.length == 36
  | .frameHeadRx _ t _ => t.ok
  | .launchCommitment _ t => t.ok
  | .macControlFrameRx _ frame _ _ => frame.terms.ok && controlFrameWf frame.bytes
  | _ => true

end Sys2Proof
end

