-- ==== Sys2Proof/Tests/Slice0.lean ====
section
/-! SUPPORT. Tests: commands that are not well formed, worked examples of the spec, and for every statement with hypotheses a state and operands
that meet them together. -/

set_option Elab.async false
set_option maxRecDepth 4000
set_option linter.unusedVariables false

namespace Sys2Proof.Tests

open Sys2Proof Sys2Proof.Machine

/-! ### Commands that nothing outside the module can send -/

theorem test_wf_wrong_width : Instr.wf (.barWrongWidthAccess 8 4 false) = false := by decide

theorem test_wf_split_low_read : Instr.wf (.splitLowRegisterRead 0 .bar0 0x042) = false := by decide

theorem test_wf_split_low_write : Instr.wf (.splitLowRegisterWrite 0 0x002 7) = false := by decide +kernel

theorem test_wf_split_high_write : Instr.wf (.splitHighRegisterWrite 0 0x002 7) = false := by decide +kernel

theorem test_wf_register_write : Instr.wf (.registerWrite (.reg 0 .bar0 0x041 7)) = false := by decide

theorem test_wf_table_block : Instr.wf (.tableLoadBlock 0 0 true false 0 [] false) = false := by decide

theorem test_wf_inject : Instr.wf (.injectFrame 0 0 true false 0 [] false) = false := by decide

theorem test_wf_interpolator : Instr.wf (.interpolatorExchange 0 [1048576]) = false := by decide

theorem test_wf_lane_eq : Instr.wf (.laneEqUpdate 0 [1, 2, 3]) = false := by decide

theorem test_wf_chiplet : Instr.wf (.chipletLinkTrained 0 []) = false := by decide

theorem test_wf_time_word : Instr.wf (.timeWordRx 0 [1, 2]) = false := by decide

theorem test_wf_control_frame : Instr.wf (.macControlFrameRx 0 ⟨⟨0, 0, 0, 0, 0⟩, []⟩ 0 false) = false := by decide

theorem test_wf_head : Instr.wf (.frameHeadRx 0 ⟨0, 0, 0, 4, 0⟩ []) = false := by decide

theorem test_wf_launch : Instr.wf (.launchCommitment 0 ⟨0, 0, 4, 0⟩) = false := by decide

/-- The table of commands gives no row any bits. -/
theorem test_no_words : decodeTableWord 32 5 = none := rfl

/-! ### Worked examples of the spec -/

/-- 00_scope, "A TW96 value in memory". -/
theorem test_tw96 : twBytes (twOf 1900000000 250000125 0xC000) = [0x00, 0xB3, 0x3F, 0x71, 0, 0, 0xFD, 0xB2, 0xE6, 0x0E, 0x00, 0xC0] := by
  decide +kernel

/-- 01_construction, "A core-voltage hold": a demand of 872 mV against 850 mV is held at HI, and PWR_VCORE_HELD reads 0x57. -/
theorem test_vcore_hold :
    (({ ({} : Dev) with pwr := { ({} : Dev).pwr with await := false } }.setBit PWR_VCORE_HELD 2 true).vcoreUpdate 872).num PWR_VCORE_HELD = 0x57 := by
  decide +kernel

/-- The same example, with HI raised to 880 mV: the hold ends, and PWR_VCORE_HELD reads 0x16. -/
theorem test_vcore_released :
    ((({ ({} : Dev) with pwr := { ({} : Dev).pwr with await := false } }.putNum PWR_VCORE_HELD 0x57).putNum PWR_VCORE_BOUNDS
      0x0003700002BC).vcoreUpdate 872).num PWR_VCORE_HELD = 0x16 := by
  decide +kernel

/-- 03_stamping_at_the_medium, "A receive stamp". -/
theorem test_receive_stamp :
    ((({ ({} : Dev) with tk := { ({} : Dev).tk with time := twOf 1900000300 500000081 0x4B53 } } : Dev).putNum (TSU_RX_FIXED 12 3)
      401408).ingressStamp 12 0 ⟨3, 1020, 388, 0, 20480⟩) = twOf 1900000300 500000000 0x2A3C := by
  decide +kernel

/-- The terms of that stamp, as TSU_LAST_RX_TERMS reads. -/
theorem test_receive_terms : termsWord 0 3 1020 388 0 20480 = 0x0C7F81841400 := by decide

/-- 03_stamping_at_the_medium, "Correction and trailer of the crossing Sync": the residence. -/
theorem test_residence :
    (Frame.eventOp { ({} : Frame) with op := opRESIDENCE, stamp := twOf 1900000300 500000000 0x2A3C }
      (twOf 1900000300 500000412 0x9B10) 0).add = 27029716 := by
  decide +kernel

/-- 04_time_protocol_and_pistes, "A sentence": the check of the text. -/
theorem test_sentence_check : ccOf ("GTOD,1900000300,37,0,L,6,A".toList.map (fun c => BitVec.ofNat 8 c.toNat)) = [0x31, 0x43] := by
  decide +kernel

/-- 05_edge_measurement, "A stream entry from TIA": the stamp of the edge. -/
theorem test_edge_stamp :
    ((((({ ({} : Dev) with tk := { ({} : Dev).tk with time := twOf 1900000401 0 0 } }.putNum (EMU_BIN_POS 0 301) 30871).putNum
      (EMU_IN_DELAY 0) 121242).live EMU_GLB_STATUS EMU_GLB_STATUS_LOCK true).live (CD_STATUS 2) CD_STATUS_BYPASS false).stampAt 0 301).2 =
      ((twOf 1900000400 999999998 0x9EFD / 0x100000000 : Nat) : Int) := by
  decide +kernel

/-- 11_rink_buffering, "The dynamic threshold": Q3 of LP040 holds 5,000,000 bytes, and a copy of 1,664 bytes is within its share. -/
theorem test_dynamic_threshold :
    ((({ ({} : Dev) with net := { ({} : Dev).net with
      queues := [(qOf 40 3, [{ fid := 0, q := qOf 40 3, size := 5000000 }])],
      pools := [(0, { count := 100000 }), (1, { count := 30000 }), (2, { count := 10000 }), (3, { count := 500 })] } } : Dev).putNum
      (Q_CTRL (qOf 40 3)) 0x001408000064).overLimit (qOf 40 3) 1664) = false := by
  decide +kernel

/-- 13_serial_lanes_and_trunk, "A trunk with a reversed order and one inverted pair": TRK_MAP. -/
theorem test_trunk_map :
    (({} : Dev).decideMap 0 ⟨true, 0x00A04A00A1B500A24A00A34A#96⟩).num (TRK_MAP 0) = 0x104 := by
  decide +kernel

/-- 07_clock_domains, "CD0 lowered to 1,333.3 MHz". -/
theorem test_cd0_lowered :
    ((({} : Dev).putNum (CD_PLL_DIV 0) 0x0304D553F7CF).live (CD_STATUS 0) CD_STATUS_BYPASS false).cdFreq 0 = 1333300000 := by
  decide +kernel

/-! ### Witnesses

Each shows what a statement's clause (its number) assumes of the state and the operands, met by a small state and some operands. -/

/-- A small state: the module after reset with something changed, and no command waiting. -/
def at_ (f : Dev → Dev) : State := ⟨f {}, []⟩

/-- The lanes of port 0, an 800G port at reset, READY. -/
def lanesUp (d : Dev) : Dev := (List.range 8).foldl (fun e k => e.setFld (LANE_STATUS k) LANE_STATUS_STATE 5) d

/-- A Link-State Record of a module whose serial number has byte 0 = k. -/
def lsrOf (k : Byte) : List Byte := [1, 2, 1, 8, 4, 1, 255, 255, 1, 0, 5, 0, 9, 0, 0, 0, 32, 0, 0, 1, 0, 0, 0, 0, k] ++ [0, 0, 0, 0, 0, 0, 0, 128, 6, 0, 0, 0, 1, 2, 1, 0, 0, 0, 0, 0, 0, 0, 0, 0, 5, 1, 10, 0, 3, 0, 0, 0] ++ List.replicate 47 0

theorem wit_StepShowsState : ∃ t, step State.reset = .next t := ⟨_, rfl⟩

theorem wit_WriteCodes : (5 : Nat) < 96 := by decide

theorem wit_EnablesAndStickies : (itemDef RINK_STATUS).isSome = true ∧
    (itemDef RINK_STATUS).all (fun i => i.w1c.testBit 1 && !i.rw.testBit 1 && i.rw.testBit 2) = true ∧
    (at_ (fun d => d.setBit RINK_STATUS 1 true)).dev.bit RINK_STATUS 1 = true ∧
    (at_ (fun d => d.setBit RINK_STATUS 1 true)).dev.bit RINK_STATUS 2 = false ∧ (4 : Nat).testBit 1 = false ∧ (4 : Nat).testBit 2 = true := by
  decide +kernel

theorem wit_HostMemoryWrites : (1 : Nat) < [(4 : Byte), 5].length ∧ (2 : Nat) < 3 := by decide

theorem wit_TimeWords : 5 * sec1 + 7 * ns1 < 2 ^ 48 * sec1 := by decide

theorem wit_LoopsStayInBounds :
    let d := (at_ (fun d => d.putNum PWR_VCORE_BOUNDS (900 * 0x1000000 + 700))).dev
    d.loopLo vcoreLoop ≤ d.loopHi vcoreLoop ∧ vcoreLoop.held ≠ vcoreLoop.value ∧ vcoreLoop.time ≠ vcoreLoop.value ∧ vcoreLoop.time ≠ vcoreLoop.held ∧
    (600 : Int) < d.loopLo vcoreLoop ∧ d.bit vcoreLoop.held HELD_HELD = false ∧ d.loopHi vcoreLoop < 950 ∧ d.loopLo vcoreLoop ≤ 800 := by
  decide +kernel

theorem wit_ChassisReadsAndSensors_5 : (fun (s : State) => s.dev.pwr.alert = true) (at_ Dev.alertN) := by
  decide +kernel

theorem wit_ChassisReadsAndSensors_6 : (fun (s : State) (i : SensorNo) (t : BitVec 24) => 16 * s.dev.warnOf (i.val + 1) ≤ t.toInt ∧
    s.dev.bit (HLT_SENSOR_STATUS (i.val + 1)) HLT_SENSOR_STATUS_WARN = false ∧ s.dev.pulses = []) (at_ id) (11) (2400) := by
  decide +kernel

theorem wit_ChassisReadsAndSensors_7 : (fun (s : State) (i : SensorNo) (t : BitVec 24) => t.toInt ≤ 16 * (s.dev.warnOf (i.val + 1) - 5) ∧
    s.dev.pulses = []) (at_ (fun d => (d.live (HLT_SENSOR_STATUS 12) 0 true).startT (tSense 12) 9)) (11) (-40) := by
  decide +kernel

theorem wit_ChassisReadsAndSensors_8 : (fun (s : State) (i : SensorNo) => s.dev.runsT (tTrip (i.val + 1)) = true ∧
    s.dev.pulses = []) (at_ (fun d => ((d.live (HLT_SENSOR_STATUS 3) 3 true).startT (tTrip 3) 7).putNum (HLT_TEMP 3) 2500)) (2) := by
  decide +kernel

theorem wit_ChassisReadsAndSensors_9 : (fun (s : State) => s.dev.pwr.trip = true ∧ s.dev.runsT tCool = true ∧ s.dev.pulses = [] ∧
    s.dev.pwr.feedA = true ∧ s.dev.pwr.intlk = true ∧ s.dev.autoOn = true ∧
    s.dev.pwr.powerOn = false) (at_ (fun d => ({ d with pwr := { d.pwr with trip := true } }.setPower 4).startT tCool 5)) := by
  decide +kernel

theorem wit_ChassisReadsAndSensors_10 : (fun (s : State) => Tbl.get s.dev.accums none HLT_TRIP = none) (at_ (fun d => d.live HLT_STATUS HLT_STATUS_TRIPPED true)) := by
  decide +kernel

theorem wit_RemovalRequestsAndFeeds_1 : (fun (s : State) => s.dev.pwrState ≠ 4 ∧ s.dev.bit PWR_STATUS PWR_STATUS_REMOVE = false ∧
    s.dev.pwr.target = none ∧ s.dev.pwr.pressWait = false) (at_ id) := by
  decide +kernel

theorem wit_RemovalRequestsAndFeeds_2 : (fun (s : State) => s.dev.pwrState ≠ 4 ∧ s.dev.bit PWR_STATUS PWR_STATUS_REMOVE = false ∧
    s.dev.pwr.target = none ∧ s.dev.pwr.pressWait = false) (at_ id) := by
  decide +kernel

theorem wit_RemovalRequestsAndFeeds_3 : (fun (s : State) => s.dev.bit PWR_STATUS PWR_STATUS_REMOVE = true ∧
    s.dev.pwr.handOff = false) (at_ (fun d => d.live PWR_STATUS PWR_STATUS_REMOVE true)) := by
  decide +kernel

theorem wit_RemovalRequestsAndFeeds_4 : (fun (s : State) => s.dev.pwrState ≠ 4 ∧ s.dev.bit PWR_STATUS PWR_STATUS_REMOVE = true ∧
    s.dev.pwr.handOff = false) (at_ (fun d => d.live PWR_STATUS PWR_STATUS_REMOVE true)) := by
  decide +kernel

theorem wit_RemovalRequestsAndFeeds_5 : (fun (s : State) => s.dev.runsT tRemove = true ∧ s.dev.pulses = [] ∧
    s.dev.fld PWR_CTRL PWR_CTRL_REMOVE_AUTO = 0 ∧
    s.dev.pwr.handOff = false) (at_ (fun d => (d.live PWR_STATUS PWR_STATUS_REMOVE true).startT tRemove 5)) := by
  decide +kernel

theorem wit_RemovalRequestsAndFeeds_6 : (fun (s : State) (f : Bool) (v : BitVec 16) => s.dev.bit PWR_STATUS (if f then PWR_STATUS_FEEDB else PWR_STATUS_FEEDA) = false) (at_ id) (true) (3900) := by
  decide +kernel

theorem wit_RemovalRequestsAndFeeds_8 : (fun (s : State) => s.dev.pwrState < 4 ∧ s.dev.pwr.await = false ∧
    s.dev.bit PWR_STATUS PWR_STATUS_WARM = true) (at_ (fun d => { d with pwr := { d.pwr with await := false } })) := by
  decide +kernel

theorem wit_PowerStates_1 : (fun (s : State) (r : RingNo) (tag : Byte) (c : Cmd) => s.dev.mayStartCmd r.val tag.toNat 0x80 c ∧
    byteAt c.par 0 ≤ 4 ∧ byteAt c.par 1 = 0 ∧ zeros (slice c.par 2 38) = true ∧ s.dev.pwr.target = none ∧ s.dev.imageBusy = false ∧
    s.dev.cal.run = none ∧
    byteAt c.par 0 ≠ s.dev.pwrState) (at_ (fun d0 => let d := (d0.setFld GLB_STATE GLB_STATE_READY 1).live GLB_STATE GLB_STATE_GAP false; let d := d; { d with host := { d.host with rings := [(3, { enable := true, inflight := [{ op := 0x80, tag := 7, par := ([1] ++ List.replicate 39 0) }] })] } })) (3) (7) ({ op := 0x80, tag := 7, par := ([1] ++ List.replicate 39 0) }) := by
  decide +kernel

theorem wit_PowerStates_2 : (fun (s : State) => s.dev.pwr.target = some 1 ∧ s.dev.pwrState = 0 ∧ s.dev.pwr.autoWait = false ∧
    s.dev.pwr.pressWait = false ∧ s.dev.pwr.oscFail = false) (at_ (fun d => d.setTarget? (some 1) none)) := by
  decide +kernel

theorem wit_PowerStates_3 : (fun (s : State) => s.dev.pwr.target = some 4 ∧ s.dev.pwr.handOff = false ∧
    s.dev.pwr.oscFail = false) (at_ (fun d => d.setTarget? (some 4) none)) := by
  decide +kernel

theorem wit_PowerStates_4 : (fun (s : State) => s.dev.pwrState = 3) (at_ (fun d => d.setPower 3)) := by
  decide +kernel

theorem wit_PowerStates_5 : (fun (s : State) (v : BitVec 24) => s.dev.pwrState = 0 ∧ s.dev.pwr.await = false ∧
    s.dev.loopLo vcoreLoop ≤ s.dev.int PWR_VCORE ∧ s.dev.int PWR_VCORE ≤ s.dev.loopHi vcoreLoop ∧ s.dev.pwr.oscFail = false ∧
    s.dev.pwr.ramp = none ∧ s.dev.pulses = []) (at_ (fun d => ({ d with pwr := { d.pwr with await := false } }).putNum PWR_VCORE 800)) (900) := by
  decide +kernel

theorem wit_Resets_1 : (fun (s : State) (cause : Fin 7) (src : BitVec 16) => s.dev.pwrState < 3 ∧ s.dev.pwr.await = false ∧
    s.dev.pwr.resetting = 0) (at_ (fun d => { d with pwr := { d.pwr with await := false, coreOff := false, started := true } })) (2) (0x104) := by
  decide +kernel

theorem wit_Resets_2 : (fun (s : State) (cause : Fin 7) (src : BitVec 16) => s.dev.pwrState = 0 ∧ s.dev.pwr.await = false ∧
    s.dev.pwr.resetting = 0) (at_ (fun d => { d with pwr := { d.pwr with await := false, coreOff := false, started := true } })) (1) (0) := by
  decide +kernel

theorem wit_Resets_3 : (fun (s : State) (cause : Fin 7) (src : BitVec 16) => s.dev.pwrState < 3 ∧ s.dev.pwr.await = false ∧
    s.dev.pwr.resetting = 0) (at_ (fun d => { d with pwr := { d.pwr with await := false, coreOff := false, started := true } })) (1) (0) := by
  decide +kernel

theorem wit_Resets_4 : (fun (s : State) => s.dev.pwr.resetting = rkDATA_PLANE ∧
    s.dev.bit GLB_STATE GLB_STATE_GAP = false) (at_ (fun d => { d with pwr := { d.pwr with resetting := 5, coreOff := true } }.live GLB_STATE GLB_STATE_GAP false)) := by
  decide +kernel

theorem wit_Resets_5 : (fun (s : State) => s.dev.runsT tWatchdog = true ∧ s.dev.onBypass 3 = false ∧ s.dev.pulses = [] ∧ s.dev.pwrState < 3 ∧
    s.dev.pwr.await = false ∧ s.dev.pwr.resetting = 0) (at_ (fun d => ({ d with pwr := { d.pwr with await := false } }).startT tWatchdog 5)) := by
  decide +kernel

theorem wit_Resets_6 : (fun (s : State) (src t : Nat) (rest : List (Nat × Nat × Nat)) => s.dev.pwr.crsReset = (rkPATROL, src, t) :: rest ∧
    src < 0x10000 ∧ s.dev.pulses = [] ∧ s.dev.pwrState < 3 ∧ s.dev.pwr.await = false ∧
    s.dev.pwr.resetting = 0) (at_ (fun d => { d with pwr := { d.pwr with await := false, crsReset := [(6, 0x104, 5), (3, 9, 99)] } })) (0x104) (5) ([(3, 9, 99)]) := by
  decide +kernel

theorem wit_Resets_7 : (fun (s : State) => s.dev.pwrState < 3 ∧ s.dev.pwr.await = false ∧
    s.dev.pwr.resetting = 0) (at_ (fun d => { d with pwr := { d.pwr with await := false }, host := { d.host with rings := [(3, { enable := true })] } })) := by
  decide +kernel

theorem wit_Resets_8 : (fun (s : State) => s.dev.host.perst = true ∧ s.dev.pwrState ≤ 2 ∧ s.dev.pwr.await = false ∧
    s.dev.pwr.modRst = false) (at_ (fun d => { d with host := { d.host with perst := true }, pwr := { d.pwr with await := false } })) := by
  decide +kernel

theorem wit_Resets_9 : (fun (s : State) => s.dev.pwr.modRst = false ∧ s.dev.pwrState < 3 ∧ s.dev.pwr.await = false ∧
    s.dev.pwr.resetting = 0) (at_ (fun d => { d with pwr := { d.pwr with await := false, coreOff := false, started := true } })) := by
  decide +kernel

theorem wit_Resets_10 : (fun (s : State) => s.dev.pwr.modRst = true ∧ s.dev.pwrState ≤ 2 ∧
    s.dev.pwr.await = false) (at_ (fun d => { d with pwr := { d.pwr with await := false, modRst := true } })) := by
  decide +kernel

theorem wit_Starts_1 : (fun (s : State) (k : CageNo) => (s.dev.pwrState = 4 ∨ s.dev.pwr.await = true)) State.reset (5) := by
  decide +kernel

theorem wit_Starts_2 : (fun (s : State) => s.dev.pwr.await = true ∧ s.dev.mayStart = true ∧ s.dev.autoOn = true ∧ s.dev.pwr.powerOn = false ∧
    s.dev.pwr.cause < 16 ∧ s.dev.pwr.modRst = false) State.reset := by
  decide +kernel

theorem wit_Starts_3 : (fun (s : State) (a b : BitVec 16) => s.dev.pwrState ≠ 4) (at_ (fun d => { d with pwr := { d.pwr with await := false, coreOff := false, started := true } })) (3800) (3700) := by
  decide +kernel

theorem wit_Starts_4 : (fun (s : State) => s.dev.pwrState ≠ 4) (at_ (fun d => { d with pwr := { d.pwr with await := false, coreOff := false, started := true } })) := by
  decide +kernel

theorem wit_Starts_5 : (fun (s : State) => s.dev.trust.booting = true ∧
    s.dev.pwr.oscFail = false) (at_ (fun d => { d with trust := { d.trust with booting := true } })) := by
  decide +kernel

theorem wit_Optics_1 : (fun (s : State) (c : CageNo) (o : Optic) => s.dev.optic c.val = none ∧
    s.dev.fld (HLT_OPT_CTRL c.val) HLT_OPT_CTRL_POWER_EN = 1 ∧ s.dev.opticState c.val = opEMPTY ∧ s.dev.pwrState = 0 ∧
    o.max ≤ s.dev.fld (HLT_OPT_CTRL c.val) HLT_OPT_CTRL_BUDGET ∧ o.high < 2 ^ 16) (at_ id) (9) (⟨60, 100, 1500⟩) := by
  decide +kernel

theorem wit_Optics_2 : (fun (s : State) (c : CageNo) (o : Optic) => s.dev.optic c.val = none ∧
    s.dev.fld (HLT_OPT_CTRL c.val) HLT_OPT_CTRL_POWER_EN = 1 ∧ s.dev.opticState c.val = opEMPTY ∧ s.dev.pwrState = 0 ∧
    s.dev.fld (HLT_OPT_CTRL c.val) HLT_OPT_CTRL_BUDGET < o.max ∧ o.low < 2 ^ 16) (at_ id) (9) (⟨80, 100, 1500⟩) := by
  decide +kernel

theorem wit_Optics_3 : (fun (s : State) (c : CageNo) => s.dev.opticState c.val = opHIGH) (at_ (fun d => d.setFld (HLT_OPTIC 4) HLT_OPTIC_STATE 2)) (4) := by
  decide +kernel

theorem wit_Optics_5 : (fun (s : State) (c : CageNo) (b : BitVec 8) => 4 ≤ b.toNat ∧ b.toNat ≤ 72 ∧ s.dev.pwrState = 0) (at_ id) (4) (40) := by
  decide +kernel

theorem wit_TimekeeperWrites_1 : (fun (s : State) (v : Word) => s.dev.steered = false ∧ -65536000000 ≤ v.toInt ∧ v.toInt ≤ 65536000000 ∧
    s.dev.blockUp bkTIMING = true) (at_ (fun d => d.setFld TK_CTRL TK_CTRL_STEER 1)) (65536) := by
  decide +kernel

theorem wit_TimekeeperWrites_2 : (fun (s : State) (v : Word) => s.dev.steered = false ∧ s.dev.phaseAdjStatus v.toInt = stOK ∧
    s.dev.blockUp bkTIMING = true) (at_ (fun d => d.setFld TK_CTRL TK_CTRL_STEER 1)) (1000) := by
  decide +kernel

theorem wit_TimekeeperWrites_3 : (fun (s : State) (a b : Word) => s.dev.tkSetStatus (b.toNat / 0x10000) = stOK ∧
    s.dev.blockUp bkTIMING = true) (at_ id) (5) (0x3B9AC9FF0000) := by
  decide +kernel

theorem wit_TimekeeperWrites_4 : (fun (s : State) (v : Word) => bitsAt v.toNat 0 2 = 1 ∧ s.dev.blockUp bkTIMING = true) (at_ id) (1) := by
  decide +kernel

theorem wit_TimekeeperWrites_5 : (fun (s : State) (k : SlotNo) => s.dev.host.linkUp = true) (at_ id) (3) := by
  decide +kernel

theorem wit_TimeTicks_1 : (fun (s : State) => s.dev.pwrState = 0 ∧ s.dev.pwr.coreOff = true ∧ s.dev.faulted = [] ∧ s.dev.pwr.oscFail = false ∧
    s.dev.tk.steps = [] ∧ s.dev.tk.adj = [] ∧ s.dev.tk.time ≤ (s.dev.tk.lastTick + 1) * 1024 * ns1 ∧
    s.dev.timeBypass = false) (at_ (fun d => { d.putNum TK_FREQ_ADJ 655360 with pwr := { d.pwr with coreOff := true } })) := by
  decide +kernel

theorem wit_TimeTicks_2 : (fun (s : State) => s.dev.pwrState = 0 ∧ s.dev.pwr.coreOff = true ∧ s.dev.pwr.oscFail = false ∧
    s.dev.repFault 9 = false) (at_ (fun d => { d with pwr := { d.pwr with coreOff := true } })) := by
  decide +kernel

theorem wit_TimeTicks_3 : (fun (s : State) (k u t : Nat) (x : Shp) => s.dev.blockUp bkCORE = true ∧ Tbl.get s.dev.net.shp none k = some x ∧
    x.elig = some (u, t) ∧
    t / 10 / 65536 ≤ s.dev.tk.lastSlot / 65536 + 1) (at_ (fun d => { d with net := { d.net with shp := [(5, some { elig := some (7, 10), far := true })] } })) (5) (7) (10) ({ elig := some (7, 10), far := true }) := by
  decide +kernel

theorem wit_TimeTicks_4 : (fun (s : State) (m : BitVec 24) => s.dev.blockUp bkCORE = true ∧ 1 ≤ s.dev.tk.nextRep ∧ s.dev.tk.nextRep ≤ 9 ∧
    s.dev.pulses = []) (at_ id) (100) := by
  decide +kernel

theorem wit_TimeTicks_5 : (fun (s : State) (k : ReplicaNo) => s.dev.blockUp bkCORE = true) (at_ id) (4) := by
  decide +kernel

theorem wit_TimeTicks_6 : (fun (s : State) (k : ReplicaNo) => s.dev.blockUp bkCORE = true ∧
    (Tbl.get s.dev.tk.reps {} (k.val + 1)).bus = false) (at_ (fun d => { d with tk := { d.tk with reps := [(5, { bus := false })] } })) (4) := by
  decide +kernel

theorem wit_TimelineFires_1 : (fun (s : State) (a : Action) (lag : BitVec 64) => s.dev.tl.acts = [a] ∧ a.typ = actEPOCH_SWAP ∧
    a.late = false ∧ s.dev.blockUp bkCORE = true ∧ s.dev.pulses = [] ∧ s.dev.num TL_FIRE_HEAD < 0x10000 ∧
    s.dev.bit GLB_STATE GLB_STATE_GAP = false) (at_ (fun d0 => let d := { d0.live GLB_STATE GLB_STATE_GAP false with tl := { d0.tl with acts := [{ slot := 5, gen := 1, trigger := 5000000 * ns1, typ := 1, target := 0x0D000000, count := 1, args := [1,0,0,0,0,0,0,0,0,0,0,0] }] } }; d)) ({ slot := 5, gen := 1, trigger := 5000000 * ns1, typ := 1, target := 0x0D000000, count := 1, args := [1,0,0,0,0,0,0,0,0,0,0,0] }) (5) := by
  decide +kernel

theorem wit_TimelineFires_2 : (fun (s : State) (a : Action) (i : LpNo) (lag : BitVec 64) => s.dev.tl.acts = [a] ∧ a.typ = actSHADOW_HANDOVER ∧
    a.late = false ∧ s.dev.blockUp bkCORE = true ∧ s.dev.pulses = [] ∧ s.dev.num TL_FIRE_HEAD < 0x10000 ∧
    s.dev.bit GLB_STATE GLB_STATE_GAP = false ∧ a.captured = true ∧ a.target = 0x12000000 + i.val * 0x1000 ∧ a.count = 1 ∧
    s.dev.shState 0x12 i.val ≠ shOPEN) (at_ (fun d0 => let d := { d0.live GLB_STATE GLB_STATE_GAP false with tl := { d0.tl with acts := [{ slot := 5, gen := 1, trigger := 5000000 * ns1, typ := 2, target := 0x12000000, count := 1, args := (List.replicate 12 0), captured := true }] } }; d.setFld (SLW_SHADOW 0) SHP_SHADOW_STATE 2)) ({ slot := 5, gen := 1, trigger := 5000000 * ns1, typ := 2, target := 0x12000000, count := 1, args := (List.replicate 12 0), captured := true }) (0) (5) := by
  decide +kernel

theorem wit_TimelineFires_3 : (fun (s : State) (a : Action) => s.dev.tl.acts = [a] ∧ a.typ = actSHADOW_HANDOVER ∧ a.late = false ∧
    s.dev.blockUp bkCORE = true ∧ s.dev.pulses = [] ∧ s.dev.num TL_FIRE_HEAD < 0x10000 ∧ s.dev.bit GLB_STATE GLB_STATE_GAP = false ∧
    a.captured = false ∧
    a.missed = false) (at_ (fun d0 => let d := { d0.live GLB_STATE GLB_STATE_GAP false with tl := { d0.tl with acts := [{ slot := 5, gen := 1, trigger := 5000000 * ns1, typ := 2, target := 0x12000000, count := 1, args := (List.replicate 12 0) }] } }; d)) ({ slot := 5, gen := 1, trigger := 5000000 * ns1, typ := 2, target := 0x12000000, count := 1, args := (List.replicate 12 0) }) := by
  decide +kernel

theorem wit_TimelineFires_4 : (fun (s : State) (a : Action) (n : LpNo) (lag : BitVec 64) => s.dev.tl.acts = [a] ∧ a.typ = actPORT_ADMIN ∧
    a.late = false ∧ s.dev.blockUp bkCORE = true ∧ s.dev.pulses = [] ∧ s.dev.num TL_FIRE_HEAD < 0x10000 ∧
    s.dev.bit GLB_STATE GLB_STATE_GAP = false ∧ a.target = 0x0A000000 + n.val * 0x1000 ∧ a.count = 1 ∧ byteAt a.args 0 = 0 ∧
    s.dev.noFabric) (at_ (fun d0 => let d := { d0.live GLB_STATE GLB_STATE_GAP false with tl := { d0.tl with acts := [{ slot := 5, gen := 1, trigger := 5000000 * ns1, typ := 3, target := 0x0A005000, count := 1, args := (List.replicate 12 0) }] } }; d)) ({ slot := 5, gen := 1, trigger := 5000000 * ns1, typ := 3, target := 0x0A005000, count := 1, args := (List.replicate 12 0) }) (5) (7) := by
  decide +kernel

theorem wit_TimelineFires_5 : (fun (s : State) (a : Action) (lag : BitVec 64) => s.dev.tl.acts = [a] ∧ a.typ = actTIME_OUTPUT_PROGRAM ∧
    a.late = false ∧ s.dev.blockUp bkCORE = true ∧ s.dev.pulses = [] ∧ s.dev.num TL_FIRE_HEAD < 0x10000 ∧
    s.dev.bit GLB_STATE GLB_STATE_GAP = false) (at_ (fun d0 => let d := { d0.live GLB_STATE GLB_STATE_GAP false with tl := { d0.tl with acts := [{ slot := 5, gen := 1, trigger := 5000000 * ns1, typ := 4, target := 0x05000000, count := 1, args := [1,0,0,0,0,0,0,0,0,0,0,0] }] } }; (d.putNum (PTE_OUT_PEND0 1) 77).putNum (PTE_OUT_PEND1 1) 88)) ({ slot := 5, gen := 1, trigger := 5000000 * ns1, typ := 4, target := 0x05000000, count := 1, args := [1,0,0,0,0,0,0,0,0,0,0,0] }) (9) := by
  decide +kernel

theorem wit_TimelineFires_6 : (fun (s : State) (a : Action) (lag : BitVec 64) => s.dev.tl.acts = [a] ∧ a.typ = actCOUNTER_SWEEP_START ∧
    a.late = false ∧ s.dev.blockUp bkCORE = true ∧ s.dev.pulses = [] ∧ s.dev.num TL_FIRE_HEAD < 0x10000 ∧
    s.dev.bit GLB_STATE GLB_STATE_GAP = false ∧ s.dev.obs.runs = [] ∧
    (Tbl.get s.dev.obs.sweeps none (leNat (slice a.args 0 2))).isSome = true) (at_ (fun d0 => let d := { d0.live GLB_STATE GLB_STATE_GAP false with tl := { d0.tl with acts := [{ slot := 5, gen := 1, trigger := 5000000 * ns1, typ := 5, target := 0x15000000, count := 1, args := [3,0,0,0,0,0,0,0,0,0,0,0] }] } }; { d with obs := { d.obs with sweeps := [(3, some { dest := 0, ids := [0x15000040] })] } })) ({ slot := 5, gen := 1, trigger := 5000000 * ns1, typ := 5, target := 0x15000000, count := 1, args := [3,0,0,0,0,0,0,0,0,0,0,0] }) (9) := by
  decide +kernel

theorem wit_TimelineFires_7 : (fun (s : State) (a : Action) (lag : BitVec 64) => s.dev.tl.acts = [a] ∧ a.typ = actCAL_WINDOW ∧
    a.late = false ∧ s.dev.blockUp bkCORE = true ∧ s.dev.pulses = [] ∧ s.dev.num TL_FIRE_HEAD < 0x10000 ∧
    s.dev.bit GLB_STATE GLB_STATE_GAP = false ∧
    s.dev.cal.run = none) (at_ (fun d0 => let d := { d0.live GLB_STATE GLB_STATE_GAP false with tl := { d0.tl with acts := [{ slot := 5, gen := 1, trigger := 5000000 * ns1, typ := 6, target := 0x09000000, count := 1, args := [1,0,1,0,0,0,0,0,0,0,0,0] }] } }; d)) ({ slot := 5, gen := 1, trigger := 5000000 * ns1, typ := 6, target := 0x09000000, count := 1, args := [1,0,1,0,0,0,0,0,0,0,0,0] }) (9) := by
  decide +kernel

theorem wit_TimelineCommands_1 : (fun (s : State) (r : RingNo) (tag : Byte) (c : Cmd) => s.dev.mayStartCmd r.val tag.toNat 0x20 c ∧
    s.dev.addStatus c.par = stOK) (at_ (fun d0 => let d := (d0.setFld GLB_STATE GLB_STATE_READY 1).live GLB_STATE GLB_STATE_GAP false; let d := d.live TK_STATUS TK_STATUS_SET true; { d with host := { d.host with rings := [(3, { enable := true, inflight := [{ op := 0x20, tag := 7, par := ([0,0,0,0,0,0, 0,0,0x80,0, 0,0, 4,0,0,0, 0,0,0,5, 1,0,0,0, 9,0,0,0, 1] ++ List.replicate 11 0) }] })] } })) (3) (7) ({ op := 0x20, tag := 7, par := ([0,0,0,0,0,0, 0,0,0x80,0, 0,0, 4,0,0,0, 0,0,0,5, 1,0,0,0, 9,0,0,0, 1] ++ List.replicate 11 0) }) := by
  decide +kernel

theorem wit_TimelineCommands_2 : (fun (s : State) (r : RingNo) (tag : Byte) (c : Cmd) (a : Action) => s.dev.mayStartCmd r.val tag.toNat 0x21 c ∧
    zeros (slice c.par 4 36) = true ∧ s.dev.actionOf (leNat (slice c.par 0 4)) = some a ∧
    a.typ = actTIME_OUTPUT_PROGRAM) (at_ (fun d0 => let d := (d0.setFld GLB_STATE GLB_STATE_READY 1).live GLB_STATE GLB_STATE_GAP false; let d := { d with tl := { d.tl with acts := [{ slot := 5, gen := 1, trigger := 5000000 * ns1, typ := 4, target := 0x05000000, count := 1, args := List.replicate 12 0 }] } }; { d with host := { d.host with rings := [(3, { enable := true, inflight := [{ op := 0x21, tag := 7, par := ([5, 0x10, 0, 0] ++ List.replicate 36 0) }] })] } })) (3) (7) ({ op := 0x21, tag := 7, par := ([5, 0x10, 0, 0] ++ List.replicate 36 0) }) ({ slot := 5, gen := 1, trigger := 5000000 * ns1, typ := 4, target := 0x05000000, count := 1, args := List.replicate 12 0 }) := by
  decide +kernel

theorem wit_TimelineCommands_3 : (fun (s : State) (r : RingNo) (tag : Byte) (c : Cmd) => s.dev.mayStartCmd r.val tag.toNat 0x11 c ∧
    s.dev.armStatus c.par = stOK) (at_ (fun d0 => let d := (d0.setFld GLB_STATE GLB_STATE_READY 1).live GLB_STATE GLB_STATE_GAP false; let d := (d.setBank 1 { state := 2, ruleset := 5 }).live TK_STATUS TK_STATUS_SET true; { d with host := { d.host with rings := [(3, { enable := true, inflight := [{ op := 0x11, tag := 7, par := ([0,0,0,0,0,0, 0,0,0x80,0, 0,0, 1,0,0,0, 0,0,0,0x0D, 1,0,0,0, 9,0,0,0, 1,0,0,0, 5,0,0,0] ++ List.replicate 4 0) }] })] } })) (3) (7) ({ op := 0x11, tag := 7, par := ([0,0,0,0,0,0, 0,0,0x80,0, 0,0, 1,0,0,0, 0,0,0,0x0D, 1,0,0,0, 9,0,0,0, 1,0,0,0, 5,0,0,0] ++ List.replicate 4 0) }) := by
  decide +kernel

theorem wit_BankCommands_1 : (fun (s : State) (r : RingNo) (tag : Byte) (c : Cmd) (recs : List Byte) => s.dev.mayStartCmd r.val tag.toNat 0x10 c ∧
    s.dev.blockUp bkCORE = true ∧ blockOk c.par = true ∧ byteAt c.par 0 = twNODE ∧ leNat (slice c.par 8 4) = 1 ∧
    (s.dev.bank (byteAt c.par 1)).state = bkLOADABLE ∧
    nodeOk (leNat (slice recs 0 16)) = true) (at_ (fun d0 => let d := (d0.setFld GLB_STATE GLB_STATE_READY 1).live GLB_STATE GLB_STATE_GAP false; let d := d; { d with host := { d.host with rings := [(3, { enable := true, inflight := [{ op := 0x10, tag := 7, par := ([1,1,0,0, 3,0,0,0, 1,0,0,0, 0,0,0,0,0,0,0,0, 16,0,0,0] ++ List.replicate 16 0) }] })] } })) (3) (7) ({ op := 0x10, tag := 7, par := ([1,1,0,0, 3,0,0,0, 1,0,0,0, 0,0,0,0,0,0,0,0, 16,0,0,0] ++ List.replicate 16 0) }) (leBytes 16 (mkNode 1 14 0 0 0 1 0 12 0xFF 0 4 1)) := by
  decide +kernel

theorem wit_BankCommands_2 : (fun (s : State) (r : RingNo) (tag : Byte) (c : Cmd) => s.dev.mayStartCmd r.val tag.toNat 0x10 c ∧
    s.dev.blockUp bkCORE = true ∧ blockOk c.par = true ∧ byteAt c.par 0 = twSEAL ∧
    (s.dev.bank (byteAt c.par 1)).state = bkLOADABLE) (at_ (fun d0 => let d := (d0.setFld GLB_STATE GLB_STATE_READY 1).live GLB_STATE GLB_STATE_GAP false; let d := d; { d with host := { d.host with rings := [(3, { enable := true, inflight := [{ op := 0x10, tag := 7, par := ([8,1,0,0, 0,0,0,0, 0,0,0,0, 0,0,0,0,0,0,0,0, 0,0,0,0] ++ List.replicate 16 0) }] })] } })) (3) (7) ({ op := 0x10, tag := 7, par := ([8,1,0,0, 0,0,0,0, 0,0,0,0, 0,0,0,0,0,0,0,0, 0,0,0,0] ++ List.replicate 16 0) }) := by
  decide +kernel

theorem wit_BankCommands_3 : (fun (s : State) (r : RingNo) (tag : Byte) (c : Cmd) => s.dev.mayStartCmd r.val tag.toNat 0x10 c ∧
    s.dev.blockUp bkCORE = true ∧ blockOk c.par = true ∧ byteAt c.par 0 = twCLONE ∧
    (s.dev.bank (byteAt c.par 1)).state = bkLOADABLE) (at_ (fun d0 => let d := (d0.setFld GLB_STATE GLB_STATE_READY 1).live GLB_STATE GLB_STATE_GAP false; let d := d; { d with host := { d.host with rings := [(3, { enable := true, inflight := [{ op := 0x10, tag := 7, par := ([10,1,0,0, 0,0,0,0, 0,0,0,0, 0,0,0,0,0,0,0,0, 0,0,0,0] ++ List.replicate 16 0) }] })] } })) (3) (7) ({ op := 0x10, tag := 7, par := ([10,1,0,0, 0,0,0,0, 0,0,0,0, 0,0,0,0,0,0,0,0, 0,0,0,0] ++ List.replicate 16 0) }) := by
  decide +kernel

theorem wit_BankCommands_4 : (fun (s : State) (r : RingNo) (tag : Byte) (c : Cmd) => s.dev.mayStartCmd r.val tag.toNat 0x10 c ∧
    s.dev.blockUp bkCORE = true ∧ blockOk c.par = true ∧ byteAt c.par 0 = twOPEN ∧
    (s.dev.bank (byteAt c.par 1)).state = bkSEALED) (at_ (fun d0 => let d := (d0.setFld GLB_STATE GLB_STATE_READY 1).live GLB_STATE GLB_STATE_GAP false; let d := d.setBank 1 { state := 2, ruleset := 5 }; { d with host := { d.host with rings := [(3, { enable := true, inflight := [{ op := 0x10, tag := 7, par := ([9,1,0,0, 0,0,0,0, 0,0,0,0, 0,0,0,0,0,0,0,0, 0,0,0,0] ++ List.replicate 16 0) }] })] } })) (3) (7) ({ op := 0x10, tag := 7, par := ([9,1,0,0, 0,0,0,0, 0,0,0,0, 0,0,0,0,0,0,0,0, 0,0,0,0] ++ List.replicate 16 0) }) := by
  decide +kernel

theorem wit_BankCommands_5 : (fun (s : State) (k : BankNo) => (s.dev.bank k.val).state = bkSEALING ∧ (s.dev.bank k.val).owner = none ∧
    (s.dev.bank k.val).checks = true) (at_ (fun d => d.setBank 1 { startupBank with state := 1, label := 9 })) (1) := by
  decide +kernel

theorem wit_BankCommands_6 : (fun (s : State) (k : BankNo) => (s.dev.bank k.val).state = bkCLONING ∧
    (s.dev.bank k.val).owner = none) (at_ (fun d => (d.setBank 0 startupBank).setBank 1 { state := 6 })) (1) := by
  decide +kernel

theorem wit_BankCommands_7 : (fun (s : State) (k : BankNo) => s.dev.blockUp bkCORE = true ∧ (s.dev.bank k.val).state = bkDRAINING ∧
    (s.dev.bank k.val).inflight = 0) (at_ (fun d => d.setBank 1 { state := 5 })) (1) := by
  decide +kernel

theorem wit_Pistes_1 : (fun (s : State) (k : PisteNo) => s.dev.blockUp bkTIMING = true ∧ s.dev.pzState k.inst ≠ pzDISABLED ∧
    (s.dev.piste k.inst).dets = [] ∧ s.dev.trust.servoA = false ∧
    s.dev.trust.servoB = false) (at_ (fun d => d.setFld (PTE_PISTE_STATUS 1) PTE_PISTE_STATUS_STATE 1)) (.A) := by
  decide +kernel

theorem wit_Pistes_2 : (fun (s : State) (k : PisteNo) => s.dev.blockUp bkTIMING = true ∧ s.dev.pzState k.inst ≠ pzDISABLED ∧
    (s.dev.piste k.inst).dets ≠ [] ∧ s.dev.trust.servoA = false ∧
    s.dev.trust.servoB = false) (at_ (fun d => (d.setFld (PTE_PISTE_STATUS 1) PTE_PISTE_STATUS_STATE 1).detector 1 0x105 65536)) (.A) := by
  decide +kernel

theorem wit_Pistes_3 : (fun (s : State) (k : PisteNo) => s.dev.blockUp bkTIMING = true ∧ s.dev.pzState k.inst = pzDISABLED ∧
    s.dev.trust.servoA = false ∧ s.dev.trust.servoB = false) (at_ id) (.B) := by
  decide +kernel

theorem wit_Pistes_4 : (fun (s : State) (k : PisteNo) => s.dev.blockUp bkTIMING = true ∧ s.dev.pzState k.inst = pzACQUIRING ∧
    16 ≤ (s.dev.piste k.inst).within ∧ s.dev.sourceOk k.inst = true ∧
    (s.dev.pzExt k.inst = true ∨ s.dev.inGap = true ∨ cpInsts.all (fun i => s.dev.portState i k.inst != psUNCALIBRATED) = true)) (at_ (fun d => ((d.setFld (PTE_PISTE_STATUS 1) PTE_PISTE_STATUS_STATE 1).setPiste 1 { within := 16 }).setPortState 0x105 1 9)) (.A) := by
  decide +kernel

theorem wit_Pistes_5 : (fun (s : State) (k : PisteNo) => s.dev.blockUp bkTIMING = true ∧ s.dev.pzState k.inst = pzACQUIRING ∧
    16 ≤ (s.dev.piste k.inst).within ∧
    s.dev.bit (PTE_PISTE_STATUS k.inst) PTE_PISTE_STATUS_LOCK = false) (at_ (fun d => ((d.setFld (PTE_PISTE_STATUS 1) PTE_PISTE_STATUS_STATE 1).setPiste 1 { within := 16 }).setPortState 0x105 1 8)) (.A) := by
  decide +kernel

theorem wit_Pistes_6 : (fun (s : State) (k : PisteNo) => s.dev.blockUp bkTIMING = true ∧
    (s.dev.pzState k.inst = pzACQUIRING ∨ s.dev.pzState k.inst = pzLOCKED) ∧
    16 ≤ (s.dev.piste k.inst).empty) (at_ (fun d => (d.setFld (PTE_PISTE_STATUS 1) PTE_PISTE_STATUS_STATE 2).setPiste 1 { empty := 16 })) (.A) := by
  decide +kernel

theorem wit_Pistes_7 : (fun (s : State) => s.dev.runsT tWTR = true ∧
    s.dev.pulses = []) (at_ (fun d => (d.startT tWTR 99).live PTE_STATUS PTE_STATUS_WTR true)) := by
  decide +kernel

theorem wit_Pistes_8 : (fun (s : State) (k : PisteNo) (v : BitVec 24) => s.dev.blockUp bkTIMING = true ∧
    (s.dev.pzState k.inst = pzACQUIRING ∨ s.dev.pzState k.inst = pzLOCKED) ∧ s.dev.pulses = [] ∧ 0 ≤ s.dev.loopLo (bwLoop k.inst) ∧
    s.dev.loopLo (bwLoop k.inst) ≤ s.dev.int (PTE_SERVO_BW k.inst) ∧
    s.dev.int (PTE_SERVO_BW k.inst) ≤ s.dev.loopHi (bwLoop k.inst)) (at_ (fun d => (d.setFld (PTE_PISTE_STATUS 1) PTE_PISTE_STATUS_STATE 1).putNum (PTE_SERVO_BW 1) 100)) (.A) (500) := by
  decide +kernel

theorem wit_Pistes_9 : (fun (s : State) (k : PisteNo) (v : Word) => s.dev.accepts (PTE_PISTE_CTRL k.inst) v.toNat ∧ s.dev.pzOn k.inst = true ∧
    PTE_PISTE_CTRL_ENABLE.of (BitVec.ofNat 96 v.toNat) = 0) (at_ (fun d => (d.setFld (PTE_PISTE_STATUS 1) PTE_PISTE_STATUS_STATE 2).setFld (PTE_PISTE_CTRL 1) PTE_PISTE_CTRL_ENABLE 1)) (.A) (0) := by
  decide +kernel

theorem wit_Pistes_10 : (fun (s : State) (k : PisteNo) (v : Word) => s.dev.accepts (PTE_PISTE_CTRL k.inst) v.toNat ∧
    s.dev.pzOn k.inst = false ∧ PTE_PISTE_CTRL_ENABLE.of (BitVec.ofNat 96 v.toNat) = 1) (at_ id) (.A) (1) := by
  decide +kernel

theorem wit_Pistes_11 : (fun (s : State) (l : LoopNo) (v : Word) => s.dev.accepts (boundsItem l) v.toNat) (at_ id) (.vcore) ((700 + 800 * 0x1000000)) := by
  decide +kernel

theorem wit_SyncAndDelay_1 : (fun (s : State) (t : Term) (r : List Term) => s.dev.blockUp bkTIMING = true ∧ s.dev.net.inbox = t :: r ∧
    t.kind = 0 ∧ pmType t.bytes = mtSYNC ∧ s.dev.portState (0x100 + t.lp) t.piste = psSLAVE ∧ t.bad = false ∧ pmTwoStep t.bytes = false ∧
    p2pProfile (s.dev.profile t.piste) = false) (at_ (fun d0 => let e := (fun (d : Dev) => d.setPortState 0x105 1 9) d0; { e with net := { e.net with inbox := [{ kind := 0, lp := 5, bytes := (List.replicate 44 0), piste := 1, stamp := 900 * ns1 }] } })) ({ kind := 0, lp := 5, bytes := (List.replicate 44 0), piste := 1, stamp := 900 * ns1 }) ([]) := by
  decide +kernel

theorem wit_SyncAndDelay_2 : (fun (s : State) (t : Term) (r : List Term) => s.dev.blockUp bkTIMING = true ∧ s.dev.net.inbox = t :: r ∧
    t.kind = 0 ∧ pmType t.bytes = mtSYNC ∧ s.dev.portState (0x100 + t.lp) t.piste = psSLAVE ∧ t.bad = false ∧
    pmTwoStep t.bytes = true) (at_ (fun d0 => let e := (fun (d : Dev) => d.setPortState 0x105 1 9) d0; { e with net := { e.net with inbox := [{ kind := 0, lp := 5, bytes := [0,0,0,0,0,0,2], piste := 1, stamp := 900 * ns1 }] } })) ({ kind := 0, lp := 5, bytes := [0,0,0,0,0,0,2], piste := 1, stamp := 900 * ns1 }) ([]) := by
  decide +kernel

theorem wit_SyncAndDelay_3 : (fun (s : State) (t : Term) (r : List Term) (x : SyncSt) => s.dev.blockUp bkTIMING = true ∧
    s.dev.net.inbox = t :: r ∧ t.kind = 1 ∧ pmType t.bytes = mtFOLLOW_UP ∧ (s.dev.cport (0x100 + t.lp) t.piste).sync = some x ∧
    x.seq = pmSeq t.bytes) (at_ (fun d0 => let e := (fun (d : Dev) => (d).setCport 0x105 1 { sync := some ⟨0, 900, false, 0, none⟩ }) d0; { e with net := { e.net with inbox := [{ kind := 1, lp := 5, bytes := [8], piste := 1 }] } })) ({ kind := 1, lp := 5, bytes := [8], piste := 1 }) ([]) (⟨0, 900, false, 0, none⟩) := by
  decide +kernel

theorem wit_SyncAndDelay_4 : (fun (s : State) (t : Term) (r : List Term) => s.dev.blockUp bkTIMING = true ∧ s.dev.net.inbox = t :: r ∧ t.kind = 1 ∧
    pmType t.bytes = mtDELAY_RESP ∧ s.dev.portState (0x100 + t.lp) t.piste = psSLAVE ∧
    (s.dev.cport (0x100 + t.lp) t.piste).dreq = some (pmSeq t.bytes) ∧ pmAsked t.bytes = portIdent (t.lp + 1) ∧
    (s.dev.cport (0x100 + t.lp) t.piste).md.isSome = true ∧
    (s.dev.takeReturn mtDELAY_REQ (s.dev.domainOf t.piste) (pmSeq t.bytes) t.lp).2.isSome = true) (at_ (fun d0 => let e := (fun (d : Dev) => ({ d with net := { d.net with returns := [(1, 24, 0, 5, 77, 0)] } }.setPortState 0x105 1 9).setCport 0x105 1 { dreq := some 0, md := some 5 }) d0; { e with net := { e.net with inbox := [{ kind := 1, lp := 5, bytes := (9 :: List.replicate 43 0 ++ beBytes 10 (portIdent 6)), piste := 1 }] } })) ({ kind := 1, lp := 5, bytes := (9 :: List.replicate 43 0 ++ beBytes 10 (portIdent 6)), piste := 1 }) ([]) := by
  have hp : portIdent 6 % 256 ^ 10 = portIdent 6 := by
    have := Config.clockIdentity.isLt
    simp only [portIdent]; omega
  have hq : beNat (beBytes 10 (portIdent 6)) = portIdent 6 := by rw [beNat_beBytes, hp]
  beta_reduce
  refine ⟨by decide +kernel, rfl, by decide +kernel, by decide +kernel, ?_, ?_, ?_, ?_, ?_⟩ <;> first | decide +kernel | exact hq

theorem wit_SyncAndDelay_5 : (fun (s : State) (t : Term) (r : List Term) => s.dev.blockUp bkTIMING = true ∧ s.dev.net.inbox = t :: r ∧
    t.kind = 0 ∧ pmType t.bytes = mtDELAY_REQ ∧ s.dev.portState (0x100 + t.lp) t.piste = psMASTER ∧ t.bad = false ∧
    t ∉ r) (at_ (fun d0 => let e := (fun (d : Dev) => d.setPortState 0x105 1 6) d0; { e with net := { e.net with inbox := [{ kind := 0, lp := 5, bytes := [1], piste := 1 }] } })) ({ kind := 0, lp := 5, bytes := [1], piste := 1 }) ([]) := by
  decide +kernel

theorem wit_SyncAndDelay_6 : (fun (s : State) (n : LpNo) (k : PisteNo) => s.dev.blockUp bkCORE = true ∧
    s.dev.portState (0x100 + n.val) k.inst = psMASTER ∧ s.dev.profile k.inst ≠ 4) (at_ (fun d => d.setPortState 0x105 1 6)) (5) (.A) := by
  decide +kernel

theorem wit_SyncAndDelay_7 : (fun (s : State) (n : LpNo) (k : PisteNo) => s.dev.blockUp bkCORE = true ∧
    s.dev.portState (0x100 + n.val) k.inst = psMASTER ∧ s.dev.profile k.inst ≠ 4 ∧
    s.dev.pwr.handOff = false) (at_ (fun d => d.setPortState 0x105 1 6)) (5) (.A) := by
  decide +kernel

theorem wit_SyncAndDelay_8 : (fun (s : State) (n : LpNo) (k : PisteNo) => s.dev.blockUp bkCORE = true ∧
    s.dev.portState (0x100 + n.val) k.inst = psSLAVE ∧ p2pProfile (s.dev.profile k.inst) = false ∧
    s.dev.profile k.inst ≠ 4) (at_ (fun d => d.setPortState 0x105 1 9)) (5) (.A) := by
  decide +kernel

theorem wit_PeerDelayAndNegotiation_1 : (fun (s : State) (n : LpNo) (k : PisteNo) => s.dev.blockUp bkCORE = true ∧
    s.dev.p2pPort n.val k.inst = true ∧
    s.dev.lpUp n.val = true) (at_ (fun d => (((d.setLp 5 5).setFld (PTE_PORT_ROLE 0x105) PTE_PORT_ROLE_ROLE_A 2).setFld (PTE_PISTE_CTRL 1) PTE_PISTE_CTRL_ENABLE 1).setFld (PTE_PISTE_CTRL 1) PTE_PISTE_CTRL_PROFILE 1)) (5) (.A) := by
  decide +kernel

theorem wit_PeerDelayAndNegotiation_2 : (fun (s : State) (t : Term) (r : List Term) => s.dev.blockUp bkTIMING = true ∧ s.dev.net.inbox = t :: r ∧ t.kind = 0 ∧
    pmType t.bytes = mtPDELAY_RESP ∧ (s.dev.cport (0x100 + t.lp) t.piste).preq = some (pmSeq t.bytes) ∧ pmAsked t.bytes = portIdent (t.lp + 1) ∧
    t.bad = false ∧ pmTwoStep t.bytes = true ∧
    (s.dev.takeReturn mtPDELAY_REQ (s.dev.domainOf t.piste) (pmSeq t.bytes) t.lp).2.isSome = true) (at_ (fun d0 => let e := (fun (d : Dev) => ({ d with net := { d.net with returns := [(2, 24, 0, 5, 77, 0)] } }).setCport 0x105 1 { preq := some 0 }) d0; { e with net := { e.net with inbox := [{ kind := 0, lp := 5, bytes := ([3,0,0,0,0,0,2] ++ List.replicate 37 0 ++ beBytes 10 (portIdent 6)), piste := 1 }] } })) ({ kind := 0, lp := 5, bytes := ([3,0,0,0,0,0,2] ++ List.replicate 37 0 ++ beBytes 10 (portIdent 6)), piste := 1 }) ([]) := by
  have hp : portIdent 6 % 256 ^ 10 = portIdent 6 := by
    have := Config.clockIdentity.isLt
    simp only [portIdent]; omega
  have hq : beNat (beBytes 10 (portIdent 6)) = portIdent 6 := by rw [beNat_beBytes, hp]
  beta_reduce
  refine ⟨by decide +kernel, rfl, by decide +kernel, by decide +kernel, ?_, ?_, ?_, ?_, ?_⟩ <;> first | decide +kernel | exact hq

theorem wit_PeerDelayAndNegotiation_3 : (fun (s : State) (t : Term) (r : List Term) => s.dev.blockUp bkTIMING = true ∧ s.dev.net.inbox = t :: r ∧ t.kind = 0 ∧
    pmType t.bytes = mtPDELAY_RESP ∧ (s.dev.cport (0x100 + t.lp) t.piste).preq = some (pmSeq t.bytes) ∧ pmAsked t.bytes = portIdent (t.lp + 1) ∧
    t.bad = false ∧ pmTwoStep t.bytes = false ∧
    (s.dev.takeReturn mtPDELAY_REQ (s.dev.domainOf t.piste) (pmSeq t.bytes) t.lp).2.isSome = true) (at_ (fun d0 => let e := (fun (d : Dev) => ({ d with net := { d.net with returns := [(2, 24, 0, 5, 77, 0)] } }).setCport 0x105 1 { preq := some 0 }) d0; { e with net := { e.net with inbox := [{ kind := 0, lp := 5, bytes := (3 :: List.replicate 43 0 ++ beBytes 10 (portIdent 6)), piste := 1 }] } })) ({ kind := 0, lp := 5, bytes := (3 :: List.replicate 43 0 ++ beBytes 10 (portIdent 6)), piste := 1 }) ([]) := by
  have hp : portIdent 6 % 256 ^ 10 = portIdent 6 := by
    have := Config.clockIdentity.isLt
    simp only [portIdent]; omega
  have hq : beNat (beBytes 10 (portIdent 6)) = portIdent 6 := by rw [beNat_beBytes, hp]
  beta_reduce
  refine ⟨by decide +kernel, rfl, by decide +kernel, by decide +kernel, ?_, ?_, ?_, ?_, ?_⟩ <;> first | decide +kernel | exact hq

theorem wit_PeerDelayAndNegotiation_4 : (fun (s : State) (t : Term) (r : List Term) (x : Int) => s.dev.blockUp bkTIMING = true ∧
    s.dev.net.inbox = t :: r ∧ t.kind = 1 ∧ pmType t.bytes = mtPDELAY_FU ∧
    (s.dev.cport (0x100 + t.lp) t.piste).presp = some (pmSeq t.bytes, x)) (at_ (fun d0 => let e := (fun (d : Dev) => (d).setCport 0x105 1 { presp := some (0, 44) }) d0; { e with net := { e.net with inbox := [{ kind := 1, lp := 5, bytes := [10], piste := 1 }] } })) ({ kind := 1, lp := 5, bytes := [10], piste := 1 }) ([]) (44) := by
  decide +kernel

theorem wit_PeerDelayAndNegotiation_5 : (fun (s : State) (t : Term) (r : List Term) => s.dev.blockUp bkTIMING = true ∧
    s.dev.net.inbox = t :: r ∧ t.kind = 0 ∧ pmType t.bytes = mtPDELAY_REQ ∧ p2pProfile (s.dev.profile t.piste) = true ∧
    t ∉ r) (at_ (fun d0 => let e := (fun (d : Dev) => d.setFld (PTE_PISTE_CTRL 1) PTE_PISTE_CTRL_PROFILE 1) d0; { e with net := { e.net with inbox := [{ kind := 0, lp := 5, bytes := [2], piste := 1 }] } })) ({ kind := 0, lp := 5, bytes := [2], piste := 1 }) ([]) := by
  decide +kernel

theorem wit_PeerDelayAndNegotiation_6 : (fun (s : State) (t : Term) (r : List Term) => s.dev.blockUp bkTIMING = true ∧
    s.dev.net.inbox = t :: r ∧ t.kind = 1 ∧ pmType t.bytes = mtSIGNALING ∧ s.dev.profile t.piste = 4 ∧ be16 t.bytes 44 = tlvCANCEL ∧
    be16 t.bytes 46 = 2 ∧
    t.bytes.length = 50) (at_ (fun d0 => let e := (fun (d : Dev) => ({ d with pte := { d.pte with grants := [⟨1, 5, 9, 9, 0, 11, 0, 99⟩] } }).setFld (PTE_PISTE_CTRL 1) PTE_PISTE_CTRL_PROFILE 4) d0; { e with net := { e.net with inbox := [{ kind := 1, lp := 5, bytes := (12 :: List.replicate 43 0 ++ [0,6,0,2,0xB0,0]), piste := 1 }] } })) ({ kind := 1, lp := 5, bytes := (12 :: List.replicate 43 0 ++ [0,6,0,2,0xB0,0]), piste := 1 }) ([]) := by
  decide +kernel

theorem wit_PeerDelayAndNegotiation_7 : (fun (s : State) (g : Grant) => s.dev.blockUp bkTIMING = true ∧
    s.dev.pte.grants = [g]) (at_ (fun d => { d with pte := { d.pte with grants := [⟨1, 5, 9, 9, 0, 11, 0, 99⟩] } })) (⟨1, 5, 9, 9, 0, 11, 0, 99⟩) := by
  decide +kernel

theorem wit_PeerDelayAndNegotiation_8 : (fun (s : State) (t : Term) (r : List Term) => s.dev.net.inbox = t :: r ∧ t.kind = 1 ∧
    pmType t.bytes = mtANNOUNCE ∧ s.dev.portState (0x100 + t.lp) t.piste = psLISTENING ∧ s.dev.role (0x100 + t.lp) t.piste = roleCLOCK ∧
    (s.dev.cport (0x100 + t.lp) t.piste).ann = none ∧
    t.lp < 256) (at_ (fun d0 => let e := (fun (d : Dev) => (d.setPortState 0x105 1 4).setFld (PTE_PORT_ROLE 0x105) PTE_PORT_ROLE_ROLE_A 2) d0; { e with net := { e.net with inbox := [{ kind := 1, lp := 5, bytes := (11 :: List.replicate 63 0), piste := 1 }] } })) ({ kind := 1, lp := 5, bytes := (11 :: List.replicate 63 0), piste := 1 }) ([]) := by
  decide +kernel

theorem wit_PeerDelayAndNegotiation_9 : (fun (s : State) (p : ClkPortNo) (k : PisteNo) => s.dev.runsT (tAnn p.inst k.inst) = true ∧
    s.dev.pulses = [] ∧
    s.dev.portState p.inst k.inst = psSLAVE) (at_ (fun d => (d.setPortState 0x105 1 9).startT (tAnn 0x105 1) 99)) ((.port 5)) (.A) := by
  decide +kernel

theorem wit_PeerDelayAndNegotiation_10 : (fun (s : State) (k : PisteNo) (n : LpNo) => s.dev.blockUp bkTIMING = true ∧
    s.dev.pzOn k.inst = true ∧ s.dev.bit GLB_STATE GLB_STATE_GAP = false ∧ s.dev.candidates k.inst = [] ∧ s.dev.profile k.inst ≠ 4 ∧
    s.dev.portState (0x100 + n.val) k.inst = psLISTENING ∧
    s.dev.role (0x100 + n.val) k.inst = roleCLOCK) (at_ (fun d => (((d.setPortState 0x105 1 4).setFld (PTE_PORT_ROLE 0x105) PTE_PORT_ROLE_ROLE_A 2).setFld (PTE_PISTE_CTRL 1) PTE_PISTE_CTRL_ENABLE 1).live GLB_STATE GLB_STATE_GAP false)) (.A) (5) := by
  decide +kernel

theorem wit_TrunkTraining_1 : (fun (s : State) (t : TrunkNo) => s.dev.blockUp bkTIMING = true ∧ s.dev.trkState t.val = tsDOWN ∧
    s.dev.trkOn t.val = true ∧ s.dev.cd.pLost = false) (at_ (fun d => d.setFld (TRK_CTRL 1) TRK_CTRL_ENABLE 1)) (1) := by
  decide +kernel

theorem wit_TrunkTraining_2 : (fun (s : State) (t : TrunkNo) => s.dev.blockUp bkTIMING = true) (at_ (fun d => (d).setFld (TRK_STATUS 1) TRK_STATUS_STATE 3)) (1) := by
  decide +kernel

theorem wit_TrunkTraining_3 : (fun (s : State) (t : TrunkNo) => s.dev.blockUp bkTIMING = true ∧
    s.dev.trkState t.val = tsCLOCK) (at_ (fun d => (d).setFld (TRK_STATUS 1) TRK_STATUS_STATE 1)) (1) := by
  decide +kernel

theorem wit_TrunkTraining_4 : (fun (s : State) (t : TrunkNo) => s.dev.runsT (tAlign t.val) = true ∧
    s.dev.pulses = []) (at_ (fun d => ((d).setFld (TRK_STATUS 1) TRK_STATUS_STATE 1).startT (tAlign 1) 99)) (1) := by
  decide +kernel

theorem wit_TrunkTraining_5 : (fun (s : State) (t : TrunkNo) => s.dev.runsT (tTrain t.val) = true ∧
    s.dev.pulses = []) (at_ (fun d => ((d).setFld (TRK_STATUS 1) TRK_STATUS_STATE 2).startT (tTrain 1) 99)) (1) := by
  decide +kernel

theorem wit_TrunkTraining_6 : (fun (s : State) (t : TrunkNo) (x : TrainSet) => s.dev.blockUp bkTIMING = true ∧
    s.dev.trkState t.val = tsTRAIN ∧ (s.dev.trk t.val).decided = true ∧ (s.dev.trk t.val).known = true ∧ 63 ≤ (s.dev.trk t.val).valid ∧
    15 ≤ (s.dev.trk t.val).acks ∧ s.dev.setValid t.val x = true ∧ (List.range 4).all (fun k => x.sym k 3 == 0x5A) = true ∧
    (s.dev.trk t.val).valid ≤ 64) (at_ (fun d => ((d).setFld (TRK_STATUS 1) TRK_STATUS_STATE 2).setTrk 1 { decided := true, known := true, valid := 64, acks := 15 })) (1) (⟨true, 0x5AA34A5AA24A5AA14A5AA04A#96⟩) := by
  decide +kernel

theorem wit_TrunkTraining_7 : (fun (s : State) (t : TrunkNo) (x : TrainSet) => s.dev.blockUp bkTIMING = true ∧
    s.dev.trkState t.val = tsUP) (at_ (fun d => (d).setFld (TRK_STATUS 1) TRK_STATUS_STATE 3)) (1) (⟨true, 0x5AA34A5AA24A5AA14A5AA04A#96⟩) := by
  decide +kernel

theorem wit_TrunkTraining_8 : (fun (s : State) (t : TrunkNo) (n : BitVec 16) => s.dev.blockUp bkTIMING = true ∧ s.dev.trkState t.val = tsUP ∧
    64 < n.toNat) (at_ (fun d => (d).setFld (TRK_STATUS 1) TRK_STATUS_STATE 3)) (1) (65) := by
  decide +kernel

theorem wit_TrunkTraining_9 : (fun (s : State) (t : TrunkNo) => s.dev.accepts (TRK_CTRL t.val) (withBits (s.dev.num (TRK_CTRL t.val) % 2 ^ 48) 1 1 1) ∧
    s.dev.trkOn t.val = true ∧ (s.dev.trk t.val).qual = true ∧ s.dev.cd.pLost = false ∧
    s.dev.trkState t.val ≠ tsDOWN) (at_ (fun d => ((d.setFld (TRK_CTRL 1) TRK_CTRL_ENABLE 1).setFld (TRK_STATUS 1) TRK_STATUS_STATE 3).setTrk 1 { qual := true })) (1) := by
  decide +kernel

theorem wit_TrunkTraining_10 : (fun (s : State) (t : TrunkNo) (f : List Byte) => s.dev.blockUp bkTIMING = true ∧ s.dev.trkState t.val = tsUP ∧
    f.length < 9) (at_ (fun d => (d).setFld (TRK_STATUS 1) TRK_STATUS_STATE 3)) (1) ([1,2]) := by
  decide +kernel

theorem wit_TrunkTraining_11 : (fun (s : State) (t : TrunkNo) (f : List Byte) => s.dev.blockUp bkTIMING = true ∧ s.dev.trkState t.val = tsUP ∧
    byteAt f 0 = 0x10 ∧ 1 ≤ leNat (slice f 2 2) ∧ leNat (slice f 2 2) ≤ 2048 ∧ f.length = 8 + (leNat (slice f 2 2) + 3) / 4 * 4 ∧
    crc32c (f.take (f.length - 4)) = leNat (slice f (f.length - 4) 4)) (at_ (fun d => (d).setFld (TRK_STATUS 1) TRK_STATUS_STATE 3)) (1) ((let b : List Byte := [0x10, 0, 4, 0, 9, 9, 9, 9]; b ++ leBytes 4 (crc32c b))) := by
  decide +kernel

theorem wit_TrunkTime_1 : (fun (s : State) (t : TrunkNo) => s.dev.blockUp bkTIMING = true ∧
    s.dev.trkState t.val = tsUP) (at_ (fun d => (d).setFld (TRK_STATUS 1) TRK_STATUS_STATE 3)) (1) := by
  decide +kernel

theorem wit_TrunkTime_2 : (fun (s : State) (t : TrunkNo) (b : Fin 512) (c : BitVec 32) => s.dev.blockUp bkTIMING = true ∧
    s.dev.trkState t.val = tsUP) (at_ (fun d => (d).setFld (TRK_STATUS 1) TRK_STATUS_STATE 3)) (1) (20) (4000) := by
  decide +kernel

theorem wit_TrunkTime_3 : (fun (s : State) (t : TrunkNo) (w : List Byte) => s.dev.blockUp bkTIMING = true ∧ s.dev.trkState t.val = tsUP ∧
    crc32c (slice w 0 32) ≠ leNat (slice w 32 4)) (at_ (fun d => (d).setFld (TRK_STATUS 1) TRK_STATUS_STATE 3)) (1) ([1]) := by
  decide +kernel

theorem wit_TrunkTime_4 : (fun (s : State) (t : TrunkNo) (w : List Byte) (m : Nat) (coarse : Bool) => s.dev.blockUp bkTIMING = true ∧
    s.dev.trkState t.val = tsUP ∧ crc32c (slice w 0 32) = leNat (slice w 32 4) ∧
    (s.dev.trkTime t.val).mark = some (m, coarse)) (at_ (fun d => ((d).setFld (TRK_STATUS 1) TRK_STATUS_STATE 3).setTrkTime 1 { mark := some (700, false) })) (1) ((let b : List Byte := List.replicate 32 0; b ++ leBytes 4 (crc32c b))) (700) (false) := by
  decide +kernel

theorem wit_TrunkTime_5 : (fun (s : State) (t : TrunkNo) (k : PisteNo) => s.dev.blockUp bkTIMING = true ∧
    s.dev.portState (0x300 + t.val) k.inst ≠ 0 ∧ s.dev.pzOn k.inst = true ∧ 2 ≤ s.dev.role (0x300 + t.val) k.inst ∧
    s.dev.role (0x300 + t.val) k.inst ≤ 4 ∧
    s.dev.inGap = false) (at_ (fun d => (((d.setPortState 0x301 2 9).setFld (PTE_PORT_ROLE 0x301) PTE_PORT_ROLE_ROLE_B 2).setFld (PTE_PISTE_CTRL 2) PTE_PISTE_CTRL_ENABLE 1).live GLB_STATE GLB_STATE_GAP false)) (1) (.B) := by
  decide +kernel

theorem wit_TrunkTime_6 : (fun (s : State) (t : TrunkNo) => s.dev.blockUp bkTIMING = true ∧ s.dev.trkState t.val = tsUP ∧
    s.dev.pwr.handOff = false) (at_ (fun d => ((d).setFld (TRK_STATUS 1) TRK_STATUS_STATE 3).setFld (PTE_PISTE_CTRL 1) PTE_PISTE_CTRL_ENABLE 1)) (1) := by
  decide +kernel

theorem wit_TrunkTime_7 : (fun (s : State) (t : TrunkNo) (k : PisteNo) (x : Term) (r : List Term) => s.dev.blockUp bkTIMING = true ∧
    s.dev.net.inbox = x :: r ∧ x.kind = 5 ∧ x.lp = 256 + t.val ∧ s.dev.pzOn k.inst = true ∧ leNat (slice x.bytes 1 1) = s.dev.domainOf k.inst ∧
    s.dev.portState (0x300 + t.val) k.inst = psLISTENING ∧ s.dev.role (0x300 + t.val) k.inst = roleCLOCK ∧
    (s.dev.cport (0x300 + t.val) k.inst).ann = none) (at_ (fun d0 => let e := (fun (d : Dev) => ((d.setPortState 0x301 1 4).setFld (PTE_PORT_ROLE 0x301) PTE_PORT_ROLE_ROLE_A 2).setFld (PTE_PISTE_CTRL 1) PTE_PISTE_CTRL_ENABLE 1) d0; { e with net := { e.net with inbox := [{ kind := 5, lp := 257, bytes := [0, 24] }] } })) (1) (.A) ({ kind := 5, lp := 257, bytes := [0, 24] }) ([]) := by
  decide +kernel

theorem wit_TrunkTime_8 : (fun (s : State) (t : TrunkNo) => s.dev.blockUp bkTIMING = true ∧ (s.dev.trk t.val).msgs = [] ∧
    s.dev.trkState t.val = tsUP ∧ s.dev.pte.handOff = false ∧
    s.dev.selCand ≠ 4 + t.val) (at_ (fun d => (d).setFld (TRK_STATUS 1) TRK_STATUS_STATE 3)) (1) := by
  decide +kernel

theorem wit_TrunkTime_9 : (fun (s : State) (t : TrunkNo) (x : Term) (r : List Term) => s.dev.blockUp bkTIMING = true ∧
    s.dev.net.inbox = x :: r ∧ x.kind = 6 ∧
    x.lp = 256 + t.val) (at_ (fun d0 => let e := (fun (d : Dev) => d) d0; { e with net := { e.net with inbox := [{ kind := 6, lp := 257, bytes := [1, 0, 0, 0] }] } })) (1) ({ kind := 6, lp := 257, bytes := [1, 0, 0, 0] }) ([]) := by
  decide +kernel

theorem wit_TrunkTime_10 : (fun (s : State) (t : TrunkNo) => s.dev.blockUp bkTIMING = true ∧ s.dev.runsT (tQl t.val) = true ∧
    s.dev.pulses = []) (at_ (fun d => d.startT (tQl 1) 99)) (1) := by
  decide +kernel

theorem wit_TimeOfDay_1 : (fun (s : State) => s.dev.blockUp bkTIMING = true ∧
    (s.dev.fld PTE_TOD_CTRL PTE_TOD_CTRL_OUT_FMT = 1 ∨ s.dev.fld PTE_TOD_CTRL PTE_TOD_CTRL_OUT_FMT = 2)) (at_ (fun d => d.setFld PTE_TOD_CTRL PTE_TOD_CTRL_OUT_FMT 1)) := by
  decide +kernel

theorem wit_TimeOfDay_2 : (fun (s : State) (l : List Byte) => s.dev.blockUp bkTIMING = true ∧ s.dev.fld PTE_TOD_CTRL PTE_TOD_CTRL_IN_FMT = 1 ∧
    readOwn l = none) (at_ (fun d => d.setFld PTE_TOD_CTRL PTE_TOD_CTRL_IN_FMT 1)) ([1]) := by
  decide +kernel

theorem wit_TimeOfDay_3 : (fun (s : State) (l : List Byte) => s.dev.blockUp bkTIMING = true ∧ s.dev.fld PTE_TOD_CTRL PTE_TOD_CTRL_IN_FMT = 1 ∧
    (readOwn l).isSome = true) (at_ (fun d => d.setFld PTE_TOD_CTRL PTE_TOD_CTRL_IN_FMT 1)) ((sentence 35 (joinComma [ascii ['G', 'T', 'O', 'D'], decimal 5, signedDec 37, decimal 0, [76], decimal 6, [65]]))) := by
  decide +kernel

theorem wit_TimeOfDay_4 : (fun (s : State) (k : PisteNo) => s.dev.blockUp bkTIMING = true ∧ s.dev.pzOn k.inst = true ∧
    s.dev.pzExt k.inst = true) (at_ (fun d => ((d.setFld (PTE_PISTE_CTRL 2) PTE_PISTE_CTRL_ENABLE 1).setFld (PTE_PISTE_CTRL 2) PTE_PISTE_CTRL_SOURCE 1).setPiste 2 { run := 3 })) (.B) := by
  decide +kernel

theorem wit_TimeOfDay_5 : (fun (s : State) => s.dev.blockUp bkTIMING = true ∧
    s.dev.active = 2) (at_ (fun d => d.setFld PTE_STATUS PTE_STATUS_ACTIVE 2)) := by
  decide +kernel

theorem wit_EdgeChannels_1 : (fun (s : State) (c : EmuNo) (b : Fin 512) (r : Bool) => s.dev.blockUp bkTIMING = true ∧
    bitsAt (s.dev.fld (EMU_CTRL c.val) EMU_CTRL_EDGE) (if r then 0 else 1) 1 = 1 ∧ (c.val < 8 ∨ s.dev.fld (EMU_SRC c.val) EMU_SRC_TYPE ≠ 0) ∧
    (s.dev.emuCh c.val).last = none) (at_ id) (0) (7) (true) := by
  decide +kernel

theorem wit_EdgeChannels_2 : (fun (s : State) (c : EmuNo) (b : Fin 512) (r : Bool) => s.dev.blockUp bkTIMING = true ∧
    bitsAt (s.dev.fld (EMU_CTRL c.val) EMU_CTRL_EDGE) (if r then 0 else 1) 1 = 1 ∧ (c.val < 8 ∨ s.dev.fld (EMU_SRC c.val) EMU_SRC_TYPE ≠ 0) ∧
    (s.dev.emuCh c.val).last = none ∧ s.dev.fld (EMU_CTRL c.val) EMU_CTRL_QEN = 1 ∧ s.dev.fld (EMU_CTRL c.val) EMU_CTRL_MODE = 0 ∧
    s.dev.num (EMU_DECIM c.val) ≤ 1 ∧
    (s.dev.emuCh c.val).queue.length < 4096) (at_ (fun d => ((d).setFld (EMU_CTRL 0) EMU_CTRL_MODE 0).setFld (EMU_CTRL 0) EMU_CTRL_QEN 1)) (0) (7) (true) := by
  decide +kernel

theorem wit_EdgeChannels_3 : (fun (s : State) (c : EmuNo) (x : EdgeAt) => s.dev.blockUp bkTIMING = true ∧ (s.dev.emuCh c.val).start = some x ∧
    (s.dev.emuCh c.val).queue.length < 4096) (at_ (fun d => d.setEmuCh 3 { start := some { at_ := 0, cyc := 0, count := 0, raw := false, coarse := false, era := 0, ns := 0, fine := 0, osc := 0 } })) (3) ({ at_ := 0, cyc := 0, count := 0, raw := false, coarse := false, era := 0, ns := 0, fine := 0, osc := 0 }) := by
  decide +kernel

theorem wit_EdgeChannels_4 : (fun (s : State) (c : EmuNo) => s.dev.blockUp bkTIMING = true ∧ s.dev.fld (EMU_CTRL c.val) EMU_CTRL_QEN = 1 ∧
    s.dev.fld (EMU_CTRL c.val) EMU_CTRL_MODE = 2 ∧
    (s.dev.emuCh c.val).queue.length < 4096) (at_ (fun d => ((d).setFld (EMU_CTRL 0) EMU_CTRL_MODE 2).setFld (EMU_CTRL 0) EMU_CTRL_QEN 1)) (0) := by
  decide +kernel

theorem wit_EdgeChannels_5 : (fun (s : State) (c : EmuNo) => s.dev.blockUp bkTIMING = true ∧ s.dev.runsT (tNoEdge c.val) = true ∧
    s.dev.pulses = []) (at_ (fun d => d.startT (tNoEdge 3) 99)) (3) := by
  decide +kernel

theorem wit_EdgeChannels_6 : (fun (s : State) (c : EmuNo) (v : BitVec 32) => s.dev.blockUp bkTIMING = true ∧ s.dev.host.linkUp = true ∧
    s.dev.emuDma c.val = none ∧ (s.dev.emuCh c.val).rd < 0x10000 ∧
    (v.toNat % 0x10000 + 0x10000 - (s.dev.emuCh c.val).rd) % 0x10000 ≤ (s.dev.emuCh c.val).queue.length) (at_ (fun d => d.setEmuCh 3 { queue := [[1], [2], [3]], rd := 0xFFFF })) (3) (1) := by
  decide +kernel

theorem wit_EdgeChannels_7 : (fun (s : State) (c : EmuNo) (j : Fin 8) (h : DmaHold) => s.dev.runsT (tFlush c.val) = true ∧
    (s.dev.ch (48 + j.val)).hold = some h ∧ h.kind = 1 ∧
    (entryChans h.bytes).contains c.val = true) (at_ (fun d => ({ d with dma := [(49, { state := 1, hold := some { at_ := 64, ctrl := 0x100, next := 0, kind := 1, bytes := List.replicate 12 0 ++ [3, 0, 0, 0] } })] }).startT (tFlush 3) 99)) (3) (1) ({ at_ := 64, ctrl := 0x100, next := 0, kind := 1, bytes := List.replicate 12 0 ++ [3, 0, 0, 0] }) := by
  decide +kernel

theorem wit_EdgeChannels_8 : (fun (s : State) (c : EmuNo) (v : Word) => s.dev.accepts (EMU_CTRL c.val) v.toNat) (at_ id) (3) (1) := by
  decide +kernel

theorem wit_EdgeTiming_1 : (fun (s : State) => s.dev.blockUp bkTIMING = true) (at_ (fun d => d.live EMU_GLB_STATUS EMU_GLB_STATUS_LOCK false)) := by
  decide +kernel

theorem wit_EdgeTiming_2 : (fun (s : State) => s.dev.blockUp bkTIMING = true ∧
    s.dev.bit EMU_GLB_STATUS EMU_GLB_STATUS_LOCK = true) (at_ (fun d => d.live EMU_GLB_STATUS EMU_GLB_STATUS_LOCK true)) := by
  decide +kernel

theorem wit_EdgeTiming_3 : (fun (s : State) (c : EmuNo) (h : List Nat) => s.dev.blockUp bkTIMING = true ∧
    testBad h = true) (at_ id) (3) ([9000]) := by
  decide +kernel

theorem wit_EdgeTiming_4 : (fun (s : State) => s.dev.blockUp bkTIMING = true ∧ s.dev.setLive = false) (at_ id) := by
  decide +kernel

theorem wit_Candidates_1 : (fun (s : State) (i : CandNo) => s.dev.blockUp bkTIMING = true ∧ i.val < 3 ∧
    s.dev.candState (i.val + 1) ≠ rcDISABLED ∧ s.dev.candState (i.val + 1) ≠ rcFAILED ∧ (s.dev.cand (i.val + 1)).aging = false ∧
    s.dev.pulses = []) (at_ (fun d => (d).setFld (REFC_STATUS 2) REFC_STATUS_STATE 3)) (1) := by
  decide +kernel

theorem wit_Candidates_2 : (fun (s : State) (i : CandNo) => s.dev.blockUp bkTIMING = true ∧ s.dev.candState (i.val + 1) = rcFAILED ∧
    s.dev.candCond (i.val + 1) = 0 ∧
    s.dev.qlEn = false) (at_ (fun d => (((d).setFld (REFC_STATUS 2) REFC_STATUS_STATE 1).setFld REFC_GLB_CTRL REFC_GLB_CTRL_QL_EN 0).setEmuCh 1 { edge := some 0 })) (1) := by
  decide +kernel

theorem wit_Candidates_3 : (fun (s : State) (i : CandNo) => s.dev.runsT (tWtr (i.val + 1)) = true ∧
    s.dev.candState (i.val + 1) = rcQUALIFYING ∧
    s.dev.pulses = []) (at_ (fun d => ((d).setFld (REFC_STATUS 2) REFC_STATUS_STATE 2).startT (tWtr 2) 99)) (1) := by
  decide +kernel

theorem wit_Candidates_4 : (fun (s : State) (i : CandNo) => s.dev.blockUp bkTIMING = true ∧ s.dev.suspect (i.val + 1) = true ∧
    1000 ≤ (s.dev.cand (i.val + 1)).clean) (at_ (fun d => (d.live (REFC_STATUS 2) REFC_STATUS_SUSPECT true).setCand 2 { clean := 1000 })) (1) := by
  decide +kernel

theorem wit_Candidates_5 : (fun (s : State) (i : CandNo) (v : Word) => s.dev.accepts (REFC_CTRL (i.val + 1)) v.toNat ∧
    s.dev.fld (REFC_CTRL (i.val + 1)) REFC_CTRL_ENABLE = 1 ∧
    REFC_CTRL_ENABLE.of (BitVec.ofNat 96 v.toNat) = 0) (at_ (fun d => ((d).setFld (REFC_STATUS 2) REFC_STATUS_STATE 3).setFld (REFC_CTRL 2) REFC_CTRL_ENABLE 1)) (1) (0) := by
  decide +kernel

theorem wit_Candidates_6 : (fun (s : State) (v : Word) => s.dev.accepts REFC_GLB_CTRL v.toNat) (at_ id) (4) := by
  decide +kernel

theorem wit_Candidates_7 : (fun (s : State) => s.dev.accepts REFC_MODEL_CTRL (withBits (s.dev.num REFC_MODEL_CTRL % 2 ^ 48) 47 1 1)) (at_ (fun d => { d.putNum REFC_MODEL_Y0 5 with refc := { d.refc with points := [⟨1, 2, 3⟩] } })) := by
  decide +kernel

theorem wit_Selector_1 : (fun (s : State) (θ : BitVec 24) => s.dev.blockUp bkTIMING = true ∧
    s.dev.selState = selLOCKED) (at_ (fun d => (d).setFld REFC_GLB_STATUS REFC_GLB_STATUS_SEL_STATE 2)) (25000) := by
  decide +kernel

theorem wit_Selector_2 : (fun (s : State) (θ : BitVec 24) => s.dev.blockUp bkTIMING = true ∧
    s.dev.selState = selGLIDE) (at_ (fun d => (d).setFld REFC_GLB_STATUS REFC_GLB_STATUS_SEL_STATE 3)) (25000) := by
  decide +kernel

theorem wit_Selector_3 : (fun (s : State) => s.dev.blockUp bkTIMING = true ∧ s.dev.selState = selLOCKING ∧
    16 ≤ s.dev.refc.within) (at_ (fun d => { (d).setFld REFC_GLB_STATUS REFC_GLB_STATUS_SEL_STATE 1 with refc := { d.refc with within := 16 } })) := by
  decide +kernel

theorem wit_Selector_4 : (fun (s : State) (c : Nat) => s.dev.blockUp bkTIMING = true ∧
    s.dev.bit EMU_GLB_STATUS EMU_GLB_STATUS_COARSE = false ∧ s.dev.chosen = some c ∧ s.dev.selCand ≠ c ∧
    c < 16) (at_ (fun d => (((((d).setFld (REFC_STATUS 2) REFC_STATUS_STATE 3).setFld (REFC_CTRL 2) REFC_CTRL_PRIORITY 5).setFld REFC_GLB_CTRL REFC_GLB_CTRL_MODE 0).setFld REFC_GLB_CTRL REFC_GLB_CTRL_QL_EN 0).live EMU_GLB_STATUS EMU_GLB_STATUS_COARSE false)) (2) := by
  decide +kernel

theorem wit_Selector_5 : (fun (s : State) => s.dev.blockUp bkTIMING = true ∧ s.dev.selState = selGLIDE ∧
    s.dev.num REFC_HO_MAX ≤ s.dev.num REFC_HO_ELAPSED ∧
    s.dev.chosen = none) (at_ (fun d => ((d).setFld REFC_GLB_STATUS REFC_GLB_STATUS_SEL_STATE 3).putNum REFC_HO_ELAPSED (d.num REFC_HO_MAX))) := by
  decide +kernel

theorem wit_Selector_6 : (fun (s : State) => s.dev.blockUp bkTIMING = true) (at_ (fun d => { d with refc := { d.refc with learnOk := true, learnN := 1000, learnX := 77 } })) := by
  decide +kernel

theorem wit_Selector_7 : (fun (s : State) (t : Term) (r : List Term) (q : Nat × Nat × Nat) => s.dev.blockUp bkTIMING = true ∧
    s.dev.net.inbox = t :: r ∧ t.kind = 2 ∧ esmcOf t.bytes = some q ∧
    t.lp < 256) (at_ (fun d => { d with net := { d.net with inbox := [{ kind := 2, lp := 5, bytes := (0x0A :: [0x00, 0x19, 0xA7, 0, 1, 0x10, 0, 0, 0, 1, 0, 4, 2]) }] } })) ({ kind := 2, lp := 5, bytes := (0x0A :: [0x00, 0x19, 0xA7, 0, 1, 0x10, 0, 0, 0, 1, 0, 4, 2]) }) ([]) ((0xFF2, 0, 0)) := by
  decide +kernel

theorem wit_Selector_8 : (fun (s : State) (n : LpNo) => s.dev.runsT (tEsmc n.val) = true ∧
    s.dev.pulses = []) (at_ (fun d => d.startT (tEsmc 5) 99)) (5) := by
  decide +kernel

theorem wit_Selector_9 : (fun (s : State) (n : LpNo) => s.dev.blockUp bkCORE = true ∧
    s.dev.fld (REFC_ESMC_CTRL n.val) REFC_ESMC_CTRL_TX_EN = 1) (at_ (fun d => d.setFld (REFC_ESMC_CTRL 5) REFC_ESMC_CTRL_TX_EN 1)) (5) := by
  decide +kernel

theorem wit_Selector_10 : (fun (s : State) (n : LpNo) => s.dev.blockUp bkCORE = true ∧
    s.dev.fld (REFC_ESMC_CTRL n.val) REFC_ESMC_CTRL_TX_EN = 1 ∧
    Tbl.get s.dev.refc.esmcSent 0 n.val ≠ s.dev.esmcLevel n.val) (at_ (fun d => (d.setFld (REFC_ESMC_CTRL 5) REFC_ESMC_CTRL_TX_EN 1).setFld REFC_OUT_QL REFC_OUT_QL_OUT 0x212)) (5) := by
  decide +kernel

theorem wit_ClockDomains_1 : (fun (s : State) (i : DomainNo) (v : Word) => s.dev.accepts (CD_PLL_DIV i.val) v.toNat) (at_ id) (3) ((200 * 0x1000000 + 4 * 0x100000000)) := by
  decide +kernel

theorem wit_ClockDomains_2 : (fun (s : State) (i : DomainNo) => s.dev.blockUp bkTIMING = true ∧ i.val ≠ 1 ∧ i.val ≠ 2 ∧
    s.dev.onBypass i.val = true ∧ s.dev.pwr.coreOff = false) (at_ (fun d => d.live (CD_STATUS 3) CD_STATUS_BYPASS true)) (3) := by
  decide +kernel

theorem wit_ClockDomains_3 : (fun (s : State) (i : DomainNo) => s.dev.blockUp bkTIMING = true ∧ i.val = 1 ∧
    s.dev.cd.pLost = true) (at_ (fun d => { d with cd := { d.cd with pLost := true } })) (1) := by
  decide +kernel

theorem wit_ClockDomains_4 : (fun (s : State) (i : DomainNo) => s.dev.blockUp bkTIMING = true ∧ i.val = 2 ∧
    s.dev.onBypass 2 = true) (at_ (fun d => d.live (CD_STATUS 2) CD_STATUS_BYPASS true)) (2) := by
  decide +kernel

theorem wit_ClockDomains_5 : (fun (s : State) (i : DomainNo) => s.dev.runsT (tLock i.val) = true ∧
    s.dev.pulses = []) (at_ (fun d => d.startT (tLock 3) 99)) (3) := by
  decide +kernel

theorem wit_ClockDomains_6 : (fun (s : State) (i : DomainNo) (t : Nat) => Tbl.get s.dev.net.timers none (tRelock i.val) = some t) (at_ (fun d => d.startT (tRelock 3) 99)) (3) (99) := by
  decide +kernel

theorem wit_ClockDomains_7 : (fun (s : State) (i : DomainNo) => s.dev.blockUp bkTIMING = true ∧ i.val ≠ 1 ∧ s.dev.onBypass i.val = false ∧
    s.dev.pwr.coreOff = false) (at_ id) (3) := by
  decide +kernel

theorem wit_ClockDomains_8 : (fun (s : State) (i : DomainNo) (t : TrunkNo) => s.dev.blockUp bkTIMING = true ∧ i.val = 1 ∧
    s.dev.cd.pLost = false) (at_ (fun d => d.setFld (TRK_STATUS 1) TRK_STATUS_STATE 3)) (1) (1) := by
  decide +kernel

theorem wit_DomainAlignment_1 : (fun (s : State) => s.dev.blockUp bkTIMING = true ∧ s.dev.onBypass 2 = false ∧ 0 ≤ s.dev.cd.slewRest ∧
    s.dev.cd.slewRest < 1000 ∧ 0 ≤ s.dev.int CD_SLEW_RATE ∧ s.dev.int CD_SLEW_RATE ≤ s.dev.int CD_ACQ_RATE ∧ -(200000 * 65536 : Int) ≤ s.dev.pll ∧
    s.dev.pll ≤ (200000 * 65536 : Int)) (at_ (fun d => (d.live (CD_STATUS 2) CD_STATUS_BYPASS false).putInt CD_T_TARGET 5000000)) := by
  decide +kernel

theorem wit_DomainAlignment_2 : (fun (s : State) => s.dev.accepts CD_SYNC_CTRL 2) (at_ id) := by
  decide +kernel

theorem wit_DomainAlignment_3 : (fun (s : State) => s.dev.accepts CD_SYNC_CTRL 1) (at_ (fun d => { d with pwr := { d.pwr with coreOff := true } })) := by
  decide +kernel

theorem wit_DomainAlignment_4 : (fun (s : State) => s.dev.blockUp bkTIMING = true ∧
    (s.dev.cd.syncEmu || s.dev.cd.syncPort) = true) (at_ (fun d => { d with cd := { d.cd with syncPort := true } })) := by
  decide +kernel

theorem wit_CalibrationEvents_1 : (fun (s : State) (g : CageNo) (τ : Word) (n : BitVec 16) (m : BitVec 32) (x : Bool) => s.dev.blockUp bkTIMING = true ∧
    s.dev.laneState (0x200 + g.val) = lnREADY ∧
    n.toNat ≠ 256) (at_ (fun d => d.setFld (LANE_STATUS 0x205) LANE_STATUS_STATE (lnREADY))) (5) (900000) (255) (1) (false) := by
  decide +kernel

theorem wit_CalibrationEvents_2 : (fun (s : State) (g : CageNo) (τ : Word) (n : BitVec 16) (m : BitVec 32) (x : Bool) => s.dev.blockUp bkTIMING = true ∧
    s.dev.laneState (0x200 + g.val) = lnREADY ∧ n.toNat = 256 ∧ m.toNat * 1000 ≤ 5 * 65536 ∧ x = false ∧
    s.dev.coarse = false) (at_ (fun d => ((d.setFld (LANE_STATUS 0x205) LANE_STATUS_STATE (lnREADY)).live EMU_GLB_STATUS EMU_GLB_STATUS_LOCK true).live (CD_STATUS 2) CD_STATUS_BYPASS false)) (5) (900000) (256) (1) (false) := by
  decide +kernel

theorem wit_CalibrationEvents_3 : (fun (s : State) (g : CageNo) => s.dev.runsT (tStale g.val) = true ∧
    s.dev.pulses = []) (at_ (fun d => d.startT (tStale 5) 99)) (5) := by
  decide +kernel

theorem wit_CalibrationEvents_4 : (fun (s : State) (r : CalRun) => s.dev.cal.run = some r ∧ r.phase = 1 ∧
    s.dev.lanesReady (crTarget r.par) = true ∧
    s.dev.flagBits (crTarget r.par) = 0) (at_ (fun d => (lanesUp ((d).setRun (some ⟨[7,0,4,0, 0,0,100,0] ++ List.replicate 32 0, none, 1, [], [], {}⟩))).live (TSU_STATUS 0) TSU_STATUS_VAR false)) (⟨[7,0,4,0, 0,0,100,0] ++ List.replicate 32 0, none, 1, [], [], {}⟩) := by
  decide +kernel

theorem wit_CalibrationEvents_5 : (fun (s : State) (r : CalRun) => s.dev.cal.run = some r ∧ r.phase = 1 ∧ s.dev.runsT tCalLink = true ∧
    s.dev.pulses = []) (at_ (fun d => ((d).setRun (some ⟨[7,0,4,0, 0,0,100,0] ++ List.replicate 32 0, none, 1, [], [], {}⟩)).startT tCalLink 99)) (⟨[7,0,4,0, 0,0,100,0] ++ List.replicate 32 0, none, 1, [], [], {}⟩) := by
  decide +kernel

theorem wit_CalibrationEvents_6 : (fun (s : State) (r : CalRun) (l : List (List (Int × Bool))) => s.dev.cal.run = some r ∧ r.phase = 2 ∧
    s.dev.runsT tCalWin = true ∧ s.dev.pulses = [] ∧ crKind r.par ≠ crENTER ∧
    ((r.sums l).map (·.n)).foldl min (((r.sums l).map (·.n)).headD 0) < 16) (at_ (fun d => ((d).setRun (some ⟨[7,0,1,0, 0,0,100,0] ++ List.replicate 32 0, none, 2, [], [], {}⟩)).startT tCalWin 99)) (⟨[7,0,1,0, 0,0,100,0] ++ List.replicate 32 0, none, 2, [], [], {}⟩) ([]) := by
  decide +kernel

theorem wit_CalibrationEvents_7 : (fun (s : State) => s.dev.accepts CAL_CTRL (withBits (s.dev.num CAL_CTRL % 2 ^ 48) 32 1 1) ∧
    s.dev.bit CAL_STATUS CAL_STATUS_USER = false ∧ s.dev.cal.run = none ∧ s.dev.userWear = false) (at_ id) := by
  decide +kernel

theorem wit_PortLinks_1 : (fun (s : State) (n : LpNo) (u : Bool) => s.dev.accepts (MAC_CTRL n.val) (withBits (s.dev.num (MAC_CTRL n.val) % 2 ^ 48) 0 1 u.toNat) ∧
    u = true ∧ s.dev.lpState n.val = lkADMIN_DOWN) (at_ id) (0) (true) := by
  decide +kernel

theorem wit_PortLinks_2 : (fun (s : State) (n : LpNo) (u : Bool) => s.dev.accepts (MAC_CTRL n.val) (withBits (s.dev.num (MAC_CTRL n.val) % 2 ^ 48) 0 1 u.toNat) ∧
    u = false ∧
    s.dev.lpState n.val = lkUP) (at_ (fun d => ((d).setFld (MAC_STATUS 0) MAC_STATUS_STATE 5).setFld (MAC_CTRL 0) MAC_CTRL_ADMIN 1)) (0) (false) := by
  decide +kernel

theorem wit_PortLinks_3 : (fun (s : State) (n : LpNo) => s.dev.blockUp bkCORE = true ∧ s.dev.lanesReady n.val = true ∧
    s.dev.lpState n.val = lkDOWN ∧ (s.dev.link n.val).flushing = false) (at_ (fun d => (lanesUp d).setFld (MAC_STATUS 0) MAC_STATUS_STATE 2)) (0) := by
  decide +kernel

theorem wit_PortLinks_4 : (fun (s : State) (n : LpNo) => s.dev.blockUp bkCORE = true ∧ s.dev.lanesReady n.val = true ∧
    s.dev.lpState n.val = lkDOWN ∧
    (s.dev.link n.val).flushing = true) (at_ (fun d => ((lanesUp d).setFld (MAC_STATUS 0) MAC_STATUS_STATE 2).setLink 0 { flushing := true })) (0) := by
  decide +kernel

theorem wit_PortLinks_5 : (fun (s : State) (n : LpNo) => s.dev.runsT (tHold n.val) = true ∧ s.dev.pulses = [] ∧ s.dev.lpState n.val = lkHOLD ∧
    (s.dev.link n.val).good = true ∧
    (s.dev.link n.val).broken = false) (at_ (fun d => (((d).setFld (MAC_STATUS 0) MAC_STATUS_STATE 4).setLink 0 { good := true }).startT (tHold 0) 99)) (0) := by
  decide +kernel

theorem wit_PortLinks_6 : (fun (s : State) (n : LpNo) (b : Break) => s.dev.blockUp bkCORE = true ∧ (s.dev.link n.val).good = true ∧
    s.dev.lpState n.val = lkUP ∧ s.dev.fld (MAC_TIMERS n.val) MAC_TIMERS_DOWN_DEBOUNCE ≠ 0 ∧
    s.dev.runsT (tDebounce n.val) = false) (at_ (fun d => ((d).setFld (MAC_STATUS 0) MAC_STATUS_STATE 5).setFld (MAC_TIMERS 0) MAC_TIMERS_DOWN_DEBOUNCE 7 |>.setLink 0 { good := true })) (0) (.lanes) := by
  decide +kernel

theorem wit_PortLinks_7 : (fun (s : State) (n : LpNo) (b : Break) => s.dev.blockUp bkCORE = true ∧ (s.dev.link n.val).good = true ∧
    s.dev.lpState n.val = lkUP ∧
    s.dev.fld (MAC_TIMERS n.val) MAC_TIMERS_DOWN_DEBOUNCE = 0) (at_ (fun d => ((d).setFld (MAC_STATUS 0) MAC_STATUS_STATE 5).setFld (MAC_TIMERS 0) MAC_TIMERS_DOWN_DEBOUNCE 0 |>.setLink 0 { good := true })) (0) (.lanes) := by
  decide +kernel

theorem wit_PortLinks_8 : (fun (s : State) (n : LpNo) => s.dev.runsT (tDebounce n.val) = true ∧ s.dev.pulses = [] ∧
    s.dev.lpState n.val = lkUP) (at_ (fun d => (((d).setFld (MAC_STATUS 0) MAC_STATUS_STATE 5).setLink 0 { good := true, broken := true }).startT (tDebounce 0) 99)) (0) := by
  decide +kernel

theorem wit_PortLinks_9 : (fun (s : State) (n : LpNo) => s.dev.blockUp bkCORE = true ∧ (s.dev.link n.val).flushing = true ∧
    s.dev.lpState n.val = lkFLUSHING) (at_ (fun d => ((d).setFld (MAC_STATUS 0) MAC_STATUS_STATE 3).setLink 0 { flushing := true })) (0) := by
  decide +kernel

theorem wit_PortLinks_10 : (fun (s : State) (c : CageNo) (v : Word) => s.dev.accepts (MAC_CAGE_CTRL c.val) v.toNat) (at_ id) (3) (2) := by
  decide +kernel

theorem wit_PauseAndRecovery_1 : (fun (s : State) (n : LpNo) (k : RxTerms) (f : List Byte) (c : BitVec 32) (x : Bool) => s.dev.blockUp bkCORE = true ∧
    (s.dev.speedOf n.val).isSome = true ∧ s.dev.lpUp n.val = true ∧ s.dev.pwr.handOff = false ∧ s.dev.receiving n.val = none ∧
    macControl f = true ∧ rxCheck x (f.length + 4) (s.dev.num (MAC_MAX_LEN n.val)) (crc32 f == c.toNat) = 0 ∧
    beNat (slice f 0 6) = 0x0180C2000001 ∧
    be16 f 14 = 1) (at_ (fun d => (d).setFld (MAC_STATUS 0) MAC_STATUS_STATE 5)) (0) ({ lane := 0, dsk := 0, pos := 0, am := 0, g := 0 }) (([1,0x80,0xC2,0,0,1,2,0,0,0,0,1,0x88,8,0,1,0,9] ++ List.replicate 42 0)) ((BitVec.ofNat 32 (crc32 ([1,0x80,0xC2,0,0,1,2,0,0,0,0,1,0x88,8,0,1,0,9] ++ List.replicate 42 0)))) (false) := by
  decide +kernel

theorem wit_PauseAndRecovery_2 : (fun (s : State) (n : LpNo) (p : Fin 8) => s.dev.runsT (tPause n.val p.val) = true ∧
    s.dev.pulses = []) (at_ (fun d => (d.setFldBit (MAC_STATUS 5) MAC_STATUS_PAUSED 3 true).startT (tPause 5 3) 99)) (5) (3) := by
  decide +kernel

theorem wit_PauseAndRecovery_3 : (fun (s : State) (n : LpNo) (p : Fin 8) => s.dev.runsT (tWatch n.val p.val) = true ∧
    s.dev.pulses = []) (at_ (fun d => d.startT (tWatch 5 3) 99)) (5) (3) := by
  decide +kernel

theorem wit_PauseAndRecovery_4 : (fun (s : State) (n : LpNo) (p : Fin 8) => s.dev.runsT (tRelease n.val p.val) = true ∧
    s.dev.pulses = []) (at_ (fun d => (d.setFldBit (MAC_STATUS 5) MAC_STATUS_WD_CLASS 3 true).startT (tRelease 5 3) 99)) (5) (3) := by
  decide +kernel

theorem wit_PauseAndRecovery_5 : (fun (s : State) (n : LpNo) (p : Fin 8) => s.dev.runsT (tmr 1 (n.val * 8 + p.val)) = true) (at_ (fun d => d.startT (tmr 1 43) 99)) (5) (3) := by
  decide +kernel

theorem wit_PauseAndRecovery_6 : (fun (s : State) (x : StreamNo) => s.dev.runsT (tmr 2 x.val) = true ∧
    s.dev.pulses = []) (at_ (fun d => (d.setRcvy 7 { first := false, hist := 5 }).startT (tmr 2 7) 99)) (7) := by
  decide +kernel

theorem wit_PauseAndRecovery_7 : (fun (s : State) (x : StreamNo) (v : Word) => s.dev.accepts (FRER_CTRL x.val) v.toNat ∧
    FRER_CTRL_ALG.of (BitVec.ofNat 96 v.toNat) ≠ s.dev.fld (FRER_CTRL x.val) FRER_CTRL_ALG) (at_ id) (7) ((BitVec.ofNat 48 (FRER_CTRL_ALG.into (itemDefault (FRER_CTRL 7)) 1).toNat)) := by
  decide +kernel

theorem wit_PauseAndRecovery_8 : (fun (s : State) (x : StreamNo) (v : Word) => s.dev.accepts (FRER_CTRL x.val) v.toNat ∧
    FRER_CTRL_ALG.of (BitVec.ofNat 96 v.toNat) = s.dev.fld (FRER_CTRL x.val) FRER_CTRL_ALG ∧
    FRER_CTRL_HISTORY.of (BitVec.ofNat 96 v.toNat) = s.dev.fld (FRER_CTRL x.val) FRER_CTRL_HISTORY ∧
    FRER_CTRL_RECOVER.of (BitVec.ofNat 96 v.toNat) = s.dev.fld (FRER_CTRL x.val) FRER_CTRL_RECOVER) (at_ id) (7) ((BitVec.ofNat 48 (FRER_CTRL_ALG.into (itemDefault (FRER_CTRL 7)) 0).toNat)) := by
  decide +kernel

theorem wit_QueuesAndShadows_1 : (fun (s : State) (r : BitVec 8) (v : Word) => s.dev.accepts (CLS_PUNT_CTRL r.toNat) v.toNat) (at_ id) (3) (0x50003E8) := by
  decide +kernel

theorem wit_QueuesAndShadows_2 : (fun (s : State) (k : PoolNo) => s.dev.accepts RINK_CTRL 1) (at_ id) (2) := by
  decide +kernel

theorem wit_QueuesAndShadows_3 : (fun (s : State) (k : PoolNo) (v : Word) => s.dev.accepts (RINK_POOL_LIM (k.val + 1)) v.toNat) (at_ (fun d => d.setPool 2 { count := 1024 })) (2) ((5 + 7 * 0x1000000)) := by
  decide +kernel

theorem wit_QueuesAndShadows_4 : (fun (s : State) (q : QueueNo) (c : Copy) => s.dev.blockUp bkCORE = true ∧ s.dev.queue q.val = [c] ∧
    s.dev.headOld q.val = true ∧
    s.dev.frame? c.fid = none) (at_ (fun d => { d.setFld (Q_CTRL 5) Q_CTRL_AGE 1 with net := { d.net with queues := [(5, [{ fid := 1, q := 5 }])], ticks := 5000000 } })) (5) ({ fid := 1, q := 5 }) := by
  decide +kernel

theorem wit_QueuesAndShadows_5 : (fun (s : State) (q : QueueNo) => s.dev.headOld q.val = false) (at_ id) (5) := by
  decide +kernel

theorem wit_QueuesAndShadows_6 : (fun (s : State) (x : ShadowNo) (a : Bool) => s.dev.accepts (shadowItemOf x) (1 + 4 * a.toNat)) (at_ id) ((.shp 4)) (false) := by
  decide +kernel

theorem wit_QueuesAndShadows_7 : (fun (s : State) (x : ShadowNo) => s.dev.accepts (shadowItemOf x) 2 ∧
    s.dev.fld (shadowItemOf x) SHP_SHADOW_STATE ≠ 3) (at_ (fun d => d.setFld (POL_SHADOW 4) SHP_SHADOW_STATE 1)) ((.pol 4)) := by
  decide +kernel

theorem wit_QueuesAndShadows_8 : (fun (s : State) (i : Fin 2560) => s.dev.accepts (SHP_RESET_BUCKET i.val) 1) (at_ id) (4) := by
  decide +kernel

theorem wit_LaneBringUp_1 : (fun (s : State) (l : LaneNo) => s.dev.blockUp bkCORE = true ∧
    s.dev.laneState l.val = lnWAIT) (at_ (fun d => (d).setFld (LANE_STATUS 0) LANE_STATUS_STATE 1)) (0) := by
  decide +kernel

theorem wit_LaneBringUp_2 : (fun (s : State) (l : LaneNo) => s.dev.blockUp bkCORE = true ∧ s.dev.laneState l.val = lnCDR ∧
    s.dev.fld (LANE_CTRL l.val) LANE_CTRL_TRAIN_EN = 1) (at_ (fun d => ((d).setFld (LANE_STATUS 0) LANE_STATUS_STATE 2).setFld (LANE_CTRL 0) LANE_CTRL_TRAIN_EN 1)) (0) := by
  decide +kernel

theorem wit_LaneBringUp_3 : (fun (s : State) (l : LaneNo) => s.dev.blockUp bkCORE = true ∧ s.dev.laneState l.val = lnCDR ∧
    s.dev.fld (LANE_CTRL l.val) LANE_CTRL_TRAIN_EN = 0) (at_ (fun d => ((d).setFld (LANE_STATUS 0) LANE_STATUS_STATE 2).setFld (LANE_CTRL 0) LANE_CTRL_TRAIN_EN 0)) (0) := by
  decide +kernel

theorem wit_LaneBringUp_4 : (fun (s : State) (l : LaneNo) (v : BitVec 32) => s.dev.blockUp bkCORE = true ∧
    s.dev.laneState l.val = lnTRAIN) (at_ (fun d => (d).setFld (LANE_STATUS 0) LANE_STATUS_STATE 3)) (0) (77) := by
  decide +kernel

theorem wit_LaneBringUp_5 : (fun (s : State) (l : LaneNo) => s.dev.blockUp bkCORE = true ∧ s.dev.laneState l.val = lnADAPT ∧
    s.dev.converged l.val = true) (at_ (fun d => ((d).setFld (LANE_STATUS 0) LANE_STATUS_STATE 4).setLane 0 { demands := List.replicate 64 [1, 2, 3, 4, 5, 6] })) (0) := by
  decide +kernel

theorem wit_LaneBringUp_6 : (fun (s : State) (l : LaneNo) (v : List Int) (x : Fin 6) => s.dev.blockUp bkCORE = true ∧
    (s.dev.laneState l.val = lnADAPT ∨ s.dev.laneState l.val = lnREADY) ∧
    s.dev.loopLo (eqLoop l.val x.val) ≤ s.dev.int (LANE_EQ_VALUE l.val x.val) ∧
    s.dev.int (LANE_EQ_VALUE l.val x.val) ≤ s.dev.loopHi (eqLoop l.val x.val)) (at_ (fun d => (d).setFld (LANE_STATUS 0) LANE_STATUS_STATE 5)) (0) ([9, -9]) (0) := by
  decide +kernel

theorem wit_LaneBringUp_7 : (fun (s : State) (l : LaneNo) => s.dev.runsT (tLane l.val) = true ∧ s.dev.pulses = [] ∧
    lnCDR ≤ s.dev.laneState l.val ∧
    s.dev.laneState l.val ≤ lnREADY) (at_ (fun d => ((d).setFld (LANE_STATUS 0) LANE_STATUS_STATE 4).startT (tLane 0) 99)) (0) := by
  decide +kernel

theorem wit_LaneBringUp_8 : (fun (s : State) (l : LaneNo) => s.dev.blockUp bkCORE = true ∧ lnCDR ≤ s.dev.laneState l.val ∧
    s.dev.laneState l.val ≤ lnREADY) (at_ (fun d => (d).setFld (LANE_STATUS 0) LANE_STATUS_STATE 5)) (0) := by
  decide +kernel

theorem wit_LaneBringUp_9 : (fun (s : State) (l : LaneNo) => s.dev.accepts (LANE_CTRL l.val) (withBits (s.dev.num (LANE_CTRL l.val) % 2 ^ 48) 0 1 1) ∧
    s.dev.laneMay l.val = true ∧ lnCDR ≤ s.dev.laneState l.val ∧
    s.dev.laneState l.val ≤ lnREADY) (at_ (fun d => ((d).setFld (LANE_STATUS 0) LANE_STATUS_STATE 5).setFld (MAC_CTRL 0) MAC_CTRL_ADMIN 1)) (0) := by
  decide +kernel

theorem wit_ChipletAndTests_1 : (fun (s : State) (b : BundleNo) (c : BitVec 16) => s.dev.blockUp bkCORE = true ∧
    s.dev.laneState (0x300 + b.val) = lnREADY ∧ 16 < c.toNat) (at_ (fun d => (d).setFld (LANE_STATUS 803) LANE_STATUS_STATE 5)) (35) (17) := by
  decide +kernel

theorem wit_ChipletAndTests_2 : (fun (s : State) (b : BundleNo) (c : BitVec 16) => s.dev.blockUp bkCORE = true ∧
    s.dev.laneState (0x300 + b.val) = lnREADY ∧ c.toNat ≤ 16) (at_ (fun d => (d).setFld (LANE_STATUS 803) LANE_STATUS_STATE 5)) (35) (16) := by
  decide +kernel

theorem wit_ChipletAndTests_3 : (fun (s : State) (k : LinkNo) (b : Fin 16) => s.dev.runsT (tBundle k.val) = true ∧
    s.dev.pulses = []) (at_ (fun d => d.startT (tBundle 2) 99)) (2) (3) := by
  decide +kernel

theorem wit_ChipletAndTests_4 : (fun (s : State) (k : LinkNo) (m : List Nat) (b : Fin 16) => s.dev.blockUp bkCORE = true ∧
    s.dev.laneState (clBase k.val) = lnTRAIN) (at_ (fun d => (d).setFld (LANE_STATUS 800) LANE_STATUS_STATE 3)) (2) ([1,2,3,4]) (3) := by
  decide +kernel

theorem wit_ChipletAndTests_5 : (fun (s : State) (b : BundleNo) (x y t u : BitVec 8) => s.dev.blockUp bkCORE = true) (at_ id) (35) (11) (20) (30) (40) := by
  decide +kernel

theorem wit_ChipletAndTests_6 : (fun (s : State) (l : LaneNo) => s.dev.fld (LANE_PRBS_CTRL l.val) LANE_PRBS_CTRL_CHK_EN = 1 ∧
    s.dev.laneState l.val = lnREADY) (at_ (fun d => ((d).setFld (LANE_STATUS 0) LANE_STATUS_STATE 5).setFld (LANE_PRBS_CTRL 0) LANE_PRBS_CTRL_CHK_EN 1)) (0) := by
  decide +kernel

theorem wit_ChipletAndTests_7 : (fun (s : State) (t : TrunkNo) (k : Fin 4) => s.dev.fld (TRK_PRBS_CTRL t.val) TRK_PRBS_CTRL_CHK_EN = 1 ∧
    s.dev.cd.pLost = false) (at_ (fun d => (d.setFld (TRK_PRBS_CTRL 1) TRK_PRBS_CTRL_CHK_EN 1).setTrk 1 { locks := 7 })) (1) (3) := by
  decide +kernel

theorem wit_ChipletAndTests_8 : (fun (s : State) (l : LaneNo) (n m : Word) => s.dev.fld (LANE_PRBS_CTRL l.val) LANE_PRBS_CTRL_CHK_LOCK = 1 ∧
    64 < m.toNat) (at_ (fun d => d.setFld (LANE_PRBS_CTRL 0) LANE_PRBS_CTRL_CHK_LOCK 1)) (0) (900) (65) := by
  decide +kernel

theorem wit_ChipletAndTests_9 : (fun (s : State) (l : LaneNo) (n m : Word) => s.dev.fld (LANE_PRBS_CTRL l.val) LANE_PRBS_CTRL_CHK_LOCK = 1 ∧
    m.toNat ≤ 64) (at_ (fun d => d.setFld (LANE_PRBS_CTRL 0) LANE_PRBS_CTRL_CHK_LOCK 1)) (0) (900) (64) := by
  decide +kernel

theorem wit_ChipletAndTests_10 : (fun (s : State) (t : TrunkNo) (k : Fin 4) (n m : Word) => bitsAt (s.dev.trk t.val).locks k.val 1 = 1 ∧
    64 < m.toNat) (at_ (fun d => d.setTrk 1 { locks := 15 })) (1) (3) (900) (65) := by
  decide +kernel

theorem wit_ChipletAndTests_11 : (fun (s : State) (t : TrunkNo) (k : Fin 4) (n m : Word) => bitsAt (s.dev.trk t.val).locks k.val 1 = 1 ∧
    m.toNat ≤ 64) (at_ (fun d => d.setTrk 1 { locks := 15 })) (1) (3) (900) (64) := by
  decide +kernel

theorem wit_ChipletAndTests_12 : (fun (s : State) (l : LaneNo) => s.dev.accepts (LANE_PRBS_CTRL l.val) (withBits (s.dev.num (LANE_PRBS_CTRL l.val) % 2 ^ 48) 19 1 1)) (at_ (fun d => d.setFld (LANE_PRBS_CTRL 0) LANE_PRBS_CTRL_GEN_EN 1)) (0) := by
  decide +kernel

theorem wit_ChipletAndTests_13 : (fun (s : State) (t : TrunkNo) => s.dev.accepts (TRK_PRBS_CTRL t.val) (withBits (s.dev.num (TRK_PRBS_CTRL t.val) % 2 ^ 48) 19 1 1)) (at_ (fun d => (d.setFld (TRK_PRBS_CTRL 1) TRK_PRBS_CTRL_GEN_EN 1).setFld (TRK_CTRL 1) TRK_CTRL_ENABLE 0)) (1) := by
  decide +kernel

theorem wit_ChipletAndTests_14 : (fun (s : State) (l : LaneNo) (v : Word) => s.dev.accepts (LANE_EYE_CTRL l.val) (v.toNat / 2 * 2 + 1)) (at_ id) (0) ((30 * 0x1000000)) := by
  decide +kernel

theorem wit_ChipletAndTests_15 : (fun (s : State) (t : TrunkNo) (v : Word) => s.dev.accepts (TRK_EYE_CTRL t.val) (v.toNat / 2 * 2 + 1)) (at_ id) (1) ((30 * 0x1000000 + 2)) := by
  decide +kernel

theorem wit_ChipletAndTests_16 : (fun (s : State) (l : LaneNo) (n : Word) => (s.dev.lane l.val).eye = true) (at_ (fun d => d.setLane 0 { eye := true })) (0) (0xFFFFFFFFFFFF) := by
  decide +kernel

theorem wit_ChipletAndTests_17 : (fun (s : State) (t : TrunkNo) (n : Word) => (s.dev.trk t.val).eye = true) (at_ (fun d => d.setTrk 1 { eye := true })) (1) (77) := by
  decide +kernel

theorem wit_StoreAndPatrol_1 : (fun (s : State) (p : BitVec 32) (c : Commit) => s.dev.trust.commits = [c] ∧ c.item = p.toNat ∧
    c.owner = none ∧ s.dev.trust.activate = none ∧ keepItem p.toNat = true ∧
    [0, 1, 2, 3].any (fun k => p.toNat == CRS_KEY_INFO k) = false) (at_ (fun d => { d with trust := { d.trust with commits := [⟨CRS_NODE_ID, 5, none⟩] } })) ((BitVec.ofNat 32 CRS_NODE_ID)) (⟨CRS_NODE_ID, 5, none⟩) := by
  decide +kernel

theorem wit_StoreAndPatrol_2 : (fun (s : State) => s.dev.blockUp bkPATROL = true ∧ s.dev.bit GLB_STATE GLB_STATE_GAP = false ∧
    s.dev.pulses = []) (at_ (fun d => d.live GLB_STATE GLB_STATE_GAP false)) := by
  decide +kernel

theorem wit_StoreAndPatrol_3 : (fun (s : State) (t : Nat) => s.dev.trust.testAt = some t ∧ s.dev.fld TRUST_PATROL TRUST_PATROL_SPARE < 2 ∧
    s.dev.pulses = []) (at_ (fun d => { (d.setFld TRUST_PATROL TRUST_PATROL_SPARE 0) with trust := { d.trust with testAt := some 5 } })) (5) := by
  decide +kernel

theorem wit_StoreAndPatrol_4 : (fun (s : State) (x : Bool) => s.dev.blockUp bkPATROL = true ∧
    s.dev.fld TRUST_PATROL TRUST_PATROL_SPARE = 3) (at_ (fun d => d.setFld TRUST_PATROL TRUST_PATROL_SPARE 3)) (true) := by
  decide +kernel

theorem wit_StoreAndPatrol_5 : (fun (s : State) (k : Fin 5) => s.dev.blockUp bkPATROL = true ∧ s.dev.bit GLB_STATE GLB_STATE_GAP = false ∧
    k.val ≠ 4 ∧ bitsAt (s.dev.fld TRUST_PATROL TRUST_PATROL_FENCED) k.val 1 = 0 ∧ s.dev.bit TRUST_STATUS TRUST_STATUS_SPARE = false ∧
    s.dev.fld TRUST_PATROL TRUST_PATROL_SPARE ≠ 2) (at_ (fun d => (d.live GLB_STATE GLB_STATE_GAP false).setFld TRUST_PATROL TRUST_PATROL_SPARE 0)) (1) := by
  decide +kernel

theorem wit_StoreAndPatrol_6 : (fun (s : State) => s.dev.runsT tReady = true ∧ s.dev.trust.fails < 2 ∧ s.dev.pulses = [] ∧
    (s.dev.flash s.dev.runBank).isSome = true) (at_ (fun d => (d.setFlash 0 (some ⟨5, 6, 7⟩)).startT tReady 99)) := by
  decide +kernel

theorem wit_StoreAndPatrol_7 : (fun (s : State) (k : SlotNo) (p : BitVec 32) => s.dev.host.linkUp = true) (at_ id) (5) (0x15000040) := by
  decide +kernel

theorem wit_StoreAndPatrol_8 : (fun (s : State) (k : SlotNo) => (s.dev.cntSlot k.val).wait = true ∧
    s.dev.readable (s.dev.cntSlot k.val).id = true) (at_ (fun d => d.setCntSlot 5 { id := MAC_LINK_DOWNS 3, wait := true })) (5) := by
  decide +kernel

theorem wit_StoreAndPatrol_9 : (fun (s : State) (t : Nat) => Tbl.get s.dev.net.timers none tIpfix = some t ∧
    s.dev.pulses = []) (at_ (fun d => d.startT tIpfix 99)) (99) := by
  decide +kernel

theorem wit_FabricLinks_1 : (fun (s : State) (k : CrsNo) => s.dev.crsOn = true ∧ s.dev.crs.ctrl = s.dev.num CRS_CTRL ∧
    s.dev.crs.lost = false ∧ s.dev.crs.id = s.dev.crsWant ∧ s.dev.crs.links = [] ∧ s.dev.txKey.isSome = true ∧
    s.dev.crsLinkUp k.val = true) (at_ (fun d0 => let d := ((d0.setFld CRS_CTRL CRS_CTRL_ENABLE 1).live GLB_STATE GLB_STATE_GAP false); let d := ((d.setFld (CRS_LINK_CTRL 0x300) CRS_LINK_CTRL_LINK_EN 1).setFld (TRK_STATUS 0) TRK_STATUS_STATE 3); { d with crs := { d.crs with ctrl := d.num CRS_CTRL, keys := [(0, some ⟨[1], 5, 31, 3⟩)] } })) (256) := by
  decide +kernel

theorem wit_FabricLinks_2 : (fun (s : State) => s.dev.crsOn = true ∧ s.dev.crs.ctrl = s.dev.num CRS_CTRL ∧
    s.dev.crs.lost = false) (at_ (fun d0 => let d := ((d0.setFld CRS_CTRL CRS_CTRL_ENABLE 1).live GLB_STATE GLB_STATE_GAP false); let d := d.putNum CRS_NODE_ID 0x105; { d with crs := { d.crs with ctrl := d.num CRS_CTRL, keys := [(0, some ⟨[1], 5, 31, 3⟩)] } })) := by
  decide +kernel

theorem wit_FabricLinks_3 : (fun (s : State) (k : CrsNo) (perm : Nat) (m : List Byte) (rest : List (Nat × Nat × List Byte)) => s.dev.crs.inbox = (k.val, perm, m) :: rest ∧
    cmType m = csHELLO ∧ s.dev.crsOn = true ∧ s.dev.crsLinkUp k.val = true ∧ s.dev.txKey.isSome = true ∧ (s.dev.crsLink k.val).heard = [] ∧
    s.dev.adj k.val = adDOWN) (at_ (fun d0 => let d := ((d0.setFld CRS_CTRL CRS_CTRL_ENABLE 1).live GLB_STATE GLB_STATE_GAP false); let d := ((d.setFld (CRS_LINK_CTRL 0x300) CRS_LINK_CTRL_LINK_EN 1).setFld (TRK_STATUS 0) TRK_STATUS_STATE 3); { d with crs := { d.crs with ctrl := d.num CRS_CTRL, keys := [(0, some ⟨[1], 5, 31, 3⟩)], inbox := (256, 31, ([1, 1, 0, 8, 4, 1, 0, 0, 1, 0, 5, 0, 9, 0, 0, 0, 16, 0, 0, 1, 0, 0, 0, 0, 77, 0, 0, 0, 0, 0, 0, 0, 4, 1, 3, 0, 0, 0, 0, 0] ++ List.replicate 48 0)) :: [] } })) (256) (31) (([1, 1, 0, 8, 4, 1, 0, 0, 1, 0, 5, 0, 9, 0, 0, 0, 16, 0, 0, 1, 0, 0, 0, 0, 77, 0, 0, 0, 0, 0, 0, 0, 4, 1, 3, 0, 0, 0, 0, 0] ++ List.replicate 48 0)) ([]) := by
  decide +kernel

theorem wit_FabricLinks_4 : (fun (s : State) (k : CrsNo) => s.dev.runsT (tDead k.val) = true ∧ s.dev.bit GLB_STATE GLB_STATE_GAP = false ∧
    s.dev.pulses = []) (at_ (fun d0 => let d := ((d0.setFld CRS_CTRL CRS_CTRL_ENABLE 1).live GLB_STATE GLB_STATE_GAP false); let d := (((d.setFld (CRS_LINK_CTRL 0x300) CRS_LINK_CTRL_LINK_EN 1).setFld (TRK_STATUS 0) TRK_STATUS_STATE 3).setAdj 256 2 false 9).startT (tDead 256) 99; { d with crs := { d.crs with ctrl := d.num CRS_CTRL, keys := [(0, some ⟨[1], 5, 31, 3⟩)], links := [(256, ⟨[3]⟩)] } })) (256) := by
  decide +kernel

theorem wit_FabricLinks_5 : (fun (s : State) => s.dev.crsOn = true ∧ s.dev.crs.id ≠ 0 ∧ s.dev.txKey.isSome = true ∧ s.dev.runsT tLsr = true ∧
    s.dev.pulses = []) (at_ (fun d0 => let d := ((d0.setFld CRS_CTRL CRS_CTRL_ENABLE 1).live GLB_STATE GLB_STATE_GAP false); let d := d.startT tLsr 99; { d with crs := { d.crs with ctrl := d.num CRS_CTRL, keys := [(0, some ⟨[1], 5, 31, 3⟩)], id := 5 } })) := by
  decide +kernel

theorem wit_FabricLinks_6 : ∃ k : Byte, (fun (s : State) (i : Nat) (perm : Nat) (m : List Byte) (rest : List (Nat × Nat × List Byte)) => s.dev.crs.inbox = (i, perm, m) :: rest ∧
    cmType m = csLSR ∧ leNat (slice (cmPay m) 0 8) ≠ Config.serial.toNat ∧ cmSrc m ≠ 0 ∧ cmSrc m ≠ 0xFFFF ∧ cmSrc m ≠ s.dev.crs.id ∧
    s.dev.crs.db = []) (at_ (fun d0 => let d := ((d0.setFld CRS_CTRL CRS_CTRL_ENABLE 1).live GLB_STATE GLB_STATE_GAP false); { d with crs := { d.crs with ctrl := d.num CRS_CTRL, keys := [(0, some ⟨[1], 5, 31, 3⟩)], inbox := [(256, 31, lsrOf k)] } })) 256 31 (lsrOf k) [] := by
  by_cases h : Config.serial.toNat = 0
  · refine ⟨1, rfl, by decide +kernel, ?_, by decide +kernel, by decide +kernel, by decide +kernel, by decide +kernel⟩
    rw [h]; decide +kernel
  · refine ⟨0, rfl, by decide +kernel, ?_, by decide +kernel, by decide +kernel, by decide +kernel, by decide +kernel⟩
    have e : leNat (slice (cmPay (lsrOf 0)) 0 8) = 0 := by decide +kernel
    rw [e]; exact fun h' => h h'.symm

theorem wit_FabricLinks_7 : (fun (s : State) (n : BitVec 16) => s.dev.runsT (tAge n.toNat) = true ∧
    s.dev.bit GLB_STATE GLB_STATE_GAP = false ∧
    s.dev.pulses = []) (at_ (fun d0 => let d := ((d0.setFld CRS_CTRL CRS_CTRL_ENABLE 1).live GLB_STATE GLB_STATE_GAP false); let d := d.startT (tAge 3) 99; { d with crs := { d.crs with ctrl := d.num CRS_CTRL, keys := [(0, some ⟨[1], 5, 31, 3⟩)], db := [⟨3, 9, 1, 1, 0, 0, 0, [], [], 0⟩, ⟨4, 9, 1, 1, 0, 0, 0, [], [], 0⟩], routes := [⟨3, 10, 3, 256⟩] } })) (3) := by
  decide +kernel

theorem wit_FabricLinks_8 : (fun (s : State) (a b : CrsAdj) (l : Lsr) => s.dev.crsOn = true ∧ s.dev.crs.id ≠ 0 ∧ s.dev.crsEntries = [a] ∧
    s.dev.crs.db = [l] ∧ l.node = a.node ∧ a.node ≠ s.dev.crs.id ∧ l.frag0 = [b] ∧ l.frag1 = [] ∧
    b.node = s.dev.crs.id) (at_ (fun d0 => let d := ((d0.setFld CRS_CTRL CRS_CTRL_ENABLE 1).live GLB_STATE GLB_STATE_GAP false); let d := ((d.setFld (CRS_LINK_CTRL 0x300) CRS_LINK_CTRL_LINK_EN 1).setFld (TRK_STATUS 0) TRK_STATUS_STATE 3).setAdj 256 2 false 9; { d with crs := { d.crs with ctrl := d.num CRS_CTRL, keys := [(0, some ⟨[1], 5, 31, 3⟩)], id := 5, links := [(256, ⟨[3]⟩)], db := [⟨9, 3, 1, 1, 0, 0, 0, [⟨5, 10, 1, 0⟩], [], 0⟩] } })) (⟨9, 10, 256, 0⟩) (⟨5, 10, 1, 0⟩) (⟨9, 3, 1, 1, 0, 0, 0, [⟨5, 10, 1, 0⟩], [], 0⟩) := by
  decide +kernel

theorem wit_FabricLinks_9 : (fun (s : State) => s.dev.bit GLB_STATE GLB_STATE_GAP = false ∧
    (s.dev.crsOn = false ∨ s.dev.crs.id = 0)) (at_ (fun d => { d.live GLB_STATE GLB_STATE_GAP false with crs := { d.crs with routes := [⟨3, 10, 3, 256⟩] } })) := by
  decide +kernel

theorem wit_FabricMessages_1 : (fun (s : State) (t : Term) (rest : List Term) => s.dev.bit GLB_STATE GLB_STATE_GAP = false ∧
    s.dev.crsOn = true ∧ s.dev.net.inbox = t :: rest ∧ t.kind = 3 ∧ t.lp < 0x102 ∧ s.dev.crsLinkUp t.lp = true ∧
    crsForm t.bytes = false) (at_ (fun d0 => let d := ((d0.setFld CRS_CTRL CRS_CTRL_ENABLE 1).live GLB_STATE GLB_STATE_GAP false); let d := (let d := ((d.setFld (CRS_LINK_CTRL 0x300) CRS_LINK_CTRL_LINK_EN 1).setFld (TRK_STATUS 0) TRK_STATUS_STATE 3); { d with net := { d.net with inbox := [{ kind := 3, lp := 256, bytes := [1] }] } }); { d with crs := { d.crs with ctrl := d.num CRS_CTRL, keys := [(0, some ⟨[1], 5, 31, 3⟩)] } })) ({ kind := 3, lp := 256, bytes := [1] }) ([]) := by
  decide +kernel

theorem wit_FabricMessages_2 : (fun (s : State) (t : Term) (rest : List Term) => s.dev.bit GLB_STATE GLB_STATE_GAP = false ∧
    s.dev.crsOn = true ∧ s.dev.net.inbox = t :: rest ∧ t.kind = 3 ∧ t.lp < 0x102 ∧ s.dev.crsLinkUp t.lp = true ∧ crsForm t.bytes = true ∧
    s.dev.crsAuth t.bytes = none) (at_ (fun d0 => let d := ((d0.setFld CRS_CTRL CRS_CTRL_ENABLE 1).live GLB_STATE GLB_STATE_GAP false); let d := (let d := ((d.setFld (CRS_LINK_CTRL 0x300) CRS_LINK_CTRL_LINK_EN 1).setFld (TRK_STATUS 0) TRK_STATUS_STATE 3); { d with net := { d.net with inbox := [{ kind := 3, lp := 256, bytes := ([1, 1, 0, 8, 4, 1, 0, 0, 1, 0, 6, 0, 9, 0, 0, 0, 0, 0, 0, 1, 0, 0, 0, 0] ++ List.replicate 48 0) }] } }); { d with crs := { d.crs with ctrl := d.num CRS_CTRL, keys := [(0, some ⟨[1], 5, 31, 3⟩)] } })) ({ kind := 3, lp := 256, bytes := ([1, 1, 0, 8, 4, 1, 0, 0, 1, 0, 6, 0, 9, 0, 0, 0, 0, 0, 0, 1, 0, 0, 0, 0] ++ List.replicate 48 0) }) ([]) := by
  decide +kernel

theorem wit_FabricMessages_3 : (fun (s : State) (t : Term) (rest : List Term) (perm : Nat) => s.dev.bit GLB_STATE GLB_STATE_GAP = false ∧ s.dev.crsOn = true ∧
    s.dev.net.inbox = t :: rest ∧ t.kind = 3 ∧ t.lp < 0x102 ∧ s.dev.crsLinkUp t.lp = true ∧ crsForm t.bytes = true ∧
    s.dev.crsAuth t.bytes = some perm ∧ (cmType t.bytes = csHELLO ∨ s.dev.adj t.lp = adFULL) ∧
    (crsJudge (Tbl.get s.dev.crs.wins none (cmSrc t.bytes)) (cmBoot t.bytes) (cmSeq t.bytes)).1 = 1) (at_ (fun d0 => let d := ((d0.setFld CRS_CTRL CRS_CTRL_ENABLE 1).live GLB_STATE GLB_STATE_GAP false); let d := (let d := ((d.setFld (CRS_LINK_CTRL 0x300) CRS_LINK_CTRL_LINK_EN 1).setFld (TRK_STATUS 0) TRK_STATUS_STATE 3); { d with net := { d.net with inbox := [{ kind := 3, lp := 256, bytes := ([1, 1, 0, 8, 4, 1, 0, 0, 1, 0, 5, 0, 9, 0, 0, 0, 0, 0, 0, 1, 0, 0, 0, 0] ++ crsTag [1] [1, 1, 0, 8, 4, 1, 0, 0, 1, 0, 5, 0, 9, 0, 0, 0, 0, 0, 0, 1, 0, 0, 0, 0]) }] } }); { d with crs := { d.crs with ctrl := d.num CRS_CTRL, keys := [(0, some ⟨[1], 5, 31, 3⟩)], wins := [(0x104, some ⟨2, 9, 1⟩)] } })) ({ kind := 3, lp := 256, bytes := ([1, 1, 0, 8, 4, 1, 0, 0, 1, 0, 5, 0, 9, 0, 0, 0, 0, 0, 0, 1, 0, 0, 0, 0] ++ crsTag [1] [1, 1, 0, 8, 4, 1, 0, 0, 1, 0, 5, 0, 9, 0, 0, 0, 0, 0, 0, 1, 0, 0, 0, 0]) }) ([]) (31) := by
  beta_reduce
  refine ⟨by decide +kernel, by decide +kernel, rfl, by decide +kernel, by decide +kernel, by decide +kernel, ?_⟩
  refine ⟨?_, if_pos rfl, ?_⟩ <;> decide +kernel

theorem wit_FabricMessages_4 : (fun (s : State) (t : Term) (rest : List Term) (perm : Nat) => s.dev.bit GLB_STATE GLB_STATE_GAP = false ∧ s.dev.crsOn = true ∧
    s.dev.net.inbox = t :: rest ∧ t.kind = 3 ∧ t.lp < 0x102 ∧ s.dev.crsLinkUp t.lp = true ∧ crsForm t.bytes = true ∧
    s.dev.crsAuth t.bytes = some perm ∧ (cmType t.bytes = csHELLO ∨ s.dev.adj t.lp = adFULL) ∧
    (crsJudge (Tbl.get s.dev.crs.wins none (cmSrc t.bytes)) (cmBoot t.bytes) (cmSeq t.bytes)).1 = 2) (at_ (fun d0 => let d := ((d0.setFld CRS_CTRL CRS_CTRL_ENABLE 1).live GLB_STATE GLB_STATE_GAP false); let d := (let d := ((d.setFld (CRS_LINK_CTRL 0x300) CRS_LINK_CTRL_LINK_EN 1).setFld (TRK_STATUS 0) TRK_STATUS_STATE 3); { d with net := { d.net with inbox := [{ kind := 3, lp := 256, bytes := ([1, 1, 0, 8, 4, 1, 0, 0, 1, 0, 5, 0, 9, 0, 0, 0, 0, 0, 0, 1, 0, 0, 0, 0] ++ crsTag [1] [1, 1, 0, 8, 4, 1, 0, 0, 1, 0, 5, 0, 9, 0, 0, 0, 0, 0, 0, 1, 0, 0, 0, 0]) }] } }); { d with crs := { d.crs with ctrl := d.num CRS_CTRL, keys := [(0, some ⟨[1], 5, 31, 3⟩)], wins := [(0x104, some ⟨1, 9, 1⟩)] } })) ({ kind := 3, lp := 256, bytes := ([1, 1, 0, 8, 4, 1, 0, 0, 1, 0, 5, 0, 9, 0, 0, 0, 0, 0, 0, 1, 0, 0, 0, 0] ++ crsTag [1] [1, 1, 0, 8, 4, 1, 0, 0, 1, 0, 5, 0, 9, 0, 0, 0, 0, 0, 0, 1, 0, 0, 0, 0]) }) ([]) (31) := by
  beta_reduce
  refine ⟨by decide +kernel, by decide +kernel, rfl, by decide +kernel, by decide +kernel, by decide +kernel, ?_⟩
  refine ⟨?_, if_pos rfl, ?_⟩ <;> decide +kernel

theorem wit_FabricMessages_5 : (fun (s : State) (t : Term) (rest : List Term) (perm : Nat) => s.dev.bit GLB_STATE GLB_STATE_GAP = false ∧ s.dev.crsOn = true ∧
    s.dev.net.inbox = t :: rest ∧ t.kind = 3 ∧ t.lp < 0x102 ∧ s.dev.crsLinkUp t.lp = true ∧ crsForm t.bytes = true ∧
    s.dev.crsAuth t.bytes = some perm ∧ (cmType t.bytes = csHELLO ∨ s.dev.adj t.lp = adFULL) ∧
    (crsJudge (Tbl.get s.dev.crs.wins none (cmSrc t.bytes)) (cmBoot t.bytes) (cmSeq t.bytes)).1 = 0 ∧
    (cmType t.bytes = csHELLO ∨ (cmDst t.bytes = s.dev.crs.id ∧ s.dev.crs.id ≠ 0 ∧
    s.dev.crs.id ≠ 0xFFFF))) (at_ (fun d0 => let d := ((d0.setFld CRS_CTRL CRS_CTRL_ENABLE 1).live GLB_STATE GLB_STATE_GAP false); let d := (let d := ((d.setFld (CRS_LINK_CTRL 0x300) CRS_LINK_CTRL_LINK_EN 1).setFld (TRK_STATUS 0) TRK_STATUS_STATE 3); { d with net := { d.net with inbox := [{ kind := 3, lp := 256, bytes := ([1, 1, 0, 8, 4, 1, 0, 0, 1, 0, 5, 0, 9, 0, 0, 0, 0, 0, 0, 1, 0, 0, 0, 0] ++ crsTag [1] [1, 1, 0, 8, 4, 1, 0, 0, 1, 0, 5, 0, 9, 0, 0, 0, 0, 0, 0, 1, 0, 0, 0, 0]) }] } }); { d with crs := { d.crs with ctrl := d.num CRS_CTRL, keys := [(0, some ⟨[1], 5, 31, 3⟩)] } })) ({ kind := 3, lp := 256, bytes := ([1, 1, 0, 8, 4, 1, 0, 0, 1, 0, 5, 0, 9, 0, 0, 0, 0, 0, 0, 1, 0, 0, 0, 0] ++ crsTag [1] [1, 1, 0, 8, 4, 1, 0, 0, 1, 0, 5, 0, 9, 0, 0, 0, 0, 0, 0, 1, 0, 0, 0, 0]) }) ([]) (31) := by
  beta_reduce
  refine ⟨by decide +kernel, by decide +kernel, rfl, by decide +kernel, by decide +kernel, by decide +kernel, ?_⟩
  refine ⟨?_, if_pos rfl, ?_⟩ <;> decide +kernel

theorem wit_FabricMessages_6 : (fun (s : State) (t : Term) (rest : List Term) (perm : Nat) => s.dev.bit GLB_STATE GLB_STATE_GAP = false ∧ s.dev.crsOn = true ∧
    s.dev.net.inbox = t :: rest ∧ t.kind = 3 ∧ t.lp < 0x102 ∧ s.dev.crsLinkUp t.lp = true ∧ crsForm t.bytes = true ∧
    s.dev.crsAuth t.bytes = some perm ∧ (cmType t.bytes = csHELLO ∨ s.dev.adj t.lp = adFULL) ∧
    (crsJudge (Tbl.get s.dev.crs.wins none (cmSrc t.bytes)) (cmBoot t.bytes) (cmSeq t.bytes)).1 = 0 ∧ cmType t.bytes ≠ csHELLO ∧
    cmDst t.bytes ≠ 0xFFFF ∧ cmDst t.bytes ≠ s.dev.crs.id ∧
    s.dev.route (cmDst t.bytes) = none) (at_ (fun d0 => let d := ((d0.setFld CRS_CTRL CRS_CTRL_ENABLE 1).live GLB_STATE GLB_STATE_GAP false); let d := (let d := ((d.setFld (CRS_LINK_CTRL 0x300) CRS_LINK_CTRL_LINK_EN 1).setFld (TRK_STATUS 0) TRK_STATUS_STATE 3).setAdj 256 2 false 9; { d with net := { d.net with inbox := [{ kind := 3, lp := 256, bytes := ([1, 16, 0, 8, 4, 1, 6, 0, 1, 0, 5, 0, 9, 0, 0, 0, 0, 0, 0, 1, 0, 0, 0, 0] ++ crsTag [1] [1, 16, 0, 8, 4, 1, 6, 0, 1, 0, 5, 0, 9, 0, 0, 0, 0, 0, 0, 1, 0, 0, 0, 0]) }] } }); { d with crs := { d.crs with ctrl := d.num CRS_CTRL, keys := [(0, some ⟨[1], 5, 31, 3⟩)], id := 5 } })) ({ kind := 3, lp := 256, bytes := ([1, 16, 0, 8, 4, 1, 6, 0, 1, 0, 5, 0, 9, 0, 0, 0, 0, 0, 0, 1, 0, 0, 0, 0] ++ crsTag [1] [1, 16, 0, 8, 4, 1, 6, 0, 1, 0, 5, 0, 9, 0, 0, 0, 0, 0, 0, 1, 0, 0, 0, 0]) }) ([]) (31) := by
  beta_reduce
  refine ⟨by decide +kernel, by decide +kernel, rfl, by decide +kernel, by decide +kernel, by decide +kernel, ?_⟩
  refine ⟨?_, if_pos rfl, ?_⟩ <;> decide +kernel

theorem wit_FabricMessages_7 : (fun (s : State) (i : Nat) (perm : Nat) (m : List Byte) (rest : List (Nat × Nat × List Byte)) => s.dev.crs.inbox = (i, perm, m) :: rest ∧
    cmType m = csRESET ∧ s.dev.crsMay perm 4 = true ∧
    [rkMODULE, rkDATA_PLANE, rkPATROL].contains (byteAt (cmPay m) 0) = true) (at_ (fun d0 => let d := ((d0.setFld CRS_CTRL CRS_CTRL_ENABLE 1).live GLB_STATE GLB_STATE_GAP false); let d := d.putNum CRS_PERM 31; { d with crs := { d.crs with ctrl := d.num CRS_CTRL, keys := [(0, some ⟨[1], 5, 31, 3⟩)], inbox := (256, 31, ([1, 19, 0, 8, 4, 1, 5, 0, 1, 0, 5, 0, 9, 0, 0, 0, 4, 0, 0, 1, 0, 0, 0, 0, 6, 0, 0, 0] ++ List.replicate 48 0)) :: [] } })) (256) (31) (([1, 19, 0, 8, 4, 1, 5, 0, 1, 0, 5, 0, 9, 0, 0, 0, 4, 0, 0, 1, 0, 0, 0, 0, 6, 0, 0, 0] ++ List.replicate 48 0)) ([]) := by
  decide +kernel

theorem wit_FabricMessages_8 : (fun (s : State) (i : Nat) (perm : Nat) (m : List Byte) (rest : List (Nat × Nat × List Byte)) => s.dev.crs.inbox = (i, perm, m) :: rest ∧
    cmType m = csRESET ∧
    s.dev.crsMay perm 4 = false) (at_ (fun d0 => let d := ((d0.setFld CRS_CTRL CRS_CTRL_ENABLE 1).live GLB_STATE GLB_STATE_GAP false); let d := d.putNum CRS_PERM 15; { d with crs := { d.crs with ctrl := d.num CRS_CTRL, keys := [(0, some ⟨[1], 5, 31, 3⟩)], inbox := (256, 31, ([1, 19, 0, 8, 4, 1, 5, 0, 1, 0, 5, 0, 9, 0, 0, 0, 4, 0, 0, 1, 0, 0, 0, 0, 6, 0, 0, 0] ++ List.replicate 48 0)) :: [] } })) (256) (31) (([1, 19, 0, 8, 4, 1, 5, 0, 1, 0, 5, 0, 9, 0, 0, 0, 4, 0, 0, 1, 0, 0, 0, 0, 6, 0, 0, 0] ++ List.replicate 48 0)) ([]) := by
  decide +kernel

theorem wit_FabricRequests_1 : (fun (s : State) (r : RingNo) (tag : Byte) (x : BitVec 512) (c : Cmd) => s.dev.mayStartCmd r.val tag.toNat 0x70 c ∧
    byteAt c.par 0 = 1 ∧ s.dev.cresorStatus c.par (byteAt (entryBytes x) 0) = stOK ∧
    csDest c.par ≠ 0xFFFF) (at_ (fun d0 => let d := (d0.setFld GLB_STATE GLB_STATE_READY 1).live GLB_STATE GLB_STATE_GAP false; let d := (let d := ((d.setFld (CRS_LINK_CTRL 0x300) CRS_LINK_CTRL_LINK_EN 1).setFld (TRK_STATUS 0) TRK_STATUS_STATE 3).setAdj 256 2 false 0x104; let d := ((d.setFld CRS_CTRL CRS_CTRL_ENABLE 1)); { d with crs := { d.crs with ctrl := d.num CRS_CTRL, keys := [(0, some ⟨[1], 5, 31, 3⟩)], id := 5, links := [(256, ⟨[3]⟩)], routes := [⟨0x104, 10, 3, 256⟩] } }); { d with host := { d.host with rings := [(3, { enable := true, inflight := [{ op := 0x70, tag := 7, par := ([1, 0, 4, 1, 16, 39] ++ List.replicate 34 0) }] })] } })) (3) (7) ((BitVec.ofNat 512 0x50)) ({ op := 0x70, tag := 7, par := ([1, 0, 4, 1, 16, 39] ++ List.replicate 34 0) }) := by
  decide +kernel

theorem wit_FabricRequests_2 : (fun (s : State) (q : CrsReq) (r : RingNo) (tag : Byte) (c : Cmd) (i : Nat) (perm : Nat) (m : List Byte) (rest : List (Nat × Nat × List Byte)) => s.dev.crs.reqs = [q] ∧
    q.owner = (r.val, tag.toNat) ∧ s.dev.cmdOf r.val tag.toNat = some c ∧ c.started = true ∧ c.gap = false ∧
    s.dev.crs.inbox = (i, perm, m) :: rest ∧ cmType m = csRESPONSE ∧ q.corr = cmCorr m ∧ q.dest = cmSrc m ∧ q.dest ≠ 0xFFFF ∧ q.frags = [] ∧
    cmFrag m = 0 ∧
    cmFrags m = 1) (at_ (fun d0 => let d := ((d0.setFld CRS_CTRL CRS_CTRL_ENABLE 1).live GLB_STATE GLB_STATE_GAP false); let d := d; { d with crs := { d.crs with ctrl := d.num CRS_CTRL, keys := [(0, some ⟨[1], 5, 31, 3⟩)], reqs := [{ corr := 3, owner := (3, 7), dest := 0x104, addr := 0x1000, len := 64 }], inbox := (256, 31, ([1, 17, 0, 8, 4, 1, 5, 0, 1, 0, 5, 0, 9, 0, 0, 0, 32, 0, 0, 1, 3, 0, 0, 0, 80, 0, 0, 0, 7, 0, 0, 0, 0, 0, 0, 0, 0, 0, 0, 0, 0, 0, 0, 0, 0, 0, 0, 0, 0, 0, 0, 0, 0, 0, 0, 0] ++ List.replicate 48 0)) :: [] }, host := { d.host with rings := [(3, { enable := true, inflight := [{ op := 0x70, tag := 7, started := true }] })] } })) ({ corr := 3, owner := (3, 7), dest := 0x104, addr := 0x1000, len := 64 }) (3) (7) ({ op := 0x70, tag := 7, started := true }) (256) (31) (([1, 17, 0, 8, 4, 1, 5, 0, 1, 0, 5, 0, 9, 0, 0, 0, 32, 0, 0, 1, 3, 0, 0, 0, 80, 0, 0, 0, 7, 0, 0, 0, 0, 0, 0, 0, 0, 0, 0, 0, 0, 0, 0, 0, 0, 0, 0, 0, 0, 0, 0, 0, 0, 0, 0, 0] ++ List.replicate 48 0)) ([]) := by
  decide +kernel

theorem wit_FabricRequests_3 : (fun (s : State) (k : BitVec 32) (q : CrsReq) (r : RingNo) (tag : Byte) (c : Cmd) => s.dev.crs.reqs = [q] ∧
    q.owner = (r.val, tag.toNat) ∧ s.dev.cmdOf r.val tag.toNat = some c ∧ c.started = true ∧ c.gap = false ∧ q.corr = k.toNat ∧ q.dest ≠ 0xFFFF ∧
    s.dev.pulses = []) (at_ (fun d0 => let d := ((d0.setFld CRS_CTRL CRS_CTRL_ENABLE 1).live GLB_STATE GLB_STATE_GAP false); let d := d.startT (tReq 3) 99; { d with crs := { d.crs with ctrl := d.num CRS_CTRL, keys := [(0, some ⟨[1], 5, 31, 3⟩)], reqs := [{ corr := 3, owner := (3, 7), dest := 0x104, addr := 0x1000, len := 64 }] }, host := { d.host with rings := [(3, { enable := true, inflight := [{ op := 0x70, tag := 7, started := true }] })] } })) (3) ({ corr := 3, owner := (3, 7), dest := 0x104, addr := 0x1000, len := 64 }) (3) (7) ({ op := 0x70, tag := 7, started := true }) := by
  decide +kernel

theorem wit_FabricRequests_4 : (fun (s : State) (i : Nat) (perm : Nat) (m : List Byte) (rest : List (Nat × Nat × List Byte)) (n : LpNo) => s.dev.serving = true ∧
    s.dev.crs.inbox = (i, perm, m) :: rest ∧ cmType m = csREQUEST ∧ cmLen m = 64 ∧ cmSrc m ≠ s.dev.crs.id ∧
    entryReserved (slice (cmPay m) 0 64) = false ∧ (cmdOfBytes (slice (cmPay m) 0 64)).op = 0x50 ∧ s.dev.crsMay perm 1 = true ∧
    byteAt (cmdOfBytes (slice (cmPay m) 0 64)).par 0 = 1 ∧ byteAt (cmdOfBytes (slice (cmPay m) 0 64)).par 1 = 0 ∧
    zeros (slice (cmdOfBytes (slice (cmPay m) 0 64)).par 4 36) = true ∧ leNat (slice (cmdOfBytes (slice (cmPay m) 0 64)).par 2 2) = n.val ∧
    (s.dev.speedOf n.val).isSome = true) (at_ (fun d0 => let d := ((d0.setFld CRS_CTRL CRS_CTRL_ENABLE 1).live GLB_STATE GLB_STATE_GAP false); let d := (d.setFld GLB_STATE GLB_STATE_READY 1).putNum CRS_PERM 31; { d with crs := { d.crs with ctrl := d.num CRS_CTRL, keys := [(0, some ⟨[1], 5, 31, 3⟩)], inbox := (256, 31, ([1, 16, 0, 8, 4, 1, 5, 0, 1, 0, 5, 0, 9, 0, 0, 0, 64, 0, 0, 1, 0, 0, 0, 0, 80, 0, 0, 0, 0, 0, 0, 0, 0, 0, 0, 0, 0, 0, 0, 0, 1, 0, 8, 0, 0, 0, 0, 0, 0, 0, 0, 0, 0, 0, 0, 0, 0, 0, 0, 0, 0, 0, 0, 0, 0, 0, 0, 0, 0, 0, 0, 0, 0, 0, 0, 0, 0, 0, 0, 0, 0, 0, 0, 0, 0, 0, 0, 0] ++ List.replicate 48 0)) :: [] } })) (256) (31) (([1, 16, 0, 8, 4, 1, 5, 0, 1, 0, 5, 0, 9, 0, 0, 0, 64, 0, 0, 1, 0, 0, 0, 0, 80, 0, 0, 0, 0, 0, 0, 0, 0, 0, 0, 0, 0, 0, 0, 0, 1, 0, 8, 0, 0, 0, 0, 0, 0, 0, 0, 0, 0, 0, 0, 0, 0, 0, 0, 0, 0, 0, 0, 0, 0, 0, 0, 0, 0, 0, 0, 0, 0, 0, 0, 0, 0, 0, 0, 0, 0, 0, 0, 0, 0, 0, 0, 0] ++ List.replicate 48 0)) ([]) (8) := by
  decide +kernel

theorem wit_FabricRequests_5 : (fun (s : State) (r : RingNo) (tag : Byte) (x : BitVec 384) (c : Cmd) => s.dev.mayStartCmd r.val tag.toNat 0x70 c ∧
    byteAt c.par 0 = 2 ∧ s.dev.cresorStatus c.par 0 = stOK ∧
    Tbl.get s.dev.crs.keys none (csSlot c.par) = none) (at_ (fun d0 => let d := (d0.setFld GLB_STATE GLB_STATE_READY 1).live GLB_STATE GLB_STATE_GAP false; let d := (let d := d; let d := ((d.setFld CRS_CTRL CRS_CTRL_ENABLE 1)); { d with crs := { d.crs with ctrl := d.num CRS_CTRL, keys := [(0, some ⟨[1], 5, 31, 3⟩)] } }); { d with host := { d.host with rings := [(3, { enable := true, inflight := [{ op := 0x70, tag := 7, par := ([2, 1, 0, 0, 0, 0, 9, 0, 0, 0, 0, 0, 0, 0, 0, 0, 0, 0, 0, 0, 0, 0, 0, 0, 0, 0, 0, 0, 7, 3] ++ List.replicate 10 0) }] })] } })) (3) (7) (5) ({ op := 0x70, tag := 7, par := ([2, 1, 0, 0, 0, 0, 9, 0, 0, 0, 0, 0, 0, 0, 0, 0, 0, 0, 0, 0, 0, 0, 0, 0, 0, 0, 0, 0, 7, 3] ++ List.replicate 10 0) }) := by
  decide +kernel

theorem wit_FabricRequests_6 : (fun (s : State) (r : RingNo) (tag : Byte) (c : Cmd) (k : KeySlot) => s.dev.mayStartCmd r.val tag.toNat 0x70 c ∧
    byteAt c.par 0 = 3 ∧ s.dev.cresorStatus c.par 0 = stOK ∧ Tbl.get s.dev.crs.keys none (csSlot c.par) = some k ∧
    k.num ≠ 0) (at_ (fun d0 => let d := (d0.setFld GLB_STATE GLB_STATE_READY 1).live GLB_STATE GLB_STATE_GAP false; let d := (let d := d; let d := ((d.setFld CRS_CTRL CRS_CTRL_ENABLE 1)); { d with crs := { d.crs with ctrl := d.num CRS_CTRL, keys := [(1, some ⟨[1], 5, 31, 3⟩)] } }); { d with host := { d.host with rings := [(3, { enable := true, inflight := [{ op := 0x70, tag := 7, par := ([3, 1] ++ List.replicate 38 0) }] })] } })) (3) (7) ({ op := 0x70, tag := 7, par := ([3, 1] ++ List.replicate 38 0) }) (⟨[1], 5, 31, 3⟩) := by
  decide +kernel

theorem wit_BarAccess_1 : (fun (s : State) (off : BitVec 24) (n : Fin 4097) => s.dev.host.linkUp = true ∧
    (n.val ≠ 4 ∨ off.toNat % 4 ≠ 0)) (at_ id) (0x30) (8) := by
  decide +kernel

theorem wit_BarAccess_3 : (fun (s : State) (fn : FnNo) (off : BitVec 24) (o : Nat) => s.dev.host.linkUp = true ∧ off.toNat % 4 = 0 ∧
    barOff fn.val off.toNat = some o ∧ isSplitLow o = true) (at_ (fun d => d.setRing 2 { cplBase := 0x123456789AC0 })) (0) (0x1088) (0x1088) := by
  decide +kernel

theorem wit_BarAccess_4 : (fun (s : State) (fn : FnNo) (off : BitVec 24) (o u : Nat) => s.dev.host.linkUp = true ∧ off.toNat % 4 = 0 ∧
    barOff fn.val off.toNat = some o ∧ isSplitLow o = false ∧ 4 ≤ o ∧ isSplitLow (o - 4) = true ∧
    Tbl.get s.dev.host.splitRead none (o - 4) = some u) (at_ (fun d => { d with host := { d.host with splitRead := [(0x1088, some 0x1234)] } })) (0) (0x108C) (0x108C) (0x1234) := by
  decide +kernel

theorem wit_BarAccess_5 : (fun (s : State) (fn : FnNo) (off : BitVec 24) (v : BitVec 32) (o : Nat) => s.dev.host.linkUp = true ∧
    off.toNat % 4 = 0 ∧ barOff fn.val off.toNat = some o ∧ isSplitLow o = true) (at_ id) (1) (0x100) (5) (0x20100) := by
  decide +kernel

theorem wit_BarAccess_6 : (fun (s : State) (off : BitVec 24) (v : BitVec 32) (r : RingNo) (low : Nat) => s.dev.host.linkUp = true ∧
    off.toNat = ringReg r.val 4 ∧ Tbl.get s.dev.host.splitHeld none (ringReg r.val 0) = some low ∧ (s.dev.ring r.val).enable = false ∧
    s.dev.quiesced r.val = true) (at_ (fun d => { d with host := { d.host with splitHeld := [(0x1080, some 0xAC0)] } })) (0x1084) (5) (2) (0xAC0) := by
  decide +kernel

theorem wit_BarAccess_7 : (fun (s : State) (off : BitVec 24) (v : BitVec 32) (c : ChanNo) (low : Nat) => s.dev.host.linkUp = true ∧
    off.toNat = dmaReg c.val 4 ∧ Tbl.get s.dev.host.splitHeld none (dmaReg c.val 0) = some low ∧
    (s.dev.ch c.val).state = dsIDLE) (at_ (fun d => { d with host := { d.host with splitHeld := [(0x20200, some 0xAC0)] } })) (0x20204) (5) (2) (0xAC0) := by
  decide +kernel

theorem wit_BarAccess_8 : (fun (s : State) (i : BitVec 32) (v : Word) => s.dev.accepts i.toNat v.toNat ∧ keepItem i.toNat = false ∧
    [TK_SET 0, TK_SET 1, PWR_RESET].contains i.toNat = false) (at_ id) ((BitVec.ofNat 32 (MAC_MAX_LEN 3))) (1600) := by
  decide +kernel

theorem wit_BarAccess_9 : (fun (s : State) (i : BitVec 32) (v : Word) => s.dev.accepts i.toNat v.toNat ∧ i.toNat = CRS_PERM ∧
    s.dev.noFabric) (at_ id) ((BitVec.ofNat 32 CRS_PERM)) (5) := by
  decide +kernel

theorem wit_BarAccess_10 : (fun (s : State) (off : BitVec 24) (v : BitVec 32) (c : ChanNo) => s.dev.host.linkUp = true ∧
    off.toNat = dmaReg c.val 0x20 ∧ s.dev.noFabric) (at_ id) (0x20320) (7) (3) := by
  decide +kernel

theorem wit_Mailbox_1 : (fun (s : State) (r : RingNo) (v : BitVec 32) => s.dev.host.linkUp = true ∧ (s.dev.ring r.val).enable = false ∧
    s.dev.quiesced r.val = true ∧ (4 ≤ v.toNat / 0x100 % 16 ∧ v.toNat / 0x100 % 16 ≤ 12 ∧ 8 ≤ v.toNat / 0x1000 % 16 ∧
    v.toNat / 0x1000 % 16 ≤ 12)) (at_ (fun d => d.setRing 3 { cmdTail := 9, cmdHead := 9 })) (3) (0xC400) := by
  decide +kernel

theorem wit_Mailbox_2 : (fun (s : State) (r : RingNo) (v : BitVec 32) => s.dev.host.linkUp = true ∧
    v.toNat / 0x100 % 16 = (s.dev.ring r.val).cmdLog ∧ v.toNat / 0x1000 % 16 = (s.dev.ring r.val).cplLog ∧ (4 ≤ v.toNat / 0x100 % 16 ∧
    v.toNat / 0x100 % 16 ≤ 12 ∧ 8 ≤ v.toNat / 0x1000 % 16 ∧
    v.toNat / 0x1000 % 16 ≤ 12)) (at_ (fun d => d.setRing 3 { enable := true, cmdTail := 9, cmdHead := 9 })) (3) (0x8801) := by
  decide +kernel

theorem wit_Mailbox_3 : (fun (s : State) (r : RingNo) (v : BitVec 32) => s.dev.host.linkUp = true ∧
    idxDist (s.dev.ring r.val).cmdHead (s.dev.ring r.val).cmdTail ≤ idxDist (s.dev.ring r.val).cmdHead (v.toNat % 0x10000) ∧
    idxDist (s.dev.ring r.val).cmdHead (v.toNat % 0x10000) ≤ 2 ^ (s.dev.ring r.val).cmdLog) (at_ (fun d => d.setRing 3 { enable := true, cmdTail := 0xFFFF, cmdHead := 0xFFF0 })) (3) (0xF0) := by
  decide +kernel

theorem wit_Mailbox_4 : (fun (s : State) (r : RingNo) (v : BitVec 32) => s.dev.host.linkUp = true ∧
    (idxDist (s.dev.ring r.val).cmdHead (v.toNat % 0x10000) < idxDist (s.dev.ring r.val).cmdHead (s.dev.ring r.val).cmdTail ∨ 2 ^ (s.dev.ring r.val).cmdLog < idxDist (s.dev.ring r.val).cmdHead (v.toNat % 0x10000))) (at_ (fun d => d.setRing 3 { enable := true, cmdTail := 0xFFFF, cmdHead := 0xFFF0 })) (3) (0xF1) := by
  decide +kernel

theorem wit_Mailbox_5 : (fun (s : State) (r : RingNo) (v : BitVec 32) => s.dev.host.linkUp = true ∧
    idxDist (s.dev.ring r.val).cplHead (v.toNat % 0x10000) ≤ idxDist (s.dev.ring r.val).cplHead (s.dev.ring r.val).cplTail) (at_ (fun d => d.setRing 3 { enable := true, cplTail := 7, cplHead := 2 })) (3) (7) := by
  decide +kernel

theorem wit_Mailbox_6 : (fun (s : State) (r : RingNo) (v : BitVec 32) => s.dev.host.linkUp = true ∧
    idxDist (s.dev.ring r.val).cplHead (s.dev.ring r.val).cplTail < idxDist (s.dev.ring r.val).cplHead (v.toNat % 0x10000)) (at_ (fun d => d.setRing 3 { enable := true, cplTail := 7, cplHead := 2 })) (3) (8) := by
  decide +kernel

theorem wit_Mailbox_7 : (fun (s : State) (x : BitVec 512) (r : Nat) => s.dev.nextRing = some r ∧ entryReserved (entryBytes x) = false ∧
    opcodes.contains (cmdOfBytes (entryBytes x)).op = true ∧
    (s.dev.ring r).inflight.any (fun c => c.tag == (cmdOfBytes (entryBytes x)).tag) = false) (at_ (fun d0 => let d := (d0.setFld GLB_STATE GLB_STATE_READY 1).live GLB_STATE GLB_STATE_GAP false; { d with host := { d.host with bme0 := true, rings := [(3, { enable := true, cmdTail := 5 })] } })) (0x70001) (3) := by
  decide +kernel

theorem wit_Mailbox_8 : (fun (s : State) (x : BitVec 512) (r : Nat) => s.dev.nextRing = some r ∧
    (entryReserved (entryBytes x) = true ∨ opcodes.contains (cmdOfBytes (entryBytes x)).op = false ∨ (s.dev.ring r).inflight.any (fun c => c.tag == (cmdOfBytes (entryBytes x)).tag) = true)) (at_ (fun d0 => let d := (d0.setFld GLB_STATE GLB_STATE_READY 1).live GLB_STATE GLB_STATE_GAP false; { d with host := { d.host with bme0 := true, rings := [(3, { enable := true, cmdTail := 5 })] } })) (0x700FF) (3) := by
  decide +kernel

theorem wit_Mailbox_9 : (fun (s : State) (r : RingNo) (tag : Byte) (c : Cmd) => s.dev.mayStartCmd r.val tag.toNat 0x01 c ∧
    s.dev.readStatus c.par = stOK) (at_ (fun d0 => let d := (d0.setFld GLB_STATE GLB_STATE_READY 1).live GLB_STATE GLB_STATE_GAP false; let d := d; { d with host := { d.host with rings := [(3, { enable := true, inflight := [{ op := 0x01, tag := 7, par := (leBytes 4 (MAC_MAX_LEN 3) ++ [1] ++ List.replicate 35 0) }] })] } })) (3) (7) ({ op := 0x01, tag := 7, par := (leBytes 4 (MAC_MAX_LEN 3) ++ [1] ++ List.replicate 35 0) }) := by
  decide +kernel

theorem wit_Mailbox_10 : (fun (s : State) (r : RingNo) (tag : Byte) (c : Cmd) => s.dev.mayStartCmd r.val tag.toNat 0x01 c ∧
    s.dev.readStatus c.par = stOK ∧ s.dev.host.bme0 = false ∧ leNat (slice c.par 8 8) ≠ 0 ∧
    readsTrip (pcId c.par) (pcCount c.par) = false) (at_ (fun d0 => let d := (d0.setFld GLB_STATE GLB_STATE_READY 1).live GLB_STATE GLB_STATE_GAP false; let d := d; { d with host := { d.host with rings := [(3, { enable := true, inflight := [{ op := 0x01, tag := 7, par := (leBytes 4 (MAC_MAX_LEN 3) ++ [1, 0, 0, 0, 0, 16] ++ List.replicate 30 0) }] })] } })) (3) (7) ({ op := 0x01, tag := 7, par := (leBytes 4 (MAC_MAX_LEN 3) ++ [1, 0, 0, 0, 0, 16] ++ List.replicate 30 0) }) := by
  decide +kernel

theorem wit_Mailbox_11 : (fun (s : State) (r : RingNo) (tag : Byte) (c : Cmd) => s.dev.mayStartCmd r.val tag.toNat 0x02 c ∧
    pcId c.par = CRS_PERM ∧ pcCount c.par = 1 ∧ zeros (slice c.par 5 3) = true ∧ zeros (slice c.par 16 24) = true ∧
    leNat (slice c.par 8 8) < 2 ^ 48 ∧ s.dev.accepts CRS_PERM (leNat (slice c.par 8 8)) ∧
    s.dev.noFabric) (at_ (fun d0 => let d := (d0.setFld GLB_STATE GLB_STATE_READY 1).live GLB_STATE GLB_STATE_GAP false; let d := d; { d with host := { d.host with rings := [(3, { enable := true, inflight := [{ op := 0x02, tag := 7, par := (leBytes 4 (CRS_PERM) ++ [1, 0, 0, 0, 5] ++ List.replicate 31 0) }] })] } })) (3) (7) ({ op := 0x02, tag := 7, par := (leBytes 4 (CRS_PERM) ++ [1, 0, 0, 0, 5] ++ List.replicate 31 0) }) := by
  decide +kernel

theorem wit_Mailbox_12 : (fun (s : State) (r : RingNo) (tag : Byte) (c : Cmd) (x : Nat) => s.dev.mayStartCmd r.val tag.toNat 0x02 c ∧
    1 ≤ pcCount c.par ∧ pcCount c.par ≤ 4 ∧ zeros (slice c.par 5 3) = true ∧
    zeros (slice c.par (8 + 8 * pcCount c.par) (32 - 8 * pcCount c.par)) = true ∧ itemsExist (pcId c.par) (pcCount c.par) = true ∧
    (((List.range (pcCount c.par)).map (fun k => (pcId c.par + k, leNat (slice c.par (8 + 8 * k) 8)))).map (fun w => s.dev.writeStatus ((List.range (pcCount c.par)).map (fun k => (pcId c.par + k, leNat (slice c.par (8 + 8 * k) 8)))) w.1 w.2)).find? (fun t => t != stOK) = some x ∧
    x ≠ stWEAR_LIMIT ∧ s.dev.noFabric ∧
    s.dev.crs.lsr = []) (at_ (fun d0 => let d := (d0.setFld GLB_STATE GLB_STATE_READY 1).live GLB_STATE GLB_STATE_GAP false; let d := d; { d with host := { d.host with rings := [(3, { enable := true, inflight := [{ op := 0x02, tag := 7, par := (leBytes 4 (MAC_MAX_LEN 3) ++ [1, 0, 0, 0, 255, 255, 255, 255] ++ List.replicate 28 0) }] })] } })) (3) (7) ({ op := 0x02, tag := 7, par := (leBytes 4 (MAC_MAX_LEN 3) ++ [1, 0, 0, 0, 255, 255, 255, 255] ++ List.replicate 28 0) }) (stBAD_PARAM) := by
  decide +kernel

theorem wit_DmaChannels_1 : (fun (s : State) (c : ChanNo) (ro again : Bool) (next : BitVec 64) => s.dev.host.linkUp = true ∧
    (s.dev.ch c.val).state = dsIDLE) (at_ (fun d0 => let d := d0; { d with dma := [(33, { head := 0x1000 })], host := { d.host with bme1 := true, bme2 := true } })) (33) (false) (true) (0) := by
  decide +kernel

theorem wit_DmaChannels_2 : (fun (s : State) (c : ChanNo) (ro again : Bool) (next : BitVec 64) => s.dev.host.linkUp = true ∧
    ((s.dev.ch c.val).state = dsSTOPPED ∨ (s.dev.ch c.val).state = dsERROR) ∧
    (s.dev.ch c.val).tail = false) (at_ (fun d0 => let d := d0; { d with dma := [(33, { head := 0x1000, cur := 0x20, state := 5 })], host := { d.host with bme1 := true, bme2 := true } })) (33) (false) (true) (0) := by
  decide +kernel

theorem wit_DmaChannels_3 : (fun (s : State) (c : ChanNo) (ro : Bool) => s.dev.host.linkUp = true ∧ (s.dev.ch c.val).state = dsPARKED ∧
    (s.dev.ch c.val).run = true) (at_ (fun d0 => let d := d0; { d with dma := [(33, { state := 2, run := true })], host := { d.host with bme1 := true, bme2 := true } })) (33) (true) := by
  decide +kernel

theorem wit_DmaChannels_4 : (fun (s : State) (c : ChanNo) (ro : Bool) => s.dev.host.linkUp = true ∧
    ((s.dev.ch c.val).state = dsSTOPPED ∨ (s.dev.ch c.val).state = dsERROR)) (at_ (fun d0 => let d := d0; { d with dma := [(33, { state := 5, run := true, done := 9 })], host := { d.host with bme1 := true, bme2 := true } })) (33) (true) := by
  decide +kernel

theorem wit_DmaChannels_5 : (fun (s : State) (c : ChanNo) (again : Bool) (next : BitVec 64) => s.dev.host.linkUp = true ∧
    (s.dev.ch c.val).state = dsPARKED) (at_ (fun d0 => let d := d0; { d with dma := [(33, { state := 2, run := true })], host := { d.host with bme1 := true, bme2 := true } })) (33) (false) (0x40) := by
  decide +kernel

theorem wit_DmaChannels_6 : (fun (s : State) (c : ChanNo) (again : Bool) (next : BitVec 64) => s.dev.host.linkUp = true ∧
    (s.dev.ch c.val).state = dsRUNNING ∧
    (s.dev.ch c.val).hold = none) (at_ (fun d0 => let d := d0; { d with dma := [(33, { state := 1, run := true })], host := { d.host with bme1 := true, bme2 := true } })) (33) (false) (0x40) := by
  decide +kernel

theorem wit_DmaChannels_7 : (fun (s : State) (c : ChanNo) => s.dev.runsT (tHoldoff c.val) = true ∧
    s.dev.pulses = []) (at_ (fun d0 => let d := d0.startT (tHoldoff 33) 99; { d with dma := [(33, { state := 1, since := 4 })], host := { d.host with bme1 := true, bme2 := true } })) (33) := by
  decide +kernel

theorem wit_DmaChannels_8 : (fun (s : State) (c : ChanNo) => ((s.dev.ch c.val).state = dsRUNNING ∨ (s.dev.ch c.val).state = dsSTOPPING ∨ (s.dev.ch c.val).state = dsPARKED)) (at_ (fun d0 => let d := d0; { d with dma := [(33, { state := 3 })], host := { d.host with bme1 := true, bme2 := true } })) (33) := by
  decide +kernel

theorem wit_DmaChannels_9 : (fun (s : State) => s.dev.host.linkUp = true) (at_ (fun d => { d with host := { d.host with rings := [(3, { enable := true })], held := [⟨3, false, [], none⟩] } })) := by
  decide +kernel

theorem wit_DmaChannels_10 : (fun (s : State) (f : FnNo) (c : ChanNo) => s.dev.host.linkUp = true ∧
    (chans f.val).contains c.val = true) (at_ (fun d0 => let d := d0; { d with dma := [(33, { state := 3, done := 9 })], host := { d.host with bme1 := true, bme2 := true } })) (1) (33) := by
  decide +kernel

theorem wit_DmaChannels_11 : (fun (s : State) (f : FnNo) (c : ChanNo) => s.dev.host.linkUp = true ∧ (chans f.val).contains c.val = true ∧
    ((s.dev.ch c.val).state = dsRUNNING ∨ (s.dev.ch c.val).state = dsSTOPPING ∨ (s.dev.ch c.val).state = dsPARKED)) (at_ (fun d0 => let d := d0; { d with dma := [(33, { state := 3, done := 9 })], host := { d.host with bme1 := true, bme2 := true } })) (1) (33) := by
  decide +kernel

theorem wit_DmaChannels_12 : (fun (s : State) => s.dev.host.linkUp = true) (at_ (fun d => { d with host := { d.host with bme0 := true } })) := by
  decide +kernel

theorem wit_DmaChannels_13 : (fun (s : State) (f : FnNo) => s.dev.host.linkUp = true ∧ s.dev.host.held = []) (at_ id) (0) := by
  decide +kernel

theorem wit_DmaBlocks_1 : (fun (s : State) (c : ChanNo) (a : BitVec 64) (ctl : BitVec 32) (next : BitVec 64) (data : List Byte) (again : Bool) => 56 ≤ c.val ∧
    s.dev.host.bme2 = true ∧ (s.dev.ch c.val).state = dsRUNNING ∧ (s.dev.ch c.val).hold = none ∧ (s.dev.ch c.val).tail = false ∧
    (s.dev.ch c.val).pending = false ∧ (s.dev.ch c.val).cur % 32 = 0 ∧ ctLen ctl.toNat ≠ 0 ∧
    ctEop ctl.toNat = false) (at_ (fun d0 => let d := d0; { d with dma := [(57, { state := 1, cur := 0x40, run := true })], host := { d.host with bme1 := true, bme2 := true } })) (57) (0x1000) (0x20000003) (0x60) ([1, 2, 3]) (false) := by
  decide +kernel

theorem wit_DmaBlocks_2 : (fun (s : State) (c : ChanNo) (a : BitVec 64) (ctl : BitVec 32) (next : BitVec 64) (data : List Byte) (again : Bool) (x : Rec) => 48 ≤ c.val ∧
    c.val < 56 ∧ s.dev.host.bme2 = true ∧ (s.dev.ch c.val).state = dsRUNNING ∧ (s.dev.ch c.val).hold = none ∧ (s.dev.ch c.val).tail = false ∧
    (s.dev.ch c.val).pending = false ∧ (s.dev.ch c.val).cur % 32 = 0 ∧ Tbl.get s.dev.net.tele [] c.val = [x] ∧
    ctLen ctl.toNat / recLen x.kind = 1) (at_ (fun d0 => let d := { d0 with net := { d0.net with tele := [(49, [⟨2, List.replicate 40 7⟩])] } }; { d with dma := [(49, { state := 1, cur := 0x40, run := true })], host := { d.host with bme1 := true, bme2 := true } })) (49) (0x1000) (50) (0x60) ([]) (false) (⟨2, List.replicate 40 7⟩) := by
  decide +kernel

theorem wit_DmaBlocks_3 : (fun (s : State) (c : Fin 32) (h : DmaHold) => s.dev.runsT (tCut c.val) = true ∧ s.dev.pulses = [] ∧
    (s.dev.ch c.val).inFrame = true ∧
    (s.dev.ch c.val).hold = some h) (at_ (fun d0 => let d := d0.startT (tCut 7) 99; { d with dma := [(7, { state := 1, cur := 0x40, run := true, inFrame := true, gather := [4, 5], hold := some { at_ := 0x40, ctrl := 0x80000002, next := 0, sop := true, count := 2 } })], host := { d.host with bme1 := true, bme2 := true } })) (7) ({ at_ := 0x40, ctrl := 0x80000002, next := 0, sop := true, count := 2 }) := by
  decide +kernel

theorem wit_DmaBlocks_4 : (fun (s : State) (k : SlotNo) (a : BitVec 64) (l q : Bool) (next : BitVec 64) (data : List Byte) (again : Bool) => s.dev.host.bme1 = true ∧
    (s.dev.ch (32 + k.val)).state = dsRUNNING ∧ (s.dev.ch (32 + k.val)).hold = none ∧ (s.dev.ch (32 + k.val)).tail = false ∧
    (s.dev.ch (32 + k.val)).pending = false ∧ (s.dev.ch (32 + k.val)).cur % 32 = 0 ∧ s.dev.blockUp bkCORE = true ∧ s.dev.pwr.target = none ∧
    injectOk data = true ∧
    data.length < 2 ^ 24) (at_ (fun d0 => let d := d0; { d with dma := [(33, { state := 1, cur := 0x40, run := true })], host := { d.host with bme1 := true, bme2 := true } })) (1) (0x1000) (true) (false) (0x60) (([2,0,3,0,1] ++ List.replicate 27 0 ++ List.replicate 60 9)) (false) := by
  decide +kernel

theorem wit_DmaBlocks_5 : (fun (s : State) (k : Fin 8) (a : BitVec 64) (l q : Bool) (next : BitVec 64) (data : List Byte) (again : Bool) => s.dev.host.bme2 = true ∧
    (s.dev.ch (56 + k.val)).state = dsRUNNING ∧ (s.dev.ch (56 + k.val)).hold = none ∧ (s.dev.ch (56 + k.val)).tail = false ∧
    (s.dev.ch (56 + k.val)).pending = false ∧ (s.dev.ch (56 + k.val)).cur % 32 = 0 ∧ s.dev.blockUp bkCORE = true ∧ byteAt data 0 < 8 ∧
    data.length = 40 + leNat (slice data 20 4) ∧ leNat (slice data 12 8) = 0 ∧
    data.length < 2 ^ 24) (at_ (fun d0 => let d := d0; { d with dma := [(57, { state := 1, cur := 0x40, run := true })], host := { d.host with bme1 := true, bme2 := true } })) (1) (0x1000) (true) (false) (0x60) ((([5,1] ++ List.replicate 38 0) ++ [])) (false) := by
  decide +kernel

theorem wit_CountersAndSweeps_1 : (fun (s : State) (r : RingNo) (tag : Byte) (c : Cmd) => s.dev.mayStartCmd r.val tag.toNat 0x30 c ∧
    zeros (slice c.par 4 4) = true ∧ zeros (slice c.par 16 24) = true ∧ s.dev.readable (leNat (slice c.par 0 4)) = true ∧
    s.dev.host.bme0 = false) (at_ (fun d0 => let d := (d0.setFld GLB_STATE GLB_STATE_READY 1).live GLB_STATE GLB_STATE_GAP false; let d := d; { d with host := { d.host with rings := [(3, { enable := true, inflight := [{ op := 0x30, tag := 7, par := (leBytes 4 (MAC_LINK_DOWNS 3) ++ [0, 0, 0, 0, 0, 32] ++ List.replicate 30 0) }] })] } })) (3) (7) ({ op := 0x30, tag := 7, par := (leBytes 4 (MAC_LINK_DOWNS 3) ++ [0, 0, 0, 0, 0, 32] ++ List.replicate 30 0) }) := by
  decide +kernel

theorem wit_CountersAndSweeps_2 : (fun (s : State) (r : RingNo) (tag : Byte) (l : List (BitVec 32)) (c : Cmd) => s.dev.mayStartCmd r.val tag.toNat 0x31 c ∧
    byteAt c.par 2 = 1 ∧
    s.dev.sweepStatus c.par = stOK) (at_ (fun d0 => let d := (d0.setFld GLB_STATE GLB_STATE_READY 1).live GLB_STATE GLB_STATE_GAP false; let d := d; { d with host := { d.host with rings := [(3, { enable := true, inflight := [{ op := 0x31, tag := 7, par := ([5, 0, 1, 49, 2] ++ List.replicate 35 0) }] })] } })) (3) (7) ([0x15000040, 0x15000041]) ({ op := 0x31, tag := 7, par := ([5, 0, 1, 49, 2] ++ List.replicate 35 0) }) := by
  decide +kernel

theorem wit_CountersAndSweeps_3 : (fun (s : State) (r : RingNo) (tag : Byte) (c : Cmd) => s.dev.mayStartCmd r.val tag.toNat 0x31 c ∧
    byteAt c.par 2 = 2 ∧
    s.dev.sweepStatus c.par = stOK) (at_ (fun d0 => let d := (d0.setFld GLB_STATE GLB_STATE_READY 1).live GLB_STATE GLB_STATE_GAP false; let d := { d with obs := { d.obs with sweeps := [(5, some ⟨0x31, [0x15000040, 0x15000041]⟩)] } }; { d with host := { d.host with rings := [(3, { enable := true, inflight := [{ op := 0x31, tag := 7, par := ([5, 0, 2] ++ List.replicate 37 0) }] })] } })) (3) (7) ({ op := 0x31, tag := 7, par := ([5, 0, 2] ++ List.replicate 37 0) }) := by
  decide +kernel

theorem wit_CountersAndSweeps_4 : (fun (s : State) (r : RingNo) (tag : Byte) (c : Cmd) => s.dev.mayStartCmd r.val tag.toNat 0x31 c ∧
    byteAt c.par 2 = 3 ∧
    s.dev.sweepStatus c.par = stOK) (at_ (fun d0 => let d := (d0.setFld GLB_STATE GLB_STATE_READY 1).live GLB_STATE GLB_STATE_GAP false; let d := { d with obs := { d.obs with sweeps := [(5, some ⟨0x31, [0x15000040, 0x15000041]⟩)], runs := [{ sweep := 5, owner := none }] } }; { d with host := { d.host with rings := [(3, { enable := true, inflight := [{ op := 0x31, tag := 7, par := ([5, 0, 3] ++ List.replicate 37 0) }] })] } })) (3) (7) ({ op := 0x31, tag := 7, par := ([5, 0, 3] ++ List.replicate 37 0) }) := by
  decide +kernel

theorem wit_CountersAndSweeps_5 : (fun (s : State) (r : SweepRun) (rest : List SweepRun) (x : Sweep) => s.dev.obs.runs = r :: rest ∧
    s.dev.sweepOf r.sweep = some x ∧
    r.pos + 1 < x.ids.length) (at_ (fun d => { d with obs := { d.obs with sweeps := [(5, some ⟨0x31, [0x15000040, 0x15000041]⟩)], runs := [{ sweep := 5, owner := none }] } })) ({ sweep := 5, owner := none }) ([]) (⟨0x31, [0x15000040, 0x15000041]⟩) := by
  decide +kernel

theorem wit_CountersAndSweeps_6 : (fun (s : State) (r : SweepRun) (rest : List SweepRun) (x : Sweep) => s.dev.obs.runs = r :: rest ∧
    rest.all (fun x => x.sweep != r.sweep) = true ∧ s.dev.sweepOf r.sweep = some x ∧
    r.pos + 1 = x.ids.length) (at_ (fun d => { d with obs := { d.obs with sweeps := [(5, some ⟨0x31, [0x15000040, 0x15000041]⟩)], runs := [{ sweep := 5, owner := none, pos := 1 }] } })) ({ sweep := 5, owner := none, pos := 1 }) ([]) (⟨0x31, [0x15000040, 0x15000041]⟩) := by
  decide +kernel

theorem wit_TrustPortAndCalibrationCommands_1 : (fun (s : State) (r : RingNo) (tag : Byte) (c : Cmd) => s.dev.mayStartCmd r.val tag.toNat 0x40 c ∧
    byteAt c.par 0 = 1 ∧ (s.dev.attest c.par).1 = stOK ∧
    s.dev.host.bme0 = false) (at_ (fun d0 => let d := (d0.setFld GLB_STATE GLB_STATE_READY 1).live GLB_STATE GLB_STATE_GAP false; let d := d; { d with host := { d.host with rings := [(3, { enable := true, inflight := [{ op := 0x40, tag := 7, par := ([1] ++ List.replicate 39 0) }] })] } })) (3) (7) ({ op := 0x40, tag := 7, par := ([1] ++ List.replicate 39 0) }) := by
  decide +kernel

theorem wit_TrustPortAndCalibrationCommands_2 : (fun (s : State) (r : RingNo) (tag : Byte) (c : Cmd) => s.dev.mayStartCmd r.val tag.toNat 0x40 c ∧
    byteAt c.par 0 = 2 ∧ (s.dev.attest c.par).1 = stOK ∧
    s.dev.host.bme0 = false) (at_ (fun d0 => let d := (d0.setFld GLB_STATE GLB_STATE_READY 1).live GLB_STATE GLB_STATE_GAP false; let d := d; { d with host := { d.host with rings := [(3, { enable := true, inflight := [{ op := 0x40, tag := 7, par := ([2] ++ List.replicate 39 0) }] })] } })) (3) (7) ({ op := 0x40, tag := 7, par := ([2] ++ List.replicate 39 0) }) := by
  decide +kernel

theorem wit_TrustPortAndCalibrationCommands_3 : (fun (s : State) (r : RingNo) (tag : Byte) (c : Cmd) => s.dev.mayStartCmd r.val tag.toNat 0x40 c ∧
    byteAt c.par 0 = 3 ∧ (s.dev.attest c.par).1 = stOK ∧
    s.dev.host.bme0 = false) (at_ (fun d0 => let d := (d0.setFld GLB_STATE GLB_STATE_READY 1).live GLB_STATE GLB_STATE_GAP false; let d := d.extend 0 1 0 5 9; { d with host := { d.host with rings := [(3, { enable := true, inflight := [{ op := 0x40, tag := 7, par := ([3] ++ List.replicate 39 0) }] })] } })) (3) (7) ({ op := 0x40, tag := 7, par := ([3] ++ List.replicate 39 0) }) := by
  decide +kernel

theorem wit_TrustPortAndCalibrationCommands_4 : (fun (s : State) (r : RingNo) (tag : Byte) (data : List Byte) (c : Cmd) => s.dev.mayStartCmd r.val tag.toNat 0x41 c ∧
    1 ≤ (leNat (slice c.par 8 4)) ∧ (leNat (slice c.par 8 4)) ≤ 1048576 ∧ (byteAt c.par 16 = 1 ∨ byteAt c.par 16 = 3) ∧
    zeros (slice c.par 17 23) = true ∧ s.dev.imageBusy = false ∧ leNat (slice c.par 12 4) = 0 ∧
    s.dev.runBank ≤ 1) (at_ (fun d0 => let d := (d0.setFld GLB_STATE GLB_STATE_READY 1).live GLB_STATE GLB_STATE_GAP false; let d := d; { d with host := { d.host with rings := [(3, { enable := true, inflight := [{ op := 0x41, tag := 7, par := ([0, 0, 0, 0, 0, 0, 0, 0, 2, 0, 0, 0, 0, 0, 0, 0, 3] ++ List.replicate 23 0) }] })] } })) (3) (7) ([4, 5]) ({ op := 0x41, tag := 7, par := ([0, 0, 0, 0, 0, 0, 0, 0, 2, 0, 0, 0, 0, 0, 0, 0, 3] ++ List.replicate 23 0) }) := by
  decide +kernel

theorem wit_TrustPortAndCalibrationCommands_5 : (fun (s : State) (r : RingNo) (tag : Byte) (data : List Byte) (c : Cmd) => s.dev.mayStartCmd r.val tag.toNat 0x41 c ∧
    1 ≤ (leNat (slice c.par 8 4)) ∧ (leNat (slice c.par 8 4)) ≤ 1048576 ∧ (byteAt c.par 16 = 0 ∨ byteAt c.par 16 = 2) ∧
    zeros (slice c.par 17 23) = true ∧ s.dev.imageBusy = false ∧ s.dev.fld TRUST_IMAGE TRUST_IMAGE_STAGE = 1 ∧
    leNat (slice c.par 12 4) = s.dev.trust.staged.length ∧
    leNat (slice c.par 12 4) + (leNat (slice c.par 8 4)) ≤ 31 * 1048576) (at_ (fun d0 => let d := (d0.setFld GLB_STATE GLB_STATE_READY 1).live GLB_STATE GLB_STATE_GAP false; let d := ({ d with trust := { d.trust with staged := [9] } }).setFld TRUST_IMAGE TRUST_IMAGE_STAGE 1; { d with host := { d.host with rings := [(3, { enable := true, inflight := [{ op := 0x41, tag := 7, par := ([0, 0, 0, 0, 0, 0, 0, 0, 2, 0, 0, 0, 1, 0, 0, 0, 2] ++ List.replicate 23 0) }] })] } })) (3) (7) ([4, 5]) ({ op := 0x41, tag := 7, par := ([0, 0, 0, 0, 0, 0, 0, 0, 2, 0, 0, 0, 1, 0, 0, 0, 2] ++ List.replicate 23 0) }) := by
  decide +kernel

theorem wit_TrustPortAndCalibrationCommands_6 : (fun (s : State) (r tag : Nat) (l : List Byte) (last : Bool) => s.dev.trust.erase = some (r, tag, l, last)) (at_ (fun d => { d with trust := { d.trust with erase := some (3, 7, [4], true) } })) (3) (7) ([4]) (true) := by
  decide +kernel

theorem wit_TrustPortAndCalibrationCommands_7 : (fun (s : State) (r : RingNo) (tag : Byte) (c : Cmd) => s.dev.mayStartCmd r.val tag.toNat 0x42 c ∧
    byteAt c.par 0 = 1 ∧ zeros (slice c.par 1 39) = true ∧ s.dev.imageBusy = false ∧ s.dev.fld TRUST_IMAGE TRUST_IMAGE_STAGE = 2 ∧
    s.dev.trust.ptrSeq < keepLimit) (at_ (fun d0 => let d := (d0.setFld GLB_STATE GLB_STATE_READY 1).live GLB_STATE GLB_STATE_GAP false; let d := ({ d with trust := { d.trust with staged := [9] } }).setFld TRUST_IMAGE TRUST_IMAGE_STAGE 2; { d with host := { d.host with rings := [(3, { enable := true, inflight := [{ op := 0x42, tag := 7, par := ([1] ++ List.replicate 39 0) }] })] } })) (3) (7) ({ op := 0x42, tag := 7, par := ([1] ++ List.replicate 39 0) }) := by
  decide +kernel

theorem wit_TrustPortAndCalibrationCommands_8 : (fun (s : State) (r : RingNo) (tag : Byte) (c : Cmd) => s.dev.mayStartCmd r.val tag.toNat 0x42 c ∧
    byteAt c.par 0 = 2 ∧ zeros (slice c.par 1 39) = true ∧ s.dev.imageBusy = false ∧ s.dev.cal.run = none ∧ s.dev.ptrBank ≠ s.dev.runBank ∧
    s.dev.trust.commits = [] ∧
    (s.dev.flash s.dev.ptrBank).isSome = true) (at_ (fun d0 => let d := (d0.setFld GLB_STATE GLB_STATE_READY 1).live GLB_STATE GLB_STATE_GAP false; let d := (d.setFld TRUST_IMAGE TRUST_IMAGE_PTR_BANK 1).setFlash 1 (some ⟨5, 6, 7⟩); { d with host := { d.host with rings := [(3, { enable := true, inflight := [{ op := 0x42, tag := 7, par := ([2] ++ List.replicate 39 0) }] })] } })) (3) (7) ({ op := 0x42, tag := 7, par := ([2] ++ List.replicate 39 0) }) := by
  decide +kernel

theorem wit_TrustPortAndCalibrationCommands_9 : (fun (s : State) (r : RingNo) (tag : Byte) (c : Cmd) => s.dev.mayStartCmd r.val tag.toNat 0x43 c ∧
    zeros (slice c.par 5 35) = true ∧ byteAt c.par 4 = 0 ∧
    keepItem (leNat (slice c.par 0 4)) = true) (at_ (fun d0 => let d := (d0.setFld GLB_STATE GLB_STATE_READY 1).live GLB_STATE GLB_STATE_GAP false; let d := d; { d with host := { d.host with rings := [(3, { enable := true, inflight := [{ op := 0x43, tag := 7, par := (leBytes 4 (CRS_NODE_ID) ++ [] ++ List.replicate 36 0) }] })] } })) (3) (7) ({ op := 0x43, tag := 7, par := (leBytes 4 (CRS_NODE_ID) ++ [] ++ List.replicate 36 0) }) := by
  decide +kernel

theorem wit_TrustPortAndCalibrationCommands_10 : (fun (s : State) (r : RingNo) (tag : Byte) (c : Cmd) => s.dev.mayStartCmd r.val tag.toNat 0x50 c ∧
    byteAt c.par 0 ≤ 1 ∧ byteAt c.par 1 = 0 ∧ zeros (slice c.par 4 36) = true ∧ leNat (slice c.par 2 2) < 256 ∧
    (s.dev.speedOf (leNat (slice c.par 2 2))).isSome = true) (at_ (fun d0 => let d := (d0.setFld GLB_STATE GLB_STATE_READY 1).live GLB_STATE GLB_STATE_GAP false; let d := d; { d with host := { d.host with rings := [(3, { enable := true, inflight := [{ op := 0x50, tag := 7, par := ([1, 0, 8] ++ List.replicate 37 0) }] })] } })) (3) (7) ({ op := 0x50, tag := 7, par := ([1, 0, 8] ++ List.replicate 37 0) }) := by
  decide +kernel

theorem wit_TrustPortAndCalibrationCommands_11 : (fun (s : State) (r : RingNo) (tag : Byte) (c : Cmd) => s.dev.mayStartCmd r.val tag.toNat 0x60 c ∧
    s.dev.calStatus c.par = stOK ∧ crKind c.par ≠ crENTER ∧
    crFlags c.par % 2 = 1) (at_ (fun d0 => let d := (d0.setFld GLB_STATE GLB_STATE_READY 1).live GLB_STATE GLB_STATE_GAP false; let d := (d.live CAL_STATUS CAL_STATUS_FACT false).live TK_STATUS TK_STATUS_SET true |>.live EMU_GLB_STATUS EMU_GLB_STATUS_COARSE false; { d with host := { d.host with rings := [(3, { enable := true, inflight := [{ op := 0x60, tag := 7, par := ([7, 0, 1, 1, 0, 0, 0, 0] ++ List.replicate 32 0) }] })] } })) (3) (7) ({ op := 0x60, tag := 7, par := ([7, 0, 1, 1, 0, 0, 0, 0] ++ List.replicate 32 0) }) := by
  decide +kernel

theorem wit_TrustPortAndCalibrationCommands_12 : (fun (s : State) (r : RingNo) (tag : Byte) (c : Cmd) => s.dev.mayStartCmd r.val tag.toNat 0x60 c ∧
    s.dev.calStatus c.par = stOK ∧ (crKind c.par = crINPUT ∨ crKind c.par = crOUTPUT) ∧
    crFlags c.par % 2 = 0) (at_ (fun d0 => let d := (d0.setFld GLB_STATE GLB_STATE_READY 1).live GLB_STATE GLB_STATE_GAP false; let d := (d.live CAL_STATUS CAL_STATUS_FACT false).live TK_STATUS TK_STATUS_SET true |>.live EMU_GLB_STATUS EMU_GLB_STATUS_COARSE false; { d with host := { d.host with rings := [(3, { enable := true, inflight := [{ op := 0x60, tag := 7, par := ([7, 0, 1, 0, 0, 0, 100, 0] ++ List.replicate 32 0) }] })] } })) (3) (7) ({ op := 0x60, tag := 7, par := ([7, 0, 1, 0, 0, 0, 100, 0] ++ List.replicate 32 0) }) := by
  decide +kernel

theorem wit_Reception_1 : (fun (s : State) (n : LpNo) (t : RxTerms) (head : List Byte) (sp : Nat) => s.dev.blockUp bkCORE = true ∧
    s.dev.speedOf n.val = some sp ∧ s.dev.lpUp n.val = true ∧ s.dev.pwr.handOff = false ∧ s.dev.receiving n.val = none ∧
    (s.dev.lanesOf n.val).contains t.lane = true ∧ macControl head = false ∧
    s.dev.staged (n.val / 16) + head.length ≤ 262144) (at_ (fun d => (d.setFld (MAC_STATUS 0) MAC_STATUS_STATE 5))) (0) (⟨0, 0, 0, 0, 0⟩) ((List.replicate 12 2 ++ [8, 0] ++ List.replicate 50 0)) (0) := by
  decide +kernel

theorem wit_Reception_2 : (fun (s : State) (n : LpNo) (r : List Byte) (x : BitVec 32) (fid : Nat) (f : Frame) => s.dev.blockUp bkCORE = true ∧
    s.dev.receiving n.val = some fid ∧ s.dev.frame? fid = some f ∧ f.stage = 0 ∧ f.pass = 1 ∧ f.dead = false ∧ s.dev.carving fid = false ∧
    rxCheck false ((f.orig ++ r).length + 4) (s.dev.num (MAC_MAX_LEN n.val)) (crc32 (f.orig ++ r) == x.toNat) = 0) (at_ (fun d => let d := d; { d with net := { d.net with frames := [(3, some { lp := 0, stamp := 5, orig := (List.replicate 12 2 ++ [8, 0] ++ List.replicate 50 0), body := (List.replicate 12 2 ++ [8, 0] ++ List.replicate 50 0) })] } })) (0) ([9, 9]) ((BitVec.ofNat 32 (crc32 ((List.replicate 12 2 ++ [8, 0] ++ List.replicate 50 0) ++ [9, 9])))) (3) ({ lp := 0, stamp := 5, orig := (List.replicate 12 2 ++ [8, 0] ++ List.replicate 50 0), body := (List.replicate 12 2 ++ [8, 0] ++ List.replicate 50 0) }) := by
  decide +kernel

theorem wit_Reception_3 : (fun (s : State) (n : LpNo) (r : List Byte) (x : BitVec 32) (fid : Nat) (f : Frame) => s.dev.blockUp bkCORE = true ∧
    s.dev.receiving n.val = some fid ∧ s.dev.frame? fid = some f ∧ f.stage = 0 ∧ f.dead = false ∧ s.dev.carving fid = false ∧ s.dev.refs fid = 0 ∧
    rxCheck false ((f.orig ++ r).length + 4) (s.dev.num (MAC_MAX_LEN n.val)) (crc32 (f.orig ++ r) == x.toNat) = drFCS_BAD) (at_ (fun d => let d := d; { d with net := { d.net with frames := [(3, some { lp := 0, stamp := 5, orig := (List.replicate 12 2 ++ [8, 0] ++ List.replicate 50 0), body := (List.replicate 12 2 ++ [8, 0] ++ List.replicate 50 0) })] } })) (0) ([9, 9]) (5) (3) ({ lp := 0, stamp := 5, orig := (List.replicate 12 2 ++ [8, 0] ++ List.replicate 50 0), body := (List.replicate 12 2 ++ [8, 0] ++ List.replicate 50 0) }) := by
  decide +kernel

theorem wit_Reception_4 : (fun (s : State) (fid : Nat) (f : Frame) => s.dev.blockUp bkCORE = true ∧ s.dev.frame? fid = some f ∧ f.stage = 0 ∧
    f.dead = false ∧ f.pass = 1 ∧ f.lp < 256 ∧ s.dev.tk.time ≤ s.dev.passEnd f ∧ s.dev.fixedLogic f = .ordinary ∧
    (parseFrame (s.dev.bank f.bank) f.body f.tail).wait = false ∧
    s.dev.profileWaits f (parseFrame (s.dev.bank f.bank) f.body f.tail) = false) (at_ (fun d => let d := d; { d with net := { d.net with frames := [(3, some { lp := 0, stamp := 5, orig := (List.replicate 12 2 ++ [8, 0] ++ List.replicate 50 0), body := (List.replicate 12 2 ++ [8, 0] ++ List.replicate 50 0), tail := true })] } })) (3) ({ lp := 0, stamp := 5, orig := (List.replicate 12 2 ++ [8, 0] ++ List.replicate 50 0), body := (List.replicate 12 2 ++ [8, 0] ++ List.replicate 50 0), tail := true }) := by
  decide +kernel

theorem wit_Reception_5 : (fun (s : State) (fid : Nat) (f : Frame) (t : Term) => s.dev.blockUp bkCORE = true ∧ s.dev.frame? fid = some f ∧
    f.stage = 0 ∧ f.dead = false ∧ f.pass = 1 ∧ f.lp < 256 ∧ s.dev.tk.time ≤ s.dev.passEnd f ∧ s.dev.fixedLogic f = .terminated t ∧
    2 ≤ t.kind) (at_ (fun d => let d := d; { d with net := { d.net with frames := [(3, some { lp := 0, stamp := 5, orig := (List.replicate 12 2 ++ [0x88, 0xB5] ++ List.replicate 50 7), body := (List.replicate 12 2 ++ [0x88, 0xB5] ++ List.replicate 50 7), tail := true })] } })) (3) ({ lp := 0, stamp := 5, orig := (List.replicate 12 2 ++ [0x88, 0xB5] ++ List.replicate 50 7), body := (List.replicate 12 2 ++ [0x88, 0xB5] ++ List.replicate 50 7), tail := true }) ({ kind := 4, lp := 0, stamp := 5, bytes := (List.replicate 12 2 ++ [0x88, 0xB5] ++ List.replicate 50 7), mac := 0x020202020202, bad := false }) := by
  decide +kernel

theorem wit_Reception_6 : (fun (s : State) (fid : Nat) (f : Frame) => s.dev.blockUp bkCORE = true ∧ s.dev.frame? fid = some f ∧ f.stage = 0 ∧
    f.dead = false) (at_ (fun d => let d := d; { d with net := { d.net with frames := [(3, some { lp := 0, stamp := 5, orig := (List.replicate 12 2 ++ [8, 0] ++ List.replicate 50 0), body := (List.replicate 12 2 ++ [8, 0] ++ List.replicate 50 0), tail := true })] } })) (3) ({ lp := 0, stamp := 5, orig := (List.replicate 12 2 ++ [8, 0] ++ List.replicate 50 0), body := (List.replicate 12 2 ++ [8, 0] ++ List.replicate 50 0), tail := true }) := by
  decide +kernel

theorem wit_Reception_7 : (fun (s : State) (n : LpNo) => s.dev.blockUp bkCORE = true ∧ s.dev.lanesReady n.val = true ∧
    (s.dev.link n.val).good = true) (at_ (fun d => (lanesUp d).setLink 0 { good := true })) (0) := by
  decide +kernel

theorem wit_BuffersAndTransmission_1 : (fun (s : State) (k : PoolNo) (x : Fin 17) (fid : Nat) (f : Frame) => s.dev.blockUp bkCORE = true ∧
    s.dev.requests k.val x.val = [fid] ∧ s.dev.frame? fid = some f ∧ (s.dev.pool k.val).freed = [] ∧
    (s.dev.pool k.val).fresh < (s.dev.pool k.val).count ∧
    s.dev.available k.val f.guar ≠ 0) (at_ (fun d => let d := d; { d with net := { d.net with frames := [(3, some { lp := 0, stamp := 5, orig := (List.replicate 12 2 ++ [8, 0] ++ List.replicate 50 0), body := (List.replicate 12 2 ++ [8, 0] ++ List.replicate 50 0), tail := true, stage := 1, pool := 1, guar := true, declared := some 68 })], queues := [(7, [{ fid := 3, q := 7, size := 768 }])], pools := [(1, { count := 1024 })] } })) (1) (4) (3) ({ lp := 0, stamp := 5, orig := (List.replicate 12 2 ++ [8, 0] ++ List.replicate 50 0), body := (List.replicate 12 2 ++ [8, 0] ++ List.replicate 50 0), tail := true, stage := 1, pool := 1, guar := true, declared := some 68 }) := by
  decide +kernel

theorem wit_BuffersAndTransmission_2 : (fun (s : State) (k : PoolNo) (fid : Nat) (f : Frame) => s.dev.blockUp bkCORE = true ∧
    s.dev.net.frames = [(fid, some f)] ∧ f.unserved = true ∧ f.pool = k.val ∧ k.val < 3 ∧
    s.dev.fld (RINK_POOL_CTRL (k.val + 2)) RINK_POOL_CTRL_SPILL = 1) (at_ (fun d => let d := d.setFld (RINK_POOL_CTRL 3) RINK_POOL_CTRL_SPILL 1; { d with net := { d.net with frames := [(3, some { lp := 0, stamp := 5, orig := (List.replicate 12 2 ++ [8, 0] ++ List.replicate 50 0), body := (List.replicate 12 2 ++ [8, 0] ++ List.replicate 50 0), tail := true, stage := 1, pool := 1, guar := true, declared := some 68, unserved := true })], queues := [(7, [{ fid := 3, q := 7, size := 768 }])] } })) (1) (3) ({ lp := 0, stamp := 5, orig := (List.replicate 12 2 ++ [8, 0] ++ List.replicate 50 0), body := (List.replicate 12 2 ++ [8, 0] ++ List.replicate 50 0), tail := true, stage := 1, pool := 1, guar := true, declared := some 68, unserved := true }) := by
  decide +kernel

theorem wit_BuffersAndTransmission_3 : (fun (s : State) (k : PoolNo) (fid : Nat) (f : Frame) (c : Copy) => s.dev.blockUp bkCORE = true ∧
    s.dev.net.frames = [(fid, some f)] ∧ s.dev.net.queues = [(c.q, [c])] ∧ c.fid = fid ∧ c.kind = 0 ∧ f.unserved = true ∧ f.pool = k.val ∧
    (k.val = 3 ∨ s.dev.fld (RINK_POOL_CTRL (k.val + 2)) RINK_POOL_CTRL_SPILL = 0)) (at_ (fun d => let d := d.setFld (RINK_POOL_CTRL 3) RINK_POOL_CTRL_SPILL 0; { d with net := { d.net with frames := [(3, some { lp := 0, stamp := 5, orig := (List.replicate 12 2 ++ [8, 0] ++ List.replicate 50 0), body := (List.replicate 12 2 ++ [8, 0] ++ List.replicate 50 0), tail := true, stage := 1, pool := 1, guar := true, declared := some 68, unserved := true })], queues := [(7, [{ fid := 3, q := 7, size := 768 }])] } })) (1) (3) ({ lp := 0, stamp := 5, orig := (List.replicate 12 2 ++ [8, 0] ++ List.replicate 50 0), body := (List.replicate 12 2 ++ [8, 0] ++ List.replicate 50 0), tail := true, stage := 1, pool := 1, guar := true, declared := some 68, unserved := true }) ({ fid := 3, q := 7, size := 768 }) := by
  decide +kernel

theorem wit_BuffersAndTransmission_4 : (fun (s : State) (n : LpNo) (t : TxTerms) => s.dev.blockUp bkCORE = true ∧
    (s.dev.speedOf n.val).isSome = true ∧ s.dev.lpUp n.val = true ∧ Tbl.get s.dev.net.tx none n.val = none ∧
    (s.dev.lanesOf n.val).contains t.lane = true ∧ s.dev.fld (MAC_CTRL n.val) MAC_CTRL_TX_PFC_EN = 1 ∧ Tbl.get s.dev.net.pfc 0 n.val ≠ 0 ∧
    s.dev.net.eodinRecs = []) (at_ (fun d => let d := (d.setFld (MAC_STATUS 0) MAC_STATUS_STATE 5).setFld (MAC_CTRL 0) MAC_CTRL_TX_PFC_EN 1; { d with net := { d.net with pfc := [(0, 8)] } })) (0) (⟨0, 0, 0, 0⟩) := by
  decide +kernel

theorem wit_BuffersAndTransmission_5 : (fun (s : State) (n : LpNo) (t : TxTerms) (sp : Nat) (c : Copy) (f : Frame) => s.dev.blockUp bkCORE = true ∧
    s.dev.speedOf n.val = some sp ∧ s.dev.lpUp n.val = true ∧ Tbl.get s.dev.net.tx none n.val = none ∧
    (s.dev.lanesOf n.val).contains t.lane = true ∧ Tbl.get s.dev.net.pfc 0 n.val = 0 ∧ s.dev.queue (qOf n.val 7) = [c] ∧ c.q = qOf n.val 7 ∧
    c.kind = 0 ∧ s.dev.eligible n.val 7 = true ∧ s.dev.frame? c.fid = some f ∧ f.buf.isSome = true ∧ f.tail = true ∧
    s.dev.fits n.val 7 sp (s.dev.egressTime n.val sp t) ((s.dev.carried f c n.val).length + 4) = true ∧
    (s.dev.carried f c n.val).length + 4 ≤ s.dev.num (MAC_MAX_LEN n.val) ∧ s.dev.ptpOut c (s.dev.carried f c n.val) n.val = none ∧
    s.dev.net.eodinRecs = []) (at_ (fun d => let d := (d.setFld (MAC_STATUS 0) MAC_STATUS_STATE 5); { d with net := { d.net with frames := [(3, some { lp := 0, stamp := 5, orig := (List.replicate 12 2 ++ [8, 0] ++ List.replicate 50 0), body := (List.replicate 12 2 ++ [8, 0] ++ List.replicate 50 0), tail := true, stage := 2, buf := some (0, 0), declared := some 68 })], queues := [(7, [{ fid := 3, q := 7, size := 768 }])] } })) (0) (⟨0, 0, 0, 0⟩) (0) ({ fid := 3, q := 7, size := 768 }) ({ lp := 0, stamp := 5, orig := (List.replicate 12 2 ++ [8, 0] ++ List.replicate 50 0), body := (List.replicate 12 2 ++ [8, 0] ++ List.replicate 50 0), tail := true, stage := 2, buf := some (0, 0), declared := some 68 }) := by
  decide +kernel

theorem wit_BuffersAndTransmission_6 : (fun (s : State) (n : LpNo) (x : TxSt) (f : Frame) => s.dev.blockUp bkCORE = true ∧
    Tbl.get s.dev.net.tx none n.val = some x ∧ x.cause = 0 ∧ s.dev.frame? x.copy.fid = some f ∧
    f.tail = true) (at_ (fun d => let d := (d.setFld (MAC_STATUS 0) MAC_STATUS_STATE 5); { d with net := { d.net with frames := [(3, some { lp := 0, stamp := 5, orig := (List.replicate 12 2 ++ [8, 0] ++ List.replicate 50 0), body := (List.replicate 12 2 ++ [8, 0] ++ List.replicate 50 0), tail := true, stage := 2, buf := some (0, 0), declared := some 68 })], tx := [(0, some { copy := { fid := 3, q := 7, size := 768 }, e := 100 })] } })) (0) ({ copy := { fid := 3, q := 7, size := 768 }, e := 100 }) ({ lp := 0, stamp := 5, orig := (List.replicate 12 2 ++ [8, 0] ++ List.replicate 50 0), body := (List.replicate 12 2 ++ [8, 0] ++ List.replicate 50 0), tail := true, stage := 2, buf := some (0, 0), declared := some 68 }) := by
  decide +kernel

theorem wit_FramesOfPortsAndLanes : State.reset.dev.pulses = [] ∧ ∃ t, exec .slotBoundary State.reset = .next t := ⟨rfl, _, rfl⟩

theorem wit_FramesOfTimeAndClocks : State.reset.dev.pulses = [] ∧ ∃ t, exec .rawCounterWrap State.reset = .next t := ⟨rfl, _, rfl⟩

theorem wit_FramesOfManagement : State.reset.dev.pulses = [] ∧ ∃ t, exec .routeComputation State.reset = .next t := ⟨rfl, _, rfl⟩

theorem wit_FramesOfThePacketPath : State.reset.dev.pulses = [] ∧ ∃ t, exec (.spill 0) State.reset = .next t := ⟨rfl, _, rfl⟩

theorem wit_FramesOfTimeMessages : State.reset.dev.pulses = [] ∧ ∃ t, exec (.qlRecordTimeout 0) State.reset = .next t := ⟨rfl, _, rfl⟩

theorem wit_FramesOfLinksAndTrunks : State.reset.dev.pulses = [] ∧ ∃ t, exec .lsrRefresh State.reset = .next t := ⟨rfl, _, rfl⟩

theorem wit_FramesOfStartsAndBlocks : State.reset.dev.pulses = [] ∧ ∃ t, exec .modRstRelease State.reset = .next t := ⟨rfl, _, rfl⟩

theorem wit_FramesOfMailboxCommands : State.reset.dev.pulses = [] ∧ ∃ t, exec (.sweepAbort 0 0) State.reset = .next t := ⟨rfl, _, rfl⟩

theorem wit_FramesOfResets : State.reset.dev.pulses = [] ∧ ∃ t, exec .modRstAssert State.reset = .next t := ⟨rfl, _, rfl⟩

end Sys2Proof.Tests
end

section
/-! Proofs about the scope chapter: words and counters, writes of items, host memory, times in memory, completion of every command, and the
writes that steer the Timekeeper. -/

namespace Sys2Proof.Machine

variable (d : Dev)

/-! ### Every command runs to a next state (R12, R627) -/

/-- Each command runs one function on the module (`run_eq`), whatever its operands, and hands the queue through. -/
theorem exec_next (c : Instr) (s : State) : ∃ d, exec c s = .next ⟨d, s.pending⟩ := by
  cases c <;> exact ⟨_, rfl⟩

/-- Settles O2: the next state that `exec_next` gives holds the queue it was given. -/
theorem everyCommandCompletes : Obligations.EveryCommandCompletes := by
  intro c s
  obtain ⟨d, hd⟩ := exec_next c s
  exact ⟨⟨d, s.pending⟩, hd, rfl⟩

/-! ### Counters (R8) -/

/-- An item holds at most two words of 48 bits. -/
theorem Dev.num_lt (p : Nat) : d.num p < 2 ^ 96 := (d.get p).isLt

/-- Settles O5, from what `bump` leaves in the counter and in every other item. -/
theorem countersSaturate : Obligations.CountersSaturate := by
  intro d p n
  have hsum := d.num_bump_same p n
  have hlt := d.num_lt p
  refine ⟨hsum, ?_, ⟨?_, ?_⟩, fun q hq => d.get_bump_ne n hq⟩
  · rw [hsum]; omega
  · omega
  · omega

/-! ### Access codes (R13) -/

/-- Settles O6: each bit of `codeWrite` is decided by the item's two masks and the bit written. -/
theorem writeCodes : Obligations.WriteCodes := by
  intro i old v b hb
  simp only [codeWrite, BitVec.getLsbD_or, BitVec.getLsbD_and, BitVec.getLsbD_not, BitVec.getLsbD_ofNat, hb, decide_true, Bool.true_and]
  cases hrw : i.rw.testBit b
  · cases hw1c : i.w1c.testBit b && v.testBit b <;> simp
  · simp

/-! ### Host memory (R9) -/

theorem Dev.hostByte_hostMem_set (a x : Nat) (b : Byte) :
    ({ d with hostMem := Tbl.set d.hostMem 0 a b } : Dev).hostByte x = if x = a then b else d.hostByte x :=
  Tbl.get_set d.hostMem 0 a x b

/-- A byte below those written stays. -/
theorem Dev.hostByte_hostWrite_below {a x : Nat} (l : List Byte) (h : x < a) : (d.hostWrite a l).hostByte x = d.hostByte x := by
  induction l generalizing d a with
  | nil => rfl
  | cons b r ih => rw [Dev.hostWrite, ih _ (by omega), Dev.hostByte_hostMem_set, if_neg (by omega)]

/-- A byte above those written stays. -/
theorem Dev.hostByte_hostWrite_above {a x : Nat} (l : List Byte) (h : a + l.length ≤ x) :
    (d.hostWrite a l).hostByte x = d.hostByte x := by
  induction l generalizing d a with
  | nil => rfl
  | cons b r ih =>
    rw [List.length_cons] at h
    rw [Dev.hostWrite, ih _ (by omega), Dev.hostByte_hostMem_set, if_neg (by omega)]

/-- The bytes written stand in order. -/
theorem Dev.hostByte_hostWrite_add (a k : Nat) (l : List Byte) (h : k < l.length) :
    (d.hostWrite a l).hostByte (a + k) = l.getD k 0 := by
  induction l generalizing d a k with
  | nil => simp at h
  | cons b r ih =>
    rw [Dev.hostWrite]
    cases k with
    | zero =>
      rw [Dev.hostByte_hostWrite_below _ _ (by omega), Dev.hostByte_hostMem_set, if_pos (by omega)]
      rfl
    | succ k =>
      rw [List.length_cons] at h
      rw [show a + (k + 1) = a + 1 + k by omega, ih _ _ _ (by omega), List.getD_cons_succ]

/-- Settles O8, by induction on the bytes written. -/
theorem hostMemoryWrites : Obligations.HostMemoryWrites := by
  intro d a l
  refine ⟨fun k hk => d.hostByte_hostWrite_add a k l hk, fun x hx => ?_, d.hostWrite_params a l⟩
  rcases hx with hbelow | habove
  · exact d.hostByte_hostWrite_below l hbelow
  · exact d.hostByte_hostWrite_above l habove

/-! ### TW96 in memory (R22) -/

/-- The first bytes of two strings laid end to end. -/
theorem slice_append_left (l r : List Byte) : slice (l ++ r) 0 l.length = l := by simp [slice]

/-- Bytes past the first of two strings are those of the second. -/
theorem slice_append_right (l r : List Byte) (o n : Nat) : slice (l ++ r) (l.length + o) n = slice r o n := by
  simp [slice, List.drop_append, List.drop_of_length_le]

/-- A number that fits its field is spelt by the field's bytes, whatever follows. -/
theorem leNat_slice_leBytes (n v : Nat) (r : List Byte) (h : v < 256 ^ n) : leNat (slice (leBytes n v ++ r) 0 n) = v := by
  have hs := slice_append_left (leBytes n v) r
  rw [leBytes_length] at hs
  rw [hs, leNat_leBytes, Nat.mod_eq_of_lt h]

/-- Past the bytes of a field stands what follows them. -/
theorem slice_leBytes_append (m v : Nat) (r : List Byte) (o n : Nat) : slice (leBytes m v ++ r) (m + o) n = slice r o n := by
  have hs := slice_append_right (leBytes m v) r o n
  rwa [leBytes_length] at hs

theorem twBytes_length (t : Nat) : (twBytes t).length = 12 := by simp [twBytes, leBytes_length]

theorem twSec_lt {t : Nat} (h : t < 2 ^ 48 * sec1) : twSec t < 256 ^ 6 := Nat.div_lt_of_lt_mul (by omega)

theorem twNs_lt (t : Nat) : twNs t < 1000000000 := Nat.mod_lt _ (by decide)

theorem twFrac_lt (t : Nat) : twFrac t < 256 ^ 2 :=
  Nat.div_lt_of_lt_mul (Nat.mod_lt t (by decide : 0 < ns1))

theorem leNat_twBytes_sec {t : Nat} (h : t < 2 ^ 48 * sec1) : leNat (slice (twBytes t) 0 6) = twSec t := by
  rw [twBytes, List.append_assoc]
  exact leNat_slice_leBytes 6 _ _ (twSec_lt h)

theorem leNat_twBytes_ns (t : Nat) : leNat (slice (twBytes t) 6 4) = twNs t := by
  rw [twBytes, List.append_assoc, slice_leBytes_append 6 _ _ 0 4]
  exact leNat_slice_leBytes 4 _ _ ((twNs_lt t).trans (by decide))

theorem leNat_twBytes_frac (t : Nat) : leNat (slice (twBytes t) 10 2) = twFrac t := by
  rw [twBytes, List.append_assoc, slice_leBytes_append 6 _ _ 4 2, slice_leBytes_append 4 _ _ 0 2, ← List.append_nil (leBytes 2 _)]
  exact leNat_slice_leBytes 2 _ _ (twFrac_lt t)

/-- The three fields of a time name it down to the fraction's unit. -/
theorem twOf_fields (t : Nat) : twOf (twSec t) (twNs t) (twFrac t) = twTrunc t := by
  have hns : twSec t * 1000000000 + twNs t = t / ns1 := by
    rw [twSec, twNs, sec1, Nat.mul_comm 1000000000 ns1, ← Nat.div_div_eq_div_mul]
    exact Nat.div_add_mod' _ _
  have hunit : ns1 = 0x100000000 * 0x10000 := rfl
  rw [twOf, hns, twFrac, twTrunc, hunit, Nat.mod_mul_right_div_self, ← Nat.div_div_eq_div_mul,
    Nat.mul_comm 0x100000000 0x10000, ← Nat.mul_assoc, ← Nat.add_mul, Nat.div_add_mod']

/-- Settles O9: each field reads back from its own bytes, and the fields name the time truncated to the fraction's unit. -/
theorem timeWords : Obligations.TimeWords := by
  intro t ht
  refine ⟨twBytes_length t, leNat_twBytes_sec ht, leNat_twBytes_ns t, leNat_twBytes_frac t, ?_⟩
  have hok : twBad (twNs t) = false := by simp [twBad, twNs_lt t]
  simp only [twOfBytes, leNat_twBytes_sec ht, leNat_twBytes_ns, leNat_twBytes_frac, hok, Bool.false_eq_true, if_false, twOf_fields]

/-! ### Writes that steer the Timekeeper (R17, R60) -/

/-- The module after reset with the host steering, and bit 0 of TK_FREQ_ADJ noted as a condition of the present cycle. `Dev.lessCond` takes
the ones of noted bits out of any word written to their item (R17), of a bit that is no STICKY bit too. -/
def freqAdjNoted : State :=
  ⟨{ ({} : Dev).setFld TK_CTRL TK_CTRL_STEER 1 with cond := { at_ := ({} : Dev).tk.osc, bits := [(TK_FREQ_ADJ, 0)] } }, []⟩

/-- In that module an offset of 1 written to TK_FREQ_ADJ is held as 0. -/
theorem exec_tkFreqAdjWrite_freqAdjNoted (e : Dev) (h : exec (.tkFreqAdjWrite 1) freqAdjNoted = .next ⟨e, []⟩) :
    e.num TK_FREQ_ADJ = 0 := by
  have he : (freqAdjNoted.dev.writeItem TK_FREQ_ADJ 1).settle = e := by injection h with hs; exact congrArg State.dev hs
  rw [← he, Dev.num_settle]
  decide +kernel

/-- Refutes O17 in its first clause: where the present cycle has a condition noted against bit 0 of TK_FREQ_ADJ, an accepted write of 1
leaves 0 there. The commands note bits of status items alone (`Dev.stick`), so no run leads to this module; but the clause is stated of every
state, and so wants the premise that TK_FREQ_ADJ has no noted bit, or the value `lessCond` gives. -/
theorem not_timekeeperWrites : ¬ Obligations.TimekeeperWrites := by
  intro h
  obtain ⟨hfreq, -⟩ := h freqAdjNoted
  obtain ⟨e, hrun, -, hheld, -⟩ := hfreq 1 (by decide +kernel) (by decide) (by decide) (by decide +kernel)
  rw [exec_tkFreqAdjWrite_freqAdjNoted e hrun] at hheld
  exact absurd hheld (by decide)

end Sys2Proof.Machine
end

section
/-! Proofs about the construction chapter: adaptive loops held within the bounds that software sets. -/

namespace Sys2Proof.Machine

variable (d : Dev)

/-! ### Signed numbers in items -/

/-- A signed field of `w + 1` bits holds a value from -2^w to 2^w - 1. -/
theorem signedOf_range (w n : Nat) : -2 ^ w ≤ signedOf (w + 1) n ∧ signedOf (w + 1) n < 2 ^ w := by
  have hlt : n % 2 ^ (w + 1) < 2 ^ (w + 1) := Nat.mod_lt _ (by positivity)
  have htwice : 2 ^ (w + 1) = 2 * 2 ^ w := pow_succ' 2 w
  have hcast : ((2 ^ w : Nat) : Int) = 2 ^ w := by norm_cast
  rw [signedOf, Nat.add_sub_cancel]
  split <;> omega

/-- A signed number of 48 bits put into an item reads back. -/
theorem Dev.int_putInt_same (p : Nat) {x : Int} (hlo : -2 ^ 47 ≤ x) (hhi : x < 2 ^ 47) : (d.putInt p x).int p = x := by
  have hclamp : clampS 48 x = x := by unfold clampS; split_ifs <;> omega
  rw [Dev.int, Dev.putInt, Dev.num_putNum_same, hclamp, signedOf, unsignedOf]
  split <;> omega

/-! ### The bounds of a loop (R43, R47) -/

theorem Dev.loopLo_ge (l : LoopItems) : -2 ^ 23 ≤ d.loopLo l := (signedOf_range 23 _).1

theorem Dev.loopHi_lt (l : LoopItems) : d.loopHi l < 2 ^ 23 := (signedOf_range 23 _).2

/-- An output within the bounds reads back from the loop's item: the bounds are 24-bit numbers. -/
theorem Dev.int_putInt_of_loop_bounds (e : Dev) {l : LoopItems} {v : Int} (p : Nat) (hlo : d.loopLo l ≤ v) (hhi : v ≤ d.loopHi l) :
    (e.putInt p v).int p = v := by
  have := d.loopLo_ge l
  have := d.loopHi_lt l
  exact e.int_putInt_same p (by omega) (by omega)

/-! ### What holds and ends a hold (R44, R45, R52) -/

theorem sideOf_ne_zero {lo hi x : Int} (h : x < lo ∨ hi < x) : sideOf lo hi x ≠ 0 := by
  rw [Ne, sideOf_zero]; omega

/-- A counter of time that was started runs. -/
theorem Dev.accums_startTimer_isSome (p : Nat) : (Tbl.get (d.startTimer p).accums none p).isSome = true := by
  unfold Dev.startTimer
  split
  · next hrun => rw [hrun, Option.isSome_some]
  · rw [Tbl.get_set_same, Option.isSome_some]

theorem Dev.setHeld_zero (l : LoopItems) :
    d.setHeld l 0 = ((d.setFld l.held HELD_SIDE 0).live l.held HELD_HELD false).stopTimer l.time := rfl

theorem Dev.setHeld_side (l : LoopItems) {side : Nat} (h : side ≠ 0) :
    d.setHeld l side = (((d.setFld l.held HELD_SIDE side).setFld l.held HELD_LAST_SIDE side).liveEdge l.held HELD_HELD true).startTimer
      l.time := if_neg h

/-- Without a side nothing is held. -/
theorem Dev.bit_setHeld_zero (l : LoopItems) (h : l.held ≠ l.time) : (d.setHeld l 0).bit l.held HELD_HELD = false := by
  rw [Dev.setHeld_zero, Dev.bit_congr (Dev.get_stopTimer_ne _ h)]
  exact Dev.bit_live_same _ _ _ _

/-- SIDE and LAST_SIDE stand above the triplet of HELD. -/
theorem Dev.bit_setFld_sides (l : LoopItems) (side : Nat) {b : Nat} (h : b < 3) :
    ((d.setFld l.held HELD_SIDE side).setFld l.held HELD_LAST_SIDE side).bit l.held b = d.bit l.held b := by
  rw [Dev.bit_setFld_other _ l.held HELD_LAST_SIDE b side (by decide) (.inl h),
    Dev.bit_setFld_other _ l.held HELD_SIDE b side (by decide) (.inl (Nat.le_trans h (by decide)))]

section Held

variable (l : LoopItems) {side : Nat} (h : side ≠ 0)
include h

theorem Dev.bit_setHeld_live : (d.setHeld l side).bit l.held HELD_HELD = true := by
  rw [Dev.setHeld_side d l h, Dev.bit_congr (Dev.get_startTimer _ _ _)]
  exact Dev.bit_liveEdge_same _ _ _ _

/-- STICKY is set where the hold begins, and keeps its value while it lasts. -/
theorem Dev.bit_setHeld_sticky :
    (d.setHeld l side).bit l.held (HELD_HELD + 1) = (d.bit l.held (HELD_HELD + 1) || !d.bit l.held HELD_HELD) := by
  rw [Dev.setHeld_side d l h, Dev.bit_congr (Dev.get_startTimer _ _ _), Dev.bit_liveEdge_sticky _ l.held HELD_HELD true,
    Bool.true_and]
  rw [Dev.bit_setFld_sides d l side (by decide), Dev.bit_setFld_sides d l side (by decide)]

/-- While a loop is held its held time is counted. -/
theorem Dev.accums_setHeld_isSome : (Tbl.get (d.setHeld l side).accums none l.time).isSome = true := by
  rw [Dev.setHeld_side d l h]
  exact Dev.accums_startTimer_isSome _ _

end Held

/-! ### Updates (R43, R44) -/

/-- The value `aim`, or the one nearest to it at a distance of at most `m` from `cur`. -/
def stepToward (cur m aim : Int) : Int := if cur + m < aim then cur + m else if aim < cur - m then cur - m else aim

/-- A step toward a value within bounds, from a value within them, ends within them. -/
theorem stepToward_bounds {lo hi cur m aim : Int} (hm : 0 ≤ m) (hcur : lo ≤ cur ∧ cur ≤ hi) (haim : lo ≤ aim ∧ aim ≤ hi) :
    lo ≤ stepToward cur m aim ∧ stepToward cur m aim ≤ hi := by
  unfold stepToward
  split_ifs <;> omega

theorem Dev.loopUpdate_none (l : LoopItems) (x : Int) :
    d.loopUpdate l x none = (d.setHeld l (sideOf (d.loopLo l) (d.loopHi l) x)).putInt l.value (clampTo (d.loopLo l) (d.loopHi l) x) := rfl

theorem Dev.loopUpdate_some (l : LoopItems) (x m : Int) :
    d.loopUpdate l x (some m) = (d.setHeld l (sideOf (d.loopLo l) (d.loopHi l) x)).putInt l.value
      (stepToward (clampTo (d.loopLo l) (d.loopHi l) (d.int l.value)) m (clampTo (d.loopLo l) (d.loopHi l) x)) := rfl

/-- The held state after an update without a limited step is what `setHeld` left for the demand's side. -/
theorem Dev.bit_loopUpdate_held {l : LoopItems} (h : l.held ≠ l.value) (x : Int) (b : Nat) :
    (d.loopUpdate l x none).bit l.held b = (d.setHeld l (sideOf (d.loopLo l) (d.loopHi l) x)).bit l.held b := by
  rw [Dev.loopUpdate_none, Dev.bit_congr (Dev.get_putInt_ne _ _ h)]

/-- Settles O10: both kinds of update put a value within the bounds into the loop's item, and the side of the demand decides the hold. -/
theorem loopsStayInBounds : Obligations.LoopsStayInBounds := by
  intro d l x hbounds hheld _ htime
  have hx := clampTo_bounds x hbounds
  refine ⟨fun m hm => ?_, ?_, hx.1, hx.2, fun hout => ⟨?_, ?_, fun hidle => ?_⟩, fun hlo hhi => ?_⟩
  · have hv := stepToward_bounds hm (clampTo_bounds (d.int l.value) hbounds) hx
    rwa [Dev.loopUpdate_some, d.int_putInt_of_loop_bounds _ _ hv.1 hv.2]
  · rw [Dev.loopUpdate_none, d.int_putInt_of_loop_bounds _ _ hx.1 hx.2]
  · rw [Dev.bit_loopUpdate_held d hheld, d.bit_setHeld_live l (sideOf_ne_zero hout)]
  · rw [Dev.loopUpdate_none, Dev.putInt_accums, d.accums_setHeld_isSome l (sideOf_ne_zero hout)]
  · rw [Dev.bit_loopUpdate_held d hheld, d.bit_setHeld_sticky l (sideOf_ne_zero hout), hidle, Bool.not_false, Bool.or_true]
  · rw [Dev.bit_loopUpdate_held d hheld, sideOf_zero.mpr ⟨hlo, hhi⟩, d.bit_setHeld_zero l htime.symm]

end Sys2Proof.Machine
end

section
/-! Proofs about the network-time chapter: what a step runs, what the status items show after it, and commands of the Timeline. -/

namespace Sys2Proof.Machine

variable (d : Dev)

/-! ### A step (R55, R627) -/

/-- Settles O1: each case of the queue is a case of `step`. -/
theorem stepRunsFront : Obligations.StepRunsFront :=
  ⟨fun _ _ _ => rfl, fun d => run_eq ⟨d, []⟩ Dev.idle⟩

/-- Every command brings the items that follow other state up to date as the last thing it does. -/
theorem exec_settles (c : Instr) (s : State) : ∃ d : Dev, exec c s = .next ⟨d.settle, s.pending⟩ := by
  cases c <;> exact ⟨_, rfl⟩

/-- So does every step, that of an empty queue included. -/
theorem step_settles {s t : State} (h : step s = .next t) : ∃ d : Dev, t.dev = d.settle := by
  obtain ⟨m, pending⟩ := s
  cases pending with
  | nil =>
    obtain rfl := Host.Outcome.next.inj ((stepRunsFront.2 m).symm.trans h)
    exact ⟨m.idle, by simp only⟩
  | cons c r =>
    obtain ⟨e, he⟩ := exec_settles c ⟨m, r⟩
    obtain rfl := Host.Outcome.next.inj (he.symm.trans ((stepRunsFront.1 c m r).symm.trans h))
    exact ⟨e, by simp only⟩

/-! ### What an item shows once displayed -/

/-- An item displayed holds the number in its word. -/
theorem Dev.num_display_same (p n : Nat) : (d.display p n).num p % 2 ^ 48 = n % 2 ^ 48 := by
  unfold Dev.display
  split
  · next h => rw [h]
  · rw [Dev.num_putNum_same, Nat.mod_mod]

theorem Dev.num_display_ne {p q : Nat} (n : Nat) (h : q ≠ p := by decide) : (d.display p n).num q = d.num q :=
  Dev.num_congr (d.get_display_ne n h)

/-- A field within the word reads as the number's. -/
theorem Dev.fld_display_same (p n : Nat) (f : Fld) (h : f.lo + f.w ≤ 48) :
    (d.display p n).fld p f = bitsAt n f.lo f.w :=
  bitsAt_of_mod _ _ _ _ 48 h (d.num_display_same p n)

theorem Dev.fld_display_ne {p q : Nat} (n : Nat) (f : Fld) (h : q ≠ p := by decide) : (d.display p n).fld q f = d.fld q f :=
  Dev.fld_congr (d.get_display_ne n h) f

/-! ### The words of TL_STATUS and TK_STATUS (R63, R93) -/

/-- ARMED in the word displayed is the number of armed actions: FIRE_LIVE and OVF_LIVE, set after it, lie below it. -/
theorem Dev.armed_tlWord : bitsAt d.tlWord 16 13 = d.tl.acts.length % 2 ^ 13 := by
  rw [Dev.tlWord, bitsAt_withBits_other _ _ _ _ _ _ (by decide), bitsAt_withBits_other _ _ _ _ _ _ (by decide), bitsAt_withBits_same]

/-- REPLICA_LIVE, set after SLEW_LIVE, is another bit. -/
theorem Dev.slewLive_tkWord : bitsAt d.tkWord TK_STATUS_SLEW 1 = if d.tk.remain = 0 then 0 else 1 := by
  rw [Dev.tkWord, bitsAt_withBits_other _ _ _ _ _ _ (by decide), bitsAt_withBits_same]
  split <;> rfl

theorem Dev.replicaLive_tkWord :
    bitsAt d.tkWord TK_STATUS_REPLICA 1 = if (List.range 9).any (fun k => d.repFault (k + 1)) then 1 else 0 := by
  rw [Dev.tkWord, bitsAt_withBits_same]
  split <;> rfl

/-! ### What the module shows once settled (R63, R93, R436, R448) -/

/-- The status of a replica is no item that follows other state. -/
theorem repStatus_not_followItem (k : Nat) : TK_REP_STATUS k ∉ followItems := by
  simp only [followItems, TK_REP_STATUS, CLS_BANK_STATUS, CLS_BANK_ID0, CLS_BANK_ID1, CLS_EXACT_USED, TL_STATUS, TK_STATUS, pid,
    List.mem_cons, List.not_mem_nil, or_false]
  omega

@[simp] theorem Dev.repFault_settle (k : Nat) : d.settle.repFault k = d.repFault k :=
  d.bit_settle 0 (repStatus_not_followItem k)

/-- A settled module shows its state: of the six displays only the item's own changes it, and none changes the state shown. -/
theorem Dev.shows_settle : d.settle.Shows where
  bankStatus := by
    rw [Dev.settle_cls, Dev.settle, Dev.num_display_ne, Dev.num_display_ne, Dev.num_display_ne, Dev.num_display_ne, Dev.num_display_ne,
      Dev.num_display_same]
  bankId0 := by
    rw [Dev.settle_cls, Dev.settle, Dev.num_display_ne, Dev.num_display_ne, Dev.num_display_ne, Dev.num_display_ne, Dev.num_display_same]
  bankId1 := by
    rw [Dev.settle_cls, Dev.settle, Dev.num_display_ne, Dev.num_display_ne, Dev.num_display_ne, Dev.num_display_same]
  exactUsed := by
    rw [Dev.settle_cls, Dev.settle, Dev.num_display_ne, Dev.num_display_ne, Dev.num_display_same]
  armed := by
    rw [Dev.settle_tl, Dev.settle, Dev.fld_display_ne, Dev.fld_display_same _ _ _ _ (by decide), Dev.armed_tlWord]
  slewLive := by
    rw [Dev.settle_tk, Dev.bit_eq_fld, Dev.settle, Dev.fld_display_same _ _ _ _ (by decide), Dev.slewLive_tkWord]
    split <;> simp_all
  replicaLive := by
    simp only [Dev.repFault_settle]
    rw [Dev.bit_eq_fld, Dev.settle, Dev.fld_display_same _ _ _ _ (by decide), Dev.replicaLive_tkWord]
    split <;> simp_all

/-- Settles O3: every step ends in `Dev.settle`, and a settled module shows its state. -/
theorem stepShowsState : Obligations.StepShowsState := by
  intro s t h
  obtain ⟨e, he⟩ := step_settles h
  rw [he]
  exact e.shows_settle

/-! ### TIMELINE_ADD of a CAL_WINDOW (R85, R350) -/

/-- A CAL_WINDOW whose run ID names no waiting run is refused, whatever the checks of R85 say of its block. -/
theorem Dev.status_timelineAddCmd_of_no_run {p : List Byte} (fab : Bool) (htyp : byteAt p 12 = actCAL_WINDOW)
    (hrun : d.runWaits (leNat (slice p 28 2)) = false) : (d.timelineAddCmd p fab).2.status = stBAD_PARAM := by
  rw [Dev.timelineAddCmd, if_pos ⟨htyp, by rw [hrun]; rfl⟩]

/-- A command of a ring that answers at once replies with the status of its answer. -/
theorem Dev.reply_status_runCmd_answered {r tag op : Nat} {c : Cmd} (f : Dev → Cmd → Dev × Ans) (h : d.mayStartCmd r tag op c) :
    (d.runCmd r tag op (fun e c => answered (f e c))).reply.status =
      (f (d.setCmd r tag (fun c => { c with started := true })) c).2.status := by
  rw [Dev.runCmd_start _ _ h]
  rfl

/-- A TIMELINE_ADD of such a CAL_WINDOW completes BAD_PARAM. -/
theorem exec_timelineAdd_of_no_run {s t : State} {r : RingNo} {tag : Byte} {c : Cmd} (h : s.dev.mayStartCmd r.val tag.toNat 0x20 c)
    (htyp : byteAt c.par 12 = actCAL_WINDOW) (hrun : s.dev.cal.run = none) (ht : exec (.timelineAdd r tag) s = .next t) :
    t.dev.reply.status = stBAD_PARAM := by
  obtain rfl : ⟨(s.dev.runCmd r.val tag.toNat 0x20 (fun e c => answered (e.timelineAddCmd c.par false))).settle, s.pending⟩ = t := by
    injection ht
  rw [Dev.settle_reply, s.dev.reply_status_runCmd_answered (fun e c => e.timelineAddCmd c.par false) h]
  exact Dev.status_timelineAddCmd_of_no_run _ false htyp (by simp [Dev.runWaits, hrun])

/-- A TIMELINE_ADD of a CAL_WINDOW of 1 ms for run 1 at 0.5 ms of network time, under tag 7. -/
def addCalWindow : Cmd :=
  { op := 0x20, tag := 7,
    par := [0, 0, 0, 0, 0, 0, 0x20, 0xA1, 7, 0, 0, 0, 6, 0, 0, 0, 0, 0, 0, 9, 1, 0, 0, 0, 0, 0, 0, 0, 1, 0, 1, 0] ++ List.replicate 8 0 }

/-- The module after reset with Eodin serving, time set, no calibration run, and `addCalWindow` fetched by ring 3. -/
def calWindowFetched : State :=
  let d := ((({} : Dev).setFld GLB_STATE GLB_STATE_READY 1).live GLB_STATE GLB_STATE_GAP false).live TK_STATUS TK_STATUS_SET true
  ⟨{ d with host := { d.host with rings := [(3, { enable := true, inflight := [addCalWindow] })] } }, []⟩

theorem calWindowFetched_mayStartCmd : calWindowFetched.dev.mayStartCmd 3 7 0x20 addCalWindow := by decide +kernel

/-- Its block passes every check of R85. -/
theorem calWindowFetched_addStatus : calWindowFetched.dev.addStatus addCalWindow.par = stOK := by decide +kernel

/-- Refutes O20 in its first clause: `addStatus` holds the checks of R85, and a CAL_WINDOW that passes them but names no waiting run still
completes BAD_PARAM (R350). The clause wants that check among its premises too. -/
theorem not_timelineCommands : ¬ Obligations.TimelineCommands := by
  intro h
  obtain ⟨hadd, -⟩ := h calWindowFetched
  obtain ⟨e, hrun, hok, -⟩ := hadd 3 7 addCalWindow calWindowFetched_mayStartCmd calWindowFetched_addStatus
  have hbad := exec_timelineAdd_of_no_run (t := ⟨e, _⟩) calWindowFetched_mayStartCmd (by decide) rfl hrun
  rw [hok] at hbad
  exact absurd hbad (by decide)

end Sys2Proof.Machine
end

section
/-! Proofs about the stamping chapter: frames that find their slice's staging memory full, and launches with terms out of range. -/

namespace Sys2Proof.Machine

variable (d : Dev)

/-- A command leads to one module. -/
theorem dev_of_exec {c : Instr} {s : State} {d e : Dev} (hd : exec c s = .next ⟨d, s.pending⟩) (he : exec c s = .next ⟨e, s.pending⟩) :
    e = d :=
  congrArg State.dev (Host.Outcome.next.inj (he.symm.trans hd))

/-! ### The tail of a frame that finds staging memory full (R457) -/

/-- The bytes that a frame keeps in the staging memory of slice `sl`. -/
def stagedOf (sl : Nat) : Option Frame → Nat
  | some f => if f.lp < 256 ∧ f.lp / 16 = sl ∧ f.inject.isNone ∧ f.buf.isNone ∧ !f.dead then f.orig.length else 0
  | none => 0

/-- A slice's staging memory holds the bytes of its frames together. -/
theorem Dev.staged_eq_sum (sl : Nat) : d.staged sl = (d.net.frames.map (fun e => stagedOf sl e.2)).sum := by
  rw [List.sum_eq_foldl, List.foldl_map]
  refine congrArg (fun g => d.net.frames.foldl g 0) (funext fun n => funext fun e => ?_)
  obtain ⟨k, x⟩ := e
  cases x with
  | none => rfl
  | some f => simp only [stagedOf]; split <;> rfl

/-- The module once the rest of a frame is in, counted by the MAC, where no byte of it lies past a declared length. -/
def Dev.tailIn (d : Dev) (n fid : Nat) (f : Frame) (rest : List Byte) (fcs : Nat) : Dev :=
  (d.rxCount n (rxCheck false ((f.orig ++ rest).length + 4) (d.num (MAC_MAX_LEN n)) (crc32 (f.orig ++ rest) == fcs))
    ((f.orig ++ rest).length + 4) (fcs == (crc32 (f.orig ++ rest) ^^^ 0xFFFFFFFF))).setFrame fid
      { f with orig := f.orig ++ rest, body := f.body ++ rest, tail := true, fcs := fcs }

/-- A first pass's frame without a buffer whose last bytes do not fit into staging memory proves bad with INGRESS_OVERRUN, whatever its FCS. -/
theorem Dev.tailRx_of_overrun {n fid : Nat} {f : Frame} {rest : List Byte} {fcs : Nat} (hrx : d.receiving n = some fid)
    (hf : d.frame? fid = some f) (hcarve : d.carving fid = false) (hstage : f.stage = 0) (hpass : f.pass = 1) (hdead : f.dead = false)
    (hbuf : f.buf = none) (hfull : 262144 < (d.tailIn n fid f rest fcs).staged (n / 16)) :
    d.tailRx n rest fcs none = (d.tailIn n fid f rest fcs).badFrame fid 0 drINGRESS_OVERRUN 0 := by
  have hcond : (!f.dead && f.buf.isNone && decide (262144 < (d.tailIn n fid f rest fcs).staged (n / 16))) = true := by
    simp [hdead, hbuf, hfull]
  have hbody : (if f.pass = 1 then f.body ++ rest else padMin (f.body ++ rest)) = f.body ++ rest := if_pos hpass
  have hdecl : (if f.stage = 0 ∧ f.pass = 1 then (f.orig ++ rest).length + 4 else f.declRx) = (f.orig ++ rest).length + 4 :=
    if_pos ⟨hstage, hpass⟩
  simp only [Dev.tailRx, hrx, hf, hcarve, hdecl, Nat.lt_irrefl, decide_false, Bool.false_eq_true, if_false, hbody, Option.isSome_none]
  exact if_pos hcond

/-- No frame follows other state. -/
@[simp] theorem Dev.frame_settle (fid : Nat) : d.settle.frame? fid = d.frame? fid := by
  simp only [Dev.frame?, Dev.settle_net]

/-- The tail of a frame is received where the core package is up. -/
theorem exec_frameTailRx (s : State) (n : LpNo) (r : List Byte) (x : BitVec 32) (err : Option Nat) (h : s.dev.blockUp bkCORE = true) :
    exec (.frameTailRx n r x err) s = .next ⟨(s.dev.tailRx n.val r x.toNat err).settle, s.pending⟩ := by
  show run s (fun d => d.inBlock bkCORE (fun d => d.tailRx n.val r x.toNat err)) = _
  rw [run_eq, Dev.inBlock_up _ _ h]

/-- The last entry of a table replaced. -/
theorem Tbl.insert_append_last {α : Type} (t : Tbl α) {k : Nat} (u v : α) (h : ∀ e ∈ t, e.1 < k) :
    Tbl.insert (t ++ [(k, u)]) k v = t ++ [(k, v)] := by
  induction t with
  | nil => simp [Tbl.insert]
  | cons e r ih =>
    obtain ⟨he, hr⟩ := List.forall_mem_cons.mp h
    rw [List.cons_append, Tbl.insert, if_neg (by omega), if_neg (by omega), ih hr, List.cons_append]

/-- The MAC counts in items alone. -/
theorem Dev.rxCount_net (n reason len : Nat) (stomped : Bool) : (d.rxCount n reason len stomped).net = d.net := by
  unfold Dev.rxCount
  split_ifs <;> rfl

/-- The frame whose tail is in replaces itself where it is the last of the table. -/
theorem Dev.frames_tailIn_last {t : Tbl (Option Frame)} {n fid : Nat} {f : Frame} {rest : List Byte} {fcs : Nat}
    (ht : d.net.frames = t ++ [(fid, some f)]) (hlast : ∀ e ∈ t, e.1 < fid) :
    (d.tailIn n fid f rest fcs).net.frames =
      t ++ [(fid, some { f with orig := f.orig ++ rest, body := f.body ++ rest, tail := true, fcs := fcs })] := by
  simp only [Dev.tailIn, Dev.setFrame, Dev.rxCount_net, ht]
  rw [Tbl.set, if_neg (Option.some_ne_none _), Tbl.insert_append_last t _ _ hlast]

/-- A frame of 8,190 bytes from port 4 that waits for its pass. -/
def waitingFrame : Frame := { lp := 4, orig := List.replicate 8190 0, body := List.replicate 8190 0, tail := true }

/-- A frame of which port 0 has received 64 bytes. -/
def headFrame : Frame := { lp := 0, orig := List.replicate 64 0, body := List.replicate 64 0 }

/-- 32 frames that wait, under the numbers from 0. -/
def waitingFrames : Tbl (Option Frame) := (List.range 32).map (fun k => (k, some waitingFrame))

/-- The module after reset with the waiting frames and the one in reception, which together fill the staging memory of slice 0 exactly. -/
def stagingFull : State :=
  ⟨{ ({} : Dev) with net := { nextId := 33, frames := waitingFrames ++ [(32, some headFrame)] } }, []⟩

/-- The last two bytes of the frame in reception. -/
def lastBytes : List Byte := [9, 9]

/-- The FCS of all its 66 bytes. -/
def goodFcs : BitVec 32 := BitVec.ofNat 32 (crc32 (headFrame.orig ++ lastBytes))

theorem stagedOf_waitingFrame : stagedOf 0 (some waitingFrame) = 8190 := by
  rw [stagedOf, if_pos (by decide)]
  exact List.length_replicate

theorem staged_waitingFrames : (waitingFrames.map (fun e => stagedOf 0 e.2)).sum = 262080 := by
  simp [waitingFrames, Function.comp_def, stagedOf_waitingFrame]

/-- With the last two bytes the slice holds 262,146. -/
theorem stagingFull_overrun : 262144 < (stagingFull.dev.tailIn 0 32 headFrame lastBytes goodFcs.toNat).staged (0 / 16) := by
  rw [Dev.staged_eq_sum, Dev.frames_tailIn_last stagingFull.dev (t := waitingFrames) rfl (by simp [waitingFrames]), List.map_append,
    List.sum_append, staged_waitingFrames]
  decide

/-- The frame is dropped and, no copy of it having been made, forgotten. -/
theorem frame_tailRx_stagingFull : (stagingFull.dev.tailRx 0 lastBytes goodFcs.toNat none).frame? 32 = none := by
  rw [Dev.tailRx_of_overrun stagingFull.dev (f := headFrame) (by decide +kernel) (by decide +kernel) (by decide +kernel) rfl rfl rfl rfl
    stagingFull_overrun]
  decide +kernel

/-- Refutes O50 in its second clause: the tail of a frame whose last bytes find the staging memory of its slice full drops the frame with
INGRESS_OVERRUN (R457), however good its FCS. The clause wants the premise that they fit, and so does the third; the first wants the ranges
of the terms (`RxTerms.ok`). -/
theorem not_reception : ¬ Obligations.Reception := by
  intro h
  obtain ⟨-, htail, -⟩ := h stagingFull
  have hup : stagingFull.dev.blockUp bkCORE = true := by decide +kernel
  obtain ⟨e, hrun, -, -, hkept⟩ := htail 0 lastBytes goodFcs 32 headFrame hup (by decide +kernel) (by decide +kernel) rfl rfl rfl
    (by decide +kernel) (by decide +kernel)
  have hgone : e.frame? 32 = none := by
    rw [dev_of_exec (exec_frameTailRx stagingFull 0 lastBytes goodFcs none hup) hrun, Dev.frame_settle, Fin.val_zero,
      frame_tailRx_stagingFull]
  rw [hgone] at hkept
  exact absurd hkept (by simp)

/-! ### Terms out of range (R109) -/

/-- Nothing is exported where no record has reached Eodin. -/
theorem Dev.ipfixExport_of_no_records (h : d.net.eodinRecs = []) : d.ipfixExport = d := by
  rw [Dev.ipfixExport, h, List.foldl_nil, ← h]

/-- A launch whose terms lie outside their ranges commits nothing. -/
theorem Dev.launch_of_not_ok (n : Nat) {t : TxTerms} (h : t.ok = false) : d.launch n t = d := by
  unfold Dev.launch
  split
  · rfl
  · rw [if_pos (by simp [h])]

/-- So the command changes nothing but the items that follow other state. -/
theorem exec_launchCommitment_of_not_ok (s : State) (n : LpNo) {t : TxTerms} (h : t.ok = false) (hrecs : s.dev.net.eodinRecs = []) :
    exec (.launchCommitment n t) s = .next ⟨s.dev.settle, s.pending⟩ := by
  show run s (fun d => d.inBlock bkCORE (fun d => (d.launch n.val t).ipfixExport)) = _
  rw [run_eq, Dev.inBlock, Dev.launch_of_not_ok _ _ h, Dev.ipfixExport_of_no_records _ hrecs, ite_self]

/-- The module after reset with port 0 UP, PFC sent on it, and a PFC frame for class 3 asked for. -/
def pfcAsked : State :=
  let d := (({} : Dev).setFld (MAC_STATUS 0) MAC_STATUS_STATE lkUP).setFld (MAC_CTRL 0) MAC_CTRL_TX_PFC_EN 1
  ⟨{ d with net := { d.net with pfc := [(0, 8)] } }, []⟩

/-- A place of the stamped bit one past the range of O. -/
def termsPastRange : TxTerms := { lane := 0, o := 5440, a := 0, g := 0 }

/-- Refutes O51 in its fourth clause: with the stamped bit's place O past its range (R109) a launch commits nothing, and the PFC frame asked for
waits on. No well-formed command carries such terms (`Instr.wf`), but the clause is stated of all terms, and so wants the premise `t.ok`; its
fifth clause wants it too. -/
theorem not_buffersAndTransmission : ¬ Obligations.BuffersAndTransmission := by
  intro h
  obtain ⟨-, -, -, hpfc, -⟩ := h pfcAsked
  obtain ⟨e, hrun, hsent, -⟩ := hpfc 0 termsPastRange (by decide +kernel) (by decide +kernel) (by decide +kernel) rfl (by decide +kernel)
    (by decide +kernel) (by decide) rfl
  rw [dev_of_exec (exec_launchCommitment_of_not_ok pfcAsked 0 (by decide) rfl) hrun, Dev.settle_net] at hsent
  exact absurd hsent (by decide)

end Sys2Proof.Machine
end

section
/-! Proofs about the time-protocol chapter: what the paths of frames and of the fabric leave to the engine. -/

namespace Sys2Proof.Machine

variable (d : Dev)

/-! ### What the engine reads -/

@[simp] theorem idClass_pid (c i n : Nat) : idClass (pid c i n) = c := by
  unfold idClass pid; omega

/-- The items of the engine's class and of the trunks'. -/
def timeItem (q : Nat) : Bool := idClass q == 0x05 || idClass q == 0x14

@[simp] theorem timeItem_pid (c i n : Nat) : timeItem (pid c i n) = (c == 0x05 || c == 0x14) := by
  simp only [timeItem, idClass_pid]

theorem ne_of_timeItem {p q : Nat} (hq : timeItem q = true) (hp : timeItem p = false) : q ≠ p := by
  rintro rfl
  rw [hp] at hq
  exact Bool.false_ne_true hq

/-- No item that follows other state is one of them. -/
theorem not_followItem_of_timeItem {q : Nat} (hq : timeItem q = true) : q ∉ followItems := by
  rintro h
  simp only [followItems, List.mem_cons, List.not_mem_nil, or_false] at h
  rcases h with rfl | rfl | rfl | rfl | rfl | rfl <;> simp at hq

/-- What the engine reads of the module, time aside: its own state, the messages that wait for it, whether the announce timers run, and the items
of its class and of the trunks'. -/
@[ext] structure TimeView where
  pte : PteSt
  inbox : List Term
  runs : Nat → Bool
  items : Nat → Wide

def Dev.timeView (d : Dev) : TimeView where
  pte := d.pte
  inbox := d.net.inbox
  runs k := decide (tmr 8 0 ≤ k ∧ k < tmr 9 0) && d.runsT k
  items q := if timeItem q then d.get q else 0

/-- The same, with the next number of a frame and the port that each frame came from. -/
@[ext] structure RinkView where
  time : TimeView
  nextId : Nat
  lps : Nat → Option Nat

def Dev.rinkView (d : Dev) : RinkView where
  time := d.timeView
  nextId := d.net.nextId
  lps f := (d.frame? f).map Frame.lp

theorem Dev.items_congr {d e : Dev} (h : ∀ q, timeItem q = true → e.get q = d.get q) : e.timeView.items = d.timeView.items := by
  funext q
  by_cases hq : timeItem q <;> simp [Dev.timeView, hq, h]

theorem Dev.rinkView_congr {d e : Dev} (hpte : e.pte = d.pte) (hnet : e.net = d.net) (hitems : ∀ q, timeItem q = true → e.get q = d.get q) :
    e.rinkView = d.rinkView := by
  have := Dev.items_congr hitems
  simp_all [Dev.rinkView, Dev.timeView, Dev.runsT, Dev.frame?]

/-! ### Items of other classes -/

section Items

variable {p : Nat} (h : timeItem p = false)
include h

@[simp] theorem Dev.rinkView_put (v : Wide) : (d.put p v).rinkView = d.rinkView :=
  Dev.rinkView_congr rfl rfl fun _ hq => d.get_put_ne v (ne_of_timeItem hq h)

@[simp] theorem Dev.rinkView_setFld (f : Fld) (n : Nat) : (d.setFld p f n).rinkView = d.rinkView := d.rinkView_put h _
@[simp] theorem Dev.rinkView_putNum (n : Nat) : (d.putNum p n).rinkView = d.rinkView := d.rinkView_put h _
@[simp] theorem Dev.rinkView_bump (n : Nat) : (d.bump p n).rinkView = d.rinkView := d.rinkView_put h _
@[simp] theorem Dev.rinkView_live (b : Nat) (v : Bool) : (d.live p b v).rinkView = d.rinkView := d.rinkView_put h _


@[simp] theorem Dev.rinkView_liveEdge (b : Nat) (v : Bool) : (d.liveEdge p b v).rinkView = d.rinkView :=
  Dev.rinkView_congr (by simp) (by simp) fun _ hq => d.get_liveEdge_ne b v (ne_of_timeItem hq h)

@[simp] theorem Dev.rinkView_pulse (b : Nat) : (d.pulse p b).rinkView = d.rinkView :=
  Dev.rinkView_congr (by simp) (by simp) fun _ hq => d.get_pulse_ne b (ne_of_timeItem hq h)

end Items

@[simp] theorem Dev.rinkView_signal (fn vec : Nat) : (d.signal fn vec).rinkView = d.rinkView :=
  Dev.rinkView_congr (by simp) (by simp) fun _ _ => d.get_signal fn vec _

/-! ### Queues, postcards and mirror copies (R471, R485, R597 to R600) -/

@[simp] theorem Dev.rinkView_setQueue (q : Nat) (l : List Copy) : (d.setQueue q l).rinkView = d.rinkView := by
  simp only [Dev.setQueue]
  rw [Dev.rinkView_putNum _ (by simp)]
  rfl

@[simp] theorem Dev.rinkView_headroom (kind : Nat) (up : Bool) : (d.headroom kind up).rinkView = d.rinkView := by
  unfold Dev.headroom
  split_ifs <;> rfl

@[simp] theorem Dev.rinkView_toDma (ch : Nat) (r : Rec) : (d.toDma ch r).1.rinkView = d.rinkView := by
  unfold Dev.toDma
  split_ifs <;> rfl

@[simp] theorem Dev.rinkView_toEodin (r : Rec) : (d.toEodin r).1.rinkView = d.rinkView := by
  unfold Dev.toEodin
  extract_lets s n
  split
  · rfl
  · split
    · simp
    · rfl

/-- A postcard given to its destinations is counted. -/
@[simp] theorem Dev.rinkView_emitPostcard (b : List Byte) : (d.emitPostcard b).rinkView = d.rinkView := by
  unfold Dev.emitPostcard
  extract_lets dest sec n src src1 d0 r d1 q
  have h0 : d0.rinkView = d.rinkView := rfl
  clear_value d0
  split
  · simp [h0]
  · have hr : r.1.rinkView = d.rinkView := by unfold r; split <;> simp [h0]
    have h1 : d1.rinkView = d.rinkView := by unfold d1; split <;> simp [hr]
    have hq : q.1.rinkView = d.rinkView := by unfold q; split <;> simp [h1]
    split <;> simp [hq]

@[simp] theorem Dev.rinkView_postcard (f : Frame) (x : Fate) : (d.postcard f x).rinkView = d.rinkView := by
  unfold Dev.postcard
  split
  · rfl
  · split
    · simp
    · split
      · simp only [Dev.rinkView_emitPostcard]; rfl
      · rfl

@[simp] theorem Dev.rinkView_countDrop (f : Frame) (c : Option Copy) (r : Nat) : (d.countDrop f c r).rinkView = d.rinkView := by
  simp [Dev.countDrop]

/-- A frame changed keeps the port it came from. -/
theorem Dev.rinkView_onFrame (fid : Nat) {g : Frame → Frame} (hg : ∀ f, (g f).lp = f.lp) : (d.onFrame fid g).rinkView = d.rinkView := by
  unfold Dev.onFrame
  split
  · next f hf =>
    have hlps : ∀ k, ((d.setFrame fid (g f)).frame? k).map Frame.lp = (d.frame? k).map Frame.lp := by
      intro k
      by_cases hk : k = fid
      · subst hk; simp [hf, hg]
      · rw [d.frame_setFrame_ne _ hk]
    ext1
    · rfl
    · rfl
    · exact funext hlps
  · rfl

@[simp] theorem Dev.rinkView_enqueue (fid : Nat) (f : Frame) (c : Copy) : (d.enqueue fid f c).rinkView = d.rinkView := by
  unfold Dev.enqueue
  extract_lets s g d1 d2 src d3 d4 d5
  have h2 : d2.rinkView = d.rinkView := by simp [d2, d1]
  have h3 : d3.rinkView = d.rinkView := ((Dev.rinkView_headroom _ _ _).trans rfl).trans h2
  have h5 : d5.rinkView = d.rinkView := by unfold d5; split <;> simp [d4, h3]
  rw [Dev.rinkView_onFrame, h5]
  intro x; rfl

@[simp] theorem Dev.rinkView_offer (fid : Nat) (c : Copy) : (d.offer fid c).1.rinkView = d.rinkView := by
  unfold Dev.offer
  split
  · rfl
  · split
    · simp
    · extract_lets d1 d2 d3
      have h2 : d2.rinkView = d.rinkView := by unfold d2; split <;> simp [d1]
      have h3 : d3.rinkView = d.rinkView := by simp [d3, h2]
      split <;> simp [h3]

@[simp] theorem Dev.rinkView_mirror (fid s trig reason egress edit : Nat) :
    (d.mirror fid s trig reason egress edit).rinkView = d.rinkView := by
  simp only [Dev.mirror, Dev.rinkView_offer]
  rw [Dev.rinkView_bump _ (by simp)]
  rfl

/-- A view kept by each step of a walk is kept by the walk. -/
theorem foldl_view {α β : Type} {v : Dev → α} {f : Dev → β → Dev} (h : ∀ e x, v (f e x) = v e) (l : List β) (e : Dev) :
    v (l.foldl f e) = v e := by
  induction l generalizing e with
  | nil => rfl
  | cons x r ih => rw [List.foldl_cons, ih, h]

@[simp] theorem Dev.rinkView_mirrorDrop (fid reason egress : Nat) : (d.mirrorDrop fid reason egress).rinkView = d.rinkView := by
  refine foldl_view (fun e s => ?_) _ _
  split <;> simp

/-! ### Frames that the module originates (R158, R499) -/

/-- A buffer released shows in its pool. -/
@[simp] theorem Dev.rinkView_setPool (k : Nat) (p : Pool) : (d.setPool k p).rinkView = d.rinkView := by
  unfold Dev.setPool
  extract_lets src d1
  have h1 : d1.rinkView = d.rinkView := rfl
  unfold Dev.judgeExh
  extract_lets f
  split
  · simp [h1]
  · split <;> simp [h1]

@[simp] theorem Dev.rinkView_releaseBuf (k i : Nat) : (d.releaseBuf k i).rinkView = d.rinkView := by
  unfold Dev.releaseBuf
  extract_lets p
  split <;> simp

/-- No pause is asked for a class of the host's own frames. -/
theorem Dev.pfcJudge_of_no_port {n : Nat} (p : Nat) (h : 256 ≤ n) : d.pfcJudge n p = d := by
  rw [Dev.pfcJudge, if_neg (by omega)]

/-- A frame of the module's own that is done with is forgotten. -/
theorem Dev.view_settleFrame {fid : Nat} (h : ∀ f, d.frame? fid = some f → 256 ≤ f.lp) :
    (d.settleFrame fid).timeView = d.timeView ∧ (d.settleFrame fid).net.nextId = d.net.nextId := by
  unfold Dev.settleFrame
  split
  · exact ⟨rfl, rfl⟩
  · next f hf =>
    split
    · exact ⟨rfl, rfl⟩
    · split
      · extract_lets d1 src d2 src1 d3
        have h1 : d1.rinkView = d.rinkView := by unfold d1; split <;> simp
        have h2 : d2.rinkView = d.rinkView := by unfold d2; split; exacts [h1, h1]
        have h3 : d3.timeView = d2.timeView ∧ d3.net.nextId = d2.net.nextId := by unfold d3; split <;> exact ⟨rfl, rfl⟩
        rw [Dev.pfcJudge_of_no_port _ _ (h f hf), h3.1, h3.2]
        exact ⟨congrArg RinkView.time h2, congrArg RinkView.nextId h2⟩
      · exact ⟨rfl, rfl⟩

theorem Dev.frame_newFrame (x : Frame) : (d.newFrame x).1.frame? d.net.nextId = some x := d.frame_setFrame_same d.net.nextId x

/-- A frame that the module originates takes the next number, and its path to a queue leaves the engine's view alone. -/
theorem Dev.view_originate (q : Nat) (b : List Byte) {g : Frame → Frame} (hg : ∀ f, (g f).lp = f.lp) :
    (d.originate q b g).1.timeView = d.timeView ∧ (d.originate q b g).1.net.nextId = d.net.nextId + 1 := by
  unfold Dev.originate
  extract_lets body f r o
  have ho : o.1.rinkView = r.1.rinkView := r.1.rinkView_offer _ _
  have hlp : r.1.rinkView.lps d.net.nextId = some 256 := by
    show (r.1.frame? d.net.nextId).map Frame.lp = some 256
    rw [d.frame_newFrame, Option.map_some, hg]
  have hview : o.1.timeView = d.timeView := (congrArg RinkView.time ho).trans rfl
  have hnext : o.1.net.nextId = d.net.nextId + 1 := (congrArg RinkView.nextId ho).trans rfl
  split
  · exact ⟨hview, hnext⟩
  · next x hx =>
    set e := o.1.mirrorDrop r.2 x (if q < 2304 then q / 9 else 0xFFFF) with he
    have hm : e.rinkView = o.1.rinkView := o.1.rinkView_mirrorDrop _ _ _
    obtain ⟨h1, h2⟩ := e.view_settleFrame (fid := r.2) (by
      intro f' hf'
      have : e.rinkView.lps r.2 = some f'.lp := by simp [Dev.rinkView, hf']
      rw [hm, ho] at this
      have := this.symm.trans hlp
      simp at this
      omega)
    exact ⟨h1.trans ((congrArg RinkView.time hm).trans hview), h2.trans ((congrArg RinkView.nextId hm).trans hnext)⟩

/-- The same of a time message sent. -/
theorem Dev.view_sendPtp (n k : Nat) (event peer : Bool) (dest : Option (Nat × Nat)) (msg : List Byte) {g : Frame → Frame}
    (hg : ∀ f, (g f).lp = f.lp) : (d.sendPtp n k event peer dest msg g).timeView = d.timeView ∧
    (d.sendPtp n k event peer dest msg g).net.nextId = d.net.nextId + 1 :=
  d.view_originate _ _ hg

end Sys2Proof.Machine
end

section
/-! Proofs about the time-protocol chapter: the engine's exchanges (R152 to R169). -/

namespace Sys2Proof.Machine

variable (d : Dev)

/-! ### Commands of one block -/

/-- A command of a block that is up completes, the module then being what `f` makes of it and its status items shown. -/
theorem answers_inBlock {c : Instr} {s : State} {b : Nat} {f : Dev → Dev} {P : Dev → Prop}
    (e : exec c s = run s (fun d => d.inBlock b f)) (hup : s.dev.blockUp b = true) (h : P (f s.dev).settle) :
    ∃ e, exec c s = .next ⟨e, s.pending⟩ ∧ P e :=
  answers_run e (by rw [s.dev.inBlock_up f hup]; exact h)

/-- The same for a command after which links that no longer serve are given up. -/
theorem answers_inBlockNet {c : Instr} {s : State} {b : Nat} {f : Dev → Dev} {P : Dev → Prop}
    (e : exec c s = runNet s (fun d => d.inBlock b f)) (hup : s.dev.blockUp b = true) (h : P (f s.dev).crsCheck.settle) :
    ∃ e, exec c s = .next ⟨e, s.pending⟩ ∧ P e :=
  answers_runNet e (by rw [s.dev.inBlock_up f hup]; exact h)

@[simp] theorem Dev.cport_settle (i k : Nat) : d.settle.cport i k = d.cport i k := by simp only [Dev.cport, Dev.settle_pte]
@[simp] theorem Dev.piste_settle (k : Nat) : d.settle.piste k = d.piste k := by simp only [Dev.piste, Dev.settle_pte]
@[simp] theorem Dev.runsT_settle (k : Nat) : d.settle.runsT k = d.runsT k := by simp only [Dev.runsT, Dev.settle_net]

/-! ### The engine's own state -/

@[simp] theorem Dev.cport_setPiste (i k j : Nat) (p : PisteSt) : (d.setPiste k p).cport i j = d.cport i j := by
  unfold Dev.setPiste; split <;> rfl
@[simp] theorem Dev.piste_setCport (i k j : Nat) (x : ClkPort) : (d.setCport i k x).piste j = d.piste j := rfl
@[simp] theorem Dev.piste_setPiste_same (k : Nat) (p : PisteSt) : (d.setPiste k p).piste k = p := by
  by_cases h : k = 1 <;> simp [Dev.setPiste, Dev.piste, h]
@[simp] theorem Dev.net_setPiste (k : Nat) (p : PisteSt) : (d.setPiste k p).net = d.net := by
  unfold Dev.setPiste; split <;> rfl

@[simp] theorem Dev.cport_setMean (i k j l : Nat) (m : Int) : (d.setMean i k m).cport j l = d.cport j l := rfl
@[simp] theorem Dev.piste_setMean (i k j : Nat) (m : Int) : (d.setMean i k m).piste j = d.piste j := rfl
@[simp] theorem Dev.net_setMean (i k : Nat) (m : Int) : (d.setMean i k m).net = d.net := rfl
@[simp] theorem Dev.cport_detector (k i j l : Nat) (x : Int) : (d.detector k i x).cport j l = d.cport j l := d.cport_setPiste _ _ _ _
@[simp] theorem Dev.net_detector (k i : Nat) (x : Int) : (d.detector k i x).net = d.net := d.net_setPiste _ _

/-- A value given to a servo waits behind those given before. -/
theorem Dev.dets_detector (k i : Nat) (x : Int) : ((d.detector k i x).piste k).dets = (d.piste k).dets ++ [(x, i)] := by
  simp only [Dev.detector, Dev.piste_setPiste_same]

/-- What changes only messages, ports and Pistes leaves the rest alone. -/
theorem changes_engine (n : NetSt) (p : PteSt) (qs : List Nat) : Changes [.net, .pte] qs d { d with net := n, pte := p } := by
  refine ⟨fun q hq => ?_, fun _ _ _ => rfl⟩
  cases q with
  | net | pte => simp at hq
  | msix => exact ⟨rfl, rfl⟩
  | _ => rfl

theorem changes_setPiste (k : Nat) (p : PisteSt) (qs : List Nat) : Changes [.net, .pte] qs d (d.setPiste k p) := by
  unfold Dev.setPiste
  split <;> exact changes_engine d d.net _ qs

theorem changes_setCport (i k : Nat) (x : ClkPort) (qs : List Nat) : Changes [.net, .pte] qs d (d.setCport i k x) :=
  changes_engine d d.net _ qs

theorem changes_put {ps : List Part} {qs : List Nat} {p : Nat} (hp : p ∈ qs) (v : Wide) : Changes ps qs d (d.put p v) := by
  refine ⟨fun q _ => ?_, fun q hq _ => d.get_put_ne v fun h => hq (h ▸ hp)⟩
  cases q with
  | msix => exact ⟨rfl, rfl⟩
  | _ => rfl

theorem changes_setMean (ps : List Part) (i k : Nat) (m : Int) :
    Changes ps [PTE_MEAN_DELAY_A i, PTE_MEAN_DELAY_B i] d (d.setMean i k m) :=
  changes_put d (by split <;> simp) _

/-! ### Messages taken (R157) -/

/-- The messages that wait for the engine. -/
def Dev.setInbox (d : Dev) (l : List Term) : Dev := { d with net := { d.net with inbox := l } }

@[simp] theorem Dev.inbox_setInbox (l : List Term) : (d.setInbox l).net.inbox = l := rfl
@[simp] theorem Dev.cport_setInbox (l : List Term) (i k : Nat) : (d.setInbox l).cport i k = d.cport i k := rfl

theorem changes_setInbox (l : List Term) (qs : List Nat) : Changes [.net, .pte] qs d (d.setInbox l) := changes_engine d _ d.pte qs

variable {d} {t : Term} {r : List Term}

/-- The message at the head of the inbox is taken by the command of its kind and type. -/
theorem Dev.takeMsg_head (h : d.net.inbox = t :: r) {kind typ : Nat} (hk : t.kind = kind) (ht : pmType t.bytes = typ) :
    d.takeMsg kind typ = (d.setInbox r, some t) := by
  simp [Dev.takeMsg, Dev.setInbox, h, hk, ht]

theorem Dev.slaveAt_of_slave {i k : Nat} (h : d.portState i k = psSLAVE) : d.slaveAt i k = true := by simp [Dev.slaveAt, h]

/-! ### Sync and Follow_Up (R157, R168) -/

/-- t2' - t1' of a Sync. -/
def Dev.syncOffset (d : Dev) (i t1 : Nat) (s : SyncSt) : Int := ((s.t2 : Int) - t1) / 0x100000000 - s.corr - d.opticRx i

/-- A Sync whose t1 is known leaves t2' - t1' at its port and waits for no more. -/
theorem Dev.cport_syncDone (i k t1 : Nat) (s : SyncSt) :
    (d.syncDone i k t1 s).cport i k = { d.cport i k with sync := none, md := some (d.syncOffset i t1 s) } := by
  unfold Dev.syncDone
  split <;> simp [Dev.syncOffset]

theorem Dev.net_syncDone (i k t1 : Nat) (s : SyncSt) : (d.syncDone i k t1 s).net = d.net := by
  unfold Dev.syncDone
  split <;> simp [Dev.setCport]

theorem changes_syncDone (i k t1 : Nat) (s : SyncSt) : Changes [.net, .pte] [] d (d.syncDone i k t1 s) := by
  unfold Dev.syncDone
  split
  · exact changes_trans (changes_setCport d _ _ _ _) (changes_setPiste _ _ _ _)
  · exact changes_setCport d _ _ _ _

theorem Dev.syncRx_oneStep (h : d.net.inbox = t :: r) (hk : t.kind = 0) (ht : pmType t.bytes = mtSYNC)
    (hs : d.portState (0x100 + t.lp) t.piste = psSLAVE) (hb : t.bad = false) (h2 : pmTwoStep t.bytes = false) :
    d.syncRx = (d.setInbox r).syncDone (0x100 + t.lp) t.piste (pmTime t.bytes 34)
      { seq := pmSeq t.bytes, t2 := t.stamp, bad := false, corr := pmCorr t.bytes, t1 := none } := by
  simp [Dev.syncRx, Dev.takeMsg_head h hk ht, Dev.slaveAt_of_slave hs, hb, h2]

theorem Dev.syncRx_twoStep (h : d.net.inbox = t :: r) (hk : t.kind = 0) (ht : pmType t.bytes = mtSYNC)
    (hs : d.portState (0x100 + t.lp) t.piste = psSLAVE) (hb : t.bad = false) (h2 : pmTwoStep t.bytes = true) :
    d.syncRx = (d.setInbox r).setCport (0x100 + t.lp) t.piste { d.cport (0x100 + t.lp) t.piste with
      sync := some { seq := pmSeq t.bytes, t2 := t.stamp, bad := false, corr := pmCorr t.bytes, t1 := none } } := by
  simp [Dev.syncRx, Dev.takeMsg_head h hk ht, Dev.slaveAt_of_slave hs, hb, h2]

theorem Dev.followUpRx_of_seq {x : SyncSt} (h : d.net.inbox = t :: r) (hk : t.kind = 1) (ht : pmType t.bytes = mtFOLLOW_UP)
    (hx : (d.cport (0x100 + t.lp) t.piste).sync = some x) (hq : x.seq = pmSeq t.bytes) :
    d.followUpRx = (d.setInbox r).syncDone (0x100 + t.lp) t.piste (pmTime t.bytes 34) { x with corr := x.corr + pmCorr t.bytes } := by
  simp [Dev.followUpRx, Dev.takeMsg_head h hk ht, hx, hq]

/-! ### Delay_Resp (R168) -/

theorem changes_takeReturn (typ dom seq lp : Nat) (qs : List Nat) : Changes [.net, .pte] qs d (d.takeReturn typ dom seq lp).1 := by
  unfold Dev.takeReturn
  split
  · exact changes_engine d _ d.pte qs
  · exact changes_refl d _ _

@[simp] theorem Dev.inbox_takeReturn (typ dom seq lp : Nat) : (d.takeReturn typ dom seq lp).1.net.inbox = d.net.inbox := by
  unfold Dev.takeReturn; split <;> rfl
@[simp] theorem Dev.pte_takeReturn (typ dom seq lp : Nat) : (d.takeReturn typ dom seq lp).1.pte = d.pte := by
  unfold Dev.takeReturn; split <;> rfl
@[simp] theorem Dev.piste_takeReturn (typ dom seq lp k : Nat) : (d.takeReturn typ dom seq lp).1.piste k = d.piste k := by
  simp only [Dev.piste, Dev.pte_takeReturn]

theorem Dev.return_setInbox (l : List Term) (typ dom seq lp : Nat) :
    ((d.setInbox l).takeReturn typ dom seq lp).2 = (d.takeReturn typ dom seq lp).2 := by
  unfold Dev.takeReturn Dev.setInbox
  dsimp only
  split <;> rfl

/-- An exchange that completes: the mean delay shown, and one offset for the servo. -/
def Dev.delayDone (d : Dev) (i k seq lp : Nat) (mean off : Int) : Dev :=
  (((d.takeReturn mtDELAY_REQ (d.domainOf k) seq lp).1.setCport i k { d.cport i k with dreq := none }).setMean i k mean).detector k i off

/-- The mean path delay that a Delay_Resp gives, from t2' - t1' of the last Sync and the egress time of the request. -/
def Dev.exchangeDelay (d : Dev) (t : Term) (md : Int) (t3 : Nat) : Int :=
  (md + (((pmTime t.bytes 34 : Int) - t3) / 0x100000000 - pmCorr t.bytes - d.opticTx (0x100 + t.lp))).fdiv 2

theorem Dev.delayRespRx_of_exchange {md : Int} {t3 : Nat} (h : d.net.inbox = t :: r) (hk : t.kind = 1) (ht : pmType t.bytes = mtDELAY_RESP)
    (hs : d.portState (0x100 + t.lp) t.piste = psSLAVE) (hq : (d.cport (0x100 + t.lp) t.piste).dreq = some (pmSeq t.bytes))
    (ha : pmAsked t.bytes = portIdent (t.lp + 1)) (hmd : (d.cport (0x100 + t.lp) t.piste).md = some md)
    (ht3 : (d.takeReturn mtDELAY_REQ (d.domainOf t.piste) (pmSeq t.bytes) t.lp).2 = some t3) :
    d.delayRespRx = (d.setInbox r).delayDone (0x100 + t.lp) t.piste (pmSeq t.bytes) t.lp (d.exchangeDelay t md t3)
      (md - d.exchangeDelay t md t3) := by
  rw [← d.return_setInbox r] at ht3
  simp [Dev.delayRespRx, Dev.takeMsg_head h hk ht, Dev.slaveAt_of_slave hs, hq, ha, hmd, ht3, Dev.delayDone]
  rfl

variable (d)

theorem Dev.cport_delayDone (i k seq lp : Nat) (mean off : Int) :
    (d.delayDone i k seq lp mean off).cport i k = { d.cport i k with dreq := none } := by simp [Dev.delayDone]

theorem Dev.inbox_delayDone (i k seq lp : Nat) (mean off : Int) : (d.delayDone i k seq lp mean off).net.inbox = d.net.inbox := by
  simp [Dev.delayDone, Dev.setCport]

theorem Dev.dets_delayDone (i k seq lp : Nat) (mean off : Int) :
    ((d.delayDone i k seq lp mean off).piste k).dets = (d.piste k).dets ++ [(off, i)] := by
  simp [Dev.delayDone, Dev.dets_detector]

theorem changes_delayDone (i k seq lp : Nat) (mean off : Int) :
    Changes [.net, .pte] [PTE_MEAN_DELAY_A i, PTE_MEAN_DELAY_B i] d (d.delayDone i k seq lp mean off) :=
  changes_trans (changes_trans (changes_trans (changes_takeReturn _ _ _ _ _) (changes_setCport _ _ _ _ _)) (changes_setMean _ _ _ _ _))
    (changes_setPiste _ _ _ _)

/-! ### Messages sent (R152, R158, R162) -/

theorem Dev.cport_of_view {d e : Dev} (h : e.timeView = d.timeView) (i k : Nat) : e.cport i k = d.cport i k := by
  rw [Dev.cport, Dev.cport, show e.pte = d.pte from congrArg TimeView.pte h]

/-- A message sent takes the next frame number and leaves the clock ports alone. -/
theorem Dev.cport_sendPtp (n k : Nat) (event peer : Bool) (dest : Option (Nat × Nat)) (msg : List Byte) {g : Frame → Frame}
    (hg : ∀ f, (g f).lp = f.lp) (i j : Nat) : (d.sendPtp n k event peer dest msg g).cport i j = d.cport i j :=
  Dev.cport_of_view (d.view_sendPtp n k event peer dest msg hg).1 i j

theorem Dev.inbox_sendPtp (n k : Nat) (event peer : Bool) (dest : Option (Nat × Nat)) (msg : List Byte) {g : Frame → Frame}
    (hg : ∀ f, (g f).lp = f.lp) : (d.sendPtp n k event peer dest msg g).net.inbox = d.net.inbox :=
  congrArg TimeView.inbox (d.view_sendPtp n k event peer dest msg hg).1

theorem Dev.nextId_sendPtp (n k : Nat) (event peer : Bool) (dest : Option (Nat × Nat)) (msg : List Byte) {g : Frame → Frame}
    (hg : ∀ f, (g f).lp = f.lp) : d.net.nextId < (d.sendPtp n k event peer dest msg g).net.nextId := by
  rw [(d.view_sendPtp n k event peer dest msg hg).2]
  exact Nat.lt_succ_self _

/-- After a port has taken its next number and sent, it stands as it was written, and a frame more has had its number. -/
theorem Dev.sent_of_setCport {e : Dev} {i n k : Nat} {x : ClkPort} {event peer : Bool} {dest : Option (Nat × Nat)} {msg : List Byte}
    {g : Frame → Frame} (h : e = (d.setCport i k x).sendPtp n k event peer dest msg g) (hg : ∀ f, (g f).lp = f.lp) :
    e.settle.cport i k = x ∧ d.net.nextId < e.settle.net.nextId := by
  rw [h, Dev.cport_settle, Dev.cport_sendPtp _ _ _ _ _ _ _ hg, Dev.cport_setCport_same, Dev.settle_net]
  exact ⟨rfl, (d.setCport i k x).nextId_sendPtp n k event peer dest msg hg⟩

variable {d}

/-- The engine's messages of a port go out with the port's next number (profile 4 aside, whose messages follow grants). -/
theorem Dev.syncTx_of_master {n k : Nat} (hs : d.portState (0x100 + n) k = psMASTER) (hp : d.profile k ≠ 4) :
    ∃ m, d.syncTx n k = (d.setCport (0x100 + n) k { d.cport (0x100 + n) k with
        seqSync := ((d.cport (0x100 + n) k).seqSync + 1) % 0x10000 }).sendPtp
      n k true false none m (fun f => { f with op := opORIGIN }) := by
  rw [Dev.syncTx, if_neg (not_not_intro hs), if_neg hp]
  exact ⟨_, rfl⟩

theorem Dev.announceTx_of_master {n k : Nat} (hs : d.portState (0x100 + n) k = psMASTER) (hp : d.profile k ≠ 4) (hh : d.pwr.handOff = false) :
    ∃ m, d.announceTx n k = (d.setCport (0x100 + n) k { d.cport (0x100 + n) k with
        seqAnn := ((d.cport (0x100 + n) k).seqAnn + 1) % 0x10000 }).sendPtp
      n k false false none m id := by
  rw [Dev.announceTx, if_neg (by simp [hs, hh]), if_neg hp]
  exact ⟨_, rfl⟩

theorem Dev.delayReqTx_of_slave {n k : Nat} (hs : d.portState (0x100 + n) k = psSLAVE) (hp : p2pProfile (d.profile k) = false)
    (h4 : d.profile k ≠ 4) :
    ∃ m, d.delayReqTx n k = (d.setCport (0x100 + n) k { d.cport (0x100 + n) k with
        seqDel := ((d.cport (0x100 + n) k).seqDel + 1) % 0x10000, dreq := some (d.cport (0x100 + n) k).seqDel }).sendPtp
      n k true false none m (fun f => { f with ret := true }) := by
  rw [Dev.delayReqTx, if_neg (by simp [Dev.slaveAt_of_slave hs, hp]), if_neg h4]
  exact ⟨_, rfl⟩

theorem Dev.delayReqRx_of_master (h : d.net.inbox = t :: r) (hk : t.kind = 0) (ht : pmType t.bytes = mtDELAY_REQ)
    (hs : d.portState (0x100 + t.lp) t.piste = psMASTER) (hb : t.bad = false) :
    ∃ dest m, d.delayReqRx = (d.setInbox r).sendPtp t.lp t.piste false false dest m id := by
  simp only [Dev.delayReqRx, Dev.takeMsg_head h hk ht]
  rw [if_neg (by simp [hs, hb])]
  exact ⟨_, _, rfl⟩

/-- Settles O23: each exchange is one equation for its command, then the rules of the state it writes; of a message sent only the view that the
engine keeps of the paths of frames matters. -/
theorem syncAndDelay : Obligations.SyncAndDelay := by
  intro s
  refine ⟨?oneStep, ?twoStep, ?followUp, ?delayResp, ?delayReq, ?sendSync, ?sendAnnounce, ?sendDelayReq⟩
  case oneStep =>
    intro t r hup h hk ht hs hb h2 _
    refine answers_inBlock rfl hup ?_
    rw [Dev.syncRx_oneStep h hk ht hs hb h2]
    refine ⟨?_, ?_, ?_, changes_settle (changes_trans (changes_setInbox _ _ _) (changes_syncDone _ _ _ _))⟩
    · rw [Dev.settle_net, Dev.net_syncDone, Dev.inbox_setInbox]
    · rw [Dev.cport_settle, Dev.cport_syncDone]; rfl
    · rw [Dev.cport_settle, Dev.cport_syncDone]
  case twoStep =>
    intro t r hup h hk ht hs hb h2
    refine answers_inBlock rfl hup ?_
    rw [Dev.syncRx_twoStep h hk ht hs hb h2]
    refine ⟨?_, ?_, changes_settle (changes_trans (changes_setInbox _ _ _) (changes_setCport _ _ _ _ _))⟩
    · rw [Dev.settle_net]; rfl
    · rw [Dev.cport_settle, Dev.cport_setCport_same]; rfl
  case followUp =>
    intro t r x hup h hk ht hx hq
    refine answers_inBlock rfl hup ?_
    rw [Dev.followUpRx_of_seq h hk ht hx hq]
    refine ⟨?_, ?_, ?_, changes_settle (changes_trans (changes_setInbox _ _ _) (changes_syncDone _ _ _ _))⟩
    · rw [Dev.settle_net, Dev.net_syncDone, Dev.inbox_setInbox]
    · rw [Dev.cport_settle, Dev.cport_syncDone]
    · rw [Dev.cport_settle, Dev.cport_syncDone]; rfl
  case delayResp =>
    intro t r hup h hk ht hs hq ha hmd ht3
    obtain ⟨md, hmd⟩ := Option.isSome_iff_exists.1 hmd
    obtain ⟨t3, ht3⟩ := Option.isSome_iff_exists.1 ht3
    refine answers_inBlock rfl hup ?_
    rw [Dev.delayRespRx_of_exchange h hk ht hs hq ha hmd ht3]
    refine ⟨?_, ?_, ?_, changes_settle (changes_trans (changes_setInbox _ _ _) (changes_delayDone _ _ _ _ _ _ _))⟩
    · rw [Dev.settle_net, Dev.inbox_delayDone, Dev.inbox_setInbox]
    · rw [Dev.cport_settle, Dev.cport_delayDone]
    · rw [Dev.piste_settle, Dev.dets_delayDone, List.length_append]; rfl
  case delayReq =>
    intro t r hup h hk ht hs hb hr
    refine answers_inBlock rfl hup ?_
    obtain ⟨dest, m, hm⟩ := Dev.delayReqRx_of_master h hk ht hs hb
    rw [hm, Dev.settle_net]
    refine ⟨?_, (s.dev.setInbox r).nextId_sendPtp _ _ _ _ _ _ fun _ => rfl⟩
    rw [Dev.inbox_sendPtp (g := id) _ _ _ _ _ _ _ fun _ => rfl]
    exact hr
  case sendSync =>
    intro n k hup hs hp
    refine answers_inBlock rfl hup ?_
    obtain ⟨m, hm⟩ := Dev.syncTx_of_master hs hp
    obtain ⟨hport, hnext⟩ := Dev.sent_of_setCport s.dev hm fun _ => rfl
    rw [hport]
    exact ⟨rfl, hnext⟩
  case sendAnnounce =>
    intro n k hup hs hp hh
    refine answers_inBlock rfl hup ?_
    obtain ⟨m, hm⟩ := Dev.announceTx_of_master hs hp hh
    obtain ⟨hport, hnext⟩ := Dev.sent_of_setCport s.dev hm fun _ => rfl
    rw [hport]
    exact ⟨rfl, hnext⟩
  case sendDelayReq =>
    intro n k hup hs hp h4
    refine answers_inBlock rfl hup ?_
    obtain ⟨m, hm⟩ := Dev.delayReqTx_of_slave hs hp h4
    obtain ⟨hport, hnext⟩ := Dev.sent_of_setCport s.dev hm fun _ => rfl
    rw [hport]
    exact ⟨rfl, rfl, hnext⟩

end Sys2Proof.Machine
end

section
/-! Proofs about the time-protocol chapter: the message stream of a trunk (R554 to R556), and what the fabric leaves to the engine. -/

namespace Sys2Proof.Machine

/-! ### The stream of a trunk -/

@[simp] theorem Dev.trk_setTrk_same (d : Dev) (t : Nat) (x : TrkSt) : (d.setTrk t x).trk t = x := by
  by_cases h : t = 0 <;> simp [Dev.setTrk, Dev.trk, h]

/-- Two modules that differ in the streams of their trunks alone. -/
def Dev.Streamed (d e : Dev) : Prop := ∃ o x y, e = { d with out := o, trk0 := x, trk1 := y }

theorem Dev.Streamed.refl (d : Dev) : d.Streamed d := ⟨_, _, _, rfl⟩

theorem Dev.Streamed.trans {d e f : Dev} : d.Streamed e → e.Streamed f → d.Streamed f := by
  rintro ⟨_, _, _, rfl⟩ ⟨o, x, y, rfl⟩
  exact ⟨o, x, y, rfl⟩

theorem Dev.Streamed.linkServes {d e : Dev} (h : d.Streamed e) (i : Nat) : e.linkServes i = d.linkServes i := by
  obtain ⟨o, x, y, rfl⟩ := h
  rfl

theorem Dev.Streamed.changes {d e : Dev} (h : d.Streamed e) : Changes [.out, .trk0, .trk1] [] d e := by
  obtain ⟨o, x, y, rfl⟩ := h
  refine ⟨fun p hp => ?_, fun _ _ _ => rfl⟩
  cases p with
  | out | trk0 | trk1 => simp at hp
  | msix => exact ⟨rfl, rfl⟩
  | _ => rfl

theorem Dev.Streamed.setTrk (d : Dev) (t : Nat) (x : TrkSt) : d.Streamed (d.setTrk t x) := by
  unfold Dev.setTrk
  split <;> exact ⟨_, _, _, rfl⟩

/-- What has left a trunk and what waits to. -/
def Dev.streamed (d : Dev) (t : Nat) : Nat := d.out.length + (d.trk t).msgs.length

/-- The frame that goes next is one that waits. -/
theorem TrkSt.mem_of_next {x : TrkSt} {m : Nat × List Byte} (h : x.next = some m) : m ∈ x.msgs := by
  unfold TrkSt.next at h
  split at h
  case h_1 h1 => exact Option.some.inj h ▸ List.mem_of_find?_eq_some h1
  case h_2 h2 => exact Option.some.inj h ▸ List.mem_of_find?_eq_some h2
  case h_3 => exact List.mem_of_mem_head? h

theorem Dev.out_setTrk (d : Dev) (t : Nat) (x : TrkSt) : (d.setTrk t x).out = d.out := by
  unfold Dev.setTrk
  split <;> rfl

/-- The slot in which a frame of a trunk starts, and the module once it has left. -/
def Dev.slotOf (d : Dev) (t : Nat) (m : Nat × List Byte) : Nat := msgStart (d.tk.time + (d.trk t).free - d.tk.osc) (msgTime m.2)
def Dev.frameLeaves (d : Dev) (t : Nat) (m : Nat × List Byte) : Dev :=
  let d1 := d.setTrk t { d.trk t with msgs := (d.trk t).msgs.erase m, free := d.tk.osc + d.slotOf t m + msgTime m.2 - d.tk.time }
  { d1 with out := .message t (d.slotOf t m) m.2 :: d1.out }

theorem Dev.msgPump_of_none {d : Dev} {t : Nat} (n : Nat) (h : (d.trk t).next = none) : d.msgPump t (n + 1) = d := by
  simp only [Dev.msgPump, h]

theorem Dev.msgPump_of_next {d : Dev} {t : Nat} {m : Nat × List Byte} (n : Nat) (h : (d.trk t).next = some m) :
    d.msgPump t (n + 1) = if d.tk.time < d.slotOf t m then d else (d.frameLeaves t m).msgPump t n := by
  simp only [Dev.msgPump, h]
  rfl

theorem Dev.Streamed.frameLeaves (d : Dev) (t : Nat) (m : Nat × List Byte) : d.Streamed (d.frameLeaves t m) :=
  (Dev.Streamed.setTrk d t _).trans ⟨_, _, _, rfl⟩

theorem Dev.trk_frameLeaves (d : Dev) (t : Nat) (m : Nat × List Byte) : ((d.frameLeaves t m).trk t).msgs = (d.trk t).msgs.erase m :=
  congrArg TrkSt.msgs (d.trk_setTrk_same t _)

theorem Dev.out_frameLeaves (d : Dev) (t : Nat) (m : Nat × List Byte) :
    (d.frameLeaves t m).out = .message t (d.slotOf t m) m.2 :: d.out :=
  congrArg _ (d.out_setTrk t _)

/-- Frames leave a trunk one by one: nothing else moves, and none is lost. -/
theorem Dev.streamed_msgPump (t n : Nat) (d : Dev) : d.Streamed (d.msgPump t n) ∧ (d.msgPump t n).streamed t = d.streamed t := by
  induction n generalizing d with
  | zero => exact ⟨.refl d, rfl⟩
  | succ n ih =>
    cases hm : (d.trk t).next with
    | none => rw [Dev.msgPump_of_none n hm]; exact ⟨.refl d, rfl⟩
    | some m =>
      rw [Dev.msgPump_of_next n hm]
      split
      · exact ⟨.refl d, rfl⟩
      · obtain ⟨h1, h2⟩ := ih (d.frameLeaves t m)
        refine ⟨(Dev.Streamed.frameLeaves d t m).trans h1, h2.trans ?_⟩
        have hmem := TrkSt.mem_of_next hm
        have hpos := List.length_pos_of_mem hmem
        rw [Dev.streamed, Dev.streamed, Dev.trk_frameLeaves, Dev.out_frameLeaves, List.length_erase_of_mem hmem, List.length_cons]
        omega

theorem Dev.streamed_trkSend (d : Dev) (t typ : Nat) (pay : List Byte) : d.Streamed (d.trkSend t typ pay) := by
  unfold Dev.trkSend
  split
  · exact .refl d
  · exact ((Dev.streamed_msgPump t _ d).1.trans (Dev.Streamed.setTrk _ t _)).trans (Dev.streamed_msgPump t _ _).1

/-- A message handed to a trunk that serves waits there or has left. -/
theorem Dev.length_trkSend {d : Dev} {t : Nat} (typ : Nat) (pay : List Byte) (h : d.linkServes (0x300 + t) = true) :
    (d.trkSend t typ pay).streamed t = d.streamed t + 1 := by
  rw [Dev.trkSend, if_neg (by simp [h])]
  extract_lets d1 x
  rw [Dev.trkStream, (Dev.streamed_msgPump t _ _).2, ← (Dev.streamed_msgPump t (d.trk t).msgs.length d).2]
  simp only [Dev.streamed, Dev.trk_setTrk_same, Dev.out_setTrk, List.length_append, List.length_singleton]
  rfl

/-- The same of a message for each of a list. -/
theorem Dev.streamed_foldl_trkSend {t : Nat} (typ : Nat) (pay : Nat → List Byte) (l : List Nat) (d : Dev)
    (h : d.linkServes (0x300 + t) = true) :
    d.Streamed (l.foldl (fun e k => e.trkSend t typ (pay k)) d) ∧
      (l.foldl (fun e k => e.trkSend t typ (pay k)) d).streamed t = d.streamed t + l.length := by
  induction l generalizing d with
  | nil => exact ⟨.refl d, rfl⟩
  | cons k r ih =>
    have h1 := d.streamed_trkSend t typ (pay k)
    obtain ⟨h2, h3⟩ := ih (d.trkSend t typ (pay k)) ((h1.linkServes _).trans h)
    refine ⟨h1.trans h2, ?_⟩
    rw [List.foldl_cons, h3, Dev.length_trkSend typ _ h, List.length_cons]
    omega

/-- A trunk in UP serves. -/
theorem Dev.linkServes_of_up {d : Dev} {t : Nat} (h : d.trkState t = tsUP) : d.linkServes (0x300 + t) = true := by
  have : d.fld (TRK_STATUS t) TRK_STATUS_STATE = 3 := h
  simp [Dev.linkServes, isTrunk, this]

/-! ### What the fabric leaves to the engine (R663 to R666) -/

variable (d : Dev)

theorem Dev.timeView_of_rinkView {d e : Dev} (h : e.rinkView = d.rinkView) : e.timeView = d.timeView := congrArg RinkView.time h

section Items

variable {p : Nat} (h : timeItem p = false)
include h

@[simp] theorem Dev.timeView_putNum (n : Nat) : (d.putNum p n).timeView = d.timeView := Dev.timeView_of_rinkView (d.rinkView_putNum h n)
@[simp] theorem Dev.timeView_bump (n : Nat) : (d.bump p n).timeView = d.timeView := Dev.timeView_of_rinkView (d.rinkView_bump h n)
@[simp] theorem Dev.timeView_liveEdge (b : Nat) (v : Bool) : (d.liveEdge p b v).timeView = d.timeView :=
  Dev.timeView_of_rinkView (d.rinkView_liveEdge h b v)

end Items

/-- No timer past those of the announce receipts matters. -/
theorem Dev.timeView_stopT {k : Nat} (h : tmr 9 0 ≤ k) : (d.stopT k).timeView = d.timeView := by
  ext1
  · rfl
  · rfl
  · funext j
    by_cases hj : j < tmr 9 0
    · simp only [Dev.timeView, d.runsT_stopT_ne (show j ≠ k by omega)]
    · simp [Dev.timeView, show ¬ j < tmr 9 0 from hj]
  · rfl

theorem Dev.timeView_startT {k : Nat} (n : Nat) (h : tmr 9 0 ≤ k) : (d.startT k n).timeView = d.timeView := by
  ext1
  · rfl
  · rfl
  · funext j
    by_cases hj : j < tmr 9 0
    · simp only [Dev.timeView, d.runsT_startT_ne n (show j ≠ k by omega)]
    · simp [Dev.timeView, show ¬ j < tmr 9 0 from hj]
  · rfl

@[simp] theorem Dev.timeView_trkSend (t typ : Nat) (pay : List Byte) : (d.trkSend t typ pay).timeView = d.timeView := by
  obtain ⟨o, x, y, h⟩ := d.streamed_trkSend t typ pay
  rw [h]
  rfl

@[simp] theorem Dev.timeView_crsDeep : d.crsDeep.timeView = d.timeView := d.timeView_liveEdge (by simp) _ _
@[simp] theorem Dev.timeView_setAdj (i st : Nat) (multi : Bool) (node : Nat) : (d.setAdj i st multi node).timeView = d.timeView :=
  d.timeView_putNum (by simp) _

@[simp] theorem Dev.timeView_crsMake (typ flags dst corr frag frags : Nat) (pay : List Byte) :
    (d.crsMake typ flags dst corr frag frags pay).1.timeView = d.timeView := by
  unfold Dev.crsMake
  split <;> rfl

@[simp] theorem Dev.timeView_crsPut (i : Nat) (m : List Byte) : (d.crsPut i m).timeView = d.timeView := by
  unfold Dev.crsPut
  extract_lets d1 b
  have h1 : d1.timeView = d.timeView := by simp [d1]
  split
  · exact (d1.view_originate _ _ (g := id) fun _ => rfl).1.trans h1
  · rw [Dev.timeView_trkSend, h1]

@[simp] theorem Dev.timeView_crsFlood (but : Option Nat) (m : List Byte) : (d.crsFlood but m).timeView = d.timeView :=
  foldl_view (fun e i => e.timeView_crsPut i m) _ _

@[simp] theorem Dev.timeView_crsSend (typ dst corr frag frags : Nat) (pay : List Byte) :
    (d.crsSend typ dst corr frag frags pay).timeView = d.timeView := by
  have h := d.timeView_crsMake typ (if dst = 0xFFFF then 1 else 0) dst corr frag frags pay
  unfold Dev.crsSend
  split
  · next e m he =>
    rw [he] at h
    split
    · exact (e.timeView_crsFlood _ _).trans h
    · split
      · exact (e.timeView_crsPut _ _).trans h
      · exact (e.timeView_bump (by simp) _).trans h
  · next e he =>
    rw [he] at h
    exact h

@[simp] theorem Dev.timeView_lsrFlood (es : List CrsAdj) : (d.lsrFlood es).timeView = d.timeView := by
  unfold Dev.lsrFlood
  split
  · rfl
  · extract_lets seq src d1 head body d2
    have h1 : d1.timeView = d.timeView := (Dev.timeView_crsDeep _).trans rfl
    have h2 : d2.timeView = d.timeView := by unfold d2; split <;> simp [h1]
    rw [Dev.timeView_startT _ _ (by decide), Dev.timeView_stopT _ (by decide), h2]

/-- Links given up, and the flood that follows, leave the engine's view alone. -/
theorem Dev.timeView_crsCheck : d.crsCheck.timeView = d.timeView := by
  unfold Dev.crsCheck
  split
  · rfl
  · extract_lets d0 d1
    have h0 : d0.timeView = d.timeView := by unfold d0; split <;> simp
    have h1 : d1.timeView = d.timeView := by
      refine (foldl_view (fun e l => ?_) _ _).trans h0
      split
      · rfl
      · rw [Dev.timeView_stopT _ (by simp only [tDead, tmr]; omega)]
        exact e.timeView_setAdj l.1 adDOWN false 0
    split
    · exact h1
    · rw [Dev.timeView_lsrFlood, h1]

end Sys2Proof.Machine
end

section
/-! Proofs about the time-protocol chapter: what the selection of a Piste leaves alone (R149, R161 to R163). -/

namespace Sys2Proof.Machine

variable (d : Dev)

/-! ### The items that selection writes -/

@[simp] theorem idInst_pid (c i n : Nat) : idInst (pid c i n) = i % 0x1000 := by
  unfold idInst pid; omega
@[simp] theorem idItem_pid (c i n : Nat) : idItem (pid c i n) = n % 0x1000 := by
  unfold idItem pid; omega

/-- The states of clock ports. -/
def portItem (q : Nat) : Bool := idClass q == 0x05 && idItem q == 1 && decide (0x100 ≤ idInst q)

/-- The states of Pistes, their grandmasters, and what of them shows at the outputs. -/
def pisteItem (q : Nat) : Bool := idClass q == 0x05 && (idItem q == 1 && decide (idInst q < 0x100) || decide (4 ≤ idItem q ∧ idItem q ≤ 6))

theorem portItem_portState {i : Nat} (h : 0x100 ≤ i) (h' : i < 0x1000) : portItem (PTE_PORT_STATE i) = true := by
  simp [portItem, Nat.mod_eq_of_lt h', h]

theorem pisteItem_portState {i : Nat} (h : 0x100 ≤ i) (h' : i < 0x1000) : pisteItem (PTE_PORT_STATE i) = false := by
  simp [pisteItem, Nat.mod_eq_of_lt h', h]

theorem portState_inj {i j : Nat} (hi : i < 0x1000) (hj : j < 0x1000) (h : PTE_PORT_STATE i = PTE_PORT_STATE j) : i = j := by
  have := congrArg idInst h
  rwa [idInst_pid, idInst_pid, Nat.mod_eq_of_lt hi, Nat.mod_eq_of_lt hj] at this

/-! ### States of clock ports -/

/-- A clock port's states are read from its one item. -/
theorem Dev.portState_congr {d e : Dev} {i : Nat} (h : e.get (PTE_PORT_STATE i) = d.get (PTE_PORT_STATE i)) (k : Nat) :
    e.portState i k = d.portState i k := Dev.fld_congr h _

theorem Dev.portState_setPortState_same (i k s : Nat) (h : s < 16) : (d.setPortState i k s).portState i k = s := by
  have hw : (if k = 1 then PTE_PORT_STATE_STATE_A else PTE_PORT_STATE_STATE_B).w = 4 := by split <;> rfl
  have hlo : (if k = 1 then PTE_PORT_STATE_STATE_A else PTE_PORT_STATE_STATE_B).lo ≤ 4 := by split <;> decide
  rw [Dev.setPortState, Dev.portState, Dev.fld_setFld_same _ _ _ _ (by omega), hw, Nat.mod_eq_of_lt (show s < 2 ^ 4 from h)]

/-- The other Piste's state is in another field. -/
theorem Dev.portState_setPortState_other (i s : Nat) {k j : Nat} (h : k = 1 ↔ j ≠ 1) :
    (d.setPortState i j s).portState i k = d.portState i k := by
  by_cases hj : j = 1
  · have hk : k ≠ 1 := fun hk => h.1 hk hj
    simp only [Dev.setPortState, Dev.portState, if_pos hj, if_neg hk]
    exact d.fld_setFld_other _ _ _ _
  · have hk : k = 1 := h.2 hj
    simp only [Dev.setPortState, Dev.portState, if_neg hj, if_pos hk]
    exact d.fld_setFld_other _ _ _ _

theorem Dev.portState_setPortState_ne {i j : Nat} (k l s : Nat) (h : PTE_PORT_STATE i ≠ PTE_PORT_STATE j) :
    (d.setPortState j l s).portState i k = d.portState i k := d.fld_setFld_ne _ _ _ h

/-- A clock port that has no clock role in force, or is FAULTY: selection passes it over. -/
def Dev.barred (d : Dev) (i k : Nat) : Prop := d.portState i k = 0 ∨ d.portState i k = psFAULTY

/-- What selection leaves alone: messages and timers, clock ports and trunks, items but those of states and grandmasters, and the clock ports that it
passes over, as it gives none of their states. -/
structure Dev.Reselected (d e : Dev) : Prop where
  net : e.net = d.net
  ports : e.pte.ports = d.pte.ports
  trk0 : e.pte.trk0 = d.pte.trk0
  trk1 : e.pte.trk1 = d.pte.trk1
  items : ∀ q, portItem q = false → pisteItem q = false → e.get q = d.get q
  states : ∀ i k, 0x100 ≤ i → i < 0x1000 → e.portState i k = d.portState i k ∨ (¬ d.barred i k ∧ ¬ e.barred i k)

namespace Dev.Reselected

theorem refl : d.Reselected d := ⟨rfl, rfl, rfl, rfl, fun _ _ _ => rfl, fun _ _ _ _ => .inl rfl⟩

variable {d} {e f : Dev}

theorem trans (h : d.Reselected e) (k : e.Reselected f) : d.Reselected f where
  net := k.net.trans h.net
  ports := k.ports.trans h.ports
  trk0 := k.trk0.trans h.trk0
  trk1 := k.trk1.trans h.trk1
  items q hq hp := (k.items q hq hp).trans (h.items q hq hp)
  states i l hi hl := by
    have h1 := h.states i l hi hl
    have h2 := k.states i l hi hl
    unfold Dev.barred at *
    omega

theorem cport (h : d.Reselected e) (i k : Nat) : e.cport i k = d.cport i k := by rw [Dev.cport, Dev.cport, h.ports]
theorem runsT (h : d.Reselected e) (k : Nat) : e.runsT k = d.runsT k := by rw [Dev.runsT, Dev.runsT, h.net]
theorem trkTime (h : d.Reselected e) (t : Nat) : e.trkTime t = d.trkTime t := by rw [Dev.trkTime, Dev.trkTime, h.trk0, h.trk1]

/-- A clock port that selection passes over stays as it is. -/
theorem portState_of_barred (h : d.Reselected e) {i k : Nat} (hi : 0x100 ≤ i) (hi' : i < 0x1000) (hb : d.barred i k) :
    e.portState i k = d.portState i k :=
  (h.states i k hi hi').resolve_right fun hn => hn.1 hb

theorem not_barred (h : d.Reselected e) {i k : Nat} (hi : 0x100 ≤ i) (hi' : i < 0x1000) (hb : ¬ d.barred i k) : ¬ e.barred i k := by
  have h1 := h.states i k hi hi'
  unfold Dev.barred at *
  omega

/-- Writes of a Piste's items. -/
theorem of_items (hnet : e.net = d.net) (hpte : e.pte = d.pte) (h : ∀ q, pisteItem q = false → e.get q = d.get q) : d.Reselected e where
  net := hnet
  ports := by rw [hpte]
  trk0 := by rw [hpte]
  trk1 := by rw [hpte]
  items q _ hq := h q hq
  states _ k hi hi' := .inl (Dev.portState_congr (h _ (pisteItem_portState hi hi')) k)

section Items

variable {p : Nat} (hp : pisteItem p = true)
include hp

theorem ne_item {q : Nat} (hq : pisteItem q = false) : q ≠ p := by
  rintro rfl
  exact Bool.false_ne_true (hq.symm.trans hp)

theorem put (v : Wide) : d.Reselected (d.put p v) := of_items rfl rfl fun _ hq => d.get_put_ne v (ne_item hp hq)
theorem liveEdge (b : Nat) (v : Bool) : d.Reselected (d.liveEdge p b v) :=
  of_items (by simp) (by simp) fun _ hq => d.get_liveEdge_ne b v (ne_item hp hq)

end Items

theorem setPiste (k : Nat) (x : PisteSt) : d.Reselected (d.setPiste k x) := by
  unfold Dev.setPiste
  split <;> exact ⟨rfl, rfl, rfl, rfl, fun _ _ _ => rfl, fun _ _ _ _ => .inl rfl⟩

/-- A clock port that is not passed over, given a state that selection gives. -/
theorem setPortState {j l s : Nat} (hj : 0x100 ≤ j) (hj' : j < 0x1000) (hd : ¬ d.barred j l) (hs : s < 16) (h0 : s ≠ 0) (hF : s ≠ psFAULTY) :
    d.Reselected (d.setPortState j l s) where
  net := rfl
  ports := rfl
  trk0 := rfl
  trk1 := rfl
  items q hq _ := d.get_setFld_ne _ _ fun h => by rw [h, portItem_portState hj hj'] at hq; exact Bool.false_ne_true hq.symm
  states i k hi hi' := by
    by_cases hij : i = j
    · subst hij
      by_cases hkl : k = 1 ↔ l = 1
      · have hsame (e : Dev) : e.portState i k = e.portState i l := by simp only [Dev.portState, hkl]
        right
        unfold Dev.barred at *
        rw [hsame, hsame, d.portState_setPortState_same i l s hs]
        exact ⟨hd, by simp [h0, hF]⟩
      · exact .inl (d.portState_setPortState_other i s (by omega))
    · exact .inl (d.portState_setPortState_ne k l s fun h => hij (portState_inj hi' hj' h))

/-- A walk each of whose steps selects. -/
theorem foldl {α : Type} {g : Dev → α → Dev} (l : List α) (h : ∀ x ∈ l, ∀ e : Dev, e.Reselected (g e x)) :
    d.Reselected (l.foldl g d) := by
  induction l generalizing d with
  | nil => exact refl d
  | cons x r ih => exact (h x List.mem_cons_self d).trans (ih fun y hy => h y (List.mem_cons_of_mem x hy))

end Dev.Reselected

/-! ### Selection and what follows it -/

theorem Dev.reselected_setPzState {k : Nat} (s : Nat) (hk : k < 0x100) : d.Reselected (d.setPzState k s) := by
  have hp : pisteItem (PTE_PISTE_STATUS k) = true := by
    simp [pisteItem, Nat.mod_eq_of_lt (show k < 0x1000 by omega), hk]
  exact (((Reselected.put hp _).trans (.liveEdge hp _ _)).trans (.liveEdge hp _ _)).trans (.setPiste _ _)

theorem Dev.reselected_checkLost {k : Nat} (hk : k < 0x100) : d.Reselected (d.checkLost k) := by
  unfold Dev.checkLost
  extract_lets s
  split
  · exact d.reselected_setPzState _ hk
  · exact .refl d

theorem Dev.reselected_steerLive : d.Reselected d.steerLive := by
  refine (Reselected.liveEdge (by decide) _ _).trans (.foldl _ fun o ho e => .liveEdge ?_ _ _)
  have : o = 0 ∨ o = 1 := by simpa using ho
  rcases this with rfl | rfl <;> decide

theorem Dev.reselected_showParent (k : Nat) (a : Option Ann) : d.Reselected (d.showParent k a) := by
  have h0 : pisteItem (PTE_GM_IDENTITY k 0) = true := by simp [pisteItem]
  have h1 : pisteItem (PTE_GM_IDENTITY k 1) = true := by simp [pisteItem]
  have hq : pisteItem (PTE_GM_QUALITY k) = true := by simp [pisteItem]
  cases a with
  | some a => exact (((Reselected.put h0 _).trans (.put h1 _)).trans (.put hq _)).trans (.setPiste _ _)
  | none => exact (((Reselected.put h0 _).trans (.put h1 _)).trans (.put hq _)).trans (.setPiste _ _)

/-- The states that selection gives. -/
theorem Dev.selected_mem (k i : Nat) (best : Option (Nat × Nat)) (keep : Bool) :
    d.selected k i best keep ∈ [psLISTENING, psMASTER, psPASSIVE, psUNCALIBRATED, psSLAVE] := by
  unfold Dev.selected
  extract_lets s r
  split
  · next h =>
    have hs : s = psLISTENING := by simp at h; exact h.1.2
    simp [hs]
  · split
    · split
      · split <;> simp
      · split
        · simp
        · split
          · simp
          · split
            · split <;> simp
            · simp
    · split <;> simp

theorem Dev.selected_state (k i : Nat) (best : Option (Nat × Nat)) (keep : Bool) :
    d.selected k i best keep < 16 ∧ d.selected k i best keep ≠ 0 ∧ d.selected k i best keep ≠ psFAULTY := by
  have h : ∀ s ∈ [psLISTENING, psMASTER, psPASSIVE, psUNCALIBRATED, psSLAVE], s < 16 ∧ s ≠ 0 ∧ s ≠ psFAULTY := by decide
  exact h _ (d.selected_mem k i best keep)

theorem mem_cpInsts {i : Nat} (h : i ∈ cpInsts) : 0x100 ≤ i ∧ i < 0x1000 := by
  simp only [cpInsts, List.mem_append, List.mem_map, List.mem_range, List.mem_cons, List.not_mem_nil, or_false] at h
  rcases h with ⟨n, hn, rfl⟩ | rfl | rfl <;> omega

theorem Dev.reselected_selectKeep {k : Nat} (keep : Bool) (hk : k < 0x100) : d.Reselected (d.selectKeep k keep) := by
  unfold Dev.selectKeep
  split
  · exact .refl d
  · extract_lets own ranked best chosen d1 d2
    have h1 : d.Reselected d1 := by
      refine .foldl _ fun i hi e => ?_
      extract_lets s
      split
      · exact .refl e
      · next hs =>
        obtain ⟨hi1, hi2⟩ := mem_cpInsts hi
        obtain ⟨hlt, h0, hF⟩ := d.selected_state k i (chosen.map (fun x => (x.1, x.2.2))) keep
        exact .setPortState hi1 hi2 hs hlt h0 hF
    have h2 : d1.Reselected d2 := by
      unfold d2
      split
      · exact .refl d1
      · exact d1.reselected_showParent k _
    exact ((h1.trans h2).trans (d2.reselected_checkLost hk)).trans (Dev.reselected_steerLive _)

theorem Dev.reselected_reselect (was : Dev) {k : Nat} (hk : k < 0x100) : d.Reselected (d.reselect was k) := by
  unfold Dev.reselect
  split
  · exact d.reselected_selectKeep true hk
  · exact .refl d

theorem Dev.reselected_portsMoved (was : Dev) : d.Reselected (d.portsMoved was) := by
  refine (Reselected.foldl _ fun k hk e => ?_).trans (Dev.reselected_steerLive _)
  have hk : k < 0x100 := by
    simp only [List.mem_cons, List.not_mem_nil, or_false] at hk
    omega
  exact (e.reselected_checkLost hk).trans (Dev.reselected_reselect _ was hk)

end Sys2Proof.Machine
end

section
/-! Proofs about the time-protocol chapter: what the stamp of a marker and the candidate of a trunk leave alone (R182, R249, R255, R258). -/

namespace Sys2Proof.Machine

variable (d : Dev)

/-! ### A trunk's time and items -/

/-- The time exchanges of both trunks, and the items of the trunks' class. -/
@[ext] structure TrunkView where
  trk0 : TrkTime
  trk1 : TrkTime
  items : Nat → Wide

def Dev.trunkView (d : Dev) : TrunkView where
  trk0 := d.pte.trk0
  trk1 := d.pte.trk1
  items q := if idClass q = 0x14 then d.get q else 0

theorem Dev.trunkView_congr {d e : Dev} (h0 : e.pte.trk0 = d.pte.trk0) (h1 : e.pte.trk1 = d.pte.trk1)
    (hitems : ∀ q, idClass q = 0x14 → e.get q = d.get q) : e.trunkView = d.trunkView := by
  ext1
  · exact h0
  · exact h1
  · funext q
    by_cases hq : idClass q = 0x14 <;> simp [Dev.trunkView, hq, hitems]

theorem Dev.trkTime_of_view {d e : Dev} (h : e.trunkView = d.trunkView) (t : Nat) : e.trkTime t = d.trkTime t := by
  rw [Dev.trkTime, Dev.trkTime, show e.pte.trk0 = d.pte.trk0 from congrArg TrunkView.trk0 h,
    show e.pte.trk1 = d.pte.trk1 from congrArg TrunkView.trk1 h]

theorem Dev.get_of_trunkView {d e : Dev} (h : e.trunkView = d.trunkView) {q : Nat} (hq : idClass q = 0x14) : e.get q = d.get q := by
  have := congrFun (congrArg TrunkView.items h) q
  simpa [Dev.trunkView, hq] using this

/-- A trunk serves by its own state. -/
theorem Dev.linkServes_of_view {d e : Dev} (h : e.trunkView = d.trunkView) (t : Nat) : e.linkServes (0x300 + t) = d.linkServes (0x300 + t) := by
  simp only [Dev.linkServes, isTrunk, Nat.le_add_right, decide_true, if_true, Nat.add_sub_cancel_left,
    Dev.fld_congr (Dev.get_of_trunkView h (idClass_pid 0x14 t 1))]

theorem Dev.trunkView_of_timeView {d e : Dev} (h : e.timeView = d.timeView) : e.trunkView = d.trunkView := by
  have hpte : e.pte = d.pte := congrArg TimeView.pte h
  refine Dev.trunkView_congr (by rw [hpte]) (by rw [hpte]) fun q hq => ?_
  have := congrFun (congrArg TimeView.items h) q
  simpa [Dev.timeView, timeItem, hq] using this

theorem Dev.Reselected.trunkView {d e : Dev} (h : d.Reselected e) : e.trunkView = d.trunkView :=
  Dev.trunkView_congr h.trk0 h.trk1 fun q hq => h.items q (by simp [portItem, hq]) (by simp [pisteItem, hq])

section Items

variable {p : Nat} (h : idClass p ≠ 0x14)
include h

theorem ne_of_trunkItem {q : Nat} (hq : idClass q = 0x14) : q ≠ p := by
  rintro rfl
  exact h hq

@[simp] theorem Dev.trunkView_put (v : Wide) : (d.put p v).trunkView = d.trunkView :=
  Dev.trunkView_congr rfl rfl fun _ hq => d.get_put_ne v (ne_of_trunkItem h hq)
@[simp] theorem Dev.trunkView_setFld (f : Fld) (n : Nat) : (d.setFld p f n).trunkView = d.trunkView := d.trunkView_put h _
@[simp] theorem Dev.trunkView_putNum (n : Nat) : (d.putNum p n).trunkView = d.trunkView := d.trunkView_put h _
@[simp] theorem Dev.trunkView_bump (n : Nat) : (d.bump p n).trunkView = d.trunkView := d.trunkView_put h _
@[simp] theorem Dev.trunkView_live (b : Nat) (v : Bool) : (d.live p b v).trunkView = d.trunkView := d.trunkView_put h _
@[simp] theorem Dev.trunkView_stick (b : Nat) : (d.stick p b).trunkView = d.trunkView :=
  Dev.trunkView_congr (by simp) (by simp) fun _ hq => d.get_stick_ne b (ne_of_trunkItem h hq)
@[simp] theorem Dev.trunkView_liveEdge (b : Nat) (v : Bool) : (d.liveEdge p b v).trunkView = d.trunkView :=
  Dev.trunkView_congr (by simp) (by simp) fun _ hq => d.get_liveEdge_ne b v (ne_of_trunkItem h hq)
@[simp] theorem Dev.trunkView_pulse (b : Nat) : (d.pulse p b).trunkView = d.trunkView :=
  Dev.trunkView_congr (by simp) (by simp) fun _ hq => d.get_pulse_ne b (ne_of_trunkItem h hq)

end Items

@[simp] theorem Dev.trunkView_startT (k n : Nat) : (d.startT k n).trunkView = d.trunkView := rfl
@[simp] theorem Dev.trunkView_stopT (k : Nat) : (d.stopT k).trunkView = d.trunkView := rfl
@[simp] theorem Dev.trunkView_setEmuCh (c : Nat) (x : EmuCh) : (d.setEmuCh c x).trunkView = d.trunkView := rfl
@[simp] theorem Dev.trunkView_setCand (i : Nat) (x : CandSt) : (d.setCand i x).trunkView = d.trunkView := rfl
@[simp] theorem Dev.trunkView_setPiste (k : Nat) (x : PisteSt) : (d.setPiste k x).trunkView = d.trunkView := by
  unfold Dev.setPiste
  split <;> rfl

/-! ### The stamp of a marker (R182, R213 to R236) -/

@[simp] theorem Dev.trunkView_emuEntry (c typ edge flags : Nat) (step : Bool) (body : List Byte) :
    (d.emuEntry c typ edge flags step body).trunkView = d.trunkView := by
  unfold Dev.emuEntry
  extract_lets x st y
  split <;> simp

@[simp] theorem Dev.trunkView_intervalEntry (c : Nat) (a b : EdgeAt) : (d.intervalEntry c a b).trunkView = d.trunkView := by
  simp [Dev.intervalEntry]

@[simp] theorem Dev.trunkView_modeEdge (c : Nat) (rise : Bool) (e : Option (EdgeAt × Int)) (waiting : Bool) :
    (d.modeEdge c rise e waiting).trunkView = d.trunkView := by
  unfold Dev.modeEdge
  extract_lets ctl m x n k d1
  have h1 : d1.trunkView = d.trunkView := rfl
  split
  · rfl
  · split
    · split <;> rfl
    · split
      · exact h1
      · split
        · split <;> simp [h1]
        · split
          · exact h1
          · split <;> simp [h1]

@[simp] theorem Dev.trunkView_extEdge (k s : Nat) : (d.extEdge k s).trunkView = d.trunkView := by
  unfold Dev.extEdge
  extract_lets x d1
  split <;> simp [d1, Dev.detector]

@[simp] theorem Dev.trunkView_calStamp (c : Nat) (rise : Bool) (s : EdgeAt) (stamp : Int) :
    (d.calStamp c rise s stamp).trunkView = d.trunkView := by
  unfold Dev.calStamp
  split
  · rfl
  · extract_lets bad set
    split
    · rfl
    · split
      · rfl
      · split <;> rfl

@[simp] theorem Dev.trunkView_consume (c : Nat) (rise : Bool) (s : EdgeAt × Int) : (d.consume c rise s).trunkView = d.trunkView := by
  unfold Dev.consume
  extract_lets d0 d1 i r m
  have h1 : d1.trunkView = d.trunkView := by
    refine (foldl_view (fun e k => ?_) _ _).trans (d.trunkView_calStamp c rise s.1 s.2)
    split <;> simp
  split
  · exact h1
  · exact h1

/-- An edge of an EMU channel touches no trunk. -/
@[simp] theorem Dev.trunkView_emuEdge (c b : Nat) (rise : Bool) : (d.emuEdge c b rise).trunkView = d.trunkView := by
  unfold Dev.emuEdge
  extract_lets sel x now d1 stamped waiting src d2 s d3 d4
  have h1 : d1.trunkView = d.trunkView := by simp [d1]
  have h4 : d4.trunkView = d.trunkView := by
    refine (foldl_view (fun e k => ?_) _ _).trans (?_ : d3.trunkView = d.trunkView)
    · split <;> simp
    · simp [d3, d2, h1]
  split
  · rfl
  · split
    · simp [h4]
    · simp [h1]

/-! ### The candidate of a trunk (R258) -/

@[simp] theorem Dev.trunkView_showLevel (i : Nat) : (d.showLevel i).trunkView = d.trunkView := by
  unfold Dev.showLevel
  extract_lets l ql r old d1
  have h1 : d1.trunkView = d.trunkView := by simp [d1]
  split <;> simp [h1]

@[simp] theorem Dev.trunkView_setCandState (i s : Nat) : (d.setCandState i s).trunkView = d.trunkView := by
  unfold Dev.setCandState
  extract_lets p d1
  have h1 : d1.trunkView = d.trunkView := by simp [d1, p]
  split
  · exact h1
  · simp [p, h1]

@[simp] theorem Dev.trunkView_skipSample (i : Nat) : (d.skipSample i).trunkView = d.trunkView := by
  unfold Dev.skipSample
  extract_lets src d1
  split <;> simp [d1]

@[simp] theorem Dev.trunkView_emptyWindows (i : Nat) : (d.emptyWindows i).trunkView = d.trunkView := by
  simp [Dev.emptyWindows]

/-- A candidate that follows its conditions touches no trunk. -/
@[simp] theorem Dev.trunkView_refreshCand (i : Nat) : (d.refreshCand i).trunkView = d.trunkView := by
  unfold Dev.refreshCand
  extract_lets d1 s c
  have h1 : d1.trunkView = d.trunkView := by simp [d1]
  split
  · exact h1
  · split
    · split <;> simp [h1]
    · split
      · simp [Dev.qualify, h1]
      · exact h1

end Sys2Proof.Machine
end

section
/-! Proofs about the time-protocol chapter: records and markers of a trunk (R181 to R184, R255). -/

namespace Sys2Proof.Machine

variable (d : Dev)

/-! ### QL records (R255) -/

/-- The messages that wait, whether the limits of QL records run, and which candidates have had a valid record. -/
@[ext] structure QlView where
  inbox : List Term
  runs : Nat → Bool
  good : Nat → Bool

def Dev.qlView (d : Dev) : QlView where
  inbox := d.net.inbox
  runs t := d.runsT (tQl t)
  good i := (d.cand i).qlGood

theorem Dev.qlView_congr {d e : Dev} (hnet : e.net = d.net) (hrefc : e.refc = d.refc) : e.qlView = d.qlView := by
  simp only [Dev.qlView, Dev.runsT, Dev.cand, hnet, hrefc]

@[simp] theorem Dev.qlView_setFld (p : Nat) (f : Fld) (n : Nat) : (d.setFld p f n).qlView = d.qlView := rfl
@[simp] theorem Dev.qlView_putNum (p n : Nat) : (d.putNum p n).qlView = d.qlView := rfl
@[simp] theorem Dev.qlView_bump (p n : Nat) : (d.bump p n).qlView = d.qlView := rfl
@[simp] theorem Dev.qlView_live (p b : Nat) (v : Bool) : (d.live p b v).qlView = d.qlView := rfl
@[simp] theorem Dev.qlView_liveEdge (p b : Nat) (v : Bool) : (d.liveEdge p b v).qlView = d.qlView := Dev.qlView_congr (by simp) (by simp)
@[simp] theorem Dev.qlView_pulse (p b : Nat) : (d.pulse p b).qlView = d.qlView := Dev.qlView_congr (by simp) (by simp)

@[simp] theorem Dev.qlView_setPiste (k : Nat) (x : PisteSt) : (d.setPiste k x).qlView = d.qlView := by
  unfold Dev.setPiste
  split <;> rfl

/-- A candidate written that has had its record as before. -/
theorem Dev.qlView_setCand {i : Nat} {x : CandSt} (h : x.qlGood = (d.cand i).qlGood) : (d.setCand i x).qlView = d.qlView := by
  ext1
  · rfl
  · rfl
  · funext j
    by_cases hj : j = i
    · subst hj
      simp [Dev.qlView, h]
    · simp [Dev.qlView, d.cand_setCand_ne x hj]

theorem tQl_ne_tWtr {i : Nat} (h : i < 0x10000) (t : Nat) : tQl t ≠ tWtr i := by
  simp only [tQl, tWtr, tmr]
  omega

theorem Dev.qlView_stopT {i : Nat} (h : i < 0x10000) : (d.stopT (tWtr i)).qlView = d.qlView := by
  ext1
  · rfl
  · exact funext fun t => d.runsT_stopT_ne (tQl_ne_tWtr h t)
  · rfl

theorem Dev.qlView_startT {i : Nat} (n : Nat) (h : i < 0x10000) : (d.startT (tWtr i) n).qlView = d.qlView := by
  ext1
  · rfl
  · exact funext fun t => d.runsT_startT_ne n (tQl_ne_tWtr h t)
  · rfl

@[simp] theorem Dev.qlView_showLevel (i : Nat) : (d.showLevel i).qlView = d.qlView := by
  unfold Dev.showLevel
  extract_lets l ql r old d1
  split <;> simp [d1]

@[simp] theorem Dev.qlView_setCandState (i s : Nat) : (d.setCandState i s).qlView = d.qlView := by
  unfold Dev.setCandState
  extract_lets p d1
  split <;> simp [d1]

@[simp] theorem Dev.qlView_skipSample (i : Nat) : (d.skipSample i).qlView = d.qlView := by
  unfold Dev.skipSample
  extract_lets src d1
  have h1 : d1.qlView = d.qlView := d.qlView_setCand rfl
  split <;> simp [h1]

@[simp] theorem Dev.qlView_emptyWindows (i : Nat) : (d.emptyWindows i).qlView = d.qlView := by
  unfold Dev.emptyWindows
  extract_lets src d1
  have h1 : d1.qlView = d.qlView := (Dev.qlView_skipSample _ i).trans (d.qlView_setCand rfl)
  simp [h1]

/-- A candidate that follows its conditions takes no message and keeps its record. -/
theorem Dev.qlView_refreshCand {i : Nat} (h : i < 0x10000) : (d.refreshCand i).qlView = d.qlView := by
  unfold Dev.refreshCand
  extract_lets d1 s c
  have h1 : d1.qlView = d.qlView := by simp [d1]
  split
  · exact h1
  · split
    · split
      · simp [h1]
      · rw [Dev.qlView_stopT _ h]
        simp [h1]
    · split
      · rw [Dev.qlView_setFld, Dev.qualify, Dev.qlView_startT _ _ h]
        simp [h1]
      · exact h1

/-- A trunk's level, valid or failed, is its candidate's; no message is taken for it, and its limit runs on. -/
theorem Dev.qlView_setTrkQl {t : Nat} (ql : Nat) (failed : Bool) (h : 4 + t < 0x10000) :
    (d.setTrkQl t ql failed).net.inbox = d.net.inbox ∧ ((d.setTrkQl t ql failed).cand (4 + t)).qlGood = !failed ∧
      (d.setTrkQl t ql failed).runsT (tQl t) = d.runsT (tQl t) := by
  unfold Dev.setTrkQl
  extract_lets src r d1 src1
  set d2 := d1.setCand (4 + t) { src1 with qlGood := !failed } with hd2
  have hv : (d2.refreshCand (4 + t)).showOut.qlView = d2.qlView := (Dev.qlView_setFld _ _ _ _).trans (d2.qlView_refreshCand h)
  refine ⟨congrArg QlView.inbox hv, (congrFun (congrArg QlView.good hv) (4 + t)).trans ?_, congrFun (congrArg QlView.runs hv) t⟩
  show (d2.cand (4 + t)).qlGood = !failed
  rw [hd2, Dev.cand_setCand_same]

variable {d}

/-- The record at the head of the inbox is taken by the command of its kind and trunk. -/
theorem Dev.takeTrk_head {x : Term} {r : List Term} {kind t : Nat} (h : d.net.inbox = x :: r) (hk : x.kind = kind) (ht : x.lp = 256 + t) :
    d.takeTrk kind t = (d.setInbox r, some x.bytes) := by
  simp [Dev.takeTrk, Dev.setInbox, h, hk, ht]

theorem Dev.qlRecord_head {x : Term} {r : List Term} {t : Nat} (h : d.net.inbox = x :: r) (hk : x.kind = 6) (ht : x.lp = 256 + t) :
    d.qlRecord t = ((d.setInbox r).startT (tQl t) (5 * sec1)).setTrkQl t (byteAt x.bytes 1 * 16 + byteAt x.bytes 0 % 16) false := by
  rw [Dev.qlRecord, Dev.takeTrk_head h hk ht]
  rfl

/-- A trunk with no message that waits, handed one. -/
def Dev.handed (d : Dev) (t : Nat) (m : Nat × List Byte) : Dev :=
  d.setTrk t { d.trk t with msgs := [m], free := max (d.trk t).free d.tk.osc }

theorem Dev.tk_handed (t : Nat) (m : Nat × List Byte) : (d.handed t m).tk = d.tk := by
  unfold Dev.handed Dev.setTrk
  split <;> rfl

theorem Dev.trk_handed (t : Nat) (m : Nat × List Byte) :
    (d.handed t m).trk t = { d.trk t with msgs := [m], free := max (d.trk t).free d.tk.osc } := d.trk_setTrk_same t _

theorem Dev.slotOf_handed (t : Nat) (m : Nat × List Byte) :
    (d.handed t m).slotOf t m = msgStart (d.tk.time + max (d.trk t).free d.tk.osc - d.tk.osc) (msgTime m.2) := by
  rw [Dev.slotOf, Dev.tk_handed, Dev.trk_handed]

/-- A message handed to a trunk with none that waits leaves at once where its slot has come. -/
theorem Dev.trkSend_of_empty {t : Nat} {typ : Nat} {pay : List Byte} (hs : d.linkServes (0x300 + t) = true) (hm : (d.trk t).msgs = []) :
    d.trkSend t typ pay = if d.tk.time < (d.handed t (typ, msgFrame typ pay)).slotOf t (typ, msgFrame typ pay)
      then d.handed t (typ, msgFrame typ pay)
      else (d.handed t (typ, msgFrame typ pay)).frameLeaves t (typ, msgFrame typ pay) := by
  have hidle : d.trkStream t = d := by rw [Dev.trkStream, hm]; rfl
  have hnext : ((d.handed t (typ, msgFrame typ pay)).trk t).next = some (typ, msgFrame typ pay) := by
    rw [Dev.trk_handed]
    unfold TrkSt.next
    by_cases h1 : typ = 1
    · simp [h1]
    · by_cases h2 : typ = 2 <;> simp [h1, h2]
  have hsend : d.trkSend t typ pay = (d.handed t (typ, msgFrame typ pay)).msgPump t 1 := by
    rw [Dev.trkSend, if_neg (by simp [hs])]
    simp only [hidle, hm, List.nil_append]
    show (d.handed t (typ, msgFrame typ pay)).trkStream t = _
    rw [Dev.trkStream, Dev.trk_handed]
    rfl
  rw [hsend, Dev.msgPump_of_next 0 hnext, Dev.tk_handed]
  rfl

/-- The QL record of the module goes in the gap that fits it, or waits for it. -/
theorem Dev.qlTx_of_empty {t : Nat} (hs : d.linkServes (0x300 + t) = true) (hm : (d.trk t).msgs = []) (hh : d.pte.handOff = false)
    (hc : d.selCand ≠ 4 + t) {f : List Byte} {n : Nat}
    (hf : f = msgFrame 2 (leBytes 1 (d.fld REFC_OUT_QL REFC_OUT_QL_OUT % 16) ++ leBytes 1 (d.fld REFC_OUT_QL REFC_OUT_QL_OUT / 16) ++ [0, 0]))
    (hn : n = msgStart (d.tk.time + max (d.trk t).free d.tk.osc - d.tk.osc) (msgTime f)) :
    if d.tk.time < n then ((d.qlTx t).trk t).msgs = [(2, f)] ∧ (d.qlTx t).out = d.out
    else ((d.qlTx t).trk t).msgs = [] ∧ (d.qlTx t).out = .message t n f :: d.out := by
  have hslot : (d.handed t (2, f)).slotOf t (2, f) = n := by rw [Dev.slotOf_handed, hn]
  have hout : (d.handed t (2, f)).out = d.out := d.out_setTrk t _
  have hsend : d.qlTx t = if d.tk.time < n then d.handed t (2, f) else (d.handed t (2, f)).frameLeaves t (2, f) := by
    rw [Dev.qlTx, if_neg (by simp [hs]), if_neg (by simp [hh, hc]), Dev.trkSend_of_empty hs hm, ← hf, hslot]
  rw [hsend]
  by_cases h : d.tk.time < n
  · rw [if_pos h, if_pos h, Dev.trk_handed]
    exact ⟨rfl, hout⟩
  · rw [if_neg h, if_neg h, Dev.trk_frameLeaves, Dev.out_frameLeaves, Dev.trk_handed, hslot, hout]
    exact ⟨by simp, rfl⟩

/-- A QL record goes out as a message of its trunk. -/
theorem Dev.streamed_qlTx (d : Dev) (t : Nat) : d.Streamed (d.qlTx t) := by
  unfold Dev.qlTx
  split
  · exact .refl d
  · exact d.streamed_trkSend t 2 _

end Sys2Proof.Machine
end

section
/-! Proofs about the time-protocol chapter: time over a trunk (R181 to R184, R255). -/

namespace Sys2Proof.Machine

variable (d : Dev)

theorem PisteNo.inst_eq (k : PisteNo) : k.inst = 1 ∨ k.inst = 2 := by cases k <;> simp [PisteNo.inst]

/-! ### A trunk's exchange -/

@[simp] theorem Dev.trkTime_setTrkTime_same (t : Nat) (x : TrkTime) : (d.setTrkTime t x).trkTime t = x := by
  by_cases h : t = 0 <;> simp [Dev.setTrkTime, Dev.trkTime, h]

@[simp] theorem Dev.get_setTrkTime (t q : Nat) (x : TrkTime) : (d.setTrkTime t x).get q = d.get q := by
  unfold Dev.setTrkTime
  split <;> rfl

@[simp] theorem Dev.trkTime_setPiste (k t : Nat) (p : PisteSt) : (d.setPiste k p).trkTime t = d.trkTime t := by
  unfold Dev.setPiste
  split <;> rfl

@[simp] theorem Dev.trkTime_settle (t : Nat) : d.settle.trkTime t = d.trkTime t := by simp only [Dev.trkTime, Dev.settle_pte]
@[simp] theorem Dev.trk_settle (t : Nat) : d.settle.trk t = d.trk t := by simp only [Dev.trk, Dev.settle_trk0, Dev.settle_trk1]
@[simp] theorem Dev.cand_settle (i : Nat) : d.settle.cand i = d.cand i := by simp only [Dev.cand, Dev.settle_refc]

theorem Dev.get_of_timeView {d e : Dev} (h : e.timeView = d.timeView) {q : Nat} (hq : timeItem q = true) : e.get q = d.get q := by
  have := congrFun (congrArg TimeView.items h) q
  simpa [Dev.timeView, hq] using this

/-- The items of the engine and of the trunks are shown as they are. -/
theorem Dev.get_settle_time {q : Nat} (h : timeItem q = true) : d.settle.get q = d.get q := d.get_settle (not_followItem_of_timeItem h)

theorem Dev.portState_settle (i k : Nat) : d.settle.portState i k = d.portState i k :=
  Dev.portState_congr (d.get_settle_time (by simp)) k

theorem changes_setTrkTime (t : Nat) (x : TrkTime) (qs : List Nat) : Changes [.pte, .msix, .out, .pulses] qs d (d.setTrkTime t x) := by
  have hpte : d.setTrkTime t x = { d with pte := (d.setTrkTime t x).pte } := by
    unfold Dev.setTrkTime
    split <;> rfl
  refine ⟨fun p hp => ?_, fun q _ _ => d.get_setTrkTime t q x⟩
  rw [hpte]
  cases p with
  | pte => simp at hp
  | msix => exact ⟨rfl, rfl⟩
  | _ => rfl

theorem changes_pulse {ps : List Part} {qs : List Nat} {p : Nat} (hp : p ∈ qs) (b : Nat) (hm : .msix ∈ ps) (ho : .out ∈ ps)
    (hu : .pulses ∈ ps) : Changes ps qs d (d.pulse p b) := by
  refine ⟨fun q hq => ?_, fun q hq _ => d.get_pulse_ne b fun h => hq (h ▸ hp)⟩
  cases q with
  | msix => exact absurd hm hq
  | out => exact absurd ho hq
  | pulses => exact absurd hu hq
  | _ => simp [Part.same]

variable {d}

/-! ### Markers and time words sent and received (R181, R182, R557) -/

/-- An UP trunk sends a marker with its TX_SEQ, and takes the next. -/
theorem Dev.markerTx_of_up {t : Nat} (hs : d.linkServes (0x300 + t) = true) :
    ((d.markerTx t).trkTime t).txSeq = ((d.trkTime t).txSeq + 1) % 0x10000 ∧
      (d.markerTx t).out.tail.head? = some (.trunk t 0 (leBytes 2 (d.trkTime t).txSeq)) := by
  rw [Dev.markerTx, if_neg (by simp [hs])]
  extract_lets x up due at_ d1 y d2
  exact ⟨congrArg TrkTime.txSeq (d1.trkTime_setTrkTime_same t y), rfl⟩

/-- A time word that fails its check. -/
theorem Dev.timeWordRx_of_bad {t : Nat} {w : List Byte} (hs : d.linkServes (0x300 + t) = true)
    (hc : crc32c (slice w 0 32) ≠ leNat (slice w 32 4)) :
    d.timeWordRx t w = ((d.bump (TRK_TW_BAD t) 1).pulse (TRK_STATUS t) TRK_STATUS_ERR).setTrkTime t { d.trkTime t with mark := none } := by
  rw [Dev.timeWordRx, if_neg (by simp [hs]), if_pos hc]

theorem Dev.num_timeWordBad (t : Nat) (x : TrkTime) :
    (((d.bump (TRK_TW_BAD t) 1).pulse (TRK_STATUS t) TRK_STATUS_ERR).setTrkTime t x).num (TRK_TW_BAD t) =
      min (d.num (TRK_TW_BAD t) + 1) (2 ^ 96 - 1) := by
  have hne : TRK_TW_BAD t ≠ TRK_STATUS t := fun h => absurd (congrArg idItem h) (by simp)
  rw [Dev.num_congr (Dev.get_setTrkTime _ _ _ _), Dev.num_congr (Dev.get_pulse_ne _ _ hne), Dev.num_bump_same]

theorem Dev.bit_timeWordBad (t : Nat) (x : TrkTime) :
    (((d.bump (TRK_TW_BAD t) 1).pulse (TRK_STATUS t) TRK_STATUS_ERR).setTrkTime t x).bit (TRK_STATUS t) TRK_STATUS_ERR = true := by
  rw [Dev.bit_congr (Dev.get_setTrkTime _ _ _ _), Dev.bit_pulse_live _ _ _ (by decide)]

/-- A good time word takes the marker that waits, with the TX_SEQ of the word. -/
theorem Dev.trkTime_timeWordRx {t m : Nat} {coarse : Bool} {w : List Byte} (hs : d.linkServes (0x300 + t) = true)
    (hc : crc32c (slice w 0 32) = leNat (slice w 32 4)) (hm : (d.trkTime t).mark = some (m, coarse)) :
    (d.timeWordRx t w).trkTime t = { d.trkTime t with mark := none, rx := some (leNat (slice w 26 2), m) } := by
  rw [Dev.timeWordRx, if_neg (by simp [hs]), if_neg (not_not_intro hc)]
  simp only [hm]
  split
  · split
    · exact Dev.trkTime_setTrkTime_same _ t _
    · refine (foldl_view (v := fun e => e.trkTime t) (fun e k => ?_) _ _).trans (Dev.trkTime_setTrkTime_same _ t _)
      split
      · exact Dev.trkTime_setPiste _ k t _
      · rfl
  · exact Dev.trkTime_setTrkTime_same _ t _

/-! ### Clock ports of a trunk (R161, R184) -/

/-- A clock port that follows its link is at most given a state. -/
theorem Dev.refreshPort_cases (d : Dev) (i k : Nat) : d.refreshPort i k = d ∨ ∃ s, d.refreshPort i k = d.setPortState i k s := by
  unfold Dev.refreshPort
  extract_lets clock s down
  split_ifs <;> first | exact .inl rfl | exact .inr ⟨_, rfl⟩

/-- What a clock port's own state does not touch reads as before. -/
theorem Dev.get_refreshPort_ne {i k q : Nat} (h : q ≠ PTE_PORT_STATE i) : (d.refreshPort i k).get q = d.get q := by
  rcases d.refreshPort_cases i k with he | ⟨s, he⟩ <;> rw [he]
  exact d.get_setFld_ne _ _ h

theorem Dev.pte_refreshPort (i k : Nat) : (d.refreshPort i k).pte = d.pte := by
  rcases d.refreshPort_cases i k with he | ⟨s, he⟩ <;> rw [he]
  rfl

theorem Dev.portState_refreshPort_other (i : Nat) {j k : Nat} (h : k = 1 ↔ j ≠ 1) : (d.refreshPort i j).portState i k = d.portState i k := by
  rcases d.refreshPort_cases i j with he | ⟨s, he⟩ <;> rw [he]
  exact d.portState_setPortState_other i s h

theorem Dev.trunkView_refreshPort (i k : Nat) : (d.refreshPort i k).trunkView = d.trunkView := by
  refine Dev.trunkView_congr (by rw [Dev.pte_refreshPort]) (by rw [Dev.pte_refreshPort]) fun q hq => ?_
  exact Dev.get_refreshPort_ne fun h => absurd (congrArg idClass h) (by simp [hq])

/-- A clock port in force at a link whose markers have stopped, out of a management gap. -/
structure Dev.Stopped (d : Dev) (i k : Nat) : Prop where
  state : d.portState i k ≠ 0
  on : d.pzOn k = true
  low : 2 ≤ d.role i k
  high : d.role i k ≤ 4
  gap : d.inGap = false
  off : d.markersOff i = true

theorem Dev.Stopped.refreshPort {i k : Nat} (h : d.Stopped i k) : d.refreshPort i k = d.setPortState i k psFAULTY := by
  unfold Dev.refreshPort
  extract_lets clock s down
  rw [if_neg (by simp [clock, h.on, h.low, h.high]), if_neg (by simp [h.gap]), if_pos (by simp [down, h.off])]

theorem Dev.Stopped.congr {e : Dev} {i k : Nat} (h : d.Stopped i k) (hpte : e.markersOff i = d.markersOff i)
    (hitems : ∀ q, q ≠ PTE_PORT_STATE i → e.get q = d.get q) (hstate : e.portState i k = d.portState i k) : e.Stopped i k := by
  have hctrl : e.get (PTE_PISTE_CTRL k) = d.get (PTE_PISTE_CTRL k) := hitems _ fun h => absurd (congrArg idItem h) (by simp)
  have hrole : e.role i k = d.role i k := Dev.fld_congr (hitems _ fun h => absurd (congrArg idItem h) (by simp)) _
  have hgap : e.inGap = d.inGap := Dev.bit_congr (hitems _ fun h => absurd (congrArg idClass h) (by simp)) _
  constructor
  · exact hstate ▸ h.state
  · rw [Dev.pzOn, Dev.fld_congr hctrl]; exact h.on
  · exact hrole ▸ h.low
  · exact hrole ▸ h.high
  · exact hgap.trans h.gap
  · exact hpte.trans h.off

/-- One clock port of a trunk whose markers have stopped: it follows, and its dataset is dropped. -/
def Dev.portStopped (d : Dev) (i k : Nat) : Dev :=
  if d.portState i k = 0 then d else ((d.refreshPort i k).setCport i k { d.cport i k with ann := none }).stopT (tAnn i k)

theorem Dev.trunkView_portStopped (i k : Nat) : (d.portStopped i k).trunkView = d.trunkView := by
  unfold Dev.portStopped
  split
  · rfl
  · exact Dev.trunkView_refreshPort i k

theorem Dev.portState_portStopped_other (i : Nat) {j k : Nat} (h : k = 1 ↔ j ≠ 1) : (d.portStopped i j).portState i k = d.portState i k := by
  unfold Dev.portStopped
  split
  · rfl
  · exact Dev.portState_refreshPort_other i h

theorem Dev.Stopped.portStopped_other {i j k : Nat} (h : d.Stopped i k) (hkj : k = 1 ↔ j ≠ 1) : (d.portStopped i j).Stopped i k := by
  refine h.congr ?_ (fun q hq => ?_) (Dev.portState_portStopped_other i hkj)
  · have hv := d.trunkView_portStopped i j
    unfold Dev.markersOff
    rw [show (d.portStopped i j).pte.trk0 = d.pte.trk0 from congrArg TrunkView.trk0 hv,
      show (d.portStopped i j).pte.trk1 = d.pte.trk1 from congrArg TrunkView.trk1 hv]
  · unfold Dev.portStopped
    split
    · rfl
    · exact Dev.get_refreshPort_ne hq

theorem Dev.Stopped.faulty {i k : Nat} (h : d.Stopped i k) : (d.portStopped i k).portState i k = psFAULTY := by
  rw [Dev.portStopped, if_neg h.state, h.refreshPort]
  exact d.portState_setPortState_same i k psFAULTY (by decide)

/-- A trunk's exchange with its markers gone. -/
def Dev.stopMarkers (d : Dev) (t : Nat) : Dev := d.setTrkTime t { d.trkTime t with mark := none, rx := none, seen := false, stopped := true }

theorem Dev.markersStopped_eq (d : Dev) (t : Nat) :
    d.markersStopped t = (((d.stopMarkers t).portStopped (0x300 + t) 1).portStopped (0x300 + t) 2).portsMoved (d.stopMarkers t) := rfl

theorem Dev.stopped_markersStopped (d : Dev) (t : Nat) : ((d.markersStopped t).trkTime t).stopped = true := by
  rw [Dev.markersStopped_eq, (Dev.reselected_portsMoved _ _).trkTime]
  rw [Dev.trkTime_of_view (Dev.trunkView_portStopped _ _), Dev.trkTime_of_view (Dev.trunkView_portStopped _ _), Dev.stopMarkers,
    Dev.trkTime_setTrkTime_same]

theorem Dev.faulty_markersStopped {t k : Nat} (ht : t < 2) (hk : k = 1 ∨ k = 2) (hs : d.portState (0x300 + t) k ≠ 0) (hon : d.pzOn k = true)
    (hlow : 2 ≤ d.role (0x300 + t) k) (hhigh : d.role (0x300 + t) k ≤ 4) (hgap : d.inGap = false) :
    (d.markersStopped t).portState (0x300 + t) k = psFAULTY := by
  have h0 : (d.stopMarkers t).Stopped (0x300 + t) k := by
    refine Dev.Stopped.congr (d := { d with pte := (d.stopMarkers t).pte }) ⟨hs, hon, hlow, hhigh, hgap, ?_⟩ rfl ?_ ?_
    · have : t = 0 ∨ t = 1 := by omega
      rcases this with rfl | rfl <;> rfl
    · exact fun q _ => d.get_setTrkTime t q _
    · exact Dev.portState_congr (d.get_setTrkTime t _ _) k
  have h : (((d.stopMarkers t).portStopped (0x300 + t) 1).portStopped (0x300 + t) 2).portState (0x300 + t) k = psFAULTY := by
    rcases hk with rfl | rfl
    · rw [Dev.portState_portStopped_other _ (by simp)]
      exact h0.faulty
    · exact (h0.portStopped_other (by simp)).faulty
  rw [Dev.markersStopped_eq, (Dev.reselected_portsMoved _ _).portState_of_barred (by omega) (by omega) (.inr h), h]

/-! ### A marker received (R182, R249) -/

/-- A marker taken: it waits for its time word, is seen, and is counted. -/
structure Dev.MarkerTaken (d e : Dev) (t : Nat) : Prop where
  seen : (e.trkTime t).seen = true
  mark : (e.trkTime t).mark.isSome = true
  count : e.num (TRK_MARKERS_RX t) = min (d.num (TRK_MARKERS_RX t) + 1) (2 ^ 96 - 1)

theorem Dev.MarkerTaken.congr {d' e e' : Dev} {t : Nat} (h : d.MarkerTaken e t) (hd : d'.trunkView = d.trunkView)
    (he : e'.trunkView = e.trunkView) : d'.MarkerTaken e' t where
  seen := by rw [Dev.trkTime_of_view he]; exact h.seen
  mark := by rw [Dev.trkTime_of_view he]; exact h.mark
  count := by
    rw [Dev.num_congr (Dev.get_of_trunkView he (idClass_pid _ _ _)), Dev.num_congr (Dev.get_of_trunkView hd (idClass_pid _ _ _))]
    exact h.count

theorem Dev.markerTaken_markerRx {t : Nat} (s : Nat) (coarse : Bool) (hs : d.linkServes (0x300 + t) = true) :
    d.MarkerTaken (d.markerRx t s coarse) t := by
  set x : TrkTime := { d.trkTime t with mark := some (s, coarse), seen := true, stopped := false }
  have h : d.MarkerTaken ((d.bump (TRK_MARKERS_RX t) 1).setTrkTime t x) t := by
    refine ⟨?_, ?_, ?_⟩
    · rw [Dev.trkTime_setTrkTime_same]
    · rw [Dev.trkTime_setTrkTime_same]; rfl
    · rw [Dev.num_congr (Dev.get_setTrkTime _ _ _ _), Dev.num_bump_same]
  refine h.congr rfl ?_
  rw [Dev.markerRx, if_pos hs]
  exact (Dev.reselected_portsMoved _ _).trunkView.trans (foldl_view (fun e k => e.trunkView_refreshPort _ k) _ _)

theorem Dev.markerTaken_trunkMarker {t : Nat} (b cyc : Nat) (hu : d.trkState t = tsUP) : d.MarkerTaken (d.trunkMarker t b cyc) t := by
  rw [Dev.trunkMarker, if_neg (not_not_intro hu)]
  extract_lets s d1 d2 c m
  have h1 : d1.trunkView = d.trunkView := d.trunkView_emuEdge _ _ _
  have hs : d1.linkServes (0x300 + t) = true := (Dev.linkServes_of_view h1 t).trans (Dev.linkServes_of_up hu)
  have h2 : d1.MarkerTaken d2 t := Dev.markerTaken_markerRx _ _ hs
  exact h2.congr h1.symm ((Dev.trunkView_refreshCand _ _).trans (Dev.trunkView_setCand d2 _ _))

/-! ### Announce records (R183) -/

/-- One Announce record for each enabled Piste goes out on an UP trunk, or waits for its gap. -/
theorem Dev.annRecordTx_of_up {t : Nat} (hs : d.linkServes (0x300 + t) = true) (hh : d.pwr.handOff = false) :
    d.Streamed (d.annRecordTx t) ∧ (d.annRecordTx t).streamed t = d.streamed t + ([1, 2].filter (fun k => d.pzOn k)).length := by
  rw [Dev.annRecordTx, if_neg (by simp [hs, hh])]
  exact Dev.streamed_foldl_trkSend 1
    (fun k => leBytes 1 (k - 1) ++ leBytes 1 (d.domainOf k) ++ beBytes 2 (d.announced k).flags ++ (d.announced k).body) _ d hs

theorem Dev.annRecord_head {x : Term} {r : List Term} {t : Nat} (h : d.net.inbox = x :: r) (hk : x.kind = 5) (ht : x.lp = 256 + t) :
    d.annRecord t = (d.setInbox r).annRecordRx t x.bytes := by
  rw [Dev.annRecord, Dev.takeTrk_head h hk ht]

/-- A clock port of a Piste's trunk that takes a record of the Piste's domain. -/
structure Dev.Hears (d : Dev) (i k dom : Nat) : Prop where
  on : d.pzOn k = true
  domain : dom = d.domainOf k
  clock : d.role i k = roleCLOCK
  free : ¬ d.barred i k
  empty : (d.cport i k).ann = none

/-- A dataset held, its receipt timer running. -/
structure Dev.Held (d : Dev) (i k src : Nat) : Prop where
  ann : (d.cport i k).ann.map Ann.src = some src
  timer : d.runsT (tAnn i k) = true

/-- An Announce of one Piste taken changes its own clock port and timer, and what selection then changes. -/
theorem Dev.takeAnnounce_cases (d : Dev) (i : Nat) {j : Nat} (a : Ann) (n : Nat) (hj : j < 0x100) :
    d.takeAnnounce i j a n = d ∨ ∃ x, ((d.setCport i j x).startT (tAnn i j) n).Reselected (d.takeAnnounce i j a n) := by
  unfold Dev.takeAnnounce
  split
  · exact .inl rfl
  · extract_lets c better d1
    by_cases hb : better = true
    · rw [if_pos hb]
      refine .inr ⟨{ c with ann := some a }, ?_⟩
      split
      · exact .refl d1
      · exact d1.reselected_selectKeep false hj
    · exact .inl (if_neg hb)

/-- A clock port that holds no dataset takes the first. -/
theorem Dev.takeAnnounce_first {i k : Nat} (a : Ann) (n : Nat) (hk : k < 0x100) (hb : ¬ d.barred i k) (hr : d.role i k = roleCLOCK)
    (he : (d.cport i k).ann = none) :
    ((d.setCport i k { d.cport i k with ann := some a }).startT (tAnn i k) n).Reselected (d.takeAnnounce i k a n) := by
  have hno : ¬ (d.portState i k = 0 ∨ d.portState i k = psFAULTY ∨ d.role i k = roleMASTER_ONLY) := by
    rw [hr]
    exact fun h => h.elim (hb ∘ .inl) fun h => h.elim (hb ∘ .inr) (by decide)
  rw [Dev.takeAnnounce, if_neg hno]
  simp only [he, if_true]
  rw [if_neg (by simp)]
  exact Dev.reselected_selectKeep _ false hk

/-- The record of one Piste. -/
def Dev.recordFor (d : Dev) (t : Nat) (r : List Byte) (k : Nat) : Dev :=
  if d.pzOn k ∧ leNat (slice r 1 1) = d.domainOf k then
    d.takeAnnounce (0x300 + t) k { body := slice r 4 30, flags := be16 r 2, src := 0x30000 + t } (3 * 125 * ms1)
  else d

theorem Dev.annRecordRx_eq (d : Dev) (t : Nat) (r : List Byte) : d.annRecordRx t r = (d.recordFor t r 1).recordFor t r 2 := rfl

/-- A record of one Piste leaves the clock ports of the other. -/
theorem Dev.recordFor_other (d : Dev) (t : Nat) {j k : Nat} (r : List Byte) (hj : j < 0x100) (hjk : j ≠ k) :
    ∃ d1 : Dev, d1.Reselected (d.recordFor t r j) ∧ d1.cport (0x300 + t) k = d.cport (0x300 + t) k ∧
      d1.runsT (tAnn (0x300 + t) k) = d.runsT (tAnn (0x300 + t) k) ∧ d1.params = d.params := by
  unfold Dev.recordFor
  split
  · rcases d.takeAnnounce_cases (0x300 + t) { body := slice r 4 30, flags := be16 r 2, src := 0x30000 + t } (3 * 125 * ms1) hj with h | ⟨x, h⟩
    · exact ⟨d, by rw [h]; exact .refl d, rfl, rfl, rfl⟩
    · refine ⟨_, h, ?_, ?_, rfl⟩
      · exact d.cport_setCport_ne x (by simp only [cpKey]; omega)
      · exact Dev.runsT_startT_ne _ _ (by simp only [tAnn, tmr, cpKey]; omega)
  · exact ⟨d, .refl d, rfl, rfl, rfl⟩

theorem Dev.Hears.recordFor_other {t j k dom : Nat} {r : List Byte} (h : d.Hears (0x300 + t) k dom) (ht : t < 2) (hj : j < 0x100)
    (hjk : j ≠ k) : (d.recordFor t r j).Hears (0x300 + t) k dom := by
  obtain ⟨d1, hsel, hport, -, hpar⟩ := d.recordFor_other t r hj hjk
  have hget (q : Nat) : d1.get q = d.get q := by simp only [Dev.get, hpar]
  have hctrl : (d.recordFor t r j).get (PTE_PISTE_CTRL k) = d.get (PTE_PISTE_CTRL k) :=
    (hsel.items _ (by simp [portItem]) (by simp [pisteItem])).trans (hget _)
  constructor
  · rw [Dev.pzOn, Dev.fld_congr hctrl]; exact h.on
  · rw [Dev.domainOf, Dev.fld_congr hctrl]; exact h.domain
  · rw [← h.clock]
    exact Dev.fld_congr ((hsel.items _ (by simp [portItem]) (by simp [pisteItem])).trans (hget _)) _
  · refine hsel.not_barred (by omega) (by omega) ?_
    rw [Dev.barred, Dev.portState_congr (hget _)]
    exact h.free
  · rw [hsel.cport, hport]; exact h.empty

theorem Dev.Held.recordFor_other {t j k src : Nat} {r : List Byte} (h : d.Held (0x300 + t) k src) (hj : j < 0x100) (hjk : j ≠ k) :
    (d.recordFor t r j).Held (0x300 + t) k src := by
  obtain ⟨d1, hsel, hport, hruns, -⟩ := d.recordFor_other t r hj hjk
  exact ⟨by rw [hsel.cport, hport]; exact h.ann, by rw [hsel.runsT, hruns]; exact h.timer⟩

theorem Dev.Hears.held {t k : Nat} {r : List Byte} (h : d.Hears (0x300 + t) k (leNat (slice r 1 1))) (hk : k < 0x100) :
    (d.recordFor t r k).Held (0x300 + t) k (0x30000 + t) := by
  rw [Dev.recordFor, if_pos ⟨h.on, h.domain⟩]
  have hsel := Dev.takeAnnounce_first { body := slice r 4 30, flags := be16 r 2, src := 0x30000 + t } (3 * 125 * ms1) hk h.free h.clock h.empty
  constructor
  · rw [hsel.cport]
    show (((d.setCport _ _ _).cport _ _).ann).map Ann.src = _
    rw [Dev.cport_setCport_same]
    rfl
  · rw [hsel.runsT, Dev.runsT_startT_same]

theorem Dev.Hears.annRecordRx {t k : Nat} {r : List Byte} (h : d.Hears (0x300 + t) k (leNat (slice r 1 1))) (ht : t < 2)
    (hk : k = 1 ∨ k = 2) : (d.annRecordRx t r).Held (0x300 + t) k (0x30000 + t) := by
  rw [Dev.annRecordRx_eq]
  rcases hk with rfl | rfl
  · exact (h.held (by omega)).recordFor_other (by omega) (by omega)
  · exact (h.recordFor_other ht (by omega) (by omega)).held (by omega)

/-- The fabric's links given up leave the datasets held. -/
theorem Dev.Held.crsCheck {t k src : Nat} (h : d.Held (0x300 + t) k src) (ht : t < 2) (hk : k < 4) : d.crsCheck.Held (0x300 + t) k src := by
  have hv := d.timeView_crsCheck
  refine ⟨by rw [Dev.cport_of_view hv]; exact h.ann, ?_⟩
  have := congrFun (congrArg TimeView.runs hv) (tAnn (0x300 + t) k)
  have hin : tmr 8 0 ≤ tAnn (0x300 + t) k ∧ tAnn (0x300 + t) k < tmr 9 0 := by simp only [tAnn, tmr, cpKey]; omega
  simpa [Dev.timeView, hin, h.timer] using this

/-- Settles O26: what a trunk sends only its stream and its exchange hold; what it receives reaches its own exchange, clock ports and candidate,
which neither selection nor the fabric touches. -/
theorem trunkTime : Obligations.TrunkTime := by
  intro s
  refine ⟨?sendMarker, ?marker, ?badWord, ?goodWord, ?markersStop, ?sendAnnounce, ?announceRecord, ?sendQl, ?qlRecord, ?qlTimeout⟩
  case sendMarker =>
    intro t hup hu
    refine answers_inBlock rfl hup ?_
    rw [Dev.trkTime_settle, Dev.settle_out]
    exact Dev.markerTx_of_up (Dev.linkServes_of_up hu)
  case marker =>
    intro t b c hup hu
    refine answers_inBlockNet rfl hup ?_
    have h : s.dev.MarkerTaken (s.dev.trunkMarker t.val b.val c.toNat).crsCheck t.val :=
      (Dev.markerTaken_trunkMarker _ _ hu).congr rfl (Dev.trunkView_of_timeView (Dev.timeView_crsCheck _))
    rw [Dev.trkTime_settle, Dev.num_congr (Dev.get_settle_time _ (by simp))]
    exact ⟨h.seen, h.mark, h.count⟩
  case badWord =>
    intro t w hup hu hc
    refine answers_inBlock rfl hup ?_
    rw [Dev.timeWordRx_of_bad (Dev.linkServes_of_up hu) hc]
    refine ⟨?_, ?_, ?_, changes_settle ?_⟩
    · rw [Dev.trkTime_settle, Dev.trkTime_setTrkTime_same]
    · rw [Dev.num_congr (Dev.get_settle_time _ (by simp)), Dev.num_timeWordBad]
    · rw [Dev.bit_congr (Dev.get_settle_time _ (by simp)), Dev.bit_timeWordBad]
    · exact changes_trans (changes_trans (changes_put _ (by simp) _) (changes_pulse _ (by simp) _ (by simp) (by simp) (by simp)))
        (changes_setTrkTime _ _ _ _)
  case goodWord =>
    intro t w m coarse hup hu hc hm
    refine answers_inBlock rfl hup ?_
    rw [Dev.trkTime_settle, Dev.trkTime_timeWordRx (Dev.linkServes_of_up hu) hc hm]
    exact ⟨rfl, rfl⟩
  case markersStop =>
    intro t k hup hs hon hlow hhigh hgap
    refine answers_inBlockNet rfl hup ?_
    have hv := (s.dev.markersStopped t.val).timeView_crsCheck
    refine ⟨?_, ?_⟩
    · rw [Dev.trkTime_settle, Dev.trkTime_of_view (Dev.trunkView_of_timeView hv), Dev.stopped_markersStopped]
    · rw [Dev.portState_settle, Dev.portState_congr (Dev.get_of_timeView hv (by simp)),
        Dev.faulty_markersStopped t.isLt (PisteNo.inst_eq k) hs hon hlow hhigh hgap]
  case sendAnnounce =>
    intro t hup hu hh
    refine answers_inBlock rfl hup ?_
    have hs := Dev.linkServes_of_up hu
    obtain ⟨hsame, hlen⟩ := Dev.annRecordTx_of_up hs hh
    refine ⟨?_, changes_settle hsame.changes⟩
    rw [Dev.settle_out, Dev.trk_settle]
    exact hlen
  case announceRecord =>
    intro t k x r hup h hk ht hon hdom hs hr he
    refine answers_inBlockNet rfl hup ?_
    have hears : (s.dev.setInbox r).Hears (0x300 + t.val) k.inst (leNat (slice x.bytes 1 1)) :=
      ⟨hon, hdom, hr, fun hb => by rw [Dev.barred, show Dev.portState (s.dev.setInbox r) _ _ = _ from hs] at hb; simp at hb, he⟩
    have hk4 : k.inst < 4 := by have := PisteNo.inst_eq k; omega
    have held := (hears.annRecordRx t.isLt (PisteNo.inst_eq k)).crsCheck t.isLt hk4
    rw [Dev.cport_settle, Dev.runsT_settle, Dev.annRecord_head h hk ht]
    exact ⟨held.ann, held.timer⟩
  case sendQl =>
    intro t hup hm hu hh hc
    refine answers_inBlock rfl hup ?_
    rw [Dev.trk_settle, Dev.settle_out]
    exact ⟨Dev.qlTx_of_empty (Dev.linkServes_of_up hu) hm hh hc rfl rfl, changes_settle (s.dev.streamed_qlTx t.val).changes⟩
  case qlRecord =>
    intro t x r hup h hk ht
    refine answers_inBlock rfl hup ?_
    obtain ⟨hin, hgood, hruns⟩ := ((s.dev.setInbox r).startT (tQl t.val) (5 * sec1)).qlView_setTrkQl
      (byteAt x.bytes 1 * 16 + byteAt x.bytes 0 % 16) false (show 4 + t.val < 0x10000 by omega)
    rw [Dev.settle_net, Dev.cand_settle, Dev.runsT_settle, Dev.qlRecord_head h hk ht]
    exact ⟨hin, hgood, hruns.trans (Dev.runsT_startT_same _ _ _)⟩
  case qlTimeout =>
    intro t hup hruns _
    refine answers_inBlock rfl hup ?_
    rw [Dev.cand_settle, Dev.runsT_settle, Dev.qlTimeout, if_pos hruns]
    obtain ⟨-, hgood, hstop⟩ := (s.dev.dueT (tQl t.val)).qlView_setTrkQl (if t.val = 0 then s.dev.refc.trkQl0 else s.dev.refc.trkQl1) true
      (show 4 + t.val < 0x10000 by omega)
    exact ⟨hgood, hstop.trans (Dev.runsT_dueT _ _)⟩

end Sys2Proof.Machine
end

section
/-! Proofs about the time-protocol chapter: an Announce of no Piste (R162). -/

namespace Sys2Proof.Machine

/-- The number of a Piste, past both Pistes, whose announce receipt timer at logical port 0 is the dead timer of fabric link 0. -/
def pisteOfDeadTimer : Nat := 22 * 65536 - 1024

/-- An Announce for that Piste, from a wired port. -/
def announcePastPistes : Term := { kind := 1, lp := 0, bytes := 11 :: List.replicate 63 0, piste := pisteOfDeadTimer }

/-- Logical port 0 LISTENING as a CLOCK port for it, out of any gap, with the Announce at the head of the inbox and link 0 of the fabric
listed and not up. -/
def announcedPastPistes : State :=
  let d := ((({} : Dev).setPortState 0x100 pisteOfDeadTimer psLISTENING).setFld (PTE_PORT_ROLE 0x100) PTE_PORT_ROLE_ROLE_B roleCLOCK).live
    GLB_STATE GLB_STATE_GAP false
  ⟨{ d with net := { d.net with inbox := [announcePastPistes] }, crs := { d.crs with links := [(0, {})] } }, []⟩

/-- The link is given up, its dead timer with it. -/
theorem announcedPastPistes_timer : announcedPastPistes.dev.announceRx.crsCheck.runsT (tAnn 0x100 pisteOfDeadTimer) = false := by
  decide +kernel

/-- Refutes O24 in its eighth clause: an Announce that names a Piste past both has its receipt timer run where the dead timer of a fabric link
runs, and the link's end (R665) stops it. No run leads there, since a message received names Piste 1 or 2, but the clause is stated of all
terms, and so wants the premise that `t.piste` is 1 or 2. -/
theorem not_peerDelayAndNegotiation : ¬ Obligations.PeerDelayAndNegotiation := by
  intro h
  obtain ⟨-, -, -, -, -, -, -, hann, -⟩ := h announcedPastPistes
  obtain ⟨e, hrun, -, -, hruns⟩ := hann announcePastPistes [] rfl rfl (by decide +kernel) (by decide +kernel) (by decide +kernel)
    (by decide +kernel) (by decide)
  have hexec : exec .announceRx announcedPastPistes = .next ⟨announcedPastPistes.dev.announceRx.crsCheck.settle, announcedPastPistes.pending⟩ :=
    rfl
  rw [dev_of_exec hexec hrun, Dev.runsT, Dev.settle_net] at hruns
  exact Bool.false_ne_true (announcedPastPistes_timer.symm.trans hruns)

end Sys2Proof.Machine
end

section
/-! Proofs about the edge-measurement chapter: a queue that a DMA channel drains (R238), and a counter that a LIVE bit's end reaches (R222). -/

namespace Sys2Proof.Machine

@[simp] theorem Dev.emuCh_settle (d : Dev) (c : Nat) : d.settle.emuCh c = d.emuCh c := by simp only [Dev.emuCh, Dev.settle_emu]

/-! ### A gate end on a drained channel (R233, R238) -/

/-- Channel 0 in frequency mode with QEN, its queue drained by telemetry channel 48, which has an open buffer of 256 bytes. -/
def gateEndDrained : State :=
  let d := ((({} : Dev).setFld (EMU_CTRL 0) EMU_CTRL_MODE 2).setFld (EMU_CTRL 0) EMU_CTRL_QEN 1).setFld (EMU_CTRL 0) EMU_CTRL_DMA_SEL 8
  ⟨d.setCh 48 { state := dsRUNNING, hold := some { at_ := 64, ctrl := 0x100, next := 0 } }, []⟩

/-- The gate's end makes its entry in the queue, and the open buffer takes it at once. -/
theorem gateEndDrained_queue : ((gateEndDrained.dev.gateEnd 0).emuCh 0).queue.length = 1 ∧
    ((gateEndDrained.dev.gateEnd 0).teleAll.emuCh 0).queue = [] := by
  decide +kernel

/-- Refutes O28 in its fourth clause: the entry of a gate's end on a channel whose DMA_SEL names a telemetry channel with an open buffer goes on
into that buffer, as R238 has it, and the queue is no longer than before. The clause wants the premise that no DMA channel drains the queue. -/
theorem not_edgeChannels : ¬ Obligations.EdgeChannels := by
  intro h
  obtain ⟨-, -, -, hgate, -⟩ := h gateEndDrained
  have hup : gateEndDrained.dev.blockUp bkTIMING = true := by decide +kernel
  obtain ⟨e, hrun, hlen, -⟩ := hgate 0 hup (by decide +kernel) (by decide +kernel) (by decide +kernel)
  have hexec : exec (.gateEnd 0) gateEndDrained =
      .next ⟨(gateEndDrained.dev.inBlock bkTIMING (fun d => (d.gateEnd 0).teleAll)).settle, gateEndDrained.pending⟩ := rfl
  obtain ⟨-, hdrained⟩ := gateEndDrained_queue
  have hqueue : (e.emuCh 0).queue = [] := by
    rw [dev_of_exec hexec hrun, Dev.inBlock_up _ _ hup, Dev.emuCh_settle, hdrained]
  exact absurd ((congrArg List.length hqueue).symm.trans hlen) (Nat.succ_ne_zero _).symm

/-! ### A rejected test beside a LIVE bit that ends (R222) -/

/-- Just after time 0, with EMU_BINCAL_REJ at 1 and its lowest bit listed as a LIVE bit that stands until time 2. -/
def rejectionExpiring : State :=
  let d := ({} : Dev).bump EMU_BINCAL_REJ 1
  ⟨{ d with tk := { d.tk with time := 1 }, pulses := [⟨EMU_BINCAL_REJ, 0, 2⟩] }, []⟩

/-- Time moves on to the whole second, where the bit has ended: the counter falls to 0 before the rejection counts in it. -/
theorem rejectionExpiring_count : rejectionExpiring.dev.num EMU_BINCAL_REJ = 1 ∧
    (rejectionExpiring.dev.interpolators 0 [9000]).settle.num EMU_BINCAL_REJ = 1 := by
  decide +kernel

/-- Refutes O29 in its third clause: where the bits that stand for a second list one of EMU_BINCAL_REJ, the exchange, which moves time on to a
whole second, ends that bit first, and the counter does not come to one more than before. No run leads there, since such bits are LIVE bits of
status items, but the clause is stated of all states, and so wants the premise `pulses = []`. -/
theorem not_edgeTiming : ¬ Obligations.EdgeTiming := by
  intro h
  obtain ⟨-, -, hrej, -⟩ := h rejectionExpiring
  have hup : rejectionExpiring.dev.blockUp bkTIMING = true := by decide +kernel
  obtain ⟨e, hrun, hnum, -⟩ := hrej 0 [9000] hup (by decide)
  have hexec : exec (.interpolatorExchange 0 [9000]) rejectionExpiring =
      .next ⟨(rejectionExpiring.dev.inBlock bkTIMING (fun d => d.interpolators 0 [9000])).settle, rejectionExpiring.pending⟩ := rfl
  obtain ⟨hold, hnew⟩ := rejectionExpiring_count
  rw [dev_of_exec hexec hrun, Dev.inBlock_up _ _ hup, hnew, hold] at hnum
  exact absurd hnum (by decide)

end Sys2Proof.Machine
end

section
/-! Proofs about the references chapter: a write of the selector's control beside a noted condition (R17, R273), and a selector whose state a
LIVE bit's end reaches (R275, R276). -/

namespace Sys2Proof.Machine

/-! ### The selector's mode beside a noted condition (R17, R273) -/

/-- The module after reset with bit 0 of REFC_GLB_CTRL, the lowest of MODE, noted as a condition of the present cycle. -/
def selectorModeNoted : State := ⟨{ ({} : Dev) with cond := { at_ := 0, bits := [(REFC_GLB_CTRL, 0)] } }, []⟩

/-- There a mode of 3 written to REFC_GLB_CTRL is held as 2: `Dev.lessCond` takes the one of the noted bit out of the word. -/
theorem selectorModeNoted_mode : (selectorModeNoted.dev.writeItem REFC_GLB_CTRL 3).fld REFC_GLB_CTRL REFC_GLB_CTRL_MODE = 2 := by
  decide +kernel

/-- Refutes O30 in its sixth clause: where the present cycle has a condition noted against bit 0 of REFC_GLB_CTRL, an accepted write of MODE
HOLDOVER (3) leaves MODE FORCED (2). The commands note bits of status items alone (`Dev.stick`), so no run leads to this module; but the clause is
stated of every state, and so wants the premise that REFC_GLB_CTRL has no noted bit, or MODE of the value that `lessCond` gives. -/
theorem not_candidates : ¬ Obligations.Candidates := by
  intro h
  obtain ⟨-, -, -, -, -, hmode, -⟩ := h selectorModeNoted
  obtain ⟨e, hrun, -, hheld, -⟩ := hmode 3 (by decide +kernel)
  have hexec : exec (.refcGlbCtrlWrite 3) selectorModeNoted =
      .next ⟨(selectorModeNoted.dev.writeItem REFC_GLB_CTRL 3).settle, selectorModeNoted.pending⟩ := rfl
  rw [dev_of_exec hexec hrun, Dev.fld_settle, selectorModeNoted_mode] at hheld
  exact absurd hheld (by decide)

/-! ### A LOCKED selector beside a LIVE bit that ends (R275, R276) -/

/-- Just after time 0, with the selector LOCKED and the upper bit of the 2 that says so listed as a LIVE bit that stands until time 2. -/
def lockedExpiring : State :=
  let d := ({} : Dev).setFld REFC_GLB_STATUS REFC_GLB_STATUS_SEL_STATE selLOCKED
  ⟨{ d with tk := { d.tk with time := 1 }, pulses := [⟨REFC_GLB_STATUS, 17, 2⟩] }, []⟩

/-- Time moves on to the whole second, where the bit has ended: the selector is found in free run, and no second joins its history. -/
theorem lockedExpiring_history : lockedExpiring.dev.num REFC_HO_HIST = 0 ∧
    (lockedExpiring.dev.monitorSecond 0).showSync.num REFC_HO_HIST = 0 := by
  decide +kernel

/-- Refutes O31 in its first clause: where the bits that stand for a second list the one by which SEL_STATE says LOCKED, the whole second ends that
bit before it looks at the selector, and REFC_HO_HIST does not advance. No run leads there, since such bits are LIVE bits, but the clause is
stated of all states, and so wants the premise `pulses = []`. -/
theorem not_selector : ¬ Obligations.Selector := by
  intro h
  obtain ⟨hlocked, -⟩ := h lockedExpiring
  have hup : lockedExpiring.dev.blockUp bkTIMING = true := by decide +kernel
  obtain ⟨e, hrun, hnum⟩ := hlocked 0 hup (by decide +kernel)
  have hexec : exec (.monitorSecond 0) lockedExpiring =
      .next ⟨(lockedExpiring.dev.inBlock bkTIMING (fun d => (d.monitorSecond 0).showSync)).settle, lockedExpiring.pending⟩ := rfl
  obtain ⟨hold, hnew⟩ := lockedExpiring_history
  rw [dev_of_exec hexec hrun, Dev.inBlock_up _ _ hup, Dev.num_settle, hnew, hold] at hnum
  exact absurd hnum (by decide)

end Sys2Proof.Machine
end

section
/-! Proofs about the clock-domains chapter: the report of a deep tree beside the return of CD2 (R321, R677), and an applied offset that a LIVE bit's
end reaches (R312). -/

namespace Sys2Proof.Machine

/-! ### The frame of CD2's return beside DEEP_LIVE (R321, R677) -/

/-- Out of any gap and with Cresor on, CD2 on bypass and Piste A LOCKED to a grandmaster 33 steps away, which DEEP_LIVE shows, though its last 16
updates found nothing. -/
def deepLocked : Dev :=
  let d := (((({} : Dev).live GLB_STATE GLB_STATE_GAP false).live (CD_STATUS 2) CD_STATUS_BYPASS true).setFld (PTE_PISTE_STATUS 1)
    PTE_PISTE_STATUS_STATE pzLOCKED).live CRS_STATUS CRS_STATUS_DEEP true
  { d with pte := { d.pte with a := { d.pte.a with empty := 16, parent := some ⟨List.replicate 28 0 ++ [33], 0, 0⟩ } },
           crs := { d.crs with ctrl := 1 } }

/-- What PISTE_LOST makes of it (R149). -/
def deepLost : State := ⟨deepLocked.pisteLost 1, []⟩

/-- DEEP_LIVE stands while Piste A is LOCKED, rightly, and beyond its loss, to which the report of R677 has not been brought up. -/
theorem deepLost_reported :
    deepLocked.crsOn = true ∧ deepLocked.crsSteps 1 = 33 ∧ deepLost.dev.crsSteps 1 = 0xFF ∧
      deepLost.dev.bit CRS_STATUS CRS_STATUS_DEEP = true := by
  decide +kernel

/-- The return of CD2 brings it up to the loss. -/
theorem deepLost_return : (deepLost.dev.returnBypass 2).crsCheck.bit CRS_STATUS CRS_STATUS_DEEP = false := by
  decide +kernel

/-- Refutes O32 in its fourth clause: a return from bypass is one of the commands that the fabric follows, so where Piste A was lost under a
DEEP_LIVE of 1, the return of CD2 takes DEEP_LIVE to 0, an item of CRS_STATUS, and the frame of the clause leaves no item to change. The clause
wants CRS_STATUS, and what the LSR's flooding reaches, in its frame, or the premise `s.dev.noFabric`. -/
theorem not_clockDomains : ¬ Obligations.ClockDomains := by
  intro h
  obtain ⟨-, -, -, hreturn, -⟩ := h deepLost
  have hup : deepLost.dev.blockUp bkTIMING = true := by decide +kernel
  obtain ⟨e, hrun, -, -, -, hitems⟩ := hreturn 2 hup rfl (by decide +kernel)
  have hexec : exec (.returnFromBypass 2) deepLost =
      .next ⟨(deepLost.dev.inBlock bkTIMING (fun d => d.returnBypass 2)).crsCheck.settle, deepLost.pending⟩ := rfl
  obtain ⟨-, -, -, hdeep⟩ := deepLost_reported
  have hkept := Dev.bit_congr (hitems CRS_STATUS (by decide) (by decide)) CRS_STATUS_DEEP
  rw [dev_of_exec hexec hrun, Dev.inBlock_up _ _ hup, Dev.bit_settle, deepLost_return, hdeep] at hkept
  exact Bool.false_ne_true hkept

/-! ### An applied offset beside a LIVE bit that ends (R312) -/

/-- Just after time 0, with CD2 on PLL-T at 16,384 ppb toward a target of 0, and the one bit of that offset listed as a LIVE bit that stands
until time 2. -/
def offsetExpiring : State :=
  let d := (({} : Dev).live (CD_STATUS 2) CD_STATUS_BYPASS false).putInt CD_T_APPLIED (2 ^ 30)
  ⟨{ d with tk := { d.tk with time := 1 }, pulses := [⟨CD_T_APPLIED, 30, 2⟩] }, []⟩

/-- Time moves on to the millisecond, where the bit has ended: the whole offset is gone in one move. -/
theorem offsetExpiring_offsets : offsetExpiring.dev.pll = 2 ^ 30 ∧ offsetExpiring.dev.pllSlew.pll = 0 := by
  decide +kernel

/-- Refutes O33 in its first clause: where the bits that stand for a second list a bit of CD_T_APPLIED, the millisecond ends that bit before
PLL-T moves, and the offset falls by 16,384 ppb where CD_ACQ_RATE allows 10. No run leads there, since such bits are LIVE bits, but the clause is
stated of all states, and so wants the premise `pulses = []`. -/
theorem not_domainAlignment : ¬ Obligations.DomainAlignment := by
  intro h
  obtain ⟨hslew, -⟩ := h offsetExpiring
  have hup : offsetExpiring.dev.blockUp bkTIMING = true := by decide +kernel
  obtain ⟨hold, hnew⟩ := offsetExpiring_offsets
  obtain ⟨e, hrun, hmove, -⟩ := hslew hup (by decide +kernel) (by decide) (by decide) (by decide +kernel) (by decide +kernel)
    (by rw [hold]; decide) (by rw [hold]; decide)
  have hexec : exec .pllTSlewUpdate offsetExpiring =
      .next ⟨(offsetExpiring.dev.inBlock bkTIMING (fun d => d.pllSlew)).settle, offsetExpiring.pending⟩ := rfl
  have hpll : e.pll = 0 := by
    rw [dev_of_exec hexec hrun, Dev.inBlock_up _ _ hup, Dev.pll, Dev.int, Dev.num_settle]
    exact hnew
  have hrate : offsetExpiring.dev.int CD_ACQ_RATE = 10000 * 65536 := by decide +kernel
  rw [hpll, hold, hrate] at hmove
  exact absurd hmove (by decide)

end Sys2Proof.Machine
end

section
/-! Proofs about the calibration chapter: a bad Twin measurement whose counter a LIVE bit's end reaches (R332). -/

namespace Sys2Proof.Machine

/-- Just after time 0, with the Twin lane of cage 5 READY, CAL_TWIN_BAD of its group at 1, and the lowest bit of that counter listed as a LIVE
bit that stands until time 2. -/
def twinBadExpiring : State :=
  let d := (({} : Dev).setFld (LANE_STATUS 0x205) LANE_STATUS_STATE lnREADY).bump (CAL_TWIN_BAD 5) 1
  ⟨{ d with tk := { d.tk with time := 1 }, pulses := [⟨CAL_TWIN_BAD 5, 0, 2⟩] }, []⟩

/-- Time moves on to the whole second, where the bit has ended: the counter falls to 0 before the measurement with 255 round trips counts in it. -/
theorem twinBadExpiring_count : twinBadExpiring.dev.num (CAL_TWIN_BAD 5) = 1 ∧
    (twinBadExpiring.dev.twinMeasure 5 0 255 0 false).num (CAL_TWIN_BAD 5) = 1 := by
  decide +kernel

/-- Refutes O34 in its first clause: where the bits that stand for a second list one of CAL_TWIN_BAD, the measurement, which moves time on to a
whole second, ends that bit first, and the counter does not come to one more than before. No run leads there, since such bits are LIVE bits of
status items, but the clause is stated of all states, and so wants the premise `pulses = []`, which the second clause lacks too. -/
theorem not_calibrationEvents : ¬ Obligations.CalibrationEvents := by
  intro h
  obtain ⟨hbad, -⟩ := h twinBadExpiring
  have hup : twinBadExpiring.dev.blockUp bkTIMING = true := by decide +kernel
  obtain ⟨e, hrun, hnum⟩ := hbad 5 0 255 0 false hup (by decide +kernel) (by decide)
  have hexec : exec (.twinMeasurement 5 0 255 0 false) twinBadExpiring =
      .next ⟨(twinBadExpiring.dev.inBlock bkTIMING (fun d => d.twinMeasure 5 0 255 0 false)).settle, twinBadExpiring.pending⟩ := rfl
  obtain ⟨hold, hnew⟩ := twinBadExpiring_count
  have hcount : e.num (CAL_TWIN_BAD 5) = 1 := by
    rw [dev_of_exec hexec hrun, Dev.inBlock_up _ _ hup, Dev.num_settle, hnew]
  exact absurd (hcount.symm.trans (hnum.trans (congrArg (fun n => min (n + 1) (2 ^ 96 - 1)) hold))) (by decide)

end Sys2Proof.Machine
end

section
/-! Proofs about the ports chapter: ADMIN set on a port of a cage under calibration (R352, R368), and a PAUSE frame whose stamp names a lane of
another port (R109, R375). -/

namespace Sys2Proof.Machine

/-! ### ADMIN set on a port of a cage under calibration (R352, R368) -/

/-- A CAL_RUN of kind LANE on cage 0 for 100 ms, as run 7, under tag 7. -/
def laneRunCmd : Cmd := { op := 0x60, tag := 7, par := [7, 0, 3, 0, 0, 0, 100, 0] ++ List.replicate 32 0 }

/-- The module after reset with Eodin serving, time set and stamps fine, and `laneRunCmd` fetched by ring 3, which may post. -/
def laneRunFetched : State :=
  let d := (((({} : Dev).setFld GLB_STATE GLB_STATE_READY 1).live GLB_STATE GLB_STATE_GAP false).live TK_STATUS TK_STATUS_SET true).live
    EMU_GLB_STATUS EMU_GLB_STATUS_COARSE false
  ⟨{ d with host := { d.host with bme0 := true, rings := [(3, { enable := true, inflight := [laneRunCmd] })] } }, []⟩

/-- The run under way, its window open and its command still to complete. -/
def laneRunUnderWay : State :=
  ⟨(laneRunFetched.dev.runCmd 3 7 0x60 (fun d c => d.calRun c.par (some (3, 7)))).crsCheck.settle, []⟩

/-- The run is what the command of R348 makes of the module. -/
theorem exec_calRun_laneRunFetched : exec (.calRun 3 7) laneRunFetched = .next laneRunUnderWay := rfl

/-- The module once ADMIN of port `n` has been written, its status items still to follow. -/
def Dev.adminWritten (d : Dev) (n : LpNo) (u : Bool) : Dev :=
  (d.writeItem (MAC_CTRL n.val) (withBits (d.num (MAC_CTRL n.val) % 2 ^ 48) 0 1 u.toNat)).crsCheck

theorem exec_adminWrite (s : State) (n : LpNo) (u : Bool) : exec (.adminWrite n u) s = .next ⟨(s.dev.adminWritten n u).settle, s.pending⟩ := rfl

/-- ADMIN set on port 0 ends the run, whose completion sets CPL_LIVE of the ring. -/
theorem laneRunUnderWay_cpl : laneRunUnderWay.dev.bit (MBX_ST 3) MBX_ST_CPL = false ∧
    (laneRunUnderWay.dev.adminWritten 0 true).bit (MBX_ST 3) MBX_ST_CPL = true := by
  decide +kernel

/-- Refutes O35 in its first clause: ADMIN set on a port of the cage that a LANE run has borrowed ends the run with DEGRADED (R352), and the
completion posted to its ring sets CPL_LIVE of that ring, an item of class 0x00, which the frame of the clause leaves out. The clause wants that
class in its frame, or the premise that no run holds the cage. -/
theorem not_portLinks : ¬ Obligations.PortLinks := by
  intro h
  obtain ⟨hset, -⟩ := h laneRunUnderWay
  obtain ⟨e, hrun, -, -, -, -, hitems⟩ := hset 0 true (by decide +kernel) rfl (by decide +kernel)
  obtain ⟨hold, hnew⟩ := laneRunUnderWay_cpl
  have hkept := Dev.bit_congr (hitems (MBX_ST 3) (by decide) (by decide)) MBX_ST_CPL
  rw [dev_of_exec (exec_adminWrite _ 0 true) hrun, Dev.bit_settle, hnew, hold] at hkept
  exact Bool.false_ne_true hkept.symm

/-! ### A PAUSE frame whose stamp names a lane of another port (R109, R375) -/

/-- A port that may not receive takes no MAC control frame. -/
theorem Dev.macControlRx_of_not_mayReceive (d : Dev) (n : Nat) {t : RxTerms} (b : List Byte) (fcs : Nat) (err : Bool)
    (h : d.mayReceive n t = false) : d.macControlRx n t b fcs err = d := by
  unfold Dev.macControlRx
  split
  · rfl
  · rw [if_pos (by simp [h])]

/-- A PAUSE frame of 9 quanta, without its FCS. -/
def pauseFrame : List Byte := [1, 0x80, 0xC2, 0, 0, 1, 2, 0, 0, 0, 0, 1, 0x88, 8, 0, 1, 0, 9] ++ List.replicate 42 0

/-- Its FCS. -/
def pauseFcs : BitVec 32 := BitVec.ofNat 32 (crc32 pauseFrame)

/-- Terms whose stamped bit came on lane 2 of the cage. -/
def lane2Terms : RxTerms := { lane := 2, dsk := 0, pos := 0, am := 0, g := 0 }

/-- Cage 0 in the mode of four 200G ports, with port 0 UP. -/
def quadCageUp : State :=
  ⟨(({} : Dev).setFld (MAC_CAGE_CTRL 0) MAC_CAGE_CTRL_MODE 2).setFld (MAC_STATUS 0) MAC_STATUS_STATE lkUP, []⟩

/-- There lane 2 is port 1's, so port 0 receives nothing on it, and no PAUSE counts. -/
theorem quadCageUp_lanes : quadCageUp.dev.mayReceive 0 lane2Terms = false ∧ quadCageUp.dev.num (MAC_RX_PAUSE 0) = 0 := by
  decide +kernel

/-- Refutes O36 in its first clause: the command is well formed (`Instr.wf`), its terms within their ranges, but a PAUSE frame of port 0
on a lane that another port of the cage owns is not taken, and MAC_RX_PAUSE does not advance. The clause wants the premise
`s.dev.mayReceive n.val k`, which holds the terms to the lanes of the port. -/
theorem not_pauseAndRecovery : ¬ Obligations.PauseAndRecovery := by
  intro h
  obtain ⟨hpause, -⟩ := h quadCageUp
  have hup : quadCageUp.dev.blockUp bkCORE = true := by decide +kernel
  obtain ⟨e, hrun, hnum⟩ := hpause 0 lane2Terms pauseFrame pauseFcs false hup (by decide +kernel) (by decide +kernel) rfl rfl
    (by decide +kernel) (by decide +kernel) (by decide +kernel) (by decide +kernel)
  have hexec : exec (.macControlFrameRx 0 ⟨lane2Terms, pauseFrame⟩ pauseFcs false) quadCageUp =
      .next ⟨(quadCageUp.dev.inBlock bkCORE (fun d => d.macControlRx 0 lane2Terms pauseFrame pauseFcs.toNat false)).settle,
        quadCageUp.pending⟩ := rfl
  obtain ⟨hlane, hzero⟩ := quadCageUp_lanes
  rw [dev_of_exec hexec hrun, Dev.inBlock_up _ _ hup, Dev.macControlRx_of_not_mayReceive _ _ _ _ _ hlane, Dev.num_settle, Fin.val_zero,
    hzero] at hnum
  exact absurd hnum (by decide)

end Sys2Proof.Machine
end

section
/-! Proofs about the parsing chapter: a SEAL while the completion of another TABLE_WRITE to the bank is still to be posted (R435, R618). -/

namespace Sys2Proof.Machine

variable (d : Dev)

/-! ### A SEAL behind a write that is not completed (R435) -/

/-- One byte spells the same number in both orders. -/
theorem leNat_slice_one (b : List Byte) (o : Nat) : leNat (slice b o 1) = byteAt b o := by
  unfold byteAt slice
  cases b.drop o <;> simp [leNat, beNat]

@[simp] theorem Dev.bank_settle (k : Nat) : d.settle.bank k = d.bank k := by simp only [Dev.bank, Dev.settle_cls]

@[simp] theorem Dev.bank_complete (r : Nat) (c : Cmd) (a : Ans) (k : Nat) : (d.complete r c a).bank k = d.bank k := by
  simp only [Dev.bank, Dev.complete_cls]

@[simp] theorem Dev.bank_setCmd (r tag : Nat) (f : Cmd → Cmd) (k : Nat) : (d.setCmd r tag f).bank k = d.bank k := by
  simp only [Dev.bank, Dev.setCmd_cls]

@[simp] theorem Dev.blockUp_setCmd (r tag : Nat) (f : Cmd → Cmd) (b : Nat) : (d.setCmd r tag f).blockUp b = d.blockUp b := rfl

/-- A TABLE_WRITE to bank `k` has run, and its completion waits for Bus Master Enable of PF0 (R435, R618). -/
def Dev.writeWaits (d : Dev) (k : Nat) : Bool := d.host.held.any (fun h => h.bank == some k)

@[simp] theorem Dev.writeWaits_setCmd (r tag : Nat) (f : Cmd → Cmd) (k : Nat) : (d.setCmd r tag f).writeWaits k = d.writeWaits k := rfl

section Waiting

variable {d} {par : List Byte} (hok : blockOk par = true) (hkind : byteAt par 0 = twSEAL)
  (hstate : (d.bank (byteAt par 1)).state = bkLOADABLE) (hwaits : d.writeWaits (byteAt par 1) = true)
include hok hkind hstate hwaits

/-- Order 3 of R435 refuses a SEAL while another write to the bank is not completed. -/
theorem Dev.tableCheck_seal_of_writeWaits : d.tableCheck par = stBUSY := by
  rw [Dev.writeWaits] at hwaits
  simp [Dev.tableCheck, leNat_slice_one, hok, hkind, hstate, hwaits]

/-- Such a SEAL answers BUSY and leaves the module as it is. -/
theorem Dev.tableCmd_seal_of_writeWaits (hup : d.blockUp bkCORE = true) (recs : List Byte) (owner : Nat × Nat) :
    d.tableCmd par recs owner = (d, some { status := stBUSY }) := by
  have hcheck := Dev.tableCheck_seal_of_writeWaits hok hkind hstate hwaits
  simp [Dev.tableCmd, Dev.tableBlock, hup, hkind, hcheck]

end Waiting

/-- A SEAL of a LOADABLE bank behind a write that is not completed completes BUSY, and the bank stays LOADABLE. -/
theorem sealBank_of_writeWaits {s : State} {e : Dev} {r : RingNo} {tag : Byte} {c : Cmd}
    (hcmd : s.dev.mayStartCmd r.val tag.toNat 0x10 c) (hup : s.dev.blockUp bkCORE = true) (hok : blockOk c.par = true)
    (hkind : byteAt c.par 0 = twSEAL) (hstate : (s.dev.bank (byteAt c.par 1)).state = bkLOADABLE)
    (hwaits : s.dev.writeWaits (byteAt c.par 1) = true) (hrun : exec (.sealBank r tag) s = .next ⟨e, s.pending⟩) :
    e.reply.status = stBUSY ∧ (e.bank (byteAt c.par 1)).state = bkLOADABLE := by
  have hcall := Dev.tableCmd_seal_of_writeWaits (d := s.dev.setCmd r.val tag.toNat (fun c => { c with started := true })) hok hkind
    (by simpa using hstate) (by simpa using hwaits) (by simpa using hup) [] (r.val, tag.toNat)
  have hexec : exec (.sealBank r tag) s = .next ⟨(s.dev.subCmd r.val tag.toNat 0x10 0 (fun k => k == twSEAL)
      (fun e c => e.tableCmd c.par [] (r.val, tag.toNat))).settle, s.pending⟩ := rfl
  rw [Dev.subCmd_start _ _ _ hcmd (by simp [hkind]), Dev.runCmd_start _ _ hcmd, hcall] at hexec
  rw [dev_of_exec hexec hrun]
  simp [hstate]

/-! ### Two commands of one ring (R618, R627) -/

/-- A TABLE_WRITE of one node record, at index 3 of bank 1, under tag 6. -/
def loadNode : Cmd :=
  { op := 0x10, tag := 6, par := [1, 1, 0, 0, 3, 0, 0, 0, 1, 0, 0, 0, 0, 0, 0, 0, 0, 0, 0, 0, 16, 0, 0, 0] ++ List.replicate 16 0 }

/-- The record that it loads. -/
def nodeRecord : List Byte := leBytes 16 (mkNode 1 14 0 0 0 1 0 12 0xFF 0 4 1)

/-- A SEAL of bank 1 under label 9, under tag 7. -/
def sealBankOne : Cmd := { op := 0x10, tag := 7, par := [8, 1] ++ List.replicate 22 0 ++ [9] ++ List.replicate 15 0 }

/-- The module after reset with Eodin serving, both commands fetched by ring 3, and Bus Master Enable of PF0 at 0 since. -/
def loadAndSealFetched : State :=
  let d := (({} : Dev).setFld GLB_STATE GLB_STATE_READY 1).live GLB_STATE GLB_STATE_GAP false
  ⟨{ d with host := { d.host with rings := [(3, { enable := true, inflight := [loadNode, sealBankOne] })] } }, []⟩

/-- The node loaded, its completion still to be posted. -/
def nodeLoaded : State :=
  ⟨(loadAndSealFetched.dev.runCmd 3 6 0x10 (fun e c => e.tableCmd c.par nodeRecord (3, 6))).settle, []⟩

/-- The first of the two commands leads there. -/
theorem exec_tableWrite_loadAndSealFetched : exec (.tableWrite 3 6 nodeRecord) loadAndSealFetched = .next nodeLoaded := rfl

theorem nodeLoaded_mayStartCmd : nodeLoaded.dev.mayStartCmd 3 7 0x10 sealBankOne := by decide +kernel

/-- Bank 1 is LOADABLE there, and the write to it is not completed. -/
theorem nodeLoaded_bank : (nodeLoaded.dev.bank 1).state = bkLOADABLE ∧ nodeLoaded.dev.writeWaits 1 = true := by decide +kernel

/-- Refutes O21 in its second clause: a SEAL of a LOADABLE bank to which another TABLE_WRITE has run whose completion entry waits for Bus
Master Enable (R618) completes BUSY by order 3 of R435, and the bank stays LOADABLE. Runs lead to such states: a ring fetches a load and the
SEAL behind it, and Bus Master Enable goes to 0 before the load completes. The clause wants the premise that no completion held is of a write
to the bank. -/
theorem not_bankCommands : ¬ Obligations.BankCommands := by
  intro h
  obtain ⟨-, hseal, -⟩ := h nodeLoaded
  have hup : nodeLoaded.dev.blockUp bkCORE = true := by decide +kernel
  have hok : blockOk sealBankOne.par = true := by decide
  obtain ⟨hstate, hwaits⟩ := nodeLoaded_bank
  obtain ⟨e, hrun, hsealing, -⟩ := hseal 3 7 sealBankOne nodeLoaded_mayStartCmd hup hok rfl hstate
  obtain ⟨-, hkept⟩ := sealBank_of_writeWaits nodeLoaded_mayStartCmd hup hok rfl hstate hwaits hrun
  exact absurd (hsealing.symm.trans hkept) (by decide)

end Sys2Proof.Machine
end

section
/-! Proofs about walks that leave the module as it is: lanes that stay OFF, clock ports that are not there, and what is left of such a module when
its power goes (R161, R541, R713). -/

set_option Elab.async false

namespace Sys2Proof.Machine

/-- A step that leaves a module as it is for every element of a list leaves it so for the list. -/
theorem foldl_eq_self {α : Type} {f : Dev → α → Dev} {d : Dev} : ∀ {l : List α}, (∀ x ∈ l, f d x = d) → l.foldl f d = d
  | [], _ => rfl
  | x :: l, h => by rw [List.foldl_cons, h x (by simp)]; exact foldl_eq_self fun y hy => h y (by simp [hy])

variable {d : Dev}

/-! ### Classes without an item that has been written -/

/-- No item of class `c` differs from its reset value. -/
def Dev.unwritten (d : Dev) (c : Nat) : Bool := d.params.all (fun e => idClass e.1 != c)

theorem Dev.get_of_unwritten {c p : Nat} (h : d.unwritten c = true) (hp : idClass p = c) : d.get p = ({} : Dev).get p := by
  have hget : ∀ t : Tbl Wide, t.all (fun e => idClass e.1 != c) = true → Tbl.get t (itemDefault p) p = itemDefault p := by
    intro t ht
    induction t with
    | nil => rfl
    | cons e r ih =>
      obtain ⟨j, v⟩ := e
      obtain ⟨hj, hr⟩ : idClass j ≠ c ∧ r.all (fun e => idClass e.1 != c) = true := by simpa using ht
      have hne : j ≠ p := fun hjp => hj (hjp ▸ hp)
      rw [Tbl.get_cons, if_neg hne, ih hr]
  exact hget d.params h

/-! ### Lanes that are OFF (R541, R546) -/

theorem laneState_reset : ∀ l ∈ List.range 576, ({} : Dev).laneState l = lnOFF := by decide +kernel

theorem Dev.laneState_of_unwritten (h : d.unwritten 0x13 = true) {l : Nat} (hl : l < 576) : d.laneState l = lnOFF :=
  (Dev.fld_congr (Dev.get_of_unwritten h (idClass_pid _ _ _)) _).trans (laneState_reset l (by simp [hl]))

theorem Dev.refreshLane_of_off {l : Nat} (hrun : d.lanesRun = false) (hoff : d.laneState l = lnOFF) : d.refreshLane l = d := by
  simp [Dev.refreshLane, Dev.laneMay, hrun, hoff]

theorem Dev.refreshTwin_of_off {c : Nat} (hrun : d.lanesRun = false) (hoff : d.laneState (0x200 + c) = lnOFF) : d.refreshTwin c = d := by
  simp [Dev.refreshTwin, hrun, hoff]

/-- Lanes that have never left OFF stay so while none may run. -/
theorem Dev.refreshLanes_of_off (hrun : d.lanesRun = false) (h : d.unwritten 0x13 = true) : d.refreshLanes = d :=
  foldl_eq_self fun c hc => by
    have hc : c < 64 := List.mem_range.1 hc
    have hcage : d.refreshCage c = d := foldl_eq_self fun k hk => by
      have hk : k < 8 := List.mem_range.1 hk
      exact Dev.refreshLane_of_off hrun (Dev.laneState_of_unwritten h (by omega))
    rw [hcage, Dev.refreshTwin_of_off hrun (Dev.laneState_of_unwritten h (by omega))]

/-! ### Clock ports that are not there (R161) -/

theorem portState_reset : ∀ n ∈ List.range 256, ({} : Dev).portState (0x100 + n) 1 = 0 ∧ ({} : Dev).portState (0x100 + n) 2 = 0 := by
  decide +kernel

theorem pzOn_reset : ({} : Dev).pzOn 1 = false ∧ ({} : Dev).pzOn 2 = false := by decide +kernel

theorem Dev.refreshPort_of_idle {i k : Nat} (hoff : d.pzOn k = false) (hstate : d.portState i k = 0) : d.refreshPort i k = d := by
  simp [Dev.refreshPort, hoff, hstate]

theorem Dev.setCport_of_empty (hports : d.pte.ports = []) (i k : Nat) :
    d.setCport i k { d.cport i k with sync := none, dreq := none, preq := none } = d := by
  have hport : d.cport i k = {} := by simp [Dev.cport, hports]
  have hempty : Tbl.set d.pte.ports {} (cpKey i k) {} = d.pte.ports := by rw [hports]; rfl
  rw [hport, Dev.setCport, hempty]

theorem Dev.clockDrop_of_idle {i : Nat} (hports : d.pte.ports = []) (hidle : ∀ k ∈ [1, 2], d.pzOn k = false ∧ d.portState i k = 0) :
    d.clockDrop i = d :=
  foldl_eq_self fun k hk => by
    rw [Dev.refreshPort_of_idle (hidle k hk).1 (hidle k hk).2, Dev.setCport_of_empty hports]

/-- Neither Piste is enabled and no port is one of theirs while no item of the engine has been written. -/
theorem Dev.idle_of_unwritten (h : d.unwritten 0x05 = true) {n : Nat} (hn : n < 256) :
    ∀ k ∈ [1, 2], d.pzOn k = false ∧ d.portState (0x100 + n) k = 0 := by
  have hget (p : Nat) (hp : idClass p = 0x05) : d.get p = ({} : Dev).get p := Dev.get_of_unwritten h hp
  have hon (k : Nat) : d.pzOn k = ({} : Dev).pzOn k := by
    rw [Dev.pzOn, Dev.fld_congr (hget _ (idClass_pid _ _ _)), ← Dev.pzOn]
  have hstate (k : Nat) : d.portState (0x100 + n) k = ({} : Dev).portState (0x100 + n) k :=
    Dev.portState_congr (hget _ (idClass_pid _ _ _)) k
  obtain ⟨hon1, hon2⟩ := pzOn_reset
  obtain ⟨hst1, hst2⟩ := portState_reset n (by simp [hn])
  intro k hk
  rw [hon, hstate]
  obtain rfl | rfl : k = 1 ∨ k = 2 := by simpa using hk
  · exact ⟨hon1, hst1⟩
  · exact ⟨hon2, hst2⟩

/-- What the loss of the links of the core package moves where no clock port is there to go. -/
def Dev.linksMoved (d : Dev) : Dev := (candList.foldl (fun (e : Dev) i => e.refreshCand i) (d.portsMoved d)).crsCheck

theorem Dev.linksGone_of_idle (hports : d.pte.ports = []) (h : d.unwritten 0x05 = true) : d.linksGone = d.linksMoved := by
  have hfold : (List.range 256).foldl (fun (e : Dev) n => e.clockDrop (0x100 + n)) d = d :=
    foldl_eq_self fun n hn => Dev.clockDrop_of_idle hports (Dev.idle_of_unwritten h (List.mem_range.1 hn))
  rw [Dev.linksGone, hfold, Dev.linksMoved]

/-! ### Power gone (R713) -/

/-- The module as the loss of power leaves it before the links of its core package follow. -/
def Dev.powerCut (d : Dev) : Dev :=
  let d1 := (((d.accums.foldl (fun e k => e.stopTimer k.1) d.vcoreStop).setPower 4).patrolOff).clearItems bkCORE toReset
  let n := d1.net
  { d1 with
    lanes := [], cls := {}
    net := { timers := n.timers, ticks := n.ticks, tele := n.tele, eodinRecs := n.eodinRecs, inbox := n.inbox, returns := n.returns,
             ptpSec := n.ptpSec, ptpEvt := n.ptpEvt, ptpGen := n.ptpGen }
    tk := { d1.tk with reps := [] } }

/-- What is left of module `d` without power, `d1` being what the loss has left of it where the links have followed. -/
def Dev.powerLeft (d d1 : Dev) (auto ready : Bool) : Dev :=
  let d2 := d1.showFreq.clearTiming
  let d3 := { d2 with
    host := { linkUp := false, perst := d.host.perst }
    obs := {}
    pwr := { d2.pwr with started := false, await := auto, coreOff := false, handOff := false, ready := ready, pressWait := false, autoWait := false,
                         resetting := 0, corePower := true, restore := [], crsReset := [], noImage := false, oscFail := false, heldW := [] } }
  (((d3.setTarget? none none).live PWR_STATUS PWR_STATUS_REMOVE false).stopT tRemove).opticsRefresh

theorem Dev.powerGone_of_idle (auto ready : Bool) (hports : d.powerCut.pte.ports = []) (h : d.powerCut.unwritten 0x05 = true) :
    d.powerGone auto ready = d.powerLeft d.powerCut.linksMoved auto ready := by
  rw [← Dev.linksGone_of_idle hports h]
  simp only [Dev.powerGone, Dev.powerLeft, Dev.powerCut, Dev.clearCore]

/-- The module as its commits leave it when it enters S4 at once. -/
def Dev.commitsEnded (d : Dev) : Dev := ({ d with pwr := { d.pwr with owner := none } }).hostGone.endCommits

theorem Dev.enterS4Now_trip (hup : d.pwrState ≠ 4) (ready : Bool) : d.enterS4Now 0 ready = d.commitsEnded.powerGone true ready := by
  simp [Dev.enterS4Now, hup, Dev.commitsEnded]

theorem Dev.enterS4Now_cause {cause : Nat} (hup : d.pwrState ≠ 4) (hcause : cause ≠ 0) (ready : Bool) :
    d.enterS4Now cause ready = ({ d.commitsEnded.powerGone true ready with
      pwr := { (d.commitsEnded.powerGone true ready).pwr with cause := cause } }).putNum PWR_LAST_RESET (0x1000000 + cause * 0x100000) := by
  simp [Dev.enterS4Now, hup, hcause, Dev.commitsEnded]

end Sys2Proof.Machine
end

section
/-! Proofs about the DMA part of the host chapter: a function level reset beside a channel in ERROR (R617, R645). -/

set_option Elab.async false

namespace Sys2Proof.Machine

/-- The module after a read fault of channel 0, the host link up: the channel is in ERROR, and ERR_LIVE of its DMA_STATUS stands. -/
def channelFaulted : State :=
  ⟨(({} : Dev).setCh 0 { state := dsRUNNING, run := true }).readFault 0, []⟩

/-- ERR_LIVE there, and after a function level reset of PF1, which returns the channel to IDLE. -/
theorem channelFaulted_errLive : channelFaulted.dev.bit (DMA_ST 0) DMA_ST_ERR = true ∧
    (channelFaulted.dev.overLink (fun e => e.flr 1)).bit (DMA_ST 0) DMA_ST_ERR = false := by decide +kernel

/-- Refutes O46 in its tenth clause: a function level reset takes a channel in ERROR to IDLE, and so clears ERR_LIVE of its DMA_STATUS, an item of
class 0x00, and the frame of the clause lets no item but those of class 0x17 change. Runs lead there: a read fault, then the reset. The clause
wants class 0x00 in its frame. -/
theorem not_dmaChannels : ¬ Obligations.DmaChannels := by
  intro h
  obtain ⟨-, -, -, -, -, -, -, -, -, hflr, -⟩ := h channelFaulted
  obtain ⟨hbefore, hafter⟩ := channelFaulted_errLive
  obtain ⟨e, hrun, -, -, -, hitems⟩ := hflr 1 0 rfl (by decide)
  have hexec : exec (.functionLevelReset 1) channelFaulted =
      .next ⟨(channelFaulted.dev.overLink (fun e => e.flr 1)).settle, channelFaulted.pending⟩ := rfl
  have hkept : e.get (DMA_ST 0) = channelFaulted.dev.get (DMA_ST 0) := hitems _ (by decide) (by decide)
  rw [← Dev.bit_congr hkept, dev_of_exec hexec hrun, Dev.bit_settle _ _ (by decide), hafter] at hbefore
  exact absurd hbefore (by decide)

end Sys2Proof.Machine
end

section
/-! Proofs about the descriptors of the host chapter: a telemetry buffer that opens with what an abandoned one left (R618). -/

set_option Elab.async false

namespace Sys2Proof.Machine

/-- A record of a counter sweep. -/
def sweepRecord : Rec := ⟨2, List.replicate 40 0⟩

/-- An open telemetry buffer of 40 bytes that holds one EMU entry. -/
def openBuffer : DmaHold := { at_ := 0, ctrl := 40, next := 0, sop := true, eop := true, kind := 1, bytes := List.replicate 16 0 }

/-- Telemetry channel 48 as Bus Master Enable of PF2 going to 0 leaves it while that buffer is open (R618), started again with Bus Master Enable
at 1, and a record of a sweep waiting for it. -/
def abandonedBuffer : State :=
  let d := (({} : Dev).setCh 48 { state := dsRUNNING, run := true, hold := some openBuffer }).dmaHalt 48
  ⟨{ d with host := { d.host with bme2 := true }, net := { d.net with tele := [(48, [sweepRecord])] } }.dmaRun 48 false 0, []⟩

/-- The buffer of 40 bytes that opens next closes at the record, which is of another KIND and goes on waiting. -/
theorem abandonedBuffer_tele : Tbl.get (abandonedBuffer.dev.descriptor 48 0x1000 40 0 [] false).net.tele [] 48 = [sweepRecord] := by
  decide +kernel

/-- Refutes O47 in its second clause: what Bus Master Enable going to 0 abandoned of a telemetry buffer comes first in the buffer that opens next
(R618), which then closes at a record of another KIND, and the record goes on waiting. The clause wants the premise that the channel has
gathered nothing. -/
theorem not_dmaBlocks : ¬ Obligations.DmaBlocks := by
  intro h
  obtain ⟨-, htele, -⟩ := h abandonedBuffer
  obtain ⟨e, hrun, -, hempty, -⟩ := htele 48 0x1000 40 0 [] false sweepRecord (by decide) (by decide) rfl rfl rfl rfl rfl rfl rfl rfl
  have hexec : exec (.descriptorComplete 48 0x1000 40 0 [] false) abandonedBuffer =
      .next ⟨(abandonedBuffer.dev.descriptor 48 0x1000 40 0 [] false).settle, abandonedBuffer.pending⟩ := rfl
  have hwaits := (congrArg (fun n => Tbl.get n.tele [] 48) (Dev.settle_net _)).trans abandonedBuffer_tele
  rw [← dev_of_exec hexec hrun] at hwaits
  exact absurd (hempty.symm.trans hwaits) (by decide)

end Sys2Proof.Machine
end

section
/-! Proofs about PORT_ADMIN as a command of a ring: a port that an action has decided in the same cycle (R98). -/

set_option Elab.async false

namespace Sys2Proof.Machine

/-- PORT_ADMIN setting ADMIN of port 0, under tag 7. -/
def setAdmin : Cmd := { op := 0x50, tag := 7, par := 1 :: List.replicate 39 0 }

/-- The module with Eodin serving and that command fetched by ring 3, in the cycle in which a PORT_ADMIN action has cleared ADMIN of port 0. -/
def setAdminFetched : State :=
  let d := (({} : Dev).setFld GLB_STATE GLB_STATE_READY 1).live GLB_STATE GLB_STATE_GAP false
  ⟨{ d with host := { d.host with rings := [(3, { enable := true, inflight := [setAdmin] })] } }.adminDecided 0, []⟩

theorem setAdminFetched_mayStartCmd : setAdminFetched.dev.mayStartCmd 3 7 0x50 setAdmin := by decide +kernel

/-- The module after the command. -/
def adminKept : Dev := (setAdminFetched.dev.runCmd 3 7 0x50 (fun e c => answered (e.portAdminCmd c.par))).crsCheck

/-- The command completes and leaves ADMIN as the action decided it (R98). -/
theorem adminKept_admin : adminKept.admin 0 = false := by decide +kernel

/-- Refutes O49 in its tenth clause: where an action has decided ADMIN of the port in the present cycle, the action decides (R98), and a PORT_ADMIN
of a ring completes OK without changing it. Runs lead to such states: an action clears ADMIN in the cycle in which the command starts. The
clause wants the premise that no action has. -/
theorem not_trustPortAndCalibrationCommands : ¬ Obligations.TrustPortAndCalibrationCommands := by
  intro h
  obtain ⟨-, -, -, -, -, -, -, -, -, hport, -⟩ := h setAdminFetched
  obtain ⟨e, hrun, -, hadmin⟩ := hport 3 7 setAdmin setAdminFetched_mayStartCmd (by decide) (by decide) (by decide) (by decide)
    (by decide +kernel)
  have hexec : exec (.portAdmin 3 7) setAdminFetched = .next ⟨adminKept.settle, setAdminFetched.pending⟩ := rfl
  rw [dev_of_exec hexec hrun, Dev.admin, Dev.fld_settle] at hadmin
  exact absurd (adminKept_admin.symm.trans hadmin) (by decide)

end Sys2Proof.Machine
end

section
/-! Proofs about the fabric's REQUESTs: a port that an action has decided in the same cycle (R98). -/

set_option Elab.async false

namespace Sys2Proof.Machine

/-- A REQUEST of node 7 that carries PORT_ADMIN, setting ADMIN of port 0. -/
def portUpRequest : List Byte :=
  [1, BitVec.ofNat 8 csREQUEST, 0, 0, 7, 0] ++ List.replicate 10 0 ++ [64, 0, 0, 1, 0, 0, 0, 0] ++
    ([0x50] ++ List.replicate 15 0 ++ [1] ++ List.replicate 47 0) ++ List.replicate 48 0

/-- The module with Eodin serving and port-control permission on the fabric, that REQUEST kept, in the cycle in which a PORT_ADMIN action has
cleared ADMIN of port 0. -/
def portDecided : State :=
  let d := ((({} : Dev).setFld GLB_STATE GLB_STATE_READY 1).live GLB_STATE GLB_STATE_GAP false).put CRS_PERM 2
  ⟨{ d with crs := { d.crs with inbox := [(0, 2, portUpRequest)] } }.adminDecided 0, []⟩

/-- The carried command does not change what the action decided (R98). -/
theorem portDecided_admin : (portDecided.dev.requestRx.crsCheck).admin 0 = false := by decide +kernel

/-- Refutes O43 in its fourth clause: where an action has decided ADMIN of the port in the present cycle, the action decides (R98), and a
PORT_ADMIN that a REQUEST carries does not change it. The clause wants the premise that no action has. -/
theorem not_fabricRequests : ¬ Obligations.FabricRequests := by
  intro h
  obtain ⟨-, -, -, hrequest, -⟩ := h portDecided
  obtain ⟨e, hrun, -, hadmin⟩ := hrequest 0 2 portUpRequest [] 0 (by decide +kernel) rfl (by decide) (by decide) (by decide) (by decide)
    (by decide) (by decide +kernel) (by decide) (by decide) (by decide) (by decide) (by decide +kernel)
  have hexec : exec .requestRx portDecided = .next ⟨(portDecided.dev.requestRx.crsCheck).settle, portDecided.pending⟩ := rfl
  rw [dev_of_exec hexec hrun, Dev.admin, Dev.fld_settle] at hadmin
  exact absurd (portDecided_admin.symm.trans hadmin) (by decide)

end Sys2Proof.Machine
end

section
/-! Proofs about the chiplet links: the report of a deep tree beside a count of CRC errors (R548, R677). -/

set_option Elab.async false

namespace Sys2Proof.Machine

/-- The module of `deepLost` with bundle 0 of chiplet link 0 READY. -/
def deepLostReady : State := ⟨deepLost.dev.setFld (LANE_STATUS 0x300) LANE_STATUS_STATE lnREADY, []⟩

/-- DEEP_LIVE there, and after one CRC-error count of that bundle that is within its limit. -/
theorem deepLostReady_deep : deepLostReady.dev.bit CRS_STATUS CRS_STATUS_DEEP = true ∧
    (deepLostReady.dev.bundleFail 0 1).crsCheck.bit CRS_STATUS CRS_STATUS_DEEP = false := by decide +kernel

/-- Refutes O39 in its second clause: a report of a bundle is one of the commands that the fabric follows, so where Piste A was lost under a DEEP_LIVE
of 1 (R149, R677), a count within its limit takes DEEP_LIVE to 0, an item of CRS_STATUS, and the frame of the clause leaves only the bundle's count to
change. The clause wants CRS_STATUS, and what the LSR's flooding reaches, in its frame, or the premise `s.dev.noFabric`. -/
theorem not_chipletAndTests : ¬ Obligations.ChipletAndTests := by
  intro h
  obtain ⟨-, hcount, -⟩ := h deepLostReady
  have hup : deepLostReady.dev.blockUp bkCORE = true := by decide +kernel
  obtain ⟨e, hrun, -, -, hitems⟩ := hcount 0 1 hup (by decide +kernel) (by decide)
  have hexec : exec (.bundleFail 0 1) deepLostReady =
      .next ⟨(deepLostReady.dev.inBlock bkCORE (fun d => d.bundleFail 0 1)).crsCheck.settle, deepLostReady.pending⟩ := rfl
  obtain ⟨hbefore, hafter⟩ := deepLostReady_deep
  have hkept := Dev.bit_congr (hitems CRS_STATUS (by decide) (by decide)) CRS_STATUS_DEEP
  rw [dev_of_exec hexec hrun, Dev.inBlock_up _ _ hup, Dev.bit_settle, hafter, hbefore] at hkept
  exact Bool.false_ne_true hkept

end Sys2Proof.Machine
end

section
/-! Proofs about the removal of the module: the report of a deep tree beside REMOVE_TIMEOUT (R677, R731). -/

set_option Elab.async false

namespace Sys2Proof.Machine

/-- The module of `deepLost` while a request to remove it stands. -/
def deepLostRemoving : State := ⟨deepLost.dev.removeReq, []⟩

/-- DEEP_LIVE there, and after REMOVE_TIMEOUT. -/
theorem deepLostRemoving_deep : deepLostRemoving.dev.bit CRS_STATUS CRS_STATUS_DEEP = true ∧
    deepLostRemoving.dev.removeTimeout.crsCheck.bit CRS_STATUS CRS_STATUS_DEEP = false := by decide +kernel

/-- Refutes O12 in its fifth clause: REMOVE_TIMEOUT is one of the commands that the fabric follows, so where Piste A was lost under a DEEP_LIVE of 1
(R149, R677), it takes DEEP_LIVE to 0, an item of CRS_STATUS, and the frame of the clause leaves only PWR_STATUS to change. The clause wants
CRS_STATUS, and what the LSR's flooding reaches, in its frame, or the premise `s.dev.noFabric`. -/
theorem not_removalRequestsAndFeeds : ¬ Obligations.RemovalRequestsAndFeeds := by
  intro h
  obtain ⟨-, -, -, -, htimeout, -⟩ := h deepLostRemoving
  obtain ⟨e, hrun, -, -, -, hitems⟩ := htimeout (by decide +kernel) (by decide +kernel) (by decide +kernel) (by decide +kernel)
  have hexec : exec .removeTimeout deepLostRemoving =
      .next ⟨deepLostRemoving.dev.removeTimeout.crsCheck.settle, deepLostRemoving.pending⟩ := rfl
  obtain ⟨hbefore, hafter⟩ := deepLostRemoving_deep
  have hkept := Dev.bit_congr (hitems CRS_STATUS (by decide) (by decide)) CRS_STATUS_DEEP
  rw [dev_of_exec hexec hrun, Dev.bit_settle, hafter, hbefore] at hkept
  exact Bool.false_ne_true hkept

end Sys2Proof.Machine
end

section
/-! Proofs about the trunks: RESTART beside a condition noted for ENABLE (R17, R575). -/

set_option Elab.async false

namespace Sys2Proof.Machine

/-- Trunk 0 enabled and UP on a qualified clock, PLL-P in lock and nothing else of the module started, ENABLE of the trunk listed among the bits
whose condition has occurred in the present cycle. -/
def trunkEnableNoted : State :=
  let d := ((({} : Dev).putNum (TRK_CTRL 0) 1).setFld (TRK_STATUS 0) TRK_STATUS_STATE tsUP).setTrk 0 { qual := true }
  ⟨{ d with cd := { d.cd with pLost := false } }.noteCond (TRK_CTRL 0) 0, []⟩

/-- The module after RESTART. -/
def trunkRestarted : Dev := (trunkEnableNoted.dev.writeBit (TRK_CTRL 0) 1).crsCheck

/-- The write of RESTART clears ENABLE (R17), and the trunk goes DOWN (R552). -/
theorem trunkRestarted_down : trunkRestarted.trkState 0 = tsDOWN := by decide +kernel

/-- Refutes O25 in its ninth clause: a bit whose condition is listed as of the present cycle is not written at 1 (R17), so where ENABLE of TRK_CTRL
is listed, RESTART clears it and takes the trunk DOWN. No run leads there, since only STICKY bits have conditions, but the clause is stated of all
states, and so wants the premise that no bit of TRK_CTRL is listed. -/
theorem not_trunkTraining : ¬ Obligations.TrunkTraining := by
  intro h
  obtain ⟨-, -, -, -, -, -, -, -, hrestart, -⟩ := h trunkEnableNoted
  obtain ⟨e, hrun, -, hclock, -⟩ := hrestart 0 (by decide +kernel) (by decide +kernel) rfl rfl (by decide +kernel)
  have hexec : exec (.trunkRestart 0) trunkEnableNoted = .next ⟨trunkRestarted.settle, trunkEnableNoted.pending⟩ := rfl
  rw [dev_of_exec hexec hrun, Dev.trkState, Dev.fld_settle] at hclock
  exact absurd (trunkRestarted_down.symm.trans hclock) (by decide)

end Sys2Proof.Machine
end

section
/-! Proofs about the lanes: RESTART beside a condition noted for LOOPBACK (R17, R542). -/

set_option Elab.async false

namespace Sys2Proof.Machine

/-- Lane 0 READY in a near-end loopback, with no port that wants it, PLL-P in lock and its LOOPBACK listed among the bits whose condition has
occurred in the present cycle. -/
def loopbackNoted : State :=
  let d := (({} : Dev).putNum (LANE_CTRL 0) 0x40).setFld (LANE_STATUS 0) LANE_STATUS_STATE lnREADY
  ⟨{ d with cd := { d.cd with pLost := false } }.noteCond (LANE_CTRL 0) 6, []⟩

/-- The module after RESTART. -/
def loopbackRestarted : Dev := (loopbackNoted.dev.writeBit (LANE_CTRL 0) 0).crsCheck

/-- The write of RESTART ends the loopback (R17), and the lane goes OFF (R541). -/
theorem loopbackRestarted_off : loopbackRestarted.laneState 0 = lnOFF := by decide +kernel

/-- Refutes O38 in its ninth clause: a bit whose condition is listed as of the present cycle is not written at 1 (R17), so where the one bit of
LOOPBACK is listed, RESTART ends the loopback, and a lane that nothing else wants goes OFF. No run leads there, since only STICKY bits have
conditions, but the clause is stated of all states, and so wants the premise that no bit of LANE_CTRL is listed. -/
theorem not_laneBringUp : ¬ Obligations.LaneBringUp := by
  intro h
  obtain ⟨-, -, -, -, -, -, -, -, hrestart⟩ := h loopbackNoted
  obtain ⟨e, hrun, -, hwait, -⟩ := hrestart 0 (by decide +kernel) (by decide +kernel) (by decide +kernel) (by decide +kernel)
  have hexec : exec (.laneRestart 0) loopbackNoted = .next ⟨loopbackRestarted.settle, loopbackNoted.pending⟩ := rfl
  rw [dev_of_exec hexec hrun, Dev.laneState, Dev.fld_settle] at hwait
  exact absurd (loopbackRestarted_off.symm.trans hwait) (by decide)

end Sys2Proof.Machine
end

section
/-! Proofs about the optics: a write of POWER_EN beside a condition noted for it (R17, R774). -/

set_option Elab.async false

namespace Sys2Proof.Machine

/-- The module after reset, POWER_EN of cage 0 listed among the bits whose condition has occurred in the present cycle. -/
def powerEnNoted : State := ⟨({} : Dev).noteCond (HLT_OPT_CTRL 0) 0, []⟩

/-- A write of POWER_EN at 1 leaves it at 0 there (R17). -/
theorem powerEnNoted_written :
    (powerEnNoted.dev.writeItem (HLT_OPT_CTRL 0) (0x48 * 0x10000 + 1)).fld (HLT_OPT_CTRL 0) HLT_OPT_CTRL_POWER_EN = 0 := by decide +kernel

/-- Refutes O16 in its fifth clause: a bit whose condition is listed as of the present cycle is not written at 1 (R17), so where POWER_EN is listed,
a write of 1 leaves it at 0. No run leads there, since only STICKY bits have conditions, but the clause is stated of all states, and so wants the
premise that no bit of HLT_OPT_CTRL is listed. -/
theorem not_optics : ¬ Obligations.Optics := by
  intro h
  obtain ⟨-, -, -, -, hwrite⟩ := h powerEnNoted
  obtain ⟨e, hrun, -, -, hpower, -⟩ := hwrite 0 0x48 (by decide) (by decide) (by decide +kernel)
  have hexec : exec (.powerEnWrite 0 0x48) powerEnNoted =
      .next ⟨(powerEnNoted.dev.writeItem (HLT_OPT_CTRL 0) (0x48 * 0x10000 + 1)).settle, powerEnNoted.pending⟩ := rfl
  rw [dev_of_exec hexec hrun, Dev.fld_settle] at hpower
  exact absurd (powerEnNoted_written.symm.trans hpower) (by decide)

end Sys2Proof.Machine
end

section
/-! Proofs about the chassis chapter's sensors: a commit that runs as a trip ends the module's power. -/

set_option Elab.async false

namespace Sys2Proof.Machine

/-- The module out of S4 with the trip timer of sensor 1 at its end, and a commit of HLT_TRIP, at 0, listed among those that run. -/
def tripCommitting : State :=
  let d := ({} : Dev).startT (tTrip 1) 0
  ⟨{ d with trust := { d.trust with commits := [⟨HLT_TRIP, 0, none⟩] } }, []⟩

/-- The module with the trip of sensor 1 recorded and counted. -/
def tripRecorded : Dev :=
  let d := tripCommitting.dev.dueT (tTrip 1)
  ((d.stick (HLT_SENSOR_STATUS 1) HLT_SENSOR_STATUS_TRIP).putNum HLT_TRIP (d.num (HLT_TEMP 1) % 0x1000000 * 0x100 + 1)).bump HLT_TRIPS 1

/-- The module after the trip. -/
def tripCommitted : Dev :=
  let d := tripRecorded.commitsEnded.powerLeft tripRecorded.commitsEnded.powerCut.linksMoved true (tripCommitting.dev.dueT (tTrip 1)).pwr.handOff
  ((({ d with pwr := { d.pwr with trip := true, tripShow := true, cool := false } }).coolTimer).alertN).crsCheck

theorem tripCommitting_trip : (tripCommitting.dev.thermalTrip 1).crsCheck = tripCommitted := by
  have hruns : tripCommitting.dev.runsT (tTrip 1) = true := by decide +kernel
  have hup : tripRecorded.pwrState ≠ 4 := by decide +kernel
  have hgone (ready : Bool) := tripRecorded.commitsEnded.powerGone_of_idle true ready rfl (by decide +kernel)
  simp only [Dev.thermalTrip, hruns, Bool.not_true, Bool.false_eq_true, if_false]
  rw [← tripRecorded, Dev.enterS4Now_trip hup, hgone, tripCommitted]

/-- The commit has ended after the trip had been recorded (R690). -/
theorem tripCommitted_trip : tripCommitted.num HLT_TRIP = 0 := by decide +kernel

/-- Refutes O11 in its eighth clause: where a commit of HLT_TRIP is listed among those that run, a trip ends it after HLT_TRIP has been written,
and HLT_TRIP takes the value committed. No run leads there, since only Keep items are committed, but the clause is stated of all states, and so
wants the premise that every commit is of a Keep item. -/
theorem not_chassisReadsAndSensors : ¬ Obligations.ChassisReadsAndSensors := by
  intro h
  obtain ⟨-, -, -, -, -, -, -, htrip, -⟩ := h tripCommitting
  obtain ⟨e, hrun, hnum, -⟩ := htrip 0 (by decide +kernel) rfl
  have hexec : exec (.thermalTrip 0) tripCommitting =
      .next ⟨(tripCommitting.dev.thermalTrip 1).crsCheck.settle, tripCommitting.pending⟩ := rfl
  rw [dev_of_exec hexec hrun, Dev.num_settle, tripCommitting_trip, tripCommitted_trip] at hnum
  exact absurd hnum (Nat.succ_ne_zero _).symm

end Sys2Proof.Machine
end

section
/-! Proofs about the starts of the chassis chapter: a commit that runs as the power goes. -/

set_option Elab.async false

namespace Sys2Proof.Machine

/-- The module out of S4 with a commit of PWR_STATUS, at 0, listed among those that run. -/
def statusCommitting : State :=
  let d : Dev := {}
  ⟨{ d with trust := { d.trust with commits := [⟨PWR_STATUS, 0, none⟩] } }, []⟩

/-- The module with both feeds out of range. -/
def feedsOut : Dev := (statusCommitting.dev.feedOut false 0).feedOut true 0

/-- The module after UNDERVOLT. -/
def statusCommitted : Dev :=
  let d := feedsOut.commitsEnded.powerLeft feedsOut.commitsEnded.powerCut.linksMoved true false
  (({ d with pwr := { d.pwr with cause := 4 } }).putNum PWR_LAST_RESET 0x1400000).crsCheck

theorem statusCommitting_undervolt : (statusCommitting.dev.undervolt 0 0).crsCheck = statusCommitted := by
  have hup : feedsOut.pwrState ≠ 4 := by decide +kernel
  have hgone := feedsOut.commitsEnded.powerGone_of_idle true false rfl (by decide +kernel)
  rw [Dev.undervolt, ← feedsOut, Dev.enterS4Now_cause hup (by decide), hgone, statusCommitted]

/-- The commit has ended after the feeds had set their LIVE bits (R690). -/
theorem statusCommitted_feedA : statusCommitted.bit PWR_STATUS PWR_STATUS_FEEDA = false := by decide +kernel

/-- Refutes O15 in its third clause: where a commit of PWR_STATUS is listed among those that run, UNDERVOLT ends it after both feeds have set
their LIVE bits, and FEEDA_LIVE takes the bit of the value committed. No run leads there, since only Keep items are committed, but the clause is
stated of all states, and so wants the premise that every commit is of a Keep item. -/
theorem not_starts : ¬ Obligations.Starts := by
  intro h
  obtain ⟨-, -, hundervolt, -⟩ := h statusCommitting
  obtain ⟨e, hrun, -, -, -, hfeed, -⟩ := hundervolt 0 0 (by decide +kernel)
  have hexec : exec (.undervolt 0 0) statusCommitting =
      .next ⟨(statusCommitting.dev.undervolt 0 0).crsCheck.settle, statusCommitting.pending⟩ := rfl
  rw [dev_of_exec hexec hrun, Dev.bit_settle, statusCommitting_undervolt, statusCommitted_feedA] at hfeed
  exact Bool.false_ne_true hfeed

end Sys2Proof.Machine
end

section
/-! Proofs about the resets of the chassis chapter: a commit that runs as a PATROL reset is recorded (R690, R720). -/

set_option Elab.async false

namespace Sys2Proof.Machine

variable {d : Dev}

/-- What a PATROL reset in S0 clears, before the lanes follow it and the boot ROM is reached (R720). -/
def Dev.patrolDieCleared (d : Dev) (kind : Nat) : Dev :=
  let d1 := { (d.calAbort none).patrolReset with msix := [] }
  ({ d1 with pwr := { d1.pwr with coreOff := d.pwr.coreOff, resetting := kind, heldW := [] } }.setPower 0).opticsRefresh

theorem Dev.patrolDieReset_inService {kind : Nat} (hstate : d.pwrState = 0) (hidle : d.pwr.resetting = 0) :
    d.patrolDieReset kind = (d.patrolDieCleared kind).refreshLanes.romStart := by
  simp [Dev.patrolDieReset, Dev.patrolDieCleared, hstate, hidle]

/-- The module in S0 with MOD_RST_N low and its core package in reset, and with a commit of PWR_LAST_RESET, at 0, listed among those that run. -/
def resetCommitting : State :=
  let d : Dev := {}
  ⟨{ d with pwr := { d.pwr with await := false, modRst := true, coreOff := true }, trust := { d.trust with commits := [⟨PWR_LAST_RESET, 0, none⟩] } }, []⟩

/-- The module as a PATROL reset leaves it, before the lanes follow it and the boot ROM is reached. -/
def patrolCleared : Dev := (resetCommitting.dev.recordReset rkPATROL 0 0).patrolDieCleared rkPATROL

theorem patrolCleared_refreshLanes : patrolCleared.refreshLanes = patrolCleared :=
  Dev.refreshLanes_of_off (by decide +kernel) (by decide +kernel)

theorem resetCommitting_doReset : resetCommitting.dev.doReset rkPATROL 0 0 = patrolCleared.refreshLanes.romStart := by
  have hraised : ¬(3 ≤ resetCommitting.dev.pwrState ∨ resetCommitting.dev.pwr.await ∨
    resetRank rkPATROL ≤ resetRank resetCommitting.dev.pwr.resetting ∨ (rkPATROL = rkDATA_PLANE ∧ resetCommitting.dev.pwrState ≠ 0)) := by decide +kernel
  have hstate : (resetCommitting.dev.recordReset rkPATROL 0 0).pwrState = 0 := by decide +kernel
  have hidle : (resetCommitting.dev.recordReset rkPATROL 0 0).pwr.resetting = 0 := by decide +kernel
  rw [Dev.doReset, if_neg hraised, patrolCleared, ← Dev.patrolDieReset_inService hstate hidle]
  simp

/-- The commit ends after the reset has been recorded (R690, R721). -/
theorem patrolCleared_lastReset : patrolCleared.romStart.crsCheck.num PWR_LAST_RESET = 0 := by decide +kernel

/-- Refutes O14 in its third clause: where a commit of PWR_LAST_RESET is listed among those that run, a PATROL reset ends it after the reset has been
recorded, and PWR_LAST_RESET takes the value committed. No run leads there, since only Keep items are committed, but the clause is stated of all
states, and so wants the premise that every commit is of a Keep item. -/
theorem not_resets : ¬ Obligations.Resets := by
  intro h
  obtain ⟨-, -, hpatrol, -⟩ := h resetCommitting
  obtain ⟨e, hrun, hlast, -⟩ := hpatrol 0 0 (by decide +kernel) rfl rfl
  have hexec : exec (.patrolReset 0 0) resetCommitting =
      .next ⟨(resetCommitting.dev.doReset rkPATROL 0 0).crsCheck.settle, resetCommitting.pending⟩ := rfl
  rw [dev_of_exec hexec hrun, Dev.num_settle, resetCommitting_doReset, patrolCleared_refreshLanes, patrolCleared_lastReset] at hlast
  exact absurd hlast (by decide)

end Sys2Proof.Machine
end

section
/-! Proofs about the fabric's links: a HELLO beside a LIVE bit that ends (R663). -/

set_option Elab.async false

namespace Sys2Proof.Machine

/-- Out of any gap, with Cresor on and node ID 1 configured, the HELLO timer at its end and the one bit of CRS_NODE_ID listed as a LIVE bit
whose second is over. -/
def nodeIdExpiring : State :=
  let d := (((({} : Dev).live GLB_STATE GLB_STATE_GAP false).putNum CRS_CTRL 1).putNum CRS_NODE_ID 1).startT tHello 0
  ⟨{ d with crs := { d.crs with ctrl := 1 }, pulses := [⟨CRS_NODE_ID, 0, 0⟩] }, []⟩

/-- The ID that the parameters give there, and the one that the HELLO takes. -/
theorem nodeIdExpiring_ids : nodeIdExpiring.dev.crsWant = 1 ∧ nodeIdExpiring.dev.helloTx.crs.id = 0 := by decide +kernel

/-- Refutes O41 in its second clause: where the bits that stand for a second list the one bit of CRS_NODE_ID, the end of the HELLO timer clears it,
and the node takes ID 0. No run leads there, since such bits are LIVE bits, but the clause is stated of all states, and so wants the premise
`pulses = []`. -/
theorem not_fabricLinks : ¬ Obligations.FabricLinks := by
  intro h
  obtain ⟨-, hhello, -⟩ := h nodeIdExpiring
  obtain ⟨e, hrun, hid⟩ := hhello (by decide +kernel) (by decide +kernel) rfl
  have hexec : exec .helloTx nodeIdExpiring = .next ⟨nodeIdExpiring.dev.helloTx.settle, nodeIdExpiring.pending⟩ := rfl
  obtain ⟨hwant, htaken⟩ := nodeIdExpiring_ids
  rw [dev_of_exec hexec hrun, Dev.settle_crs, htaken, hwant] at hid
  exact absurd hid (by decide)

end Sys2Proof.Machine
end

section
/-! Proofs about the state after reset (R625, R643). -/

set_option Elab.async false

namespace Sys2Proof.Machine

/-- The items that show other state agree with it after reset: each is at its reset value, and what it shows has not begun. -/
theorem reset_shows : State.reset.dev.Shows where
  bankStatus := by decide +kernel
  bankId0 := by decide +kernel
  bankId1 := by decide +kernel
  exactUsed := by decide +kernel
  armed := by decide +kernel
  slewLive := by decide +kernel
  replicaLive := by decide +kernel

theorem reset_get (p : Nat) : State.reset.dev.get p = itemDefault p := by
  have hparams : State.reset.dev.params = [] := rfl
  simp [Dev.get, hparams]

theorem reset_ring (r : Nat) : State.reset.dev.ring r = {} := by
  have hrings : State.reset.dev.host.rings = [] := rfl
  simp [Dev.ring, hrings]

theorem reset_ch (c : Nat) : State.reset.dev.ch c = {} := by
  have hdma : State.reset.dev.dma = [] := rfl
  simp [Dev.ch, hdma]

/-- Settles O4: the tables of the module after reset are empty, and each clause is what an empty table reads as. -/
theorem resetState : Obligations.ResetState := by
  refine ⟨rfl, reset_shows, rfl, reset_get, fun r => ?_, fun c => ?_, rfl⟩
  · rw [reset_ring]
    exact ⟨rfl, by decide⟩
  · rw [reset_ch]

end Sys2Proof.Machine
end

section
/-! Proofs about the messages of the fabric as they come in (R657 to R669, R723). -/

set_option Elab.async false

namespace Sys2Proof.Machine

/-! ### Items that messages do not count in -/

/-- A counter of the fabric: an item of class 0x18 from item 0x40 on. -/
def crsCounter (q : Nat) : Prop := idClass q = 0x18 ∧ 0x40 ≤ idItem q

theorem crsCounter_pid (i n : Nat) : crsCounter (pid 0x18 i n) ↔ 0x40 ≤ n % 0x1000 := by
  simp [crsCounter]

theorem crsCounter_rx : crsCounter CRS_RX := by simp [crsCounter_pid]
theorem crsCounter_linkRx (i : Nat) : crsCounter (CRS_LINK_RX i) := by simp [crsCounter_pid]

variable {d e : Dev}

/-- The link states and settings of the fabric are no counters, and neither are the states of ports and trunks. -/
theorem Dev.adj_congr (h : ∀ q, ¬ crsCounter q → e.get q = d.get q) (i : Nat) : e.adj i = d.adj i := by
  have hstate : e.get (CRS_LINK_STATE (crsInst i)) = d.get (CRS_LINK_STATE (crsInst i)) := h _ (by simp [crsCounter_pid])
  simp only [Dev.adj, Dev.num_congr hstate]

theorem Dev.crsLinkUp_congr (h : ∀ q, ¬ crsCounter q → e.get q = d.get q) (i : Nat) : e.crsLinkUp i = d.crsLinkUp i := by
  have hctrl : e.get (CRS_LINK_CTRL (crsInst i)) = d.get (CRS_LINK_CTRL (crsInst i)) := h _ (by simp [crsCounter_pid])
  have hport : e.get (MAC_STATUS i) = d.get (MAC_STATUS i) := h _ (by simp [crsCounter])
  have htrunk : e.get (TRK_STATUS (i - 0x100)) = d.get (TRK_STATUS (i - 0x100)) := h _ (by simp [crsCounter])
  simp only [Dev.crsLinkUp, Dev.lpUp, Dev.lpState, Dev.trkState, Dev.fld_congr hctrl, Dev.fld_congr hport, Dev.fld_congr htrunk]

theorem Dev.route_congr (h : ∀ q, ¬ crsCounter q → e.get q = d.get q) (hlinks : e.crs.links = d.crs.links)
    (hroutes : e.crs.routes = d.crs.routes) (n : Nat) : e.route n = d.route n := by
  have hfull : e.fullLinks = d.fullLinks := by
    simp only [Dev.fullLinks, hlinks, Dev.adj_congr h, Dev.crsLinkUp_congr h]
  simp only [Dev.route, hroutes, hfull]

/-! ### The message at the head of the inbox -/

/-- Eodin, with Cresor on and outside of any gap, is to take message `t` off a link that carries Cresor. -/
structure Dev.CrsHears (d : Dev) (t : Term) (r : List Term) : Prop where
  gap : d.bit GLB_STATE GLB_STATE_GAP = false
  on : d.crsOn = true
  inbox : d.net.inbox = t :: r
  kind : t.kind = 3
  up : d.crsLinkUp t.lp = true

/-- The message taken, and counted on its link (R657). -/
def Dev.crsHeard (d : Dev) (t : Term) (r : List Term) : Dev := (d.setInbox r).bump (CRS_LINK_RX (crsInst t.lp)) 1

/-- A message accepted: it is counted, and its source's window is `w` (R662). -/
def Dev.crsAccept (d : Dev) (m : List Byte) (w : CrsWin) : Dev :=
  { d.bump CRS_RX 1 with crs := { d.crs with wins := Tbl.set d.crs.wins none (cmSrc m) (some w) } }

/-- An accepted message delivered: kept, flooded or forwarded (R667 to R669). -/
def Dev.crsDeliver (d : Dev) (i perm : Nat) (m : List Byte) : Dev :=
  if cmType m = csHELLO then d.crsKeep i perm m
  else if cmDst m = 0xFFFF then
    let e := if cmType m = csLSR then d else d.crsForward m (fun e x => e.crsFlood (some i) x)
    if d.crs.id = 0 then e else e.crsKeep i perm m
  else if cmDst m = d.crs.id ∧ cmDst m ≠ 0 then d.crsKeep i perm m
  else match d.route (cmDst m) with
    | none => d.bump CRS_NO_ROUTE 1
    | some r => d.crsForward m (fun e x => e.crsPut r.link x)

/-- What becomes of a message heard (R660 to R662). -/
def Dev.crsJudged (d : Dev) (i : Nat) (m : List Byte) : Dev :=
  if !crsForm m then d.bump CRS_BAD 1
  else match d.crsAuth m with
    | none => (d.bump CRS_AUTH_FAIL 1).pulse CRS_STATUS CRS_STATUS_AUTH
    | some perm =>
      if cmType m ≠ csHELLO ∧ d.adj i ≠ adFULL then d
      else
        let j := crsJudge (Tbl.get d.crs.wins none (cmSrc m)) (cmBoot m) (cmSeq m)
        if j.1 = 1 then d.bump CRS_REPLAY 1
        else if j.1 = 2 then d.bump CRS_DUP 1
        else (d.crsAccept m j.2).crsDeliver i perm m

variable {t : Term} {r : List Term}

/-- CRESOR_MESSAGE_RX takes the first message, and judges it. -/
theorem Dev.cresorRx_head (h : d.CrsHears t r) : d.cresorRx = (d.crsHeard t r).crsJudged t.lp t.bytes := by
  have hfind : d.net.inbox.find? (fun x => x.kind == 3) = some t := by simp [h.inbox, h.kind]
  have herase : d.net.inbox.erase t = r := by simp [h.inbox]
  have hopen : ¬((!(d.setInbox r).crsOn) = true ∨ (!(d.setInbox r).crsLinkUp t.lp) = true) := by
    have hon : (d.setInbox r).crsOn = true := h.on
    have hup : (d.setInbox r).crsLinkUp t.lp = true := h.up
    simp [hon, hup]
  rw [Dev.cresorRx, if_neg (by simp [h.gap]), hfind]
  dsimp only
  rw [herase]
  exact (if_neg hopen).trans rfl

/-! ### What a message counts in -/

theorem not_followItem_of_fabric {q : Nat} (h : idClass q = 0x18) : q ∉ followItems := fun hq =>
  (by decide : ∀ p ∈ followItems, idClass p ≠ 0x18) q hq h

/-- The counter of a link is none of the node's. -/
theorem linkRx_ne {i : Nat} (hi : i < 0x102) (n : Nat) : CRS_LINK_RX (crsInst i) ≠ pid 0x18 0 n := by
  simp only [CRS_LINK_RX, crsInst, pid]
  split <;> omega

section Heard

variable (hlp : t.lp < 0x102)
include hlp

/-- A count of the node beside the one of the link. -/
theorem Dev.num_crsHeard_bump (n : Nat) :
    ((d.crsHeard t r).bump (pid 0x18 0 n) 1).num (CRS_LINK_RX (crsInst t.lp)) = min (d.num (CRS_LINK_RX (crsInst t.lp)) + 1) (2 ^ 96 - 1) ∧
      ((d.crsHeard t r).bump (pid 0x18 0 n) 1).num (pid 0x18 0 n) = min (d.num (pid 0x18 0 n) + 1) (2 ^ 96 - 1) := by
  constructor
  · rw [Dev.num_congr (Dev.get_bump_ne _ _ (linkRx_ne hlp n))]
    exact Dev.num_bump_same _ _ _
  · rw [Dev.num_bump_same, Dev.crsHeard, Dev.num_congr (Dev.get_bump_ne _ _ (linkRx_ne hlp n).symm)]
    rfl

/-- A module that a message leaves with one more count of the node, told by what `e` shares with it. -/
theorem Dev.counts_crsHeard {n : Nat} (hlink : e.get (CRS_LINK_RX (crsInst t.lp)) = ((d.crsHeard t r).bump (pid 0x18 0 n) 1).get (CRS_LINK_RX (crsInst t.lp)))
    (hnode : e.get (pid 0x18 0 n) = ((d.crsHeard t r).bump (pid 0x18 0 n) 1).get (pid 0x18 0 n)) :
    e.settle.num (CRS_LINK_RX (crsInst t.lp)) = min (d.num (CRS_LINK_RX (crsInst t.lp)) + 1) (2 ^ 96 - 1) ∧
      e.settle.num (pid 0x18 0 n) = min (d.num (pid 0x18 0 n) + 1) (2 ^ 96 - 1) := by
  obtain ⟨hl, hn⟩ := d.num_crsHeard_bump hlp (r := r) n
  rw [Dev.num_settle _ (not_followItem_of_fabric (idClass_pid _ _ _)), Dev.num_settle _ (not_followItem_of_fabric (idClass_pid _ _ _)),
    Dev.num_congr hlink, Dev.num_congr hnode]
  exact ⟨hl, hn⟩

end Heard

/-! ### The outcomes of a message (R660 to R662, R669) -/

section Judged

variable {i perm : Nat} {m : List Byte}

theorem Dev.crsJudged_bad (hform : crsForm m = false) : d.crsJudged i m = d.bump CRS_BAD 1 := by simp [Dev.crsJudged, hform]

variable (hform : crsForm m = true)
include hform

theorem Dev.crsJudged_unauthentic (hauth : d.crsAuth m = none) :
    d.crsJudged i m = (d.bump CRS_AUTH_FAIL 1).pulse CRS_STATUS CRS_STATUS_AUTH := by
  simp [Dev.crsJudged, hform, hauth]

variable (hauth : d.crsAuth m = some perm) (hlink : cmType m = csHELLO ∨ d.adj i = adFULL)
include hauth hlink

/-- A message that its link carries is judged by its source's window. -/
theorem Dev.crsJudged_authentic : d.crsJudged i m =
    if (crsJudge (Tbl.get d.crs.wins none (cmSrc m)) (cmBoot m) (cmSeq m)).1 = 1 then d.bump CRS_REPLAY 1
    else if (crsJudge (Tbl.get d.crs.wins none (cmSrc m)) (cmBoot m) (cmSeq m)).1 = 2 then d.bump CRS_DUP 1
    else (d.crsAccept m (crsJudge (Tbl.get d.crs.wins none (cmSrc m)) (cmBoot m) (cmSeq m)).2).crsDeliver i perm m := by
  have hcarried : ¬(cmType m ≠ csHELLO ∧ d.adj i ≠ adFULL) := by simpa only [not_and_or, not_not] using hlink
  simp only [Dev.crsJudged, hform, hauth, Bool.not_true, Bool.false_eq_true, if_false, if_neg hcarried]

end Judged

/-- A message accepted off its link. -/
def Dev.crsAccepted (d : Dev) (t : Term) (r : List Term) : Dev :=
  (d.crsHeard t r).crsAccept t.bytes (crsJudge (Tbl.get d.crs.wins none (cmSrc t.bytes)) (cmBoot t.bytes) (cmSeq t.bytes)).2

@[simp] theorem Dev.crsHeard_inbox : (d.crsHeard t r).net.inbox = r := rfl
@[simp] theorem Dev.crsHeard_crs : (d.crsHeard t r).crs = d.crs := rfl
@[simp] theorem Dev.crsAccepted_inbox : (d.crsAccepted t r).net.inbox = r := rfl
@[simp] theorem Dev.crsAccepted_id : (d.crsAccepted t r).crs.id = d.crs.id := rfl
@[simp] theorem Dev.crsAccepted_kept : (d.crsAccepted t r).crs.inbox = d.crs.inbox := rfl

theorem Dev.get_crsAccepted (q : Nat) : (d.crsAccepted t r).get q = ((d.crsHeard t r).bump CRS_RX 1).get q := by
  have hparams : (d.crsAccepted t r).params = ((d.crsHeard t r).bump CRS_RX 1).params := by rw [Dev.crsAccepted, Dev.crsAccept]
  exact Dev.get_congr hparams q

theorem Dev.route_crsAccepted (n : Nat) : (d.crsAccepted t r).route n = d.route n := by
  have hget : ∀ q, ¬ crsCounter q → (d.crsAccepted t r).get q = d.get q := by
    intro q hq
    have hrx : q ≠ CRS_RX := fun h => hq (h ▸ crsCounter_rx)
    have hlink : q ≠ CRS_LINK_RX (crsInst t.lp) := fun h => hq (h ▸ crsCounter_linkRx _)
    rw [Dev.get_crsAccepted, Dev.get_bump_ne _ _ hrx, Dev.crsHeard, Dev.get_bump_ne _ _ hlink]
    rfl
  have hlinks : (d.crsAccepted t r).crs.links = d.crs.links := rfl
  have hroutes : (d.crsAccepted t r).crs.routes = d.crs.routes := rfl
  exact Dev.route_congr hget hlinks hroutes n

/-- What is heard is judged by the keys, the adjacency and the window that stand. -/
theorem Dev.crsJudged_crsHeard {perm : Nat} (hform : crsForm t.bytes = true) (hauth : d.crsAuth t.bytes = some perm)
    (hfull : cmType t.bytes = csHELLO ∨ d.adj t.lp = adFULL) :
    (d.crsHeard t r).crsJudged t.lp t.bytes =
      if (crsJudge (Tbl.get d.crs.wins none (cmSrc t.bytes)) (cmBoot t.bytes) (cmSeq t.bytes)).1 = 1 then (d.crsHeard t r).bump CRS_REPLAY 1
      else if (crsJudge (Tbl.get d.crs.wins none (cmSrc t.bytes)) (cmBoot t.bytes) (cmSeq t.bytes)).1 = 2 then (d.crsHeard t r).bump CRS_DUP 1
      else (d.crsAccepted t r).crsDeliver t.lp perm t.bytes := by
  have hget {q : Nat} (hq : ¬ crsCounter q) : (d.crsHeard t r).get q = d.get q := Dev.get_bump_ne _ _ fun h => hq (h ▸ crsCounter_linkRx _)
  exact Dev.crsJudged_authentic (d := d.crsHeard t r) hform hauth (hfull.imp_right (Dev.adj_congr (fun _ => hget) _).trans)

section Deliver

variable {i perm : Nat} {m : List Byte}

/-- A HELLO, or a message to this node, is kept. -/
theorem Dev.crsDeliver_kept (h : cmType m = csHELLO ∨ (cmDst m = d.crs.id ∧ d.crs.id ≠ 0 ∧ d.crs.id ≠ 0xFFFF)) :
    d.crsDeliver i perm m = d.crsKeep i perm m := by
  rcases h with hello | ⟨hdst, hset, hone⟩
  · simp [Dev.crsDeliver, hello]
  · simp [Dev.crsDeliver, hdst, hset, hone]

theorem Dev.crsDeliver_unrouted (htype : cmType m ≠ csHELLO) (hall : cmDst m ≠ 0xFFFF) (hdst : cmDst m ≠ d.crs.id)
    (hroute : d.route (cmDst m) = none) : d.crsDeliver i perm m = d.bump CRS_NO_ROUTE 1 := by
  simp [Dev.crsDeliver, htype, hall, hdst, hroute]

end Deliver

/-! ### RESET (R671, R672, R723) -/

/-- The message of a type at the head of what waits to be consumed. -/
theorem Dev.takeCrs_head {i perm : Nat} {m : List Byte} {rest : List (Nat × Nat × List Byte)} {typ : Nat} (hin : d.crs.inbox = (i, perm, m) :: rest)
    (htype : cmType m = typ) : d.takeCrs typ = ({ d with crs := { d.crs with inbox := rest } }, some (i, perm, m)) := by
  simp [Dev.takeCrs, hin, htype]

theorem changes_crs (c : CrsSt) : Changes [.crs] [] d { d with crs := c } := by
  refine ⟨fun q hq => ?_, fun _ _ _ => rfl⟩
  cases q with
  | crs => simp at hq
  | msix => exact ⟨rfl, rfl⟩
  | _ => rfl

section Reset

variable {i perm : Nat} {m : List Byte} {rest : List (Nat × Nat × List Byte)} (hin : d.crs.inbox = (i, perm, m) :: rest) (htype : cmType m = csRESET)
include hin htype

theorem Dev.resetMessage_permitted (hmay : d.crsMay perm 4 = true)
    (hkind : [rkMODULE, rkDATA_PLANE, rkPATROL].contains (byteAt (cmPay m) 0) = true) :
    d.resetMessage = { d with
      crs := { d.crs with inbox := rest }
      pwr := { d.pwr with crsReset := d.pwr.crsReset ++ [(byteAt (cmPay m) 0, cmSrc m, d.tk.osc + 10 * ms1)] } } := by
  have hkept : Dev.crsMay { d with crs := { d.crs with inbox := rest } } perm 4 = true := hmay
  have hone : ¬(byteAt (cmPay m) 0 ≠ rkMODULE ∧ byteAt (cmPay m) 0 ≠ rkDATA_PLANE ∧ byteAt (cmPay m) 0 ≠ rkPATROL) := by
    rintro ⟨h3, h5, h6⟩
    simp [h3, h5, h6] at hkind
  simp only [Dev.resetMessage, Dev.takeCrs_head hin htype, hkept, Bool.not_true, Bool.false_eq_true, if_false, if_neg hone]

theorem Dev.resetMessage_refused (hmay : d.crsMay perm 4 = false) : d.resetMessage = { d with crs := { d.crs with inbox := rest } } := by
  have hkept : Dev.crsMay { d with crs := { d.crs with inbox := rest } } perm 4 = false := hmay
  simp only [Dev.resetMessage, Dev.takeCrs_head hin htype, hkept, Bool.not_false, if_true]

end Reset

/-! ### The clauses -/

/-- CRESOR_MESSAGE_RX, told by what the judgement of its message makes of the module. -/
theorem answers_cresorRx {s : State} {t : Term} {r : List Term} {P : Dev → Prop} {e : Dev} (h : s.dev.CrsHears t r)
    (hj : (s.dev.crsHeard t r).crsJudged t.lp t.bytes = e) (hP : P e.settle) :
    ∃ e, exec .cresorMessageRx s = .next ⟨e, s.pending⟩ ∧ P e :=
  answers_run (f := fun d => d.cresorRx) rfl (by rw [Dev.cresorRx_head h, hj]; exact hP)

section Clauses

variable {s : State} {perm : Nat} (h : s.dev.CrsHears t r) (hlp : t.lp < 0x102) (hform : crsForm t.bytes = true)
include h hlp

theorem cresorMessageRx_bad (hbad : crsForm t.bytes = false) : ∃ e, exec .cresorMessageRx s = .next ⟨e, s.pending⟩ ∧ e.net.inbox = r ∧
    e.num (CRS_LINK_RX (crsInst t.lp)) = min (s.dev.num (CRS_LINK_RX (crsInst t.lp)) + 1) (2 ^ 96 - 1) ∧
    e.num CRS_BAD = min (s.dev.num CRS_BAD + 1) (2 ^ 96 - 1) :=
  answers_cresorRx h (Dev.crsJudged_bad hbad) ⟨by simp, Dev.counts_crsHeard hlp rfl rfl⟩

include hform

theorem cresorMessageRx_unauthentic (hauth : s.dev.crsAuth t.bytes = none) : ∃ e, exec .cresorMessageRx s = .next ⟨e, s.pending⟩ ∧
    e.net.inbox = r ∧ e.num (CRS_LINK_RX (crsInst t.lp)) = min (s.dev.num (CRS_LINK_RX (crsInst t.lp)) + 1) (2 ^ 96 - 1) ∧
    e.num CRS_AUTH_FAIL = min (s.dev.num CRS_AUTH_FAIL + 1) (2 ^ 96 - 1) ∧ e.bit CRS_STATUS (CRS_STATUS_AUTH + 1) = true := by
  have hne (q : Nat) (hq : q ≠ CRS_STATUS) := Dev.get_pulse_ne ((s.dev.crsHeard t r).bump CRS_AUTH_FAIL 1) CRS_STATUS_AUTH hq
  obtain ⟨hlink, hnode⟩ := Dev.counts_crsHeard hlp (hne _ (linkRx_ne hlp 1)) (hne _ (by decide))
  refine answers_cresorRx h (Dev.crsJudged_unauthentic hform hauth) ⟨by simp, hlink, hnode, ?_⟩
  rw [Dev.bit_settle]
  exact Dev.bit_pulse_sticky _ _ _

variable (hauth : s.dev.crsAuth t.bytes = some perm) (hfull : cmType t.bytes = csHELLO ∨ s.dev.adj t.lp = adFULL)
include hauth hfull

theorem cresorMessageRx_replay (hj : (crsJudge (Tbl.get s.dev.crs.wins none (cmSrc t.bytes)) (cmBoot t.bytes) (cmSeq t.bytes)).1 = 1) :
    ∃ e, exec .cresorMessageRx s = .next ⟨e, s.pending⟩ ∧ e.net.inbox = r ∧ e.crs.inbox = s.dev.crs.inbox ∧
    e.num (CRS_LINK_RX (crsInst t.lp)) = min (s.dev.num (CRS_LINK_RX (crsInst t.lp)) + 1) (2 ^ 96 - 1) ∧
    e.num CRS_REPLAY = min (s.dev.num CRS_REPLAY + 1) (2 ^ 96 - 1) :=
  answers_cresorRx h ((Dev.crsJudged_crsHeard hform hauth hfull).trans (if_pos hj)) ⟨by simp, by simp, Dev.counts_crsHeard hlp rfl rfl⟩

theorem cresorMessageRx_duplicate (hj : (crsJudge (Tbl.get s.dev.crs.wins none (cmSrc t.bytes)) (cmBoot t.bytes) (cmSeq t.bytes)).1 = 2) :
    ∃ e, exec .cresorMessageRx s = .next ⟨e, s.pending⟩ ∧ e.net.inbox = r ∧ e.crs.inbox = s.dev.crs.inbox ∧
    e.num (CRS_LINK_RX (crsInst t.lp)) = min (s.dev.num (CRS_LINK_RX (crsInst t.lp)) + 1) (2 ^ 96 - 1) ∧
    e.num CRS_DUP = min (s.dev.num CRS_DUP + 1) (2 ^ 96 - 1) := by
  have hout := (Dev.crsJudged_crsHeard (r := r) hform hauth hfull).trans ((if_neg (by rw [hj]; decide)).trans (if_pos hj))
  exact answers_cresorRx h hout ⟨by simp, by simp, Dev.counts_crsHeard hlp rfl rfl⟩

variable (hj : (crsJudge (Tbl.get s.dev.crs.wins none (cmSrc t.bytes)) (cmBoot t.bytes) (cmSeq t.bytes)).1 = 0)
include hj

omit h hlp in
theorem Dev.crsJudged_accepted : (s.dev.crsHeard t r).crsJudged t.lp t.bytes = (s.dev.crsAccepted t r).crsDeliver t.lp perm t.bytes := by
  rw [Dev.crsJudged_crsHeard hform hauth hfull, if_neg (by rw [hj]; decide), if_neg (by rw [hj]; decide)]

theorem cresorMessageRx_kept (hhere : cmType t.bytes = csHELLO ∨ (cmDst t.bytes = s.dev.crs.id ∧ s.dev.crs.id ≠ 0 ∧ s.dev.crs.id ≠ 0xFFFF)) :
    ∃ e, exec .cresorMessageRx s = .next ⟨e, s.pending⟩ ∧ e.net.inbox = r ∧ e.crs.inbox = s.dev.crs.inbox ++ [(t.lp, perm, t.bytes)] ∧
    e.num (CRS_LINK_RX (crsInst t.lp)) = min (s.dev.num (CRS_LINK_RX (crsInst t.lp)) + 1) (2 ^ 96 - 1) ∧
    e.num CRS_RX = min (s.dev.num CRS_RX + 1) (2 ^ 96 - 1) := by
  rw [← Dev.crsAccepted_id (t := t) (r := r)] at hhere
  have hout := (Dev.crsJudged_accepted hform hauth hfull hj).trans (Dev.crsDeliver_kept hhere)
  have hparams : ((s.dev.crsAccepted t r).crsKeep t.lp perm t.bytes).params = (s.dev.crsAccepted t r).params := by rw [Dev.crsKeep]
  have hget (q : Nat) := (Dev.get_congr hparams q).trans (Dev.get_crsAccepted q)
  exact answers_cresorRx h hout ⟨by simp [Dev.crsKeep], by simp [Dev.crsKeep], Dev.counts_crsHeard hlp (hget _) (hget _)⟩

theorem cresorMessageRx_unrouted (htype : cmType t.bytes ≠ csHELLO) (hall : cmDst t.bytes ≠ 0xFFFF) (hdst : cmDst t.bytes ≠ s.dev.crs.id)
    (hroute : s.dev.route (cmDst t.bytes) = none) : ∃ e, exec .cresorMessageRx s = .next ⟨e, s.pending⟩ ∧ e.net.inbox = r ∧
    e.crs.inbox = s.dev.crs.inbox ∧ e.num CRS_RX = min (s.dev.num CRS_RX + 1) (2 ^ 96 - 1) ∧
    e.num CRS_NO_ROUTE = min (s.dev.num CRS_NO_ROUTE + 1) (2 ^ 96 - 1) := by
  have hnone : (s.dev.crsAccepted t r).route (cmDst t.bytes) = none := by rw [Dev.route_crsAccepted, hroute]
  rw [← Dev.crsAccepted_id (t := t) (r := r)] at hdst
  have hout := (Dev.crsJudged_accepted hform hauth hfull hj).trans (Dev.crsDeliver_unrouted htype hall hdst hnone)
  refine answers_cresorRx h hout ⟨by simp, by simp, ?_, ?_⟩
  · rw [Dev.num_settle, Dev.num_congr (Dev.get_bump_ne _ _ (by decide)), Dev.num_congr (Dev.get_crsAccepted _)]
    exact (Dev.num_crsHeard_bump hlp 0x41).2
  · rw [Dev.num_settle, Dev.num_bump_same, Dev.num_congr (Dev.get_crsAccepted _), Dev.num_congr (Dev.get_bump_ne _ _ (by decide)), Dev.crsHeard,
      Dev.num_congr (Dev.get_bump_ne _ _ (linkRx_ne hlp 0x47).symm)]
    rfl

end Clauses

theorem resetMessageRx_permitted {s : State} {i perm : Nat} {m : List Byte} {rest : List (Nat × Nat × List Byte)}
    (hin : s.dev.crs.inbox = (i, perm, m) :: rest) (htype : cmType m = csRESET) (hmay : s.dev.crsMay perm 4 = true)
    (hkind : [rkMODULE, rkDATA_PLANE, rkPATROL].contains (byteAt (cmPay m) 0) = true) :
    ∃ e, exec .resetMessageRx s = .next ⟨e, s.pending⟩ ∧ e.crs.inbox = rest ∧
    e.pwr.crsReset = s.dev.pwr.crsReset ++ [(byteAt (cmPay m) 0, cmSrc m, s.dev.tk.osc + 10 * ms1)] :=
  answers_run (f := fun d => d.resetMessage) rfl (by
    rw [Dev.resetMessage_permitted hin htype hmay hkind, Dev.settle_crs, Dev.settle_pwr]
    exact ⟨rfl, rfl⟩)

theorem resetMessageRx_refused {s : State} {i perm : Nat} {m : List Byte} {rest : List (Nat × Nat × List Byte)}
    (hin : s.dev.crs.inbox = (i, perm, m) :: rest) (htype : cmType m = csRESET) (hmay : s.dev.crsMay perm 4 = false) :
    ∃ e, exec .resetMessageRx s = .next ⟨e, s.pending⟩ ∧ e.crs.inbox = rest ∧ e.pwr = s.dev.pwr ∧ Changes [.crs] [] s.dev e :=
  answers_run (f := fun d => d.resetMessage) rfl (by
    rw [Dev.resetMessage_refused hin htype hmay, Dev.settle_crs, Dev.settle_pwr]
    exact ⟨rfl, rfl, changes_settle (changes_crs _)⟩)

/-- Settles O42, by the outcome of the judgement of the message that is taken. -/
theorem fabricMessages : Obligations.FabricMessages := fun _ =>
  ⟨fun _ _ hgap hon hin hkind hlp hup => cresorMessageRx_bad ⟨hgap, hon, hin, hkind, hup⟩ hlp,
    fun _ _ hgap hon hin hkind hlp hup => cresorMessageRx_unauthentic ⟨hgap, hon, hin, hkind, hup⟩ hlp,
    fun _ _ _ hgap hon hin hkind hlp hup => cresorMessageRx_replay ⟨hgap, hon, hin, hkind, hup⟩ hlp,
    fun _ _ _ hgap hon hin hkind hlp hup => cresorMessageRx_duplicate ⟨hgap, hon, hin, hkind, hup⟩ hlp,
    fun _ _ _ hgap hon hin hkind hlp hup => cresorMessageRx_kept ⟨hgap, hon, hin, hkind, hup⟩ hlp,
    fun _ _ _ hgap hon hin hkind hlp hup => cresorMessageRx_unrouted ⟨hgap, hon, hin, hkind, hup⟩ hlp,
    fun _ _ _ _ => resetMessageRx_permitted, fun _ _ _ _ => resetMessageRx_refused⟩

end Sys2Proof.Machine
end

section
/-! Proofs about the sweeps: a run behind the one that ends whose number no sweep has (R591, R609). -/

set_option Elab.async false

namespace Sys2Proof.Machine

/-- The module after reset, sweep 0 about to read its only ID, the one behind it in the queue having a number whose CNT_SWEEP_LAST would be
CNT_STATUS. -/
def sweepBehind : State :=
  ⟨{ ({} : Dev) with
      obs := { sweeps := [(0, some ⟨0x31, [CNT_STATUS]⟩)], runs := [{ sweep := 0, owner := none }, { sweep := 0xF81, owner := none }] } }, []⟩

/-- SWEEP_STICKY there once the sweep has ended and the next one has begun. -/
theorem sweepBehind_read : sweepBehind.dev.sweepRead.ipfixExport.bit CNT_STATUS (CNT_STATUS_SWEEP + 1) = false := by decide +kernel

/-- Refutes O48 in its last clause: the run behind the one that ends begins with it, and where its number is one that no sweep has, the item it shows
itself in is CNT_STATUS, whose SWEEP_STICKY goes to 0. No run leads there, since a sweep's number is below 64, but the clause is stated of all
states, and so wants the premise that those of `rest` are. -/
theorem not_countersAndSweeps : ¬ Obligations.CountersAndSweeps := by
  intro h
  obtain ⟨-, -, -, -, -, hlast⟩ := h sweepBehind
  obtain ⟨e, hrun, -, hsticky⟩ := hlast _ _ _ rfl (by decide) rfl rfl
  have hexec : exec .sweepRead sweepBehind = .next ⟨sweepBehind.dev.sweepRead.ipfixExport.settle, sweepBehind.pending⟩ := rfl
  rw [dev_of_exec hexec hrun, Dev.bit_settle, sweepBehind_read] at hsticky
  exact Bool.false_ne_true hsticky

end Sys2Proof.Machine
end

section
/-! Proofs about what Patrol sends: the answers of carried commands and the IPFIX messages leave the trust state, the items of the
Keep store and the timer of the templates as they are (R604, R671, R689). -/

set_option Elab.async false

namespace Sys2Proof.Machine

/-! ### What no message counts in -/

/-- Items of the time-protocol engine, of trust and of the chassis, and the fabric's two Keep items: nothing sent counts in one of them. -/
def quietItem (q : Nat) : Bool := [0x05, 0x19, 0x1A].contains (idClass q) || (idClass q == 0x18 && [2, 3].contains (idItem q))

@[simp] theorem quietItem_pid (c i n : Nat) :
    quietItem (pid c i n) = ([0x05, 0x19, 0x1A].contains c || (c == 0x18 && [2, 3].contains (n % 0x1000))) := by
  simp only [quietItem, idClass_pid, idItem_pid]

theorem ne_of_quietItem {p q : Nat} (hq : quietItem q = true) (hp : quietItem p = false) : q ≠ p := by
  rintro rfl
  rw [hp] at hq
  exact Bool.false_ne_true hq

/-- The trust state, the deadline of the IPFIX templates, and those items. -/
@[ext] structure QuietView where
  trust : TrustSt
  refresh : Option Nat
  items : Nat → Wide

def Dev.quietView (d : Dev) : QuietView where
  trust := d.trust
  refresh := Tbl.get d.net.timers none tIpfix
  items q := if quietItem q then d.get q else 0

variable (d : Dev)

theorem Dev.quietView_congr {d e : Dev} (htrust : e.trust = d.trust) (htimers : e.net.timers = d.net.timers)
    (hitems : ∀ q, quietItem q = true → e.get q = d.get q) : e.quietView = d.quietView := by
  ext1
  · exact htrust
  · simp only [Dev.quietView, htimers]
  · funext q
    by_cases hq : quietItem q <;> simp [Dev.quietView, hq, hitems]

theorem Dev.get_of_quietView {d e : Dev} (h : e.quietView = d.quietView) {q : Nat} (hq : quietItem q = true) : e.get q = d.get q := by
  have := congrFun (congrArg QuietView.items h) q
  simpa [Dev.quietView, hq] using this

section Items

variable {p : Nat} (h : quietItem p = false)
include h

@[simp] theorem Dev.quietView_put (v : Wide) : (d.put p v).quietView = d.quietView :=
  Dev.quietView_congr rfl rfl fun _ hq => d.get_put_ne v (ne_of_quietItem hq h)
@[simp] theorem Dev.quietView_setFld (f : Fld) (n : Nat) : (d.setFld p f n).quietView = d.quietView := d.quietView_put h _
@[simp] theorem Dev.quietView_putNum (n : Nat) : (d.putNum p n).quietView = d.quietView := d.quietView_put h _
@[simp] theorem Dev.quietView_bump (n : Nat) : (d.bump p n).quietView = d.quietView := d.quietView_put h _
@[simp] theorem Dev.quietView_live (b : Nat) (v : Bool) : (d.live p b v).quietView = d.quietView := d.quietView_put h _
@[simp] theorem Dev.quietView_liveEdge (b : Nat) (v : Bool) : (d.liveEdge p b v).quietView = d.quietView :=
  Dev.quietView_congr (by simp) (by simp) fun _ hq => d.get_liveEdge_ne b v (ne_of_quietItem hq h)
@[simp] theorem Dev.quietView_pulse (b : Nat) : (d.pulse p b).quietView = d.quietView :=
  Dev.quietView_congr (by simp) (by simp) fun _ hq => d.get_pulse_ne b (ne_of_quietItem hq h)

end Items

@[simp] theorem Dev.quietView_signal (fn vec : Nat) : (d.signal fn vec).quietView = d.quietView :=
  Dev.quietView_congr (by simp) (by simp) fun _ _ => d.get_signal fn vec _
@[simp] theorem Dev.quietView_took : d.took.quietView = d.quietView := rfl

/-! ### Copies and records (R471, R485, R597 to R600) -/

@[simp] theorem Dev.quietView_setQueue (q : Nat) (l : List Copy) : (d.setQueue q l).quietView = d.quietView :=
  (Dev.quietView_putNum _ (by simp) _).trans rfl

@[simp] theorem Dev.quietView_headroom (kind : Nat) (up : Bool) : (d.headroom kind up).quietView = d.quietView := by
  unfold Dev.headroom
  split_ifs <;> rfl

@[simp] theorem Dev.quietView_toDma (ch : Nat) (r : Rec) : (d.toDma ch r).1.quietView = d.quietView := by
  unfold Dev.toDma
  split <;> rfl

@[simp] theorem Dev.quietView_toEodin (r : Rec) : (d.toEodin r).1.quietView = d.quietView := by
  unfold Dev.toEodin
  extract_lets s n
  split
  · rfl
  · split
    · simp
    · rfl

@[simp] theorem Dev.quietView_emitPostcard (b : List Byte) : (d.emitPostcard b).quietView = d.quietView := by
  unfold Dev.emitPostcard
  extract_lets dest sec n src src1 d0 r d1 q
  have h0 : d0.quietView = d.quietView := rfl
  have hr : r.1.quietView = d.quietView := by unfold r; split <;> simp [h0]
  have h1 : d1.quietView = d.quietView := by unfold d1; split <;> simp [hr]
  have hq : q.1.quietView = d.quietView := by unfold q; split <;> simp [h1]
  split
  · simp [h0]
  · split <;> simp [hq]

@[simp] theorem Dev.quietView_postcard (f : Frame) (x : Fate) : (d.postcard f x).quietView = d.quietView := by
  unfold Dev.postcard
  split_ifs <;> simp
  rfl

@[simp] theorem Dev.quietView_countDrop (f : Frame) (c : Option Copy) (r : Nat) : (d.countDrop f c r).quietView = d.quietView := by
  simp [Dev.countDrop]

@[simp] theorem Dev.quietView_onFrame (fid : Nat) (g : Frame → Frame) : (d.onFrame fid g).quietView = d.quietView := by
  unfold Dev.onFrame
  split <;> rfl

@[simp] theorem Dev.quietView_enqueue (fid : Nat) (f : Frame) (c : Copy) : (d.enqueue fid f c).quietView = d.quietView := by
  unfold Dev.enqueue
  extract_lets s g d1 d2 src d3 d4 d5
  have h2 : d2.quietView = d.quietView := by simp [d2, d1]
  have h3 : d3.quietView = d.quietView := ((Dev.quietView_headroom _ _ _).trans rfl).trans h2
  have h5 : d5.quietView = d.quietView := by unfold d5; split <;> simp [d4, h3]
  rw [Dev.quietView_onFrame, h5]

@[simp] theorem Dev.quietView_offer (fid : Nat) (c : Copy) : (d.offer fid c).1.quietView = d.quietView := by
  unfold Dev.offer
  split
  · rfl
  · split
    · simp
    · extract_lets d1 d2 d3
      have h2 : d2.quietView = d.quietView := by unfold d2; split <;> simp [d1]
      have h3 : d3.quietView = d.quietView := by simp [d3, h2]
      split <;> simp [h3]

@[simp] theorem Dev.quietView_mirrorDrop (fid reason egress : Nat) : (d.mirrorDrop fid reason egress).quietView = d.quietView := by
  refine foldl_view (fun e s => ?_) _ _
  split
  · simp only [Dev.mirror, Dev.quietView_offer]
    rw [Dev.quietView_bump _ (by simp)]
    rfl
  · rfl

/-! ### Frames that the module originates (R158, R499) -/

@[simp] theorem Dev.quietView_setPool (k : Nat) (p : Pool) : (d.setPool k p).quietView = d.quietView := by
  unfold Dev.setPool
  extract_lets src d1
  have h1 : d1.quietView = d.quietView := rfl
  unfold Dev.judgeExh
  extract_lets f
  split_ifs <;> simp [h1]

@[simp] theorem Dev.quietView_releaseBuf (k i : Nat) : (d.releaseBuf k i).quietView = d.quietView := by
  unfold Dev.releaseBuf
  extract_lets p
  split <;> simp

/-- A frame of the module's own asks for no pause when it is done with. -/
theorem Dev.quietView_settleFrame {fid : Nat} (h : ∀ f, d.frame? fid = some f → 256 ≤ f.lp) : (d.settleFrame fid).quietView = d.quietView := by
  unfold Dev.settleFrame
  split
  · rfl
  · next f hf =>
    extract_lets d1 src d2 src1 d3
    have h1 : d1.quietView = d.quietView := by unfold d1; split <;> simp
    have h2 : d2.quietView = d.quietView := by unfold d2; split; exacts [h1, h1]
    have h3 : d3.quietView = d2.quietView := by unfold d3; split <;> rfl
    rw [Dev.pfcJudge_of_no_port _ _ (h f hf)]
    split_ifs
    exacts [rfl, h3.trans h2, rfl]

@[simp] theorem Dev.quietView_originate (q : Nat) (b : List Byte) : (d.originate q b id).1.quietView = d.quietView := by
  unfold Dev.originate
  extract_lets body f r o
  have hoffer : o.1.rinkView = r.1.rinkView := r.1.rinkView_offer _ _
  have hview : o.1.quietView = d.quietView := (r.1.quietView_offer _ _).trans rfl
  split
  · exact hview
  · next x hx =>
    have hmirror := o.1.rinkView_mirrorDrop r.2 x (if q < 2304 then q / 9 else 0xFFFF)
    refine (Dev.quietView_settleFrame _ fun f' hf' => ?_).trans ((Dev.quietView_mirrorDrop _ _ _ _).trans hview)
    have hlp : r.1.rinkView.lps r.2 = some 256 := congrArg (Option.map Frame.lp) (d.frame_newFrame f)
    have hlp' : (o.1.mirrorDrop r.2 x (if q < 2304 then q / 9 else 0xFFFF)).rinkView.lps r.2 = some f'.lp := congrArg (Option.map Frame.lp) hf'
    rw [hmirror, hoffer, hlp] at hlp'
    exact (Option.some.inj hlp').le

/-! ### Messages of the fabric (R657, R669, R671) -/

@[simp] theorem Dev.quietView_trkSend (t typ : Nat) (pay : List Byte) : (d.trkSend t typ pay).quietView = d.quietView := by
  obtain ⟨o, x, y, h⟩ := d.streamed_trkSend t typ pay
  rw [h]
  rfl

@[simp] theorem Dev.quietView_crsPut (i : Nat) (m : List Byte) : (d.crsPut i m).quietView = d.quietView := by
  unfold Dev.crsPut
  extract_lets d1 b
  split <;> simp [d1]

@[simp] theorem Dev.quietView_crsSend (typ dst corr frag frags : Nat) (pay : List Byte) :
    (d.crsSend typ dst corr frag frags pay).quietView = d.quietView := by
  have hmake : (d.crsMake typ (if dst = 0xFFFF then 1 else 0) dst corr frag frags pay).1.quietView = d.quietView := by
    unfold Dev.crsMake
    split <;> rfl
  unfold Dev.crsSend
  split
  · next e m he =>
    rw [he] at hmake
    have hflood : (e.crsFlood none m).quietView = e.quietView := foldl_view (fun e i => e.quietView_crsPut i m) _ _
    split
    · exact hflood.trans hmake
    · split <;> simp [hmake]
  · next e he =>
    rw [he] at hmake
    exact hmake

/-- The answers that are sent leave them alone. -/
theorem Dev.quietView_fabAnswers : d.fabAnswers.quietView = d.quietView := by
  unfold Dev.fabAnswers
  split
  · rfl
  · refine (foldl_view (fun e x => ?_) _ _).trans rfl
    split
    · exact (foldl_view (fun e x => e.quietView_crsSend _ _ _ _ _ _) _ _).trans rfl
    · rfl

/-! ### IPFIX messages (R604) -/

@[simp] theorem Dev.quietView_ipfixSend (m : List Byte) : (d.ipfixSend m).quietView = d.quietView := by
  simp [Dev.ipfixSend]

@[simp] theorem Dev.quietView_ipfixTemplate : d.ipfixTemplate.quietView = d.quietView := by
  unfold Dev.ipfixTemplate
  split <;> simp

@[simp] theorem Dev.quietView_ipfixRecord (r : Rec) : (d.ipfixRecord r).quietView = d.quietView := by
  unfold Dev.ipfixRecord
  extract_lets fs body d1
  have h1 : d1.quietView = d.quietView := by simp [d1]
  exact h1

@[simp] theorem Dev.quietView_ipfixExport : d.ipfixExport.quietView = d.quietView :=
  (foldl_view Dev.quietView_ipfixRecord d.net.eodinRecs { d with net := { d.net with eodinRecs := [] } }).trans rfl

end Sys2Proof.Machine
end

section
/-! Proofs about checkpoints, tests of the spare core and the counter windows (R585, R586, R699, R700). -/

set_option Elab.async false

namespace Sys2Proof.Machine

variable {d : Dev}

/-! ### Time passing -/

theorem Dev.expire_of_quiet (h : d.pulses = []) : d.expire = d := by
  simp only [Dev.expire, h, List.filter_nil, List.foldl_nil]
  rw [← h]

/-- Where no LIVE bit stands for a second, time moves on alone. -/
theorem Dev.passOsc_of_quiet (h : d.pulses = []) (dt : Nat) :
    d.passOsc dt = { d with tk := (d.passOsc dt).tk } ∧ (d.passOsc dt).tk.osc = d.tk.osc + dt := by
  unfold Dev.passOsc
  extract_lets c t d1
  rw [Dev.expire_of_quiet]
  · exact ⟨rfl, rfl⟩
  · exact h

theorem Dev.advanceTo_of_quiet (h : d.pulses = []) (t : Nat) :
    d.advanceTo t = { d with tk := (d.advanceTo t).tk } ∧ (d.advanceTo t).tk.time = max d.tk.time t := by
  unfold Dev.advanceTo
  split
  · next hle => exact ⟨rfl, (max_eq_left hle).symm⟩
  · next hle =>
    extract_lets dt real osc d1
    rw [Dev.expire_of_quiet]
    · exact ⟨rfl, (max_eq_right (Nat.le_of_not_le hle)).symm⟩
    · exact h

/-! ### What changes -/

section Frame

variable {ps : List Part} {qs : List Nat}

theorem changes_trust (h : .trust ∈ ps) (t : TrustSt) : Changes ps qs d { d with trust := t } := by
  refine ⟨fun p hp => ?_, fun _ _ _ => rfl⟩
  cases p with
  | trust => exact absurd h hp
  | msix => exact ⟨rfl, rfl⟩
  | _ => rfl

theorem changes_tk (h : .tk ∈ ps) (t : TkSt) : Changes ps qs d { d with tk := t } := by
  refine ⟨fun p hp => ?_, fun _ _ _ => rfl⟩
  cases p with
  | tk => exact absurd h hp
  | msix => exact ⟨rfl, rfl⟩
  | _ => rfl

theorem changes_setCntSlot (h : .obs ∈ ps) (k : Nat) (x : CntSlot) : Changes ps qs d (d.setCntSlot k x) := by
  refine ⟨fun p hp => ?_, fun _ _ _ => rfl⟩
  cases p with
  | obs => exact absurd h hp
  | msix => exact ⟨rfl, rfl⟩
  | _ => rfl

theorem changes_took (h : .freeCtr ∈ ps) : Changes ps qs d d.took := by
  refine ⟨fun p hp => ?_, fun _ _ _ => rfl⟩
  cases p with
  | freeCtr => exact absurd h hp
  | msix => exact ⟨rfl, rfl⟩
  | _ => rfl

theorem changes_stick {p : Nat} (hp : p ∈ qs) (b : Nat) (hm : .msix ∈ ps) (ho : .out ∈ ps) : Changes ps qs d (d.stick p b) := by
  refine ⟨fun q hq => ?_, fun q hq _ => d.get_stick_ne b fun h => hq (h ▸ hp)⟩
  cases q with
  | msix => exact absurd hm hq
  | out => exact absurd ho hq
  | _ => simp [Part.same]

theorem changes_passOsc (h : .tk ∈ ps) (hp : d.pulses = []) (dt : Nat) : Changes ps qs d (d.passOsc dt) := by
  rw [(Dev.passOsc_of_quiet hp dt).1]
  exact changes_tk h _

end Frame

/-! ### A checkpoint, and a test of the spare core that begins (R699, R700) -/

theorem checkpoint_writes {s : State} (hup : s.dev.blockUp bkPATROL = true) (hgap : s.dev.bit GLB_STATE GLB_STATE_GAP = false)
    (hp : s.dev.pulses = []) : ∃ e, exec .checkpoint s = .next ⟨e, s.pending⟩ ∧ e.trust.ckptRegion = 1 - s.dev.trust.ckptRegion ∧
    e.trust.ckpts = s.dev.trust.ckpts + 1 ∧ e.trust.ckptAt = max s.dev.tk.osc (s.dev.trust.ckptAt + 100 * ms1) ∧ e.tk.osc = e.trust.ckptAt ∧
    Changes [.trust, .tk] [] s.dev e :=
  answers_run (f := fun d => d.inBlock bkPATROL (fun d => d.checkpointDue)) rfl (by
    obtain ⟨hpass, hosc⟩ := Dev.passOsc_of_quiet hp (s.dev.trust.ckptAt + 100 * ms1 - s.dev.tk.osc)
    rw [Dev.inBlock_up _ _ hup, Dev.checkpointDue, if_neg (by simp [hgap])]
    refine ⟨?_, ?_, ?_, ?_, changes_settle ?_⟩
    · rw [Dev.settle_trust, hpass]; rfl
    · rw [Dev.settle_trust, hpass]; rfl
    · rw [Dev.settle_trust]
      exact hosc.trans (by omega)
    · rw [Dev.settle_trust, Dev.settle_tk]; rfl
    · exact changes_trans (changes_passOsc (by decide) hp _) (changes_trust (by decide) _))

theorem spareSelfTest_begins {s : State} {t : Nat} (ht : s.dev.trust.testAt = some t) (hspare : s.dev.fld TRUST_PATROL TRUST_PATROL_SPARE < 2)
    (hp : s.dev.pulses = []) : ∃ e, exec .spareSelfTest s = .next ⟨e, s.pending⟩ ∧ e.fld TRUST_PATROL TRUST_PATROL_SPARE = 3 ∧
    e.tk.time = max s.dev.tk.time (t + s.dev.fld TRUST_CTRL TRUST_CTRL_TEST_PERIOD * 3600 * sec1) :=
  answers_run (f := fun d => d.spareTest) rfl (by
    simp only [Dev.spareTest, ht, if_pos hspare]
    refine ⟨?_, ?_⟩
    · exact (Dev.fld_settle _ _).trans (Dev.fld_setFld_same _ _ _ _)
    · rw [Dev.settle_tk, Dev.setFld_tk, (Dev.advanceTo_of_quiet hp _).2])

/-! ### The end of a test of the spare core (R699) -/

/-- The count of tests, SPARE and SPARE_LIVE as the end of a test leaves them. -/
def Dev.testEnded (d : Dev) (pass : Bool) : Dev :=
  let e := ((d.bump TRUST_SPARE_TESTS 1).setFld TRUST_PATROL TRUST_PATROL_SPARE (!pass).toNat).live TRUST_STATUS TRUST_STATUS_SPARE (!pass)
  if pass then e else e.stick TRUST_STATUS TRUST_STATUS_SPARE

theorem Dev.spareEnd_testing (pass : Bool) (h : d.fld TRUST_PATROL TRUST_PATROL_SPARE = 3) : d.spareEnd pass =
    { d.testEnded pass with trust := { (d.testEnded pass).trust with testAt := some (d.testEnded pass).tk.time } } := by
  rw [Dev.spareEnd, if_pos h]
  rfl

theorem Dev.get_testEnded {q : Nat} (h : q ≠ TRUST_STATUS) (pass : Bool) : (d.testEnded pass).get q =
    ((d.bump TRUST_SPARE_TESTS 1).setFld TRUST_PATROL TRUST_PATROL_SPARE (!pass).toNat).get q := by
  cases pass with
  | true => exact Dev.get_live_ne _ _ _ h
  | false => exact (Dev.get_stick_ne _ _ h).trans (Dev.get_live_ne _ _ _ h)

theorem Dev.spare_testEnded (pass : Bool) : (d.testEnded pass).fld TRUST_PATROL TRUST_PATROL_SPARE = if pass then 0 else 1 := by
  rw [Dev.fld_congr (Dev.get_testEnded (by decide) pass), Dev.fld_setFld_same _ TRUST_PATROL TRUST_PATROL_SPARE]
  cases pass <;> rfl

theorem Dev.spareLive_testEnded (pass : Bool) : (d.testEnded pass).bit TRUST_STATUS TRUST_STATUS_SPARE = !pass := by
  cases pass with
  | true => exact Dev.bit_live_same _ _ _ _
  | false => exact (Dev.bit_stick_other _ _ _ _).trans (Dev.bit_live_same _ _ _ _)

theorem Dev.tests_testEnded (pass : Bool) : (d.testEnded pass).num TRUST_SPARE_TESTS = min (d.num TRUST_SPARE_TESTS + 1) (2 ^ 96 - 1) := by
  rw [Dev.num_congr (Dev.get_testEnded (by decide) pass), Dev.num_congr (Dev.get_setFld_ne _ _ _ (by decide)), Dev.num_bump_same]

theorem Dev.time_testEnded (pass : Bool) : (d.testEnded pass).tk = d.tk := by
  cases pass with
  | true => rfl
  | false => exact Dev.stick_tk _ _ _

theorem changes_testEnded (pass : Bool) :
    Changes [.trust, .msix, .out] [TRUST_PATROL, TRUST_STATUS, TRUST_SPARE_TESTS] d (d.testEnded pass) := by
  have hshown : Changes [.trust, .msix, .out] [TRUST_PATROL, TRUST_STATUS, TRUST_SPARE_TESTS] d (((d.bump TRUST_SPARE_TESTS 1).setFld TRUST_PATROL
      TRUST_PATROL_SPARE (!pass).toNat).live TRUST_STATUS TRUST_STATUS_SPARE (!pass)) :=
    changes_trans (changes_trans (changes_put _ (by decide) _) (changes_put _ (by decide) _)) (changes_put _ (by decide) _)
  cases pass with
  | true => exact hshown
  | false => exact changes_trans hshown (changes_stick (by decide) _ (by decide) (by decide))

theorem spareTestEnd_ends {s : State} (x : Bool) (hup : s.dev.blockUp bkPATROL = true) (hspare : s.dev.fld TRUST_PATROL TRUST_PATROL_SPARE = 3) :
    ∃ e, exec (.spareTestEnd x) s = .next ⟨e, s.pending⟩ ∧ e.fld TRUST_PATROL TRUST_PATROL_SPARE = (if x then 0 else 1) ∧
    e.bit TRUST_STATUS TRUST_STATUS_SPARE = !x ∧ e.num (TRUST_SPARE_TESTS) = min (s.dev.num (TRUST_SPARE_TESTS) + 1) (2 ^ 96 - 1) ∧
    e.trust.testAt = some s.dev.tk.time ∧ Changes [.trust, .msix, .out] [TRUST_PATROL, TRUST_STATUS, TRUST_SPARE_TESTS] s.dev e :=
  answers_run (f := fun d => d.inBlock bkPATROL (fun d => d.spareEnd x)) rfl (by
    rw [Dev.inBlock_up _ _ hup, Dev.spareEnd_testing x hspare]
    refine ⟨(Dev.fld_settle _ _).trans (Dev.spare_testEnded x), (Dev.bit_settle _ _).trans (Dev.spareLive_testEnded x),
      (Dev.num_settle _).trans (Dev.tests_testEnded x), ?_, changes_settle (changes_trans (changes_testEnded x) (changes_trust (by decide) _))⟩
    rw [Dev.settle_trust, Dev.time_testEnded])

/-! ### The counter window (R585, R586) -/

/-- The register that takes the ID of slot `k`. -/
theorem cntwId_reg : ∀ k : SlotNo, (0x30000 + 0x40 * k.val) % 4 = 0 ∧ barOff 0 (0x30000 + 0x40 * k.val) = some (0x30000 + 0x40 * k.val) ∧
    isSplitLow (0x30000 + 0x40 * k.val) = false ∧ isSplitLow (0x30000 + 0x40 * k.val - 4) = false ∧
    isRingReg (0x30000 + 0x40 * k.val) = false ∧ isDmaReg (0x30000 + 0x40 * k.val) = false ∧ isCntw (0x30000 + 0x40 * k.val) = true := by
  decide

theorem Dev.barWrite_cntwId (hup : d.host.linkUp = true) (k : SlotNo) (v : Nat) :
    d.barWrite 0 0 (0x30000 + 0x40 * k.val) v true 0 = d.cntIdWrite k.val v := by
  obtain ⟨halign, hoff, hlow, hhigh, hring, hdma, hcntw⟩ := cntwId_reg k
  have hreg : (0x30000 + 0x40 * k.val) % 0x40 = 0 := by omega
  simp [Dev.barWrite, Dev.bar0Write, Dev.plainWrite, hup, halign, hoff, hlow, hhigh, hring, hdma, hcntw, hreg,
    show 0x30000 + 0x40 * k.val ≠ 0x30 by omega, show 0x30000 + 0x40 * k.val ≠ 0x2080 by omega]

theorem cntwIdWrite_begins {s : State} (k : SlotNo) (p : BitVec 32) (hup : s.dev.host.linkUp = true) :
    ∃ e, exec (.cntwIdWrite k p) s = .next ⟨e, s.pending⟩ ∧ (e.cntSlot k.val).id = p.toNat ∧ (e.cntSlot k.val).wait = true ∧
    (e.cntSlot k.val).done = false ∧ Changes [.obs] [] s.dev e :=
  answers_run (f := fun d => d.barWrite 0 0 (0x30000 + 0x40 * k.val) p.toNat true 0) rfl (by
    rw [Dev.barWrite_cntwId hup]
    have hslot : (s.dev.cntIdWrite k.val p.toNat).settle.cntSlot k.val = (s.dev.cntIdWrite k.val p.toNat).cntSlot k.val := by
      simp only [Dev.cntSlot, Dev.settle_obs]
    rw [hslot, Dev.cntIdWrite, Dev.cntSlot_setCntSlot_same]
    exact ⟨Nat.mod_eq_of_lt p.isLt, rfl, rfl, changes_settle (changes_setCntSlot (by decide) _ _)⟩)

theorem counterCaptureDone_shows {s : State} (k : SlotNo) (hwait : (s.dev.cntSlot k.val).wait = true)
    (hread : s.dev.readable (s.dev.cntSlot k.val).id = true) : ∃ e, exec (.counterCaptureDone k) s = .next ⟨e, s.pending⟩ ∧
    (e.cntSlot k.val).value = (s.dev.shown (s.dev.cntSlot k.val).id).toNat ∧ (e.cntSlot k.val).wait = false ∧ (e.cntSlot k.val).done = true ∧
    Changes [.obs, .freeCtr] [] s.dev e :=
  answers_run (f := fun d => d.captureDone k.val) rfl (by
    have hslot : (s.dev.captureDone k.val).settle.cntSlot k.val = (s.dev.captureDone k.val).cntSlot k.val := by
      simp only [Dev.cntSlot, Dev.settle_obs]
    rw [hslot, Dev.captureDone]
    simp only [hwait, hread, Bool.not_true, Bool.false_eq_true, if_true, if_false, Dev.cntSlot_setCntSlot_same, true_and]
    exact changes_settle (changes_trans (changes_took (by decide)) (changes_setCntSlot (by decide) _ _)))

end Sys2Proof.Machine
end

section
/-! Proofs about the Patrol cores: starts of Eodin, and the fail-over to the spare core (R683, R695, R701). -/

set_option Elab.async false

namespace Sys2Proof.Machine

variable {d : Dev}

/-- The items that a start of Eodin writes. -/
def startItems : List Nat := [TRUST_IMAGE, TRUST_STATUS, ID_EODIN_LEVEL, TRUST_BOOT, TRUST_KEEP_COMMITS]

section Items

variable {q : Nat}

theorem Dev.get_extend (h : q ≠ TRUST_STATUS) (kind event slot label : Nat) (dg : BitVec 384) :
    (d.extend kind event slot label dg).get q = d.get q := by
  unfold Dev.extend
  extract_lets a e
  split
  · rfl
  · exact Dev.get_liveEdge_ne _ _ _ h

theorem Dev.get_keepPut (hstatus : q ≠ TRUST_STATUS) (hcount : q ≠ TRUST_KEEP_COMMITS) (p v : Nat) : (d.keepPut p v).get q = d.get q :=
  (Dev.get_liveEdge_ne _ _ _ hstatus).trans (Dev.get_bump_ne _ _ hcount)

theorem Dev.get_bootCount (hstatus : q ≠ TRUST_STATUS) (hcount : q ≠ TRUST_KEEP_COMMITS) (hboot : q ≠ TRUST_BOOT) :
    d.bootCount.get q = d.get q := by
  unfold Dev.bootCount
  extract_lets b d1 d2
  have h1 : d1.get q = d.get q := Dev.get_putNum_ne _ _ hboot
  have h2 : d2.get q = d.get q := by
    unfold d2
    split
    · exact h1
    · exact (Dev.get_keepPut hstatus hcount _ _).trans h1
  exact h2

theorem Dev.get_dropStaging (h : q ≠ TRUST_IMAGE) : d.dropStaging.get q = d.get q := by
  unfold Dev.dropStaging
  extract_lets d1
  split
  · rfl
  · exact (Dev.get_setFld_ne _ _ _ h).trans (Dev.get_setFld_ne _ _ _ h)

theorem Dev.get_writePtr (h : q ≠ TRUST_IMAGE) (k : Nat) : (d.writePtr k).get q = d.get q :=
  (Dev.get_setFld_ne _ _ _ h).trans (Dev.get_setFld_ne _ _ _ h)

section Start

variable (h : q ∉ startItems)
include h

theorem Dev.get_runImage (k event : Nat) (i : Image) : (d.runImage k event i).get q = d.get q := by
  simp only [startItems, List.mem_cons, List.not_mem_nil, or_false, not_or] at h
  obtain ⟨himage, hstatus, hlevel, hboot, hcount⟩ := h
  unfold Dev.runImage
  extract_lets d1 d2 src
  have h1 : d1.get q = d.get q :=
    (Dev.get_bootCount hstatus hcount hboot).trans ((Dev.get_extend hstatus _ _ _ _ _).trans (Dev.get_setFld_ne _ _ _ himage))
  have h2 : d2.get q = d.get q := (Dev.get_setFld_ne _ _ _ hlevel).trans h1
  rw [Dev.get_startT]
  exact h2

theorem Dev.get_eodinStart (k event : Nat) : (d.eodinStart k event).get q = d.get q := by
  have hs := h
  simp only [startItems, List.mem_cons, List.not_mem_nil, or_false, not_or] at hs
  obtain ⟨himage, hstatus, hlevel, hboot, hcount⟩ := hs
  unfold Dev.eodinStart
  extract_lets d0 att src d1
  have h1 : d1.get q = d.get q := by
    unfold d1
    split
    · exact (Dev.get_live_ne _ _ _ hstatus).trans (Dev.get_dropStaging himage)
    · exact Dev.get_dropStaging himage
  split
  · next i _ =>
    extract_lets e
    have he : e.get q = d.get q := (Dev.get_runImage h _ _ _).trans h1
    split
    · exact he
    · exact (Dev.get_live_ne _ _ _ hstatus).trans ((Dev.get_setFld_ne _ _ _ himage).trans he)
  · next i _ _ =>
    rw [Dev.get_runImage h, Dev.get_stick_ne _ _ hstatus, Dev.get_live_ne _ _ _ hstatus, Dev.get_writePtr himage, Dev.get_setFld_ne _ _ _ himage, h1]
  · rw [Dev.get_alertN]
    exact h1

end Start

end Items

theorem Dev.keepPut_trust (p v : Nat) : (d.keepPut p v).trust =
    { d.trust with keep := Tbl.set d.trust.keep none p (some ⟨d.keepSeq p + 1, twSec d.tk.time, v⟩) } :=
  Dev.liveEdge_trust _ _ _ _

theorem Dev.fails_bootCount : d.bootCount.trust.fails = d.trust.fails := by
  unfold Dev.bootCount
  extract_lets b d1 d2
  have h2 : d2.trust.fails = d.trust.fails := by
    unfold d2
    split
    · rfl
    · rw [Dev.keepPut_trust]
      rfl
  exact h2

theorem Dev.extend_trust (kind event slot label : Nat) (dg : BitVec 384) : (d.extend kind event slot label dg).trust = d.trust := by
  unfold Dev.extend
  extract_lets a e
  split
  · rfl
  · exact Dev.liveEdge_trust _ _ _ _

theorem Dev.fails_runImage (k event : Nat) (i : Image) : (d.runImage k event i).trust.fails = d.trust.fails := by
  unfold Dev.runImage
  extract_lets d1 d2 src
  have h1 : d1.trust.fails = d.trust.fails := Dev.fails_bootCount.trans (by rw [Dev.extend_trust]; rfl)
  exact h1

theorem Dev.runBank_runImage (k event : Nat) (i : Image) : (d.runImage k event i).runBank = k % 2 := by
  unfold Dev.runImage
  extract_lets d1 d2 src
  have h1 : d1.get TRUST_IMAGE = (d.setFld TRUST_IMAGE TRUST_IMAGE_RUN_BANK k).get TRUST_IMAGE :=
    (Dev.get_bootCount (by decide) (by decide) (by decide)).trans (Dev.get_extend (by decide) _ _ _ _ _)
  have h2 : d2.get TRUST_IMAGE = d1.get TRUST_IMAGE := Dev.get_setFld_ne _ _ _ (by decide)
  rw [Dev.runBank, Dev.fld_congr (Dev.get_startT _ _ _ _)]
  exact (Dev.fld_congr (h2.trans h1) _).trans (Dev.fld_setFld_same _ _ _ _)

/-- A start in the running bank, which holds an image, stays there and leaves the count of failures alone. -/
theorem Dev.eodinStart_running (event : Nat) (h : (d.flash d.runBank).isSome = true) :
    (d.eodinStart d.runBank event).runBank = d.runBank ∧ (d.eodinStart d.runBank event).trust.fails = d.trust.fails := by
  obtain ⟨i, hi⟩ := Option.isSome_iff_exists.1 h
  unfold Dev.eodinStart
  extract_lets d0 att src d1
  have h1 : d1.trust.fails = d.trust.fails := by
    have h0 : d0.trust.fails = d.trust.fails := by
      unfold d0 Dev.dropStaging
      extract_lets d1
      split <;> rfl
    unfold d1
    split <;> exact h0
  simp only [hi, if_true]
  exact ⟨(Dev.runBank_runImage _ _ _).trans (Nat.mod_eq_of_lt (bitsAt_lt _ _ _)), (Dev.fails_runImage _ _ _).trans h1⟩

/-! ### A start that does not complete (R695) -/

/-- The module at the deadline of a start that has not completed, its failure counted. -/
def Dev.startFailed (d : Dev) : Dev :=
  { d.dueT tReady with trust := { d.trust with fails := d.trust.fails + 1 } }

theorem Dev.params_dueT_of_quiet (hp : d.pulses = []) (key : Nat) : (d.dueT key).params = d.params ∧ (d.dueT key).trust = d.trust := by
  unfold Dev.dueT
  split
  · next t _ =>
    rw [(Dev.passOsc_of_quiet hp _).1]
    exact ⟨rfl, rfl⟩
  · exact ⟨rfl, rfl⟩

theorem Dev.runBank_startFailed (hp : d.pulses = []) : d.startFailed.runBank = d.runBank :=
  Dev.fld_congr (Dev.get_congr (Dev.params_dueT_of_quiet hp tReady).1 _) _

/-- One of the first two failures in a row begins the image again. -/
theorem Dev.readyTimeout_first (hp : d.pulses = []) (hrun : d.runsT tReady = true) (hfails : d.trust.fails < 2) :
    d.readyTimeout = d.startFailed.eodinStart d.startFailed.runBank 1 := by
  have htrust := (Dev.params_dueT_of_quiet hp tReady).2
  have hfew : ¬ 3 ≤ d.trust.fails + 1 := by omega
  simp only [Dev.readyTimeout, hrun, htrust, hfew, decide_false, Bool.false_and, Bool.false_eq_true, if_true, if_false]
  rfl

theorem readyTimeout_again {s : State} (hrun : s.dev.runsT tReady = true) (hfails : s.dev.trust.fails < 2) (hp : s.dev.pulses = [])
    (himage : (s.dev.flash s.dev.runBank).isSome = true) : ∃ e, exec .readyTimeout s = .next ⟨e, s.pending⟩ ∧
    e.trust.fails = s.dev.trust.fails + 1 ∧ e.runBank = s.dev.runBank :=
  answers_run (f := fun d => d.readyTimeout) rfl (by
    have hbank := Dev.runBank_startFailed hp
    have himage' : (s.dev.startFailed.flash s.dev.startFailed.runBank).isSome = true := by rw [hbank]; exact himage
    obtain ⟨hrunBank, hfails'⟩ := Dev.eodinStart_running 1 himage'
    rw [Dev.readyTimeout_first hp hrun hfails, Dev.settle_trust, hfails']
    exact ⟨rfl, (Dev.fld_settle _ _).trans (hrunBank.trans hbank)⟩)

/-! ### Fail-over (R701) -/

theorem Dev.get_markGap (q : Nat) : d.markGap.get q = d.get q :=
  foldl_view (v := fun e => e.get q) (fun _ _ => Dev.get_setRing _ _ _ _) _ _

/-- The module with core `k` fenced after a core check and management down. -/
def Dev.coreDown (d : Dev) (k : Nat) : Dev :=
  ((((d.setFld TRUST_PATROL TRUST_PATROL_FENCED (d.fld TRUST_PATROL TRUST_PATROL_FENCED ||| 2 ^ k)).markGap.gapBegin).setFld TRUST_PATROL
    TRUST_PATROL_LAST_CAUSE 2).stick GLB_STATE GLB_STATE_GAP)

/-- The same with what the core had begun abandoned. -/
def Dev.fenced (d : Dev) (k : Nat) : Dev :=
  let e := (d.coreDown k).dropStaging
  ({ e with trust := { e.trust with activate := none, booting := false, failing := false } }).stopT tReady

/-- The spare core taking over from it. -/
def Dev.replaced (d : Dev) (k : Nat) : Dev :=
  let e := ((d.fenced k).bump TRUST_FAILOVERS 1).setFld TRUST_PATROL TRUST_PATROL_SPARE 2
  ({ e with trust := { e.trust with failing := true } }).eodinStart d.runBank 3

section FailOver

variable {k : Nat} (hgap : d.bit GLB_STATE GLB_STATE_GAP = false) (hk : k ≠ 4) (hact : bitsAt (d.fld TRUST_PATROL TRUST_PATROL_FENCED) k 1 = 0)
    (hlive : d.bit TRUST_STATUS TRUST_STATUS_SPARE = false) (hspare : d.fld TRUST_PATROL TRUST_PATROL_SPARE ≠ 2)
include hgap hk hact hlive hspare

theorem Dev.failOver_replaced : d.failOver 2 k = d.replaced k := by
  have hfailure : d.failure 2 k = true := by simp [Dev.failure, hgap, hact, hk]
  simp only [Dev.failOver, hfailure, hlive, bne_iff_ne.2 hspare]
  rfl

end FailOver

theorem Dev.get_gapBegin {q : Nat} (hstate : q ≠ GLB_STATE) (hbeat : q ≠ HB_US) : d.gapBegin.get q = d.get q :=
  (Dev.get_stopTimer_ne _ hbeat).trans ((Dev.get_setFld_ne _ _ _ hstate).trans (Dev.get_liveEdge_ne _ _ _ hstate))

theorem Dev.gap_gapBegin : d.gapBegin.bit GLB_STATE GLB_STATE_GAP = true :=
  (Dev.bit_congr (Dev.get_stopTimer_ne _ (by decide)) _).trans ((Dev.bit_setFld_other _ _ _ _ _).trans (Dev.bit_liveEdge_same _ _ _ _))

theorem Dev.ready_gapBegin : d.gapBegin.fld GLB_STATE GLB_STATE_READY = 0 :=
  (Dev.fld_congr (Dev.get_stopTimer_ne _ (by decide)) _).trans (Dev.fld_setFld_same _ _ _ _)

theorem Dev.get_withTrust (t : TrustSt) (q : Nat) : ({ d with trust := t } : Dev).get q = d.get q := rfl

theorem Dev.get_fenced {q : Nat} (himage : q ≠ TRUST_IMAGE) (k : Nat) : (d.fenced k).get q = (d.coreDown k).get q := by
  rw [Dev.fenced, Dev.get_stopT, Dev.get_withTrust, Dev.get_dropStaging himage]

theorem Dev.get_replaced {q : Nat} (h : q ∉ startItems) (k : Nat) : (d.replaced k).get q =
    (((d.fenced k).bump TRUST_FAILOVERS 1).setFld TRUST_PATROL TRUST_PATROL_SPARE 2).get q := by
  rw [Dev.replaced, Dev.get_eodinStart h, Dev.get_withTrust]

/-- An item that neither counts fail-overs nor shows the cores is as the fence has left it. -/
theorem Dev.get_replaced_of_coreDown {q : Nat} (h : q ∉ startItems) (hcount : q ≠ TRUST_FAILOVERS) (hpatrol : q ≠ TRUST_PATROL) (k : Nat) :
    (d.replaced k).get q = (d.coreDown k).get q := by
  rw [Dev.get_replaced h, Dev.get_setFld_ne _ _ _ hpatrol, Dev.get_bump_ne _ _ hcount, Dev.get_fenced]
  rintro rfl
  exact h (by decide)

theorem Dev.gap_replaced (k : Nat) : (d.replaced k).bit GLB_STATE GLB_STATE_GAP = true := by
  rw [Dev.bit_congr (Dev.get_replaced_of_coreDown (by decide) (by decide) (by decide) k), Dev.coreDown,
    Dev.bit_stick_other _ GLB_STATE GLB_STATE_GAP GLB_STATE_GAP, Dev.bit_congr (Dev.get_setFld_ne _ _ _ (by decide)), Dev.gap_gapBegin]

theorem Dev.ready_replaced (k : Nat) : (d.replaced k).fld GLB_STATE GLB_STATE_READY = 0 := by
  rw [Dev.fld_congr (Dev.get_replaced_of_coreDown (by decide) (by decide) (by decide) k), Dev.coreDown,
    Dev.fld_stick_other _ GLB_STATE GLB_STATE_GAP GLB_STATE_READY, Dev.fld_congr (Dev.get_setFld_ne _ _ _ (by decide)), Dev.ready_gapBegin]

theorem Dev.spare_replaced (k : Nat) : (d.replaced k).fld TRUST_PATROL TRUST_PATROL_SPARE = 2 :=
  (Dev.fld_congr (Dev.get_replaced (by decide) k) _).trans (Dev.fld_setFld_same _ _ _ _)

theorem Dev.fencedBits_replaced (k : Nat) : (d.replaced k).fld TRUST_PATROL TRUST_PATROL_FENCED =
    (d.fld TRUST_PATROL TRUST_PATROL_FENCED ||| 2 ^ k) % 2 ^ 5 := by
  rw [Dev.fld_congr (Dev.get_replaced (by decide) k), Dev.fld_setFld_other _ TRUST_PATROL TRUST_PATROL_SPARE TRUST_PATROL_FENCED,
    Dev.fld_congr (Dev.get_bump_ne _ _ (by decide)), Dev.fld_congr (Dev.get_fenced (by decide) k), Dev.coreDown,
    Dev.fld_congr (Dev.get_stick_ne _ _ (by decide)), Dev.fld_setFld_other _ TRUST_PATROL TRUST_PATROL_LAST_CAUSE TRUST_PATROL_FENCED,
    Dev.fld_congr (Dev.get_gapBegin (by decide) (by decide)), Dev.fld_congr (Dev.get_markGap _),
    Dev.fld_setFld_same _ TRUST_PATROL TRUST_PATROL_FENCED]

theorem Dev.failovers_replaced (k : Nat) : (d.replaced k).num TRUST_FAILOVERS = min (d.num TRUST_FAILOVERS + 1) (2 ^ 96 - 1) := by
  rw [Dev.num_congr (Dev.get_replaced (by decide) k), Dev.num_congr (Dev.get_setFld_ne _ _ _ (by decide)), Dev.num_bump_same,
    Dev.num_congr (Dev.get_fenced (by decide) k), Dev.coreDown, Dev.num_congr (Dev.get_stick_ne _ _ (by decide)),
    Dev.num_congr (Dev.get_setFld_ne _ _ _ (by decide)), Dev.num_congr (Dev.get_gapBegin (by decide) (by decide)),
    Dev.num_congr (Dev.get_markGap _), Dev.num_congr (Dev.get_setFld_ne _ _ _ (by decide))]

/-- A core numbered below 5 is fenced once its bit has been added. -/
theorem fenced_bit : ∀ (x : Fin 32) (k : Fin 5), bitsAt ((x.val ||| 2 ^ k.val) % 2 ^ 5) k.val 1 = 1 := by decide

theorem failOver_replaces {s : State} (k : Fin 5) (hup : s.dev.blockUp bkPATROL = true) (hgap : s.dev.bit GLB_STATE GLB_STATE_GAP = false)
    (hk : k.val ≠ 4) (hact : bitsAt (s.dev.fld TRUST_PATROL TRUST_PATROL_FENCED) k.val 1 = 0)
    (hlive : s.dev.bit TRUST_STATUS TRUST_STATUS_SPARE = false) (hspare : s.dev.fld TRUST_PATROL TRUST_PATROL_SPARE ≠ 2) :
    ∃ e, exec (.failOver (some k)) s = .next ⟨e, s.pending⟩ ∧
    e.num (TRUST_FAILOVERS) = min (s.dev.num (TRUST_FAILOVERS) + 1) (2 ^ 96 - 1) ∧ e.fld TRUST_PATROL TRUST_PATROL_SPARE = 2 ∧
    bitsAt (e.fld TRUST_PATROL TRUST_PATROL_FENCED) k.val 1 = 1 ∧ e.bit GLB_STATE GLB_STATE_GAP = true ∧ e.fld GLB_STATE GLB_STATE_READY = 0 :=
  answers_runNet (f := fun d => d.inBlock bkPATROL (fun d => d.failOver 2 k.val)) rfl (by
    have hcheck : (s.dev.replaced k.val).crsCheck = s.dev.replaced k.val := if_pos (Dev.gap_replaced _)
    rw [Dev.inBlock_up _ _ hup, Dev.failOver_replaced hgap hk hact hlive hspare, hcheck]
    refine ⟨(Dev.num_settle _).trans (Dev.failovers_replaced _), (Dev.fld_settle _ _).trans (Dev.spare_replaced _), ?_,
      (Dev.bit_settle _ _).trans (Dev.gap_replaced _), (Dev.fld_settle _ _).trans (Dev.ready_replaced _)⟩
    rw [Dev.fld_settle, Dev.fencedBits_replaced]
    exact fenced_bit ⟨_, bitsAt_lt _ _ _⟩ k)

end Sys2Proof.Machine
end

section
/-! Proofs about the Keep store, and the statement on it, the Patrol cores and the counter windows (R604, R688, R689). -/

set_option Elab.async false

namespace Sys2Proof.Machine

variable {d : Dev}

/-- What a row of an item table says of its items: they are of the engine, of the chassis, or one of the fabric's two Keep items. -/
def quietRow (c : Nat) (i : ItemDef) : Bool := [0x05, 0x1A].contains c || (c == 0x18 && [2, 3].contains i.n0 && i.n1 == i.n0)

theorem itemsOf_add (k : Nat) : itemsOf (k + 0x1C) = [] := rfl

theorem quietRow_of_keep : ∀ c ∈ List.range 0x1C, (itemsOf c).all (fun i => i.kind != .keep || quietRow c i) = true := by decide +kernel

theorem polItems_keep : polItems.all (fun i => i.kind != .keep) = true := by decide

/-- The Keep items of the tables are none of those that a message counts in. -/
theorem quietItem_of_keep_row {p : Nat} {i : ItemDef} (hdef : itemDef p = some i) (hkeep : i.kind = .keep) : quietItem p = true := by
  unfold itemDef at hdef
  extract_lets c inst n at hdef
  split at hdef
  · split at hdef
    · have := List.all_eq_true.1 polItems_keep i (List.mem_of_find?_eq_some hdef)
      simp [hkeep] at this
    · simp at hdef
  · have hmem := List.mem_of_find?_eq_some hdef
    have hin := List.find?_some hdef
    have hc : c < 0x1C := by
      by_contra hge
      obtain ⟨k, hk⟩ := Nat.exists_eq_add_of_le (Nat.le_of_not_lt hge)
      rw [hk, Nat.add_comm, itemsOf_add] at hmem
      simp at hmem
    have hrow := List.all_eq_true.1 (quietRow_of_keep c (List.mem_range.2 hc)) i hmem
    simp only [hkeep, bne_self_eq_false, Bool.false_or, quietRow, Bool.or_eq_true, Bool.and_eq_true, beq_iff_eq, List.contains_iff_mem,
      List.mem_cons, List.not_mem_nil, or_false] at hrow
    simp only [decide_eq_true_eq] at hin
    simp only [quietItem, idClass, idItem, Bool.or_eq_true, Bool.and_eq_true, beq_iff_eq, List.contains_iff_mem, List.mem_cons,
      List.not_mem_nil, or_false]
    omega

theorem quietItem_of_keepItem {p : Nat} (hkeep : keepItem p = true) (hkey : [0, 1, 2, 3].any (fun k => p == CRS_KEY_INFO k) = false) :
    quietItem p = true := by
  rw [keepItem, hkey, Bool.or_false, Bool.or_eq_true] at hkeep
  obtain hrow | hboot := hkeep
  · split at hrow
    · next i hdef => exact quietItem_of_keep_row hdef (by simpa using hrow)
    · simp at hrow
  · rw [beq_iff_eq.1 hboot]
    decide

theorem not_followItem_of_quietItem {q : Nat} (hq : quietItem q = true) : q ∉ followItems := by
  intro h
  have hall : ∀ x ∈ followItems, quietItem x = false := by decide
  rw [hall q h] at hq
  exact Bool.false_ne_true hq

theorem keepItem_small : ∀ q ∈ List.range 4, keepItem q = false := by decide +kernel
theorem keepItem_commits : keepItem TRUST_KEEP_COMMITS = false := by decide +kernel

theorem ne_of_keepItem {p q : Nat} (hp : keepItem p = true) (hq : keepItem q = false) : p ≠ q := by
  rintro rfl
  rw [hq] at hp
  exact Bool.false_ne_true hp

/-- The one commit left, which nothing waits for, written and in force. -/
def Dev.kept (d : Dev) (p v : Nat) : Dev := (({ d with trust := { d.trust with commits := [] } }).keepPut p v).putNum p v

theorem Dev.keepDone_last {c : Commit} {p : Nat} (hall : d.trust.commits = [c]) (hitem : c.item = p) (howner : c.owner = none)
    (hact : d.trust.activate = none) (hkey : [0, 1, 2, 3].any (fun k => p == CRS_KEY_INFO k) = false) : d.keepDone p = d.kept p c.value := by
  have hfind : d.trust.commits.find? (fun c => c.item == p) = some c := by simp [hall, hitem]
  have hrest : d.trust.commits.erase c = [] := by simp [hall]
  have hslot : [0, 1, 2, 3].find? (fun k => p == CRS_KEY_INFO k) = none := by
    rw [List.find?_eq_none]
    exact List.any_eq_false.1 hkey
  have hkeptAct : (d.kept p c.value).trust.activate = none := by
    rw [Dev.kept, Dev.putNum_trust, Dev.keepPut_trust]
    exact hact
  simp only [Dev.keepDone, hfind, hrest, howner, Dev.keepApply, hslot]
  rw [Dev.activateReady, ← Dev.kept, hkeptAct]

theorem keepCommitDone_keeps {s : State} (p : BitVec 32) {c : Commit} (hall : s.dev.trust.commits = [c]) (hitem : c.item = p.toNat)
    (howner : c.owner = none) (hact : s.dev.trust.activate = none) (hkeep : keepItem p.toNat = true)
    (hkey : [0, 1, 2, 3].any (fun k => p.toNat == CRS_KEY_INFO k) = false) :
    ∃ e, exec (.keepCommitDone p) s = .next ⟨e, s.pending⟩ ∧ e.num p.toNat = c.value % 2 ^ 48 ∧
    e.keepSeq p.toNat = s.dev.keepSeq p.toNat + 1 ∧ e.trust.commits = [] ∧
    e.num (TRUST_KEEP_COMMITS) = min (s.dev.num (TRUST_KEEP_COMMITS) + 1) (2 ^ 96 - 1) :=
  answers_run (f := fun d => (if p.toNat < 4 then d.copyCommit p.toNat else d.keepDone p.toNat).fabAnswers) rfl (by
    have hlarge : ¬ p.toNat < 4 := fun h => ne_of_keepItem hkeep (keepItem_small _ (List.mem_range.2 h)) rfl
    have hquiet := quietItem_of_keepItem hkeep hkey
    rw [if_neg hlarge, Dev.keepDone_last hall hitem howner hact hkey]
    have hview := (s.dev.kept p.toNat c.value).quietView_fabAnswers
    have htrust : (s.dev.kept p.toNat c.value).fabAnswers.settle.trust =
        { s.dev.trust with
          commits := []
          keep := Tbl.set s.dev.trust.keep none p.toNat (some ⟨s.dev.keepSeq p.toNat + 1, twSec s.dev.tk.time, c.value⟩) } := by
      rw [Dev.settle_trust, show (s.dev.kept p.toNat c.value).fabAnswers.trust = _ from congrArg QuietView.trust hview]
      exact Dev.keepPut_trust _ _
    refine ⟨?_, ?_, ?_, ?_⟩
    · rw [Dev.num_settle _ (not_followItem_of_quietItem hquiet), Dev.num_congr (Dev.get_of_quietView hview hquiet), Dev.kept, Dev.num_putNum_same]
    · rw [Dev.keepSeq, Dev.keepRec, htrust]
      simp
    · rw [htrust]
    · rw [Dev.num_settle, Dev.num_congr (Dev.get_of_quietView hview (by decide)), Dev.kept,
        Dev.num_congr (Dev.get_putNum_ne _ _ (ne_of_keepItem hkeep keepItem_commits).symm), Dev.keepPut]
      exact (Dev.num_congr (Dev.get_liveEdge_ne _ _ _ (by decide))).trans (Dev.num_bump_same _ _ _))

/-! ### Templates of IPFIX (R604) -/

theorem Dev.refresh_startT (n : Nat) : (d.startT tIpfix n).quietView.refresh = some (d.tk.osc + n) := by
  simp [Dev.quietView, Dev.startT]

theorem ipfixTemplateRefresh_again {s : State} {t : Nat} (ht : Tbl.get s.dev.net.timers none tIpfix = some t) (hp : s.dev.pulses = []) :
    ∃ e, exec .ipfixTemplateRefresh s = .next ⟨e, s.pending⟩ ∧
    Tbl.get e.net.timers none tIpfix = some (max s.dev.tk.osc t + bitsAt (s.dev.num CNT_IPFIX_CTRL) 16 16 * sec1) :=
  answers_run (f := fun d => d.ipfixRefresh) rfl (by
    have hrun : s.dev.runsT tIpfix = true := by rw [Dev.runsT, ht]; rfl
    have hosc : (s.dev.dueT tIpfix).tk.osc = max s.dev.tk.osc t := by
      rw [Dev.dueT, ht]
      exact (Dev.passOsc_of_quiet hp _).2.trans (by omega)
    rw [Dev.settle_net, Dev.ipfixRefresh, if_pos hrun]
    refine (congrArg QuietView.refresh ((Dev.quietView_ipfixExport _).trans (Dev.quietView_ipfixTemplate _))).trans ?_
    rw [Dev.refresh_startT, hosc])

/-- Settles O40, clause by clause: what is sent leaves the store and the timer alone, and management that is down follows no link. -/
theorem storeAndPatrol : Obligations.StoreAndPatrol := fun _ =>
  ⟨fun p _ => keepCommitDone_keeps p, checkpoint_writes, fun _ => spareSelfTest_begins, spareTestEnd_ends, failOver_replaces,
    readyTimeout_again, cntwIdWrite_begins, counterCaptureDone_shows, fun _ => ipfixTemplateRefresh_again⟩

end Sys2Proof.Machine
end
